-- ==== Sys2Proof/Word.lean ====
section
/-! DEFINITION. Word.lean: the machine's words and the fixed-size register file they are held in
(spec/00_scope.md R20, R22: bit 0 is the least significant bit; spec/10_state.md R51). -/

namespace Sys2Proof

/-- A 64-bit register or doubleword. -/
abbrev Word := BitVec 64

/-- A 32-bit word: an instruction, or one single-precision register. -/
abbrev Word32 := BitVec 32

/-- One byte. -/
abbrev Byte := BitVec 8

/-- A register number as an instruction names it (spec/30_encoding.md R623). -/
abbrev Reg := BitVec 5

/-- A physical address, 40 bits (spec/20_memory.md R500). -/
abbrev PAddr := BitVec 40

/-- A register file of `2 ^ n` entries, indexed by an `n`-bit number. -/
abbrev File (n : Nat) (α : Type) := Vector α (2 ^ n)

/-- Entry `i` of a register file. -/
def fileGet {n : Nat} {α : Type} (f : File n α) (i : BitVec n) : α := f[i.toNat]'i.isLt

/-- The register file with entry `i` replaced. -/
def fileSet {n : Nat} {α : Type} (f : File n α) (i : BitVec n) (x : α) : File n α :=
  f.set i.toNat x i.isLt

/-- The register file whose entries are all `x`. -/
def fileOf (n : Nat) {α : Type} (x : α) : File n α := Vector.replicate (2 ^ n) x

end Sys2Proof
end

