-- ==== Sys2Proof/Syntax.lean ====
section
/-! DEFINITION. Syntax.lean: the instructions of spec/opcode_table.json, one constructor for each row, with the operands
that spec/30_encoding.md gives the row. The six rows that are one opcode with a class of ASIs (LDTXA, LDBLOCKF, STBLOCKF,
STPARTIALF, LDSHORTF, STSHORTF) hold the form whose ASI is in the instruction word; the form that takes its ASI from the
ASI register is LDTWA, LDDFA or STDFA, which looks at the register when it runs. -/

namespace Sys2Proof

/-- The second operand of most instructions: a register or a 13-bit signed immediate (R622). -/
inductive RegImm where
  | reg (rs2 : Reg)
  | imm (simm13 : BitVec 13)
  deriving DecidableEq, Repr

/-- The second operand of MOVcc: a register or an 11-bit signed immediate (R665). -/
inductive RegImm11 where
  | reg (rs2 : Reg)
  | imm (simm11 : BitVec 11)
  deriving DecidableEq, Repr

/-- The second operand of MOVr: a register or a 10-bit signed immediate (R667). -/
inductive RegImm10 where
  | reg (rs2 : Reg)
  | imm (simm10 : BitVec 10)
  deriving DecidableEq, Repr

/-- The second operand of Tcc: a register or an 8-bit software trap number (R666). -/
inductive TrapNum where
  | reg (rs2 : Reg)
  | imm (swTrap : BitVec 8)
  deriving DecidableEq, Repr

/-- The count of a 32-bit shift: a register or five bits (R632). -/
inductive Shift32 where
  | reg (rs2 : Reg)
  | imm (shcnt : BitVec 5)
  deriving DecidableEq, Repr

/-- The count of a 64-bit shift: a register or six bits (R632). -/
inductive Shift64 where
  | reg (rs2 : Reg)
  | imm (shcnt : BitVec 6)
  deriving DecidableEq, Repr

/-- Where a load or store alternate takes its ASI and its second address operand: the ASI of the word with `rs2`, or the
ASI register with `simm13` (R635, spec/42_load_store.md R872). -/
inductive AltAddr where
  | immAsi (asi : BitVec 8) (rs2 : Reg)
  | asiReg (simm13 : BitVec 13)
  deriving DecidableEq, Repr

/-- Where CASA and CASXA take their ASI (R635): the word, or the ASI register. -/
inductive CasAsi where
  | immAsi (asi : BitVec 8)
  | asiReg
  deriving DecidableEq, Repr

/-- Integer condition codes, R627. -/
inductive ICond where
  | n | e | le | l | leu | cs | neg | vs | a | ne | g | ge | gu | cc | pos | vc
  deriving DecidableEq, Repr

/-- Floating-point condition codes, R628. -/
inductive FCond where
  | n | ne | lg | ul | l | ug | g | u | a | e | ue | ge | uge | le | ule | o
  deriving DecidableEq, Repr

/-- Register conditions, R629. -/
inductive RCond where
  | z | lez | lz | nz | gz | gez
  deriving DecidableEq, Repr

/-- The integer condition-code field a branch or trap looks at (R626, R666). -/
inductive ICC where
  | icc | xcc
  deriving DecidableEq, Repr

/-- The condition of MOVcc and FMOVcc: on icc or xcc, or on one of fcc0 to fcc3 (R665, R671). -/
inductive CondSel where
  | int (cc : ICC) (cond : ICond)
  | fp (fcc : BitVec 2) (cond : FCond)
  deriving DecidableEq, Repr

/-- The instructions of spec/opcode_table.json. -/
inductive Instr where
  /-- CALL, R810. -/
  | call (disp30 : BitVec 30)
  /-- ILLTRAP, R816. -/
  | illtrap (rd : Reg) (const22 : BitVec 22)
  /-- BPcc, R806. -/
  | bpcc (annul : Bool) (cond : ICond) (cc : ICC) (p : Bool) (disp19 : BitVec 19)
  /-- Bicc, R805. -/
  | bicc (annul : Bool) (cond : ICond) (disp22 : BitVec 22)
  /-- BPr, R807. -/
  | bpr (annul : Bool) (rcond : RCond) (p : Bool) (rs1 : Reg) (disp16 : BitVec 16)
  /-- NOP, R733. -/
  | nop
  /-- SETHI, R732. -/
  | sethi (rd : Reg) (imm22 : BitVec 22)
  /-- FBPfcc, R809. -/
  | fbpfcc (annul : Bool) (cond : FCond) (fcc : BitVec 2) (p : Bool) (disp19 : BitVec 19)
  /-- FBfcc, R808. -/
  | fbfcc (annul : Bool) (cond : FCond) (disp22 : BitVec 22)
  /-- ADD, R702. -/
  | add (rd rs1 : Reg) (op2 : RegImm)
  /-- AND, R710. -/
  | andI (rd rs1 : Reg) (op2 : RegImm)
  /-- OR, R714. -/
  | orI (rd rs1 : Reg) (op2 : RegImm)
  /-- XOR, R718. -/
  | xorI (rd rs1 : Reg) (op2 : RegImm)
  /-- SUB, R706. -/
  | sub (rd rs1 : Reg) (op2 : RegImm)
  /-- ANDN, R712. -/
  | andn (rd rs1 : Reg) (op2 : RegImm)
  /-- ORN, R716. -/
  | orn (rd rs1 : Reg) (op2 : RegImm)
  /-- XNOR, R720. -/
  | xnor (rd rs1 : Reg) (op2 : RegImm)
  /-- ADDC, R704. -/
  | addc (rd rs1 : Reg) (op2 : RegImm)
  /-- MULX, R741. -/
  | mulx (rd rs1 : Reg) (op2 : RegImm)
  /-- UMUL, R742. -/
  | umul (rd rs1 : Reg) (op2 : RegImm)
  /-- SMUL, R744. -/
  | smul (rd rs1 : Reg) (op2 : RegImm)
  /-- SUBC, R708. -/
  | subc (rd rs1 : Reg) (op2 : RegImm)
  /-- UDIVX, R747. -/
  | udivx (rd rs1 : Reg) (op2 : RegImm)
  /-- UDIV, R749. -/
  | udiv (rd rs1 : Reg) (op2 : RegImm)
  /-- SDIV, R751. -/
  | sdiv (rd rs1 : Reg) (op2 : RegImm)
  /-- ADDcc, R703. -/
  | addcc (rd rs1 : Reg) (op2 : RegImm)
  /-- ANDcc, R711. -/
  | andcc (rd rs1 : Reg) (op2 : RegImm)
  /-- ORcc, R715. -/
  | orcc (rd rs1 : Reg) (op2 : RegImm)
  /-- XORcc, R719. -/
  | xorcc (rd rs1 : Reg) (op2 : RegImm)
  /-- SUBcc, R707. -/
  | subcc (rd rs1 : Reg) (op2 : RegImm)
  /-- ANDNcc, R713. -/
  | andncc (rd rs1 : Reg) (op2 : RegImm)
  /-- ORNcc, R717. -/
  | orncc (rd rs1 : Reg) (op2 : RegImm)
  /-- XNORcc, R721. -/
  | xnorcc (rd rs1 : Reg) (op2 : RegImm)
  /-- ADDCcc, R705. -/
  | addccc (rd rs1 : Reg) (op2 : RegImm)
  /-- UMULcc, R743. -/
  | umulcc (rd rs1 : Reg) (op2 : RegImm)
  /-- SMULcc, R745. -/
  | smulcc (rd rs1 : Reg) (op2 : RegImm)
  /-- SUBCcc, R709. -/
  | subccc (rd rs1 : Reg) (op2 : RegImm)
  /-- UDIVcc, R750. -/
  | udivcc (rd rs1 : Reg) (op2 : RegImm)
  /-- SDIVcc, R752. -/
  | sdivcc (rd rs1 : Reg) (op2 : RegImm)
  /-- TADDcc, R755. -/
  | taddcc (rd rs1 : Reg) (op2 : RegImm)
  /-- TSUBcc, R757. -/
  | tsubcc (rd rs1 : Reg) (op2 : RegImm)
  /-- TADDccTV, R756. -/
  | taddcctv (rd rs1 : Reg) (op2 : RegImm)
  /-- TSUBccTV, R758. -/
  | tsubcctv (rd rs1 : Reg) (op2 : RegImm)
  /-- MULScc, R746. -/
  | mulscc (rd rs1 : Reg) (op2 : RegImm)
  /-- SDIVX, R748. -/
  | sdivx (rd rs1 : Reg) (op2 : RegImm)
  /-- SLL, R725. -/
  | sll (rd rs1 : Reg) (cnt : Shift32)
  /-- SLLX, R726. -/
  | sllx (rd rs1 : Reg) (cnt : Shift64)
  /-- SRL, R727. -/
  | srl (rd rs1 : Reg) (cnt : Shift32)
  /-- SRLX, R728. -/
  | srlx (rd rs1 : Reg) (cnt : Shift64)
  /-- SRA, R729. -/
  | sra (rd rs1 : Reg) (cnt : Shift32)
  /-- SRAX, R730. -/
  | srax (rd rs1 : Reg) (cnt : Shift64)
  /-- POPC, R735. -/
  | popc (rd : Reg) (op2 : RegImm)
  /-- MOVcc, R760. -/
  | movcc (rd : Reg) (c : CondSel) (op2 : RegImm11)
  /-- MOVr, R761. -/
  | movr (rd rs1 : Reg) (rcond : RCond) (op2 : RegImm10)
  /-- JMPL, R811. -/
  | jmpl (rd rs1 : Reg) (op2 : RegImm)
  /-- RETURN, R812. -/
  | returnI (rs1 : Reg) (op2 : RegImm)
  /-- Tcc, R815. -/
  | tcc (cond : ICond) (cc : ICC) (rs1 : Reg) (op2 : TrapNum)
  /-- SAVE, R840. -/
  | save (rd rs1 : Reg) (op2 : RegImm)
  /-- RESTORE, R841. -/
  | restore (rd rs1 : Reg) (op2 : RegImm)
  /-- DONE, R830. -/
  | done
  /-- RETRY, R831. -/
  | retry
  /-- SAVED, R850. -/
  | saved
  /-- RESTORED, R851. -/
  | restored
  /-- ALLCLEAN, R853. -/
  | allclean
  /-- OTHERW, R854. -/
  | otherw
  /-- NORMALW, R855. -/
  | normalw
  /-- INVALW, R856. -/
  | invalw
  /-- FLUSHW, R852. -/
  | flushw
  /-- RDY, R996. -/
  | rdY (rd : Reg)
  /-- RDCCR, R996. -/
  | rdCcr (rd : Reg)
  /-- RDASI, R996. -/
  | rdAsi (rd : Reg)
  /-- RDTICK, R997. -/
  | rdTick (rd : Reg)
  /-- RDPC, R995. -/
  | rdPc (rd : Reg)
  /-- RDFPRS, R996. -/
  | rdFprs (rd : Reg)
  /-- RDPCR__rd__pcr, R998. -/
  | rdPcr (rd : Reg)
  /-- RDPIC__rd__pic, R998. -/
  | rdPic (rd : Reg)
  /-- RDGSR__rd__gsr, R999. -/
  | rdGsr (rd : Reg)
  /-- RDSOFTINT__rd__softint, R998. -/
  | rdSoftint (rd : Reg)
  /-- RDTICK_CMPR__rd__tick_cmpr, R998. -/
  | rdTickCmpr (rd : Reg)
  /-- RDSTICK__rd__stick, R997. -/
  | rdStick (rd : Reg)
  /-- RDSTICK_CMPR__rd__stick_cmpr, R998. -/
  | rdStickCmpr (rd : Reg)
  /-- STBAR, R953. -/
  | stbar
  /-- MEMBAR, R952. -/
  | membar (cmask : BitVec 3) (mmask : BitVec 4)
  /-- WRY, R1001. -/
  | wrY (rs1 : Reg) (op2 : RegImm)
  /-- WRCCR, R1001. -/
  | wrCcr (rs1 : Reg) (op2 : RegImm)
  /-- WRASI, R1001. -/
  | wrAsi (rs1 : Reg) (op2 : RegImm)
  /-- WRTICK__wr__tick, R1000. -/
  | wrTick (rs1 : Reg) (op2 : RegImm)
  /-- WRFPRS, R1001. -/
  | wrFprs (rs1 : Reg) (op2 : RegImm)
  /-- WRPCR__wr__pcr, R1004. -/
  | wrPcr (rs1 : Reg) (op2 : RegImm)
  /-- WRPIC__wr__pic, R1004. -/
  | wrPic (rs1 : Reg) (op2 : RegImm)
  /-- WRGSR__wr__gsr, R1005. -/
  | wrGsr (rs1 : Reg) (op2 : RegImm)
  /-- WRSOFTINT_SET, R1002. -/
  | wrSoftintSet (rs1 : Reg) (op2 : RegImm)
  /-- WRSOFTINT_CLR, R1002. -/
  | wrSoftintClr (rs1 : Reg) (op2 : RegImm)
  /-- WRSOFTINT, R1002. -/
  | wrSoftint (rs1 : Reg) (op2 : RegImm)
  /-- WRTICK_CMPR, R1003. -/
  | wrTickCmpr (rs1 : Reg) (op2 : RegImm)
  /-- WRSTICK__wr__stick, R1000. -/
  | wrStick (rs1 : Reg) (op2 : RegImm)
  /-- WRSTICK_CMPR, R1003. -/
  | wrStickCmpr (rs1 : Reg) (op2 : RegImm)
  /-- SIR, R1045. -/
  | sir (simm13 : BitVec 13)
  /-- RDPR__tpc, R1011. -/
  | rdprTpc (rd : Reg)
  /-- RDPR__tnpc, R1011. -/
  | rdprTnpc (rd : Reg)
  /-- RDPR__tstate, R1011. -/
  | rdprTstate (rd : Reg)
  /-- RDPR__tt, R1011. -/
  | rdprTt (rd : Reg)
  /-- RDPR__tick, R1016. -/
  | rdprTick (rd : Reg)
  /-- RDPR__tba, R1011. -/
  | rdprTba (rd : Reg)
  /-- RDPR__pstate, R1011. -/
  | rdprPstate (rd : Reg)
  /-- RDPR__tl, R1011. -/
  | rdprTl (rd : Reg)
  /-- RDPR__pil, R1011. -/
  | rdprPil (rd : Reg)
  /-- RDPR__cwp, R1011. -/
  | rdprCwp (rd : Reg)
  /-- RDPR__cansave, R1011. -/
  | rdprCansave (rd : Reg)
  /-- RDPR__canrestore, R1011. -/
  | rdprCanrestore (rd : Reg)
  /-- RDPR__cleanwin, R1011. -/
  | rdprCleanwin (rd : Reg)
  /-- RDPR__otherwin, R1011. -/
  | rdprOtherwin (rd : Reg)
  /-- RDPR__wstate, R1011. -/
  | rdprWstate (rd : Reg)
  /-- RDPR__gl, R1011. -/
  | rdprGl (rd : Reg)
  /-- WRPR__tpc, R1011. -/
  | wrprTpc (rs1 : Reg) (op2 : RegImm)
  /-- WRPR__tnpc, R1011. -/
  | wrprTnpc (rs1 : Reg) (op2 : RegImm)
  /-- WRPR__tstate, R1011. -/
  | wrprTstate (rs1 : Reg) (op2 : RegImm)
  /-- WRPR__tt, R1011. -/
  | wrprTt (rs1 : Reg) (op2 : RegImm)
  /-- WRPR__tick, R1011. -/
  | wrprTick (rs1 : Reg) (op2 : RegImm)
  /-- WRPR__tba, R1011. -/
  | wrprTba (rs1 : Reg) (op2 : RegImm)
  /-- WRPR__pstate, R1012. -/
  | wrprPstate (rs1 : Reg) (op2 : RegImm)
  /-- WRPR__tl, R1013. -/
  | wrprTl (rs1 : Reg) (op2 : RegImm)
  /-- WRPR__pil, R1011. -/
  | wrprPil (rs1 : Reg) (op2 : RegImm)
  /-- WRPR__cwp, R1015. -/
  | wrprCwp (rs1 : Reg) (op2 : RegImm)
  /-- WRPR__cansave, R1015. -/
  | wrprCansave (rs1 : Reg) (op2 : RegImm)
  /-- WRPR__canrestore, R1015. -/
  | wrprCanrestore (rs1 : Reg) (op2 : RegImm)
  /-- WRPR__cleanwin, R1015. -/
  | wrprCleanwin (rs1 : Reg) (op2 : RegImm)
  /-- WRPR__otherwin, R1015. -/
  | wrprOtherwin (rs1 : Reg) (op2 : RegImm)
  /-- WRPR__wstate, R1011. -/
  | wrprWstate (rs1 : Reg) (op2 : RegImm)
  /-- WRPR__gl, R1014. -/
  | wrprGl (rs1 : Reg) (op2 : RegImm)
  /-- RDHPR__hpstate, R1030. -/
  | rdhprHpstate (rd : Reg)
  /-- RDHPR__htstate, R1030. -/
  | rdhprHtstate (rd : Reg)
  /-- RDHPR__hintp, R1030. -/
  | rdhprHintp (rd : Reg)
  /-- RDHPR__htba, R1030. -/
  | rdhprHtba (rd : Reg)
  /-- RDHPR__hver, R1030. -/
  | rdhprHver (rd : Reg)
  /-- RDHPR__halt__HPR_0x1E__reads_zero, R1030. -/
  | rdhprHalt (rd : Reg)
  /-- RDHPR__hstick_cmpr, R1030. -/
  | rdhprHstickCmpr (rd : Reg)
  /-- WRHPR__hpstate, R1031. -/
  | wrhprHpstate (rs1 : Reg) (op2 : RegImm)
  /-- WRHPR__htstate, R1030. -/
  | wrhprHtstate (rs1 : Reg) (op2 : RegImm)
  /-- WRHPR__hintp, R1032. -/
  | wrhprHintp (rs1 : Reg) (op2 : RegImm)
  /-- WRHPR__htba, R1030. -/
  | wrhprHtba (rs1 : Reg) (op2 : RegImm)
  /-- WRHPR__hver__always_illegal_instruction, R1030. -/
  | wrhprHver (rs1 : Reg) (op2 : RegImm)
  /-- HALT__WRHPR_to_HPR_0x1E, R1040. -/
  | halt (rs1 : Reg) (op2 : RegImm)
  /-- WRHPR__hstick_cmpr, R1030. -/
  | wrhprHstickCmpr (rs1 : Reg) (op2 : RegImm)
  /-- FLUSH, R950. -/
  | flush (rs1 : Reg) (op2 : RegImm)
  /-- IMPDEP2__all_encodings__illegal_instruction, R630. -/
  | impdep2 (rd : Reg) (rest : BitVec 19)
  /-- FMOVs, R1082. -/
  | fmovs (rd rs2 : Reg)
  /-- FMOVd, R1083. -/
  | fmovd (rd rs2 : Reg)
  /-- FNEGs, R1084. -/
  | fnegs (rd rs2 : Reg)
  /-- FNEGd, R1085. -/
  | fnegd (rd rs2 : Reg)
  /-- FABSs, R1086. -/
  | fabss (rd rs2 : Reg)
  /-- FABSd, R1087. -/
  | fabsd (rd rs2 : Reg)
  /-- FSQRTs, R1079. -/
  | fsqrts (rd rs2 : Reg)
  /-- FSQRTd, R1080. -/
  | fsqrtd (rd rs2 : Reg)
  /-- FADDs, R1070. -/
  | fadds (rd rs1 rs2 : Reg)
  /-- FADDd, R1071. -/
  | faddd (rd rs1 rs2 : Reg)
  /-- FSUBs, R1072. -/
  | fsubs (rd rs1 rs2 : Reg)
  /-- FSUBd, R1073. -/
  | fsubd (rd rs1 rs2 : Reg)
  /-- FMULs, R1074. -/
  | fmuls (rd rs1 rs2 : Reg)
  /-- FMULd, R1075. -/
  | fmuld (rd rs1 rs2 : Reg)
  /-- FDIVs, R1077. -/
  | fdivs (rd rs1 rs2 : Reg)
  /-- FDIVd, R1078. -/
  | fdivd (rd rs1 rs2 : Reg)
  /-- FsMULd, R1076. -/
  | fsmuld (rd rs1 rs2 : Reg)
  /-- FsTOx, R1098. -/
  | fstox (rd rs2 : Reg)
  /-- FdTOx, R1099. -/
  | fdtox (rd rs2 : Reg)
  /-- FxTOs, R1094. -/
  | fxtos (rd rs2 : Reg)
  /-- FxTOd, R1095. -/
  | fxtod (rd rs2 : Reg)
  /-- FiTOs, R1092. -/
  | fitos (rd rs2 : Reg)
  /-- FdTOs, R1091. -/
  | fdtos (rd rs2 : Reg)
  /-- FiTOd, R1093. -/
  | fitod (rd rs2 : Reg)
  /-- FsTOd, R1090. -/
  | fstod (rd rs2 : Reg)
  /-- FsTOi, R1096. -/
  | fstoi (rd rs2 : Reg)
  /-- FdTOi, R1097. -/
  | fdtoi (rd rs2 : Reg)
  /-- FMOVq (not implemented in hardware), R1150. -/
  | fmovq (rd rs1 rs2 : Reg)
  /-- FNEGq (not implemented in hardware), R1150. -/
  | fnegq (rd rs1 rs2 : Reg)
  /-- FABSq (not implemented in hardware), R1150. -/
  | fabsq (rd rs1 rs2 : Reg)
  /-- FSQRTq (not implemented in hardware), R1150. -/
  | fsqrtq (rd rs1 rs2 : Reg)
  /-- FADDq (not implemented in hardware), R1150. -/
  | faddq (rd rs1 rs2 : Reg)
  /-- FSUBq (not implemented in hardware), R1150. -/
  | fsubq (rd rs1 rs2 : Reg)
  /-- FMULq (not implemented in hardware), R1150. -/
  | fmulq (rd rs1 rs2 : Reg)
  /-- FDIVq (not implemented in hardware), R1150. -/
  | fdivq (rd rs1 rs2 : Reg)
  /-- FdMULq (not implemented in hardware), R1150. -/
  | fdmulq (rd rs1 rs2 : Reg)
  /-- FqTOx (not implemented in hardware), R1150. -/
  | fqtox (rd rs1 rs2 : Reg)
  /-- FxTOq (not implemented in hardware), R1150. -/
  | fxtoq (rd rs1 rs2 : Reg)
  /-- FqTOs (not implemented in hardware), R1150. -/
  | fqtos (rd rs1 rs2 : Reg)
  /-- FqTOd (not implemented in hardware), R1150. -/
  | fqtod (rd rs1 rs2 : Reg)
  /-- FiTOq (not implemented in hardware), R1150. -/
  | fitoq (rd rs1 rs2 : Reg)
  /-- FsTOq (not implemented in hardware), R1150. -/
  | fstoq (rd rs1 rs2 : Reg)
  /-- FdTOq (not implemented in hardware), R1150. -/
  | fdtoq (rd rs1 rs2 : Reg)
  /-- FqTOi (not implemented in hardware), R1150. -/
  | fqtoi (rd rs1 rs2 : Reg)
  /-- FCMPs, R1100. -/
  | fcmps (fcc : BitVec 2) (rs1 rs2 : Reg)
  /-- FCMPd, R1101. -/
  | fcmpd (fcc : BitVec 2) (rs1 rs2 : Reg)
  /-- FCMPEs, R1102. -/
  | fcmpes (fcc : BitVec 2) (rs1 rs2 : Reg)
  /-- FCMPEd, R1103. -/
  | fcmped (fcc : BitVec 2) (rs1 rs2 : Reg)
  /-- FCMPq (not implemented in hardware), R1150. -/
  | fcmpq (rd rs1 rs2 : Reg)
  /-- FCMPEq (not implemented in hardware), R1150. -/
  | fcmpeq (rd rs1 rs2 : Reg)
  /-- FMOVscc, R1105. -/
  | fmovscc (rd : Reg) (c : CondSel) (rs2 : Reg)
  /-- FMOVdcc, R1105. -/
  | fmovdcc (rd : Reg) (c : CondSel) (rs2 : Reg)
  /-- FMOVqcc (not implemented in hardware), R1150. -/
  | fmovqcc (rd : Reg) (cond : BitVec 4) (opfCc : BitVec 3) (rs2 : Reg)
  /-- FMOVRs, R1107. -/
  | fmovrs (rd rs1 : Reg) (rcond : RCond) (rs2 : Reg)
  /-- FMOVRd, R1107. -/
  | fmovrd (rd rs1 : Reg) (rcond : RCond) (rs2 : Reg)
  /-- FMOVRq (not implemented in hardware), R1150. -/
  | fmovrq (rd rs1 : Reg) (rcond : BitVec 3) (rs2 : Reg)
  /-- EDGE8, R1171. -/
  | edge8 (rd rs1 rs2 : Reg)
  /-- EDGE8N, R1172. -/
  | edge8n (rd rs1 rs2 : Reg)
  /-- EDGE8L, R1173. -/
  | edge8l (rd rs1 rs2 : Reg)
  /-- EDGE8LN, R1174. -/
  | edge8ln (rd rs1 rs2 : Reg)
  /-- EDGE16, R1175. -/
  | edge16 (rd rs1 rs2 : Reg)
  /-- EDGE16N, R1176. -/
  | edge16n (rd rs1 rs2 : Reg)
  /-- EDGE16L, R1177. -/
  | edge16l (rd rs1 rs2 : Reg)
  /-- EDGE16LN, R1178. -/
  | edge16ln (rd rs1 rs2 : Reg)
  /-- EDGE32, R1179. -/
  | edge32 (rd rs1 rs2 : Reg)
  /-- EDGE32N, R1180. -/
  | edge32n (rd rs1 rs2 : Reg)
  /-- EDGE32L, R1181. -/
  | edge32l (rd rs1 rs2 : Reg)
  /-- EDGE32LN, R1182. -/
  | edge32ln (rd rs1 rs2 : Reg)
  /-- ARRAY8, R1186. -/
  | array8 (rd rs1 rs2 : Reg)
  /-- ARRAY16, R1187. -/
  | array16 (rd rs1 rs2 : Reg)
  /-- ARRAY32, R1188. -/
  | array32 (rd rs1 rs2 : Reg)
  /-- ALIGNADDRESS, R1190. -/
  | alignaddress (rd rs1 rs2 : Reg)
  /-- BMASK, R1192. -/
  | bmask (rd rs1 rs2 : Reg)
  /-- ALIGNADDRESS_LITTLE, R1191. -/
  | alignaddressLittle (rd rs1 rs2 : Reg)
  /-- FCMPLE16, R1201. -/
  | fcmple16 (rd rs1 rs2 : Reg)
  /-- FCMPNE16, R1202. -/
  | fcmpne16 (rd rs1 rs2 : Reg)
  /-- FCMPLE32, R1203. -/
  | fcmple32 (rd rs1 rs2 : Reg)
  /-- FCMPNE32, R1204. -/
  | fcmpne32 (rd rs1 rs2 : Reg)
  /-- FCMPGT16, R1205. -/
  | fcmpgt16 (rd rs1 rs2 : Reg)
  /-- FCMPEQ16, R1206. -/
  | fcmpeq16 (rd rs1 rs2 : Reg)
  /-- FCMPGT32, R1207. -/
  | fcmpgt32 (rd rs1 rs2 : Reg)
  /-- FCMPEQ32, R1208. -/
  | fcmpeq32 (rd rs1 rs2 : Reg)
  /-- FMUL8x16, R1211. -/
  | fmul8x16 (rd rs1 rs2 : Reg)
  /-- FMUL8x16AU, R1212. -/
  | fmul8x16au (rd rs1 rs2 : Reg)
  /-- FMUL8x16AL, R1213. -/
  | fmul8x16al (rd rs1 rs2 : Reg)
  /-- FMUL8SUx16, R1214. -/
  | fmul8sux16 (rd rs1 rs2 : Reg)
  /-- FMUL8ULx16, R1215. -/
  | fmul8ulx16 (rd rs1 rs2 : Reg)
  /-- FMULD8SUx16, R1216. -/
  | fmuld8sux16 (rd rs1 rs2 : Reg)
  /-- FMULD8ULx16, R1217. -/
  | fmuld8ulx16 (rd rs1 rs2 : Reg)
  /-- FPACK32, R1221. -/
  | fpack32 (rd rs1 rs2 : Reg)
  /-- FPACK16, R1220. -/
  | fpack16 (rd rs2 : Reg)
  /-- FPACKFIX, R1222. -/
  | fpackfix (rd rs2 : Reg)
  /-- PDIST, R1225. -/
  | pdist (rd rs1 rs2 : Reg)
  /-- FALIGNDATA, R1194. -/
  | faligndata (rd rs1 rs2 : Reg)
  /-- FPMERGE, R1224. -/
  | fpmerge (rd rs1 rs2 : Reg)
  /-- BSHUFFLE, R1193. -/
  | bshuffle (rd rs1 rs2 : Reg)
  /-- FEXPAND, R1223. -/
  | fexpand (rd rs2 : Reg)
  /-- FPADD16, R1230. -/
  | fpadd16 (rd rs1 rs2 : Reg)
  /-- FPADD16S, R1231. -/
  | fpadd16s (rd rs1 rs2 : Reg)
  /-- FPADD32, R1232. -/
  | fpadd32 (rd rs1 rs2 : Reg)
  /-- FPADD32S, R1233. -/
  | fpadd32s (rd rs1 rs2 : Reg)
  /-- FPSUB16, R1234. -/
  | fpsub16 (rd rs1 rs2 : Reg)
  /-- FPSUB16S, R1235. -/
  | fpsub16s (rd rs1 rs2 : Reg)
  /-- FPSUB32, R1236. -/
  | fpsub32 (rd rs1 rs2 : Reg)
  /-- FPSUB32S, R1237. -/
  | fpsub32s (rd rs1 rs2 : Reg)
  /-- FZERO, R1241. -/
  | fzero (rd : Reg)
  /-- FZEROS, R1242. -/
  | fzeros (rd : Reg)
  /-- FNOR, R1243. -/
  | fnor (rd rs1 rs2 : Reg)
  /-- FNORS, R1244. -/
  | fnors (rd rs1 rs2 : Reg)
  /-- FANDNOT2, R1245. -/
  | fandnot2 (rd rs1 rs2 : Reg)
  /-- FANDNOT2S, R1246. -/
  | fandnot2s (rd rs1 rs2 : Reg)
  /-- FNOT2, R1247. -/
  | fnot2 (rd rs2 : Reg)
  /-- FNOT2S, R1248. -/
  | fnot2s (rd rs2 : Reg)
  /-- FANDNOT1, R1249. -/
  | fandnot1 (rd rs1 rs2 : Reg)
  /-- FANDNOT1S, R1250. -/
  | fandnot1s (rd rs1 rs2 : Reg)
  /-- FNOT1, R1251. -/
  | fnot1 (rd rs1 : Reg)
  /-- FNOT1S, R1252. -/
  | fnot1s (rd rs1 : Reg)
  /-- FXOR, R1253. -/
  | fxor (rd rs1 rs2 : Reg)
  /-- FXORS, R1254. -/
  | fxors (rd rs1 rs2 : Reg)
  /-- FNAND, R1255. -/
  | fnand (rd rs1 rs2 : Reg)
  /-- FNANDS, R1256. -/
  | fnands (rd rs1 rs2 : Reg)
  /-- FAND, R1257. -/
  | fand (rd rs1 rs2 : Reg)
  /-- FANDS, R1258. -/
  | fands (rd rs1 rs2 : Reg)
  /-- FXNOR, R1259. -/
  | fxnor (rd rs1 rs2 : Reg)
  /-- FXNORS, R1260. -/
  | fxnors (rd rs1 rs2 : Reg)
  /-- FSRC1, R1261. -/
  | fsrc1 (rd rs1 : Reg)
  /-- FSRC1S, R1262. -/
  | fsrc1s (rd rs1 : Reg)
  /-- FORNOT2, R1263. -/
  | fornot2 (rd rs1 rs2 : Reg)
  /-- FORNOT2S, R1264. -/
  | fornot2s (rd rs1 rs2 : Reg)
  /-- FSRC2, R1265. -/
  | fsrc2 (rd rs2 : Reg)
  /-- FSRC2S, R1266. -/
  | fsrc2s (rd rs2 : Reg)
  /-- FORNOT1, R1267. -/
  | fornot1 (rd rs1 rs2 : Reg)
  /-- FORNOT1S, R1268. -/
  | fornot1s (rd rs1 rs2 : Reg)
  /-- FOR, R1269. -/
  | forD (rd rs1 rs2 : Reg)
  /-- FORS, R1270. -/
  | forS (rd rs1 rs2 : Reg)
  /-- FONE, R1271. -/
  | fone (rd : Reg)
  /-- FONES, R1272. -/
  | fones (rd : Reg)
  /-- SIAM, R1275. -/
  | siam (mode : BitVec 3)
  /-- LDUW, R880. -/
  | lduw (rd rs1 : Reg) (op2 : RegImm)
  /-- LDUB, R878. -/
  | ldub (rd rs1 : Reg) (op2 : RegImm)
  /-- LDUH, R879. -/
  | lduh (rd rs1 : Reg) (op2 : RegImm)
  /-- LDTW__LDD, R900. -/
  | ldtw (rd rs1 : Reg) (op2 : RegImm)
  /-- STW, R894. -/
  | stw (rd rs1 : Reg) (op2 : RegImm)
  /-- STB, R892. -/
  | stb (rd rs1 : Reg) (op2 : RegImm)
  /-- STH, R893. -/
  | sth (rd rs1 : Reg) (op2 : RegImm)
  /-- STTW__STD, R902. -/
  | sttw (rd rs1 : Reg) (op2 : RegImm)
  /-- LDSW, R877. -/
  | ldsw (rd rs1 : Reg) (op2 : RegImm)
  /-- LDSB, R875. -/
  | ldsb (rd rs1 : Reg) (op2 : RegImm)
  /-- LDSH, R876. -/
  | ldsh (rd rs1 : Reg) (op2 : RegImm)
  /-- LDX, R881. -/
  | ldx (rd rs1 : Reg) (op2 : RegImm)
  /-- LDSTUB, R922. -/
  | ldstub (rd rs1 : Reg) (op2 : RegImm)
  /-- STX, R895. -/
  | stx (rd rs1 : Reg) (op2 : RegImm)
  /-- SWAP, R924. -/
  | swap (rd rs1 : Reg) (op2 : RegImm)
  /-- LDF, R905. -/
  | ldf (rd rs1 : Reg) (op2 : RegImm)
  /-- LDDF, R906. -/
  | lddf (rd rs1 : Reg) (op2 : RegImm)
  /-- STF, R909. -/
  | stf (rd rs1 : Reg) (op2 : RegImm)
  /-- STDF, R910. -/
  | stdf (rd rs1 : Reg) (op2 : RegImm)
  /-- LDUWA, R887. -/
  | lduwa (rd rs1 : Reg) (addr : AltAddr)
  /-- LDUBA, R885. -/
  | lduba (rd rs1 : Reg) (addr : AltAddr)
  /-- LDUHA, R886. -/
  | lduha (rd rs1 : Reg) (addr : AltAddr)
  /-- LDTWA__LDDA, R901. -/
  | ldtwa (rd rs1 : Reg) (addr : AltAddr)
  /-- STWA, R898. -/
  | stwa (rd rs1 : Reg) (addr : AltAddr)
  /-- STBA, R896. -/
  | stba (rd rs1 : Reg) (addr : AltAddr)
  /-- STHA, R897. -/
  | stha (rd rs1 : Reg) (addr : AltAddr)
  /-- STTWA__STDA, R903. -/
  | sttwa (rd rs1 : Reg) (addr : AltAddr)
  /-- LDSWA, R884. -/
  | ldswa (rd rs1 : Reg) (addr : AltAddr)
  /-- LDSBA, R882. -/
  | ldsba (rd rs1 : Reg) (addr : AltAddr)
  /-- LDSHA, R883. -/
  | ldsha (rd rs1 : Reg) (addr : AltAddr)
  /-- LDXA, R888. -/
  | ldxa (rd rs1 : Reg) (addr : AltAddr)
  /-- LDSTUBA, R923. -/
  | ldstuba (rd rs1 : Reg) (addr : AltAddr)
  /-- STXA, R899. -/
  | stxa (rd rs1 : Reg) (addr : AltAddr)
  /-- SWAPA, R925. -/
  | swapa (rd rs1 : Reg) (addr : AltAddr)
  /-- LDFA, R907. -/
  | ldfa (rd rs1 : Reg) (addr : AltAddr)
  /-- LDDFA, R908. -/
  | lddfa (rd rs1 : Reg) (addr : AltAddr)
  /-- STFA, R911. -/
  | stfa (rd rs1 : Reg) (addr : AltAddr)
  /-- STDFA, R912. -/
  | stdfa (rd rs1 : Reg) (addr : AltAddr)
  /-- LDTXA__LDTWA_opcode_with_a_TWINX___quad-LDD_ASI, R920. -/
  | ldtxa (rd rs1 : Reg) (asi : BitVec 8) (rs2 : Reg)
  /-- LDBLOCKF__LDDFA_opcode_with_a_block_ASI, R930. -/
  | ldblockf (rd rs1 : Reg) (asi : BitVec 8) (rs2 : Reg)
  /-- STBLOCKF__STDFA_opcode_with_a_block_ASI, R930. -/
  | stblockf (rd rs1 : Reg) (asi : BitVec 8) (rs2 : Reg)
  /-- STPARTIALF___PST__STDFA_opcode__i___0__ASI_0xC0-0xC5__0x, R1280. -/
  | stpartialf (rd rs1 : Reg) (asi : BitVec 8) (rs2 : Reg)
  /-- LDSHORTF__LDDFA_opcode_with_ASI_0xD0-0xD3__0xD8-0xDB, R1285. -/
  | ldshortf (rd rs1 : Reg) (asi : BitVec 8) (rs2 : Reg)
  /-- STSHORTF__STDFA_opcode_with_ASI_0xD0-0xD3__0xD8-0xDB, R1286. -/
  | stshortf (rd rs1 : Reg) (asi : BitVec 8) (rs2 : Reg)
  /-- LDFSR, R914. -/
  | ldfsr (rs1 : Reg) (op2 : RegImm)
  /-- LDXFSR, R915. -/
  | ldxfsr (rs1 : Reg) (op2 : RegImm)
  /-- STFSR, R916. -/
  | stfsr (rs1 : Reg) (op2 : RegImm)
  /-- STXFSR, R917. -/
  | stxfsr (rs1 : Reg) (op2 : RegImm)
  /-- LDQF (not implemented in hardware), R913. -/
  | ldqf (rd rs1 : Reg) (op2 : RegImm)
  /-- STQF (not implemented in hardware), R913. -/
  | stqf (rd rs1 : Reg) (op2 : RegImm)
  /-- LDQFA (not implemented in hardware), R913. -/
  | ldqfa (rd rs1 : Reg) (addr : AltAddr)
  /-- STQFA (not implemented in hardware), R913. -/
  | stqfa (rd rs1 : Reg) (addr : AltAddr)
  /-- PREFETCH, R945. -/
  | prefetch (fcn : BitVec 5) (rs1 : Reg) (op2 : RegImm)
  /-- PREFETCHA, R946. -/
  | prefetcha (fcn : BitVec 5) (rs1 : Reg) (addr : AltAddr)
  /-- CASA, R926. -/
  | casa (rd rs1 : Reg) (asi : CasAsi) (rs2 : Reg)
  /-- CASXA, R927. -/
  | casxa (rd rs1 : Reg) (asi : CasAsi) (rs2 : Reg)
  deriving DecidableEq, Repr

end Sys2Proof
end

