-- ==== Sys2Proof/WellFormed.lean ====
section
/-! DEFINITION. WellFormed.lean: which terms of Instr stand for an instruction word. Two kinds of term do not: the SETHI
whose word is NOP's own row, and an opcode whose ASI class is another row of the table. -/

namespace Sys2Proof

/-- The twin-extended-word ASIs: LDTWA with one of these is LDTXA (spec/21_asi_map.md R575). -/
def isTwinxAsi (a : BitVec 8) : Bool :=
  a == 0x22 || a == 0x23 || a == 0x24 || a == 0x26 || a == 0x27 || a == 0x2A || a == 0x2B || a == 0x2C ||
  a == 0x2E || a == 0x2F || a == 0xE2 || a == 0xE3 || a == 0xEA || a == 0xEB

/-- The block ASIs: LDDFA and STDFA with one of these are LDBLOCKF and STBLOCKF (R575). -/
def isBlockAsi (a : BitVec 8) : Bool :=
  a == 0x16 || a == 0x17 || a == 0x1E || a == 0x1F || a == 0xE0 || a == 0xE1 || a == 0xF0 || a == 0xF1 ||
  a == 0xF8 || a == 0xF9

/-- The partial-store ASIs 0xC0 to 0xC5 and 0xC8 to 0xCD: STDFA with one of these is STPARTIALF (R575). -/
def isPartialAsi (a : BitVec 8) : Bool :=
  (0xC0 ≤ a && a ≤ 0xC5) || (0xC8 ≤ a && a ≤ 0xCD)

/-- The short floating-point ASIs 0xD0 to 0xD3 and 0xD8 to 0xDB (R575). -/
def isShortAsi (a : BitVec 8) : Bool :=
  (0xD0 ≤ a && a ≤ 0xD3) || (0xD8 ≤ a && a ≤ 0xDB)

/-- An alternate-space operand whose ASI, where the word holds it, is outside the class `cls`. -/
def AltAddr.avoids (cls : BitVec 8 → Bool) : AltAddr → Bool
  | .immAsi asi _ => !cls asi
  | .asiReg _ => true

/-- The instruction stands for a word of its own (spec/30_encoding.md R626, R635, R682). -/
def Instr.wellFormed : Instr → Bool
  | .sethi rd imm22 => !(rd == 0 && imm22 == 0)
  | .ldtwa _ _ addr => addr.avoids isTwinxAsi
  | .lddfa _ _ addr => addr.avoids (fun a => isBlockAsi a || isShortAsi a)
  | .stdfa _ _ addr => addr.avoids (fun a => isBlockAsi a || isPartialAsi a || isShortAsi a)
  | .ldtxa _ _ asi _ => isTwinxAsi asi
  | .ldblockf _ _ asi _ => isBlockAsi asi
  | .stblockf _ _ asi _ => isBlockAsi asi
  | .stpartialf _ _ asi _ => isPartialAsi asi
  | .ldshortf _ _ asi _ => isShortAsi asi
  | .stshortf _ _ asi _ => isShortAsi asi
  | _ => true

end Sys2Proof
end

