-- ==== Sys2Proof/Decode.lean ====
section
/-! DEFINITION. Decode.lean: the decoder and the encoder of the instruction word, both from spec/30_encoding.md. The word
is split into its fields once; a field that the manual reserves must be zero (R680), and every selector value the
manual leaves unassigned is refused by name. -/

namespace Sys2Proof

/-- Why a word is no instruction: the step answers each with the illegal_instruction trap (R680, R681). -/
inductive DecodeError where
  /-- An opcode or a selector field holds a value the manual assigns to nothing. -/
  | reservedOpcode
  /-- A field the manual calls reserved is not zero. -/
  | reservedField
  /-- Fewer than four bytes were given. -/
  | truncated
  deriving DecidableEq, Repr

/-- What decoding answers. -/
abbrev Decoded := Except DecodeError Instr

/-! ## Fields of the word, R621 -/

/-- `op`, bits 31:30. -/
def opField (w : Word32) : BitVec 2 := w.extractLsb' 30 2
/-- `rd`, bits 29:25. -/
def rdField (w : Word32) : BitVec 5 := w.extractLsb' 25 5
/-- `op3`, bits 24:19. -/
def op3Field (w : Word32) : BitVec 6 := w.extractLsb' 19 6
/-- `rs1`, bits 18:14. -/
def rs1Field (w : Word32) : BitVec 5 := w.extractLsb' 14 5
/-- Bits 13:0 of a format-3 word: `i` with what follows it. -/
def low14Field (w : Word32) : BitVec 14 := w.extractLsb' 0 14
/-- `op2`, bits 24:22 of a format-2 word. -/
def op2Field (w : Word32) : BitVec 3 := w.extractLsb' 22 3
/-- Bits 21:0 of a format-2 word. -/
def low22Field (w : Word32) : BitVec 22 := w.extractLsb' 0 22
/-- `disp30`, bits 29:0 of a format-1 word. -/
def disp30Field (w : Word32) : BitVec 30 := w.extractLsb' 0 30

/-- A one-bit field as a truth value. -/
def bitOf (b : BitVec 1) : Bool := b == 1

/-- A truth value as a one-bit field. -/
def bitFrom (b : Bool) : BitVec 1 := if b then 1 else 0

/-! ## Condition fields -/

/-- R627. -/
def ICond.ofBits (c : BitVec 4) : ICond :=
  match c with
  | 0x0 => .n | 0x1 => .e | 0x2 => .le | 0x3 => .l | 0x4 => .leu | 0x5 => .cs | 0x6 => .neg | 0x7 => .vs
  | 0x8 => .a | 0x9 => .ne | 0xA => .g | 0xB => .ge | 0xC => .gu | 0xD => .cc | 0xE => .pos | _ => .vc

/-- R627. -/
def ICond.bits : ICond → BitVec 4
  | .n => 0x0 | .e => 0x1 | .le => 0x2 | .l => 0x3 | .leu => 0x4 | .cs => 0x5 | .neg => 0x6 | .vs => 0x7
  | .a => 0x8 | .ne => 0x9 | .g => 0xA | .ge => 0xB | .gu => 0xC | .cc => 0xD | .pos => 0xE | .vc => 0xF

/-- R628. -/
def FCond.ofBits (c : BitVec 4) : FCond :=
  match c with
  | 0x0 => .n | 0x1 => .ne | 0x2 => .lg | 0x3 => .ul | 0x4 => .l | 0x5 => .ug | 0x6 => .g | 0x7 => .u
  | 0x8 => .a | 0x9 => .e | 0xA => .ue | 0xB => .ge | 0xC => .uge | 0xD => .le | 0xE => .ule | _ => .o

/-- R628. -/
def FCond.bits : FCond → BitVec 4
  | .n => 0x0 | .ne => 0x1 | .lg => 0x2 | .ul => 0x3 | .l => 0x4 | .ug => 0x5 | .g => 0x6 | .u => 0x7
  | .a => 0x8 | .e => 0x9 | .ue => 0xA | .ge => 0xB | .uge => 0xC | .le => 0xD | .ule => 0xE | .o => 0xF

/-- R629: codes 0 and 4 are reserved. -/
def RCond.ofBits (c : BitVec 3) : Option RCond :=
  match c with
  | 1 => some .z | 2 => some .lez | 3 => some .lz | 5 => some .nz | 6 => some .gz | 7 => some .gez | _ => none

/-- R629. -/
def RCond.bits : RCond → BitVec 3
  | .z => 1 | .lez => 2 | .lz => 3 | .nz => 5 | .gz => 6 | .gez => 7

/-- R626, R666: cc1:cc0 = 00 is icc, 10 is xcc, the others are reserved. -/
def ICC.ofBits (c : BitVec 2) : Option ICC :=
  match c with
  | 0 => some .icc | 2 => some .xcc | _ => none

/-- R626. -/
def ICC.bits : ICC → BitVec 2
  | .icc => 0 | .xcc => 2

/-- R665, R671: the three-bit selector 0xx is fcc0 to fcc3, 100 icc, 110 xcc, the others are reserved. -/
def CondSel.ofBits (sel : BitVec 3) (cond : BitVec 4) : Option CondSel :=
  if sel.extractLsb' 2 1 = 0 then some (.fp (sel.extractLsb' 0 2) (FCond.ofBits cond))
  else (ICC.ofBits (sel.extractLsb' 0 2)).map (fun cc => .int cc (ICond.ofBits cond))

/-- The selector bits of a condition, R665. -/
def CondSel.selBits : CondSel → BitVec 3
  | .int cc _ => 1#1 ++ cc.bits
  | .fp fcc _ => 0#1 ++ fcc

/-- The `cond` bits of a condition. -/
def CondSel.condBits : CondSel → BitVec 4
  | .int _ c => c.bits
  | .fp _ c => c.bits

/-! ## Second operands -/

/-- The instruction, if the reserved field it needs empty is empty (R680). -/
def ifZero (empty : Bool) (i : Instr) : Decoded := if empty then .ok i else .error .reservedField

/-- The instruction of an optional selector, whose reserved values are refused. -/
def ifSome {α : Type} (o : Option α) (k : α → Decoded) : Decoded :=
  match o with
  | some a => k a
  | none => .error .reservedOpcode

/-- `i` of the low 14 bits. -/
def iBit (low : BitVec 14) : Bool := bitOf (low.extractLsb' 13 1)
/-- `simm13`. -/
def simm13Of (low : BitVec 14) : BitVec 13 := low.extractLsb' 0 13
/-- `rs2`. -/
def rs2Of (low : BitVec 14) : Reg := low.extractLsb' 0 5
/-- Bits 12:5: `imm_asi`, or reserved. -/
def mid8Of (low : BitVec 14) : BitVec 8 := low.extractLsb' 5 8
/-- `opf`, bits 13:5. -/
def opfOf (low : BitVec 14) : BitVec 9 := low.extractLsb' 5 9

/-- An instruction whose second operand is a register or simm13 (R622, R631). -/
def withRegImm (low : BitVec 14) (k : RegImm → Instr) : Decoded :=
  if iBit low then .ok (k (.imm (simm13Of low)))
  else ifZero (mid8Of low == 0) (k (.reg (rs2Of low)))

/-- The low 14 bits of such an operand. -/
def RegImm.bits : RegImm → BitVec 14
  | .reg rs2 => 0#1 ++ (0#8 ++ rs2)
  | .imm simm13 => 1#1 ++ simm13

/-- A 32-bit shift, R632: `x` = 0 and bits 11:5 zero. -/
def withShift32 (low : BitVec 14) (k : Shift32 → Instr) : Decoded :=
  ifZero (low.extractLsb' 5 7 == 0)
    (k (if iBit low then .imm (low.extractLsb' 0 5) else .reg (rs2Of low)))

/-- The low 14 bits of a 32-bit shift. -/
def Shift32.bits : Shift32 → BitVec 14
  | .reg rs2 => 0#1 ++ (0#1 ++ (0#7 ++ rs2))
  | .imm c => 1#1 ++ (0#1 ++ (0#7 ++ c))

/-- A 64-bit shift, R632: `x` = 1; bits 11:5 zero with a register, 11:6 zero with a count. -/
def withShift64 (low : BitVec 14) (k : Shift64 → Instr) : Decoded :=
  if iBit low then ifZero (low.extractLsb' 6 6 == 0) (k (.imm (low.extractLsb' 0 6)))
  else ifZero (low.extractLsb' 5 7 == 0) (k (.reg (rs2Of low)))

/-- The low 14 bits of a 64-bit shift. -/
def Shift64.bits : Shift64 → BitVec 14
  | .reg rs2 => 0#1 ++ (1#1 ++ (0#7 ++ rs2))
  | .imm c => 1#1 ++ (1#1 ++ (0#6 ++ c))

/-- The `x` bit of a shift. -/
def xBit (low : BitVec 14) : Bool := bitOf (low.extractLsb' 12 1)

/-- The alternate-space operand of the low 14 bits (R635). -/
def altAddrOf (low : BitVec 14) : AltAddr :=
  if iBit low then .asiReg (simm13Of low) else .immAsi (mid8Of low) (rs2Of low)

/-- The low 14 bits of an alternate-space operand. -/
def AltAddr.bits : AltAddr → BitVec 14
  | .immAsi asi rs2 => 0#1 ++ (asi ++ rs2)
  | .asiReg simm13 => 1#1 ++ simm13

/-- The ASI operand of CASA and CASXA: with `i` = 1 bits 12:5 are reserved (R635). -/
def withCasAsi (low : BitVec 14) (k : CasAsi → Reg → Instr) : Decoded :=
  if iBit low then ifZero (mid8Of low == 0) (k .asiReg (rs2Of low))
  else .ok (k (.immAsi (mid8Of low)) (rs2Of low))

/-- The low 14 bits of such an operand with the comparison register. -/
def CasAsi.bits (rs2 : Reg) : CasAsi → BitVec 14
  | .immAsi asi => 0#1 ++ (asi ++ rs2)
  | .asiReg => 1#1 ++ (0#8 ++ rs2)

/-- The low 14 bits of MOVcc's operand after cc1:cc0 (R665). -/
def RegImm11.bits (cc : BitVec 2) : RegImm11 → BitVec 14
  | .reg rs2 => 0#1 ++ (cc ++ (0#6 ++ rs2))
  | .imm s => 1#1 ++ (cc ++ s)

/-- The low 14 bits of MOVr's operand after `rcond` (R667). -/
def RegImm10.bits (rc : BitVec 3) : RegImm10 → BitVec 14
  | .reg rs2 => 0#1 ++ (rc ++ (0#5 ++ rs2))
  | .imm s => 1#1 ++ (rc ++ s)

/-- The low 14 bits of Tcc's operand after cc1:cc0 (R666). -/
def TrapNum.bits (cc : BitVec 2) : TrapNum → BitVec 14
  | .reg rs2 => 0#1 ++ (cc ++ (0#6 ++ rs2))
  | .imm n => 1#1 ++ (cc ++ (0#3 ++ n))

/-! ## Format 2, R626 -/

/-- The words with `op` = 0. -/
def decodeFmt2 (rd : BitVec 5) (op2 : BitVec 3) (low : BitVec 22) : Decoded :=
  let annul := bitOf (rd.extractLsb' 4 1)
  let cond := rd.extractLsb' 0 4
  let p := bitOf (low.extractLsb' 19 1)
  match op2 with
  | 0 => .ok (.illtrap rd low)
  | 1 => ifSome (ICC.ofBits (low.extractLsb' 20 2)) fun cc =>
      .ok (.bpcc annul (ICond.ofBits cond) cc p (low.extractLsb' 0 19))
  | 2 => .ok (.bicc annul (ICond.ofBits cond) low)
  | 3 =>
    if cond.extractLsb' 3 1 = 0 then
      ifSome (RCond.ofBits (cond.extractLsb' 0 3)) fun rc =>
        .ok (.bpr annul rc p (low.extractLsb' 14 5) (low.extractLsb' 20 2 ++ low.extractLsb' 0 14))
    else .error .reservedField
  | 4 => .ok (if rd = 0 && low = 0 then .nop else .sethi rd low)
  | 5 => .ok (.fbpfcc annul (FCond.ofBits cond) (low.extractLsb' 20 2) p (low.extractLsb' 0 19))
  | 6 => .ok (.fbfcc annul (FCond.ofBits cond) low)
  | _ => .error .reservedOpcode

/-! ## Format 3, `op` = 2: the selector families of R660 to R664

Lean's code generator numbers at most 245 constructors that carry data, and the table has more rows: the definitions that
build an `Instr` stand in a noncomputable section. The kernel evaluates them all the same. -/

noncomputable section

/-- RDasr, R660: `rs1` selects the register; number 15 is STBAR and MEMBAR. -/
def decodeRdAsr (rd rs1 : Reg) (low : BitVec 14) : Decoded :=
  match rs1 with
  | 0x00 => ifZero (low == 0) (.rdY rd)
  | 0x02 => ifZero (low == 0) (.rdCcr rd)
  | 0x03 => ifZero (low == 0) (.rdAsi rd)
  | 0x04 => ifZero (low == 0) (.rdTick rd)
  | 0x05 => ifZero (low == 0) (.rdPc rd)
  | 0x06 => ifZero (low == 0) (.rdFprs rd)
  | 0x10 => ifZero (low == 0) (.rdPcr rd)
  | 0x11 => ifZero (low == 0) (.rdPic rd)
  | 0x13 => ifZero (low == 0) (.rdGsr rd)
  | 0x16 => ifZero (low == 0) (.rdSoftint rd)
  | 0x17 => ifZero (low == 0) (.rdTickCmpr rd)
  | 0x18 => ifZero (low == 0) (.rdStick rd)
  | 0x19 => ifZero (low == 0) (.rdStickCmpr rd)
  | 0x0F =>
    if rd = 0 then
      if iBit low then
        ifZero (low.extractLsb' 7 6 == 0) (.membar (low.extractLsb' 4 3) (low.extractLsb' 0 4))
      else ifZero (low == 0) .stbar
    else .error .reservedField
  | _ => .error .reservedOpcode

/-- RDPR, R662. -/
def decodeRdPr (rd rs1 : Reg) (low : BitVec 14) : Decoded :=
  match rs1 with
  | 0x00 => ifZero (low == 0) (.rdprTpc rd)
  | 0x01 => ifZero (low == 0) (.rdprTnpc rd)
  | 0x02 => ifZero (low == 0) (.rdprTstate rd)
  | 0x03 => ifZero (low == 0) (.rdprTt rd)
  | 0x04 => ifZero (low == 0) (.rdprTick rd)
  | 0x05 => ifZero (low == 0) (.rdprTba rd)
  | 0x06 => ifZero (low == 0) (.rdprPstate rd)
  | 0x07 => ifZero (low == 0) (.rdprTl rd)
  | 0x08 => ifZero (low == 0) (.rdprPil rd)
  | 0x09 => ifZero (low == 0) (.rdprCwp rd)
  | 0x0A => ifZero (low == 0) (.rdprCansave rd)
  | 0x0B => ifZero (low == 0) (.rdprCanrestore rd)
  | 0x0C => ifZero (low == 0) (.rdprCleanwin rd)
  | 0x0D => ifZero (low == 0) (.rdprOtherwin rd)
  | 0x0E => ifZero (low == 0) (.rdprWstate rd)
  | 0x10 => ifZero (low == 0) (.rdprGl rd)
  | _ => .error .reservedOpcode

/-- RDHPR, R663. -/
def decodeRdHpr (rd rs1 : Reg) (low : BitVec 14) : Decoded :=
  match rs1 with
  | 0x00 => ifZero (low == 0) (.rdhprHpstate rd)
  | 0x01 => ifZero (low == 0) (.rdhprHtstate rd)
  | 0x03 => ifZero (low == 0) (.rdhprHintp rd)
  | 0x05 => ifZero (low == 0) (.rdhprHtba rd)
  | 0x06 => ifZero (low == 0) (.rdhprHver rd)
  | 0x1E => ifZero (low == 0) (.rdhprHalt rd)
  | 0x1F => ifZero (low == 0) (.rdhprHstickCmpr rd)
  | _ => .error .reservedOpcode

/-- WRasr, R661: `rd` selects the register; number 15 with `rs1` = 0 and `i` = 1 is SIR. -/
def decodeWrAsr (rd rs1 : Reg) (low : BitVec 14) : Decoded :=
  match rd with
  | 0x00 => withRegImm low (.wrY rs1)
  | 0x02 => withRegImm low (.wrCcr rs1)
  | 0x03 => withRegImm low (.wrAsi rs1)
  | 0x04 => withRegImm low (.wrTick rs1)
  | 0x06 => withRegImm low (.wrFprs rs1)
  | 0x10 => withRegImm low (.wrPcr rs1)
  | 0x11 => withRegImm low (.wrPic rs1)
  | 0x13 => withRegImm low (.wrGsr rs1)
  | 0x14 => withRegImm low (.wrSoftintSet rs1)
  | 0x15 => withRegImm low (.wrSoftintClr rs1)
  | 0x16 => withRegImm low (.wrSoftint rs1)
  | 0x17 => withRegImm low (.wrTickCmpr rs1)
  | 0x18 => withRegImm low (.wrStick rs1)
  | 0x19 => withRegImm low (.wrStickCmpr rs1)
  | 0x0F => if rs1 = 0 && iBit low then .ok (.sir (simm13Of low)) else .error .reservedOpcode
  | _ => .error .reservedOpcode

/-- WRPR, R662. -/
def decodeWrPr (rd rs1 : Reg) (low : BitVec 14) : Decoded :=
  match rd with
  | 0x00 => withRegImm low (.wrprTpc rs1)
  | 0x01 => withRegImm low (.wrprTnpc rs1)
  | 0x02 => withRegImm low (.wrprTstate rs1)
  | 0x03 => withRegImm low (.wrprTt rs1)
  | 0x04 => withRegImm low (.wrprTick rs1)
  | 0x05 => withRegImm low (.wrprTba rs1)
  | 0x06 => withRegImm low (.wrprPstate rs1)
  | 0x07 => withRegImm low (.wrprTl rs1)
  | 0x08 => withRegImm low (.wrprPil rs1)
  | 0x09 => withRegImm low (.wrprCwp rs1)
  | 0x0A => withRegImm low (.wrprCansave rs1)
  | 0x0B => withRegImm low (.wrprCanrestore rs1)
  | 0x0C => withRegImm low (.wrprCleanwin rs1)
  | 0x0D => withRegImm low (.wrprOtherwin rs1)
  | 0x0E => withRegImm low (.wrprWstate rs1)
  | 0x10 => withRegImm low (.wrprGl rs1)
  | _ => .error .reservedOpcode

/-- WRHPR, R663. -/
def decodeWrHpr (rd rs1 : Reg) (low : BitVec 14) : Decoded :=
  match rd with
  | 0x00 => withRegImm low (.wrhprHpstate rs1)
  | 0x01 => withRegImm low (.wrhprHtstate rs1)
  | 0x03 => withRegImm low (.wrhprHintp rs1)
  | 0x05 => withRegImm low (.wrhprHtba rs1)
  | 0x06 => withRegImm low (.wrhprHver rs1)
  | 0x1E => withRegImm low (.halt rs1)
  | 0x1F => withRegImm low (.wrhprHstickCmpr rs1)
  | _ => .error .reservedOpcode

/-- The window-state family, R664. -/
def decodeSaved (rd rs1 : Reg) (low : BitVec 14) : Decoded :=
  match rd with
  | 0 => ifZero (rs1 == 0 && low == 0) .saved
  | 1 => ifZero (rs1 == 0 && low == 0) .restored
  | 2 => ifZero (rs1 == 0 && low == 0) .allclean
  | 3 => ifZero (rs1 == 0 && low == 0) .otherw
  | 4 => ifZero (rs1 == 0 && low == 0) .normalw
  | 5 => ifZero (rs1 == 0 && low == 0) .invalw
  | _ => .error .reservedOpcode

/-- DONE and RETRY, R664. -/
def decodeDone (rd rs1 : Reg) (low : BitVec 14) : Decoded :=
  match rd with
  | 0 => ifZero (rs1 == 0 && low == 0) .done
  | 1 => ifZero (rs1 == 0 && low == 0) .retry
  | _ => .error .reservedOpcode

/-- FPop1, R670. -/
def decodeFpop1 (rd rs1 : Reg) (opf : BitVec 9) (rs2 : Reg) : Decoded :=
  match opf with
  | 0x001 => ifZero (rs1 == 0) (.fmovs rd rs2)
  | 0x002 => ifZero (rs1 == 0) (.fmovd rd rs2)
  | 0x005 => ifZero (rs1 == 0) (.fnegs rd rs2)
  | 0x006 => ifZero (rs1 == 0) (.fnegd rd rs2)
  | 0x009 => ifZero (rs1 == 0) (.fabss rd rs2)
  | 0x00A => ifZero (rs1 == 0) (.fabsd rd rs2)
  | 0x029 => ifZero (rs1 == 0) (.fsqrts rd rs2)
  | 0x02A => ifZero (rs1 == 0) (.fsqrtd rd rs2)
  | 0x041 => .ok (.fadds rd rs1 rs2)
  | 0x042 => .ok (.faddd rd rs1 rs2)
  | 0x045 => .ok (.fsubs rd rs1 rs2)
  | 0x046 => .ok (.fsubd rd rs1 rs2)
  | 0x049 => .ok (.fmuls rd rs1 rs2)
  | 0x04A => .ok (.fmuld rd rs1 rs2)
  | 0x04D => .ok (.fdivs rd rs1 rs2)
  | 0x04E => .ok (.fdivd rd rs1 rs2)
  | 0x069 => .ok (.fsmuld rd rs1 rs2)
  | 0x081 => ifZero (rs1 == 0) (.fstox rd rs2)
  | 0x082 => ifZero (rs1 == 0) (.fdtox rd rs2)
  | 0x084 => ifZero (rs1 == 0) (.fxtos rd rs2)
  | 0x088 => ifZero (rs1 == 0) (.fxtod rd rs2)
  | 0x0C4 => ifZero (rs1 == 0) (.fitos rd rs2)
  | 0x0C6 => ifZero (rs1 == 0) (.fdtos rd rs2)
  | 0x0C8 => ifZero (rs1 == 0) (.fitod rd rs2)
  | 0x0C9 => ifZero (rs1 == 0) (.fstod rd rs2)
  | 0x0D1 => ifZero (rs1 == 0) (.fstoi rd rs2)
  | 0x0D2 => ifZero (rs1 == 0) (.fdtoi rd rs2)
  | 0x003 => .ok (.fmovq rd rs1 rs2)
  | 0x007 => .ok (.fnegq rd rs1 rs2)
  | 0x00B => .ok (.fabsq rd rs1 rs2)
  | 0x02B => .ok (.fsqrtq rd rs1 rs2)
  | 0x043 => .ok (.faddq rd rs1 rs2)
  | 0x047 => .ok (.fsubq rd rs1 rs2)
  | 0x04B => .ok (.fmulq rd rs1 rs2)
  | 0x04F => .ok (.fdivq rd rs1 rs2)
  | 0x06E => .ok (.fdmulq rd rs1 rs2)
  | 0x083 => .ok (.fqtox rd rs1 rs2)
  | 0x08C => .ok (.fxtoq rd rs1 rs2)
  | 0x0C7 => .ok (.fqtos rd rs1 rs2)
  | 0x0CB => .ok (.fqtod rd rs1 rs2)
  | 0x0CC => .ok (.fitoq rd rs1 rs2)
  | 0x0CD => .ok (.fstoq rd rs1 rs2)
  | 0x0CE => .ok (.fdtoq rd rs1 rs2)
  | 0x0D3 => .ok (.fqtoi rd rs1 rs2)
  | _ => .error .reservedOpcode

/-- FMOVcc and FMOVr of FPop2, R671. -/
def decodeFmov (rd rs1 : Reg) (opf : BitVec 9) (rs2 : Reg) : Decoded :=
  let cond := rs1.extractLsb' 0 4
  let opfCc := opf.extractLsb' 6 3
  if (opf.extractLsb' 0 6 = 0x01 || opf.extractLsb' 0 6 = 0x02 || opf.extractLsb' 0 6 = 0x03) && rs1.extractLsb' 4 1 = 0 then
    match opf.extractLsb' 0 6 with
    | 0x01 => ifSome (CondSel.ofBits opfCc cond) fun c => .ok (.fmovscc rd c rs2)
    | 0x02 => ifSome (CondSel.ofBits opfCc cond) fun c => .ok (.fmovdcc rd c rs2)
    | _ => .ok (.fmovqcc rd cond opfCc rs2)
  else if opf.extractLsb' 8 1 = 0 then
    match opf.extractLsb' 0 5 with
    | 0x05 => ifSome (RCond.ofBits (opf.extractLsb' 5 3)) fun c => .ok (.fmovrs rd rs1 c rs2)
    | 0x06 => ifSome (RCond.ofBits (opf.extractLsb' 5 3)) fun c => .ok (.fmovrd rd rs1 c rs2)
    | 0x07 => .ok (.fmovrq rd rs1 (opf.extractLsb' 5 3) rs2)
    | _ => .error .reservedOpcode
  else .error .reservedOpcode

/-- FPop2, R671: compares first, then FMOVcc and FMOVr. -/
def decodeFpop2 (rd rs1 : Reg) (opf : BitVec 9) (rs2 : Reg) : Decoded :=
  match opf with
  | 0x051 => ifZero (rd.extractLsb' 2 3 == 0) (.fcmps (rd.extractLsb' 0 2) rs1 rs2)
  | 0x052 => ifZero (rd.extractLsb' 2 3 == 0) (.fcmpd (rd.extractLsb' 0 2) rs1 rs2)
  | 0x055 => ifZero (rd.extractLsb' 2 3 == 0) (.fcmpes (rd.extractLsb' 0 2) rs1 rs2)
  | 0x056 => ifZero (rd.extractLsb' 2 3 == 0) (.fcmped (rd.extractLsb' 0 2) rs1 rs2)
  | 0x053 => .ok (.fcmpq rd rs1 rs2)
  | 0x057 => .ok (.fcmpeq rd rs1 rs2)
  | _ => decodeFmov rd rs1 opf rs2

/-- VIS, R675. -/
def decodeVis (rd rs1 : Reg) (opf : BitVec 9) (rs2 : Reg) : Decoded :=
  match opf with
  | 0x000 => .ok (.edge8 rd rs1 rs2)
  | 0x001 => .ok (.edge8n rd rs1 rs2)
  | 0x002 => .ok (.edge8l rd rs1 rs2)
  | 0x003 => .ok (.edge8ln rd rs1 rs2)
  | 0x004 => .ok (.edge16 rd rs1 rs2)
  | 0x005 => .ok (.edge16n rd rs1 rs2)
  | 0x006 => .ok (.edge16l rd rs1 rs2)
  | 0x007 => .ok (.edge16ln rd rs1 rs2)
  | 0x008 => .ok (.edge32 rd rs1 rs2)
  | 0x009 => .ok (.edge32n rd rs1 rs2)
  | 0x00A => .ok (.edge32l rd rs1 rs2)
  | 0x00B => .ok (.edge32ln rd rs1 rs2)
  | 0x010 => .ok (.array8 rd rs1 rs2)
  | 0x012 => .ok (.array16 rd rs1 rs2)
  | 0x014 => .ok (.array32 rd rs1 rs2)
  | 0x018 => .ok (.alignaddress rd rs1 rs2)
  | 0x019 => .ok (.bmask rd rs1 rs2)
  | 0x01A => .ok (.alignaddressLittle rd rs1 rs2)
  | 0x020 => .ok (.fcmple16 rd rs1 rs2)
  | 0x022 => .ok (.fcmpne16 rd rs1 rs2)
  | 0x024 => .ok (.fcmple32 rd rs1 rs2)
  | 0x026 => .ok (.fcmpne32 rd rs1 rs2)
  | 0x028 => .ok (.fcmpgt16 rd rs1 rs2)
  | 0x02A => .ok (.fcmpeq16 rd rs1 rs2)
  | 0x02C => .ok (.fcmpgt32 rd rs1 rs2)
  | 0x02E => .ok (.fcmpeq32 rd rs1 rs2)
  | 0x031 => .ok (.fmul8x16 rd rs1 rs2)
  | 0x033 => .ok (.fmul8x16au rd rs1 rs2)
  | 0x035 => .ok (.fmul8x16al rd rs1 rs2)
  | 0x036 => .ok (.fmul8sux16 rd rs1 rs2)
  | 0x037 => .ok (.fmul8ulx16 rd rs1 rs2)
  | 0x038 => .ok (.fmuld8sux16 rd rs1 rs2)
  | 0x039 => .ok (.fmuld8ulx16 rd rs1 rs2)
  | 0x03A => .ok (.fpack32 rd rs1 rs2)
  | 0x03B => ifZero (rs1 == 0) (.fpack16 rd rs2)
  | 0x03D => ifZero (rs1 == 0) (.fpackfix rd rs2)
  | 0x03E => .ok (.pdist rd rs1 rs2)
  | 0x048 => .ok (.faligndata rd rs1 rs2)
  | 0x04B => .ok (.fpmerge rd rs1 rs2)
  | 0x04C => .ok (.bshuffle rd rs1 rs2)
  | 0x04D => ifZero (rs1 == 0) (.fexpand rd rs2)
  | 0x050 => .ok (.fpadd16 rd rs1 rs2)
  | 0x051 => .ok (.fpadd16s rd rs1 rs2)
  | 0x052 => .ok (.fpadd32 rd rs1 rs2)
  | 0x053 => .ok (.fpadd32s rd rs1 rs2)
  | 0x054 => .ok (.fpsub16 rd rs1 rs2)
  | 0x055 => .ok (.fpsub16s rd rs1 rs2)
  | 0x056 => .ok (.fpsub32 rd rs1 rs2)
  | 0x057 => .ok (.fpsub32s rd rs1 rs2)
  | 0x060 => ifZero (rs1 == 0 && rs2 == 0) (.fzero rd)
  | 0x061 => ifZero (rs1 == 0 && rs2 == 0) (.fzeros rd)
  | 0x062 => .ok (.fnor rd rs1 rs2)
  | 0x063 => .ok (.fnors rd rs1 rs2)
  | 0x064 => .ok (.fandnot2 rd rs1 rs2)
  | 0x065 => .ok (.fandnot2s rd rs1 rs2)
  | 0x066 => ifZero (rs1 == 0) (.fnot2 rd rs2)
  | 0x067 => ifZero (rs1 == 0) (.fnot2s rd rs2)
  | 0x068 => .ok (.fandnot1 rd rs1 rs2)
  | 0x069 => .ok (.fandnot1s rd rs1 rs2)
  | 0x06A => ifZero (rs2 == 0) (.fnot1 rd rs1)
  | 0x06B => ifZero (rs2 == 0) (.fnot1s rd rs1)
  | 0x06C => .ok (.fxor rd rs1 rs2)
  | 0x06D => .ok (.fxors rd rs1 rs2)
  | 0x06E => .ok (.fnand rd rs1 rs2)
  | 0x06F => .ok (.fnands rd rs1 rs2)
  | 0x070 => .ok (.fand rd rs1 rs2)
  | 0x071 => .ok (.fands rd rs1 rs2)
  | 0x072 => .ok (.fxnor rd rs1 rs2)
  | 0x073 => .ok (.fxnors rd rs1 rs2)
  | 0x074 => ifZero (rs2 == 0) (.fsrc1 rd rs1)
  | 0x075 => ifZero (rs2 == 0) (.fsrc1s rd rs1)
  | 0x076 => .ok (.fornot2 rd rs1 rs2)
  | 0x077 => .ok (.fornot2s rd rs1 rs2)
  | 0x078 => ifZero (rs1 == 0) (.fsrc2 rd rs2)
  | 0x079 => ifZero (rs1 == 0) (.fsrc2s rd rs2)
  | 0x07A => .ok (.fornot1 rd rs1 rs2)
  | 0x07B => .ok (.fornot1s rd rs1 rs2)
  | 0x07C => .ok (.forD rd rs1 rs2)
  | 0x07D => .ok (.forS rd rs1 rs2)
  | 0x07E => ifZero (rs1 == 0 && rs2 == 0) (.fone rd)
  | 0x07F => ifZero (rs1 == 0 && rs2 == 0) (.fones rd)
  | 0x081 => ifZero (rd == 0 && rs1 == 0 && rs2.extractLsb' 3 2 == 0) (.siam (rs2.extractLsb' 0 3))
  | _ => .error .reservedOpcode

/-- MOVcc, R665. -/
def decodeMovcc (rd rs1 : Reg) (low : BitVec 14) : Decoded :=
  ifSome (CondSel.ofBits (rs1.extractLsb' 4 1 ++ low.extractLsb' 11 2) (rs1.extractLsb' 0 4)) fun c =>
    if iBit low then .ok (.movcc rd c (.imm (low.extractLsb' 0 11)))
    else ifZero (low.extractLsb' 5 6 == 0) (.movcc rd c (.reg (rs2Of low)))

/-- MOVr, R667. -/
def decodeMovr (rd rs1 : Reg) (low : BitVec 14) : Decoded :=
  ifSome (RCond.ofBits (low.extractLsb' 10 3)) fun c =>
    if iBit low then .ok (.movr rd rs1 c (.imm (low.extractLsb' 0 10)))
    else ifZero (low.extractLsb' 5 5 == 0) (.movr rd rs1 c (.reg (rs2Of low)))

/-- Tcc, R666: bit 29 must be 0. -/
def decodeTcc (rd rs1 : Reg) (low : BitVec 14) : Decoded :=
  if rd.extractLsb' 4 1 = 0 then
    ifSome (ICC.ofBits (low.extractLsb' 11 2)) fun cc =>
      if iBit low then
        ifZero (low.extractLsb' 8 3 == 0) (.tcc (ICond.ofBits (rd.extractLsb' 0 4)) cc rs1 (.imm (low.extractLsb' 0 8)))
      else
        ifZero (low.extractLsb' 5 6 == 0) (.tcc (ICond.ofBits (rd.extractLsb' 0 4)) cc rs1 (.reg (rs2Of low)))
  else .error .reservedField

/-- The `op` = 2 map of R630. -/
def decodeArith (rd : Reg) (op3 : BitVec 6) (rs1 : Reg) (low : BitVec 14) : Decoded :=
  match op3 with
  | 0x00 => withRegImm low (.add rd rs1)
  | 0x01 => withRegImm low (.andI rd rs1)
  | 0x02 => withRegImm low (.orI rd rs1)
  | 0x03 => withRegImm low (.xorI rd rs1)
  | 0x04 => withRegImm low (.sub rd rs1)
  | 0x05 => withRegImm low (.andn rd rs1)
  | 0x06 => withRegImm low (.orn rd rs1)
  | 0x07 => withRegImm low (.xnor rd rs1)
  | 0x08 => withRegImm low (.addc rd rs1)
  | 0x09 => withRegImm low (.mulx rd rs1)
  | 0x0A => withRegImm low (.umul rd rs1)
  | 0x0B => withRegImm low (.smul rd rs1)
  | 0x0C => withRegImm low (.subc rd rs1)
  | 0x0D => withRegImm low (.udivx rd rs1)
  | 0x0E => withRegImm low (.udiv rd rs1)
  | 0x0F => withRegImm low (.sdiv rd rs1)
  | 0x10 => withRegImm low (.addcc rd rs1)
  | 0x11 => withRegImm low (.andcc rd rs1)
  | 0x12 => withRegImm low (.orcc rd rs1)
  | 0x13 => withRegImm low (.xorcc rd rs1)
  | 0x14 => withRegImm low (.subcc rd rs1)
  | 0x15 => withRegImm low (.andncc rd rs1)
  | 0x16 => withRegImm low (.orncc rd rs1)
  | 0x17 => withRegImm low (.xnorcc rd rs1)
  | 0x18 => withRegImm low (.addccc rd rs1)
  | 0x1A => withRegImm low (.umulcc rd rs1)
  | 0x1B => withRegImm low (.smulcc rd rs1)
  | 0x1C => withRegImm low (.subccc rd rs1)
  | 0x1E => withRegImm low (.udivcc rd rs1)
  | 0x1F => withRegImm low (.sdivcc rd rs1)
  | 0x20 => withRegImm low (.taddcc rd rs1)
  | 0x21 => withRegImm low (.tsubcc rd rs1)
  | 0x22 => withRegImm low (.taddcctv rd rs1)
  | 0x23 => withRegImm low (.tsubcctv rd rs1)
  | 0x24 => withRegImm low (.mulscc rd rs1)
  | 0x25 => if xBit low then withShift64 low (.sllx rd rs1) else withShift32 low (.sll rd rs1)
  | 0x26 => if xBit low then withShift64 low (.srlx rd rs1) else withShift32 low (.srl rd rs1)
  | 0x27 => if xBit low then withShift64 low (.srax rd rs1) else withShift32 low (.sra rd rs1)
  | 0x28 => decodeRdAsr rd rs1 low
  | 0x29 => decodeRdHpr rd rs1 low
  | 0x2A => decodeRdPr rd rs1 low
  | 0x2B => ifZero (rd == 0 && rs1 == 0 && low == 0) .flushw
  | 0x2C => decodeMovcc rd rs1 low
  | 0x2D => withRegImm low (.sdivx rd rs1)
  | 0x2E => if rs1 = 0 then withRegImm low (.popc rd) else .error .reservedField
  | 0x2F => decodeMovr rd rs1 low
  | 0x30 => decodeWrAsr rd rs1 low
  | 0x31 => decodeSaved rd rs1 low
  | 0x32 => decodeWrPr rd rs1 low
  | 0x33 => decodeWrHpr rd rs1 low
  | 0x34 => decodeFpop1 rd rs1 (opfOf low) (rs2Of low)
  | 0x35 => decodeFpop2 rd rs1 (opfOf low) (rs2Of low)
  | 0x36 => decodeVis rd rs1 (opfOf low) (rs2Of low)
  | 0x37 => .ok (.impdep2 rd (rs1 ++ low))
  | 0x38 => withRegImm low (.jmpl rd rs1)
  | 0x39 => if rd = 0 then withRegImm low (.returnI rs1) else .error .reservedField
  | 0x3A => decodeTcc rd rs1 low
  | 0x3B => if rd = 0 then withRegImm low (.flush rs1) else .error .reservedField
  | 0x3C => withRegImm low (.save rd rs1)
  | 0x3D => withRegImm low (.restore rd rs1)
  | 0x3E => decodeDone rd rs1 low
  | _ => .error .reservedOpcode

/-- LDTWA, or LDTXA where the word's ASI is a twin-extended-word one (R635). -/
def decodeLdtwa (rd rs1 : Reg) (low : BitVec 14) : Decoded :=
  if !iBit low && isTwinxAsi (mid8Of low) then .ok (.ldtxa rd rs1 (mid8Of low) (rs2Of low))
  else .ok (.ldtwa rd rs1 (altAddrOf low))

/-- LDDFA, or the block or short load that the word's ASI makes of it (R635). -/
def decodeLddfa (rd rs1 : Reg) (low : BitVec 14) : Decoded :=
  if !iBit low && isBlockAsi (mid8Of low) then .ok (.ldblockf rd rs1 (mid8Of low) (rs2Of low))
  else if !iBit low && isShortAsi (mid8Of low) then .ok (.ldshortf rd rs1 (mid8Of low) (rs2Of low))
  else .ok (.lddfa rd rs1 (altAddrOf low))

/-- STDFA, or the block, partial or short store that the word's ASI makes of it (R635). -/
def decodeStdfa (rd rs1 : Reg) (low : BitVec 14) : Decoded :=
  if !iBit low && isBlockAsi (mid8Of low) then .ok (.stblockf rd rs1 (mid8Of low) (rs2Of low))
  else if !iBit low && isPartialAsi (mid8Of low) then .ok (.stpartialf rd rs1 (mid8Of low) (rs2Of low))
  else if !iBit low && isShortAsi (mid8Of low) then .ok (.stshortf rd rs1 (mid8Of low) (rs2Of low))
  else .ok (.stdfa rd rs1 (altAddrOf low))

/-- The `op` = 3 map of R635. -/
def decodeMem (rd : Reg) (op3 : BitVec 6) (rs1 : Reg) (low : BitVec 14) : Decoded :=
  match op3 with
  | 0x00 => withRegImm low (.lduw rd rs1)
  | 0x01 => withRegImm low (.ldub rd rs1)
  | 0x02 => withRegImm low (.lduh rd rs1)
  | 0x03 => withRegImm low (.ldtw rd rs1)
  | 0x04 => withRegImm low (.stw rd rs1)
  | 0x05 => withRegImm low (.stb rd rs1)
  | 0x06 => withRegImm low (.sth rd rs1)
  | 0x07 => withRegImm low (.sttw rd rs1)
  | 0x08 => withRegImm low (.ldsw rd rs1)
  | 0x09 => withRegImm low (.ldsb rd rs1)
  | 0x0A => withRegImm low (.ldsh rd rs1)
  | 0x0B => withRegImm low (.ldx rd rs1)
  | 0x0D => withRegImm low (.ldstub rd rs1)
  | 0x0E => withRegImm low (.stx rd rs1)
  | 0x0F => withRegImm low (.swap rd rs1)
  | 0x10 => .ok (.lduwa rd rs1 (altAddrOf low))
  | 0x11 => .ok (.lduba rd rs1 (altAddrOf low))
  | 0x12 => .ok (.lduha rd rs1 (altAddrOf low))
  | 0x13 => decodeLdtwa rd rs1 low
  | 0x14 => .ok (.stwa rd rs1 (altAddrOf low))
  | 0x15 => .ok (.stba rd rs1 (altAddrOf low))
  | 0x16 => .ok (.stha rd rs1 (altAddrOf low))
  | 0x17 => .ok (.sttwa rd rs1 (altAddrOf low))
  | 0x18 => .ok (.ldswa rd rs1 (altAddrOf low))
  | 0x19 => .ok (.ldsba rd rs1 (altAddrOf low))
  | 0x1A => .ok (.ldsha rd rs1 (altAddrOf low))
  | 0x1B => .ok (.ldxa rd rs1 (altAddrOf low))
  | 0x1D => .ok (.ldstuba rd rs1 (altAddrOf low))
  | 0x1E => .ok (.stxa rd rs1 (altAddrOf low))
  | 0x1F => .ok (.swapa rd rs1 (altAddrOf low))
  | 0x20 => withRegImm low (.ldf rd rs1)
  | 0x21 =>
    match rd with
    | 0 => withRegImm low (.ldfsr rs1)
    | 1 => withRegImm low (.ldxfsr rs1)
    | _ => .error .reservedOpcode
  | 0x22 => withRegImm low (.ldqf rd rs1)
  | 0x23 => withRegImm low (.lddf rd rs1)
  | 0x24 => withRegImm low (.stf rd rs1)
  | 0x25 =>
    match rd with
    | 0 => withRegImm low (.stfsr rs1)
    | 1 => withRegImm low (.stxfsr rs1)
    | _ => .error .reservedOpcode
  | 0x26 => withRegImm low (.stqf rd rs1)
  | 0x27 => withRegImm low (.stdf rd rs1)
  | 0x2D => withRegImm low (.prefetch rd rs1)
  | 0x30 => .ok (.ldfa rd rs1 (altAddrOf low))
  | 0x32 => .ok (.ldqfa rd rs1 (altAddrOf low))
  | 0x33 => decodeLddfa rd rs1 low
  | 0x34 => .ok (.stfa rd rs1 (altAddrOf low))
  | 0x36 => .ok (.stqfa rd rs1 (altAddrOf low))
  | 0x37 => decodeStdfa rd rs1 low
  | 0x3C => withCasAsi low (.casa rd rs1)
  | 0x3D => .ok (.prefetcha rd rs1 (altAddrOf low))
  | 0x3E => withCasAsi low (.casxa rd rs1)
  | _ => .error .reservedOpcode

/-- The instruction a word stands for (R620). -/
def decode (w : Word32) : Decoded :=
  match opField w with
  | 0 => decodeFmt2 (rdField w) (op2Field w) (low22Field w)
  | 1 => .ok (.call (disp30Field w))
  | 2 => decodeArith (rdField w) (op3Field w) (rs1Field w) (low14Field w)
  | _ => decodeMem (rdField w) (op3Field w) (rs1Field w) (low14Field w)

/-- The word of four bytes in the order of their addresses: instruction fetch is big-endian (R620). -/
def wordOfBytes (b0 b1 b2 b3 : Byte) : Word32 := b0 ++ (b1 ++ (b2 ++ b3))

/-- The bytes of a word in the order of their addresses. -/
def bytesOfWord (w : Word32) : List Byte :=
  [w.extractLsb' 24 8, w.extractLsb' 16 8, w.extractLsb' 8 8, w.extractLsb' 0 8]

/-- The instruction at the head of a list of bytes, with the bytes after it. -/
def decodeBytes : List Byte → Except DecodeError (Instr × List Byte)
  | b0 :: b1 :: b2 :: b3 :: rest =>
    match decode (wordOfBytes b0 b1 b2 b3) with
    | .ok i => .ok (i, rest)
    | .error e => .error e
  | _ => .error .truncated

/-- The bytes, in memory order, of an instruction given as the table numbers its bits: every instruction of this
hardware is one 32-bit word, so the word's bits above `nbits` are zero. -/
def tableBytes (nbits w : Nat) : List Byte := bytesOfWord (BitVec.ofNat 32 (w % 2 ^ nbits))

/-- The instruction the decoder reads from an instruction whose bits are `w`, numbered as the opcode table numbers
them. -/
def decodeTableWord (nbits w : Nat) : Option Instr :=
  match decodeBytes (tableBytes nbits w) with
  | .ok (i, _) => some i
  | .error _ => none

end

/-! ## The encoder, from the same tables -/

/-- A format-3 word (R631). -/
def fmt3 (op : BitVec 2) (rd : BitVec 5) (op3 : BitVec 6) (rs1 : BitVec 5) (low : BitVec 14) : Word32 :=
  op ++ (rd ++ (op3 ++ (rs1 ++ low)))

/-- A format-2 word (R626). -/
def fmt2 (rd : BitVec 5) (op2 : BitVec 3) (low : BitVec 22) : Word32 := 0#2 ++ (rd ++ (op2 ++ low))

/-- The word of an FPop or VIS instruction (R670, R675). -/
def fmtOpf (op3 : BitVec 6) (rd rs1 : Reg) (opf : BitVec 9) (rs2 : Reg) : Word32 := fmt3 2 rd op3 rs1 (opf ++ rs2)

/-- The word of an instruction. -/
def encode : Instr → Word32
  | .call disp30 => 1#2 ++ disp30
  | .illtrap rd c => fmt2 rd 0 c
  | .bpcc a c cc p d => fmt2 (bitFrom a ++ c.bits) 1 (cc.bits ++ (bitFrom p ++ d))
  | .bicc a c d => fmt2 (bitFrom a ++ c.bits) 2 d
  | .bpr a c p rs1 d => fmt2 (bitFrom a ++ (0#1 ++ c.bits)) 3 (d.extractLsb' 14 2 ++ (bitFrom p ++ (rs1 ++ d.extractLsb' 0 14)))
  | .nop => fmt2 0 4 0
  | .sethi rd imm => fmt2 rd 4 imm
  | .fbpfcc a c cc p d => fmt2 (bitFrom a ++ c.bits) 5 (cc ++ (bitFrom p ++ d))
  | .fbfcc a c d => fmt2 (bitFrom a ++ c.bits) 6 d
  | .add rd rs1 o => fmt3 2 rd 0x00 rs1 o.bits
  | .andI rd rs1 o => fmt3 2 rd 0x01 rs1 o.bits
  | .orI rd rs1 o => fmt3 2 rd 0x02 rs1 o.bits
  | .xorI rd rs1 o => fmt3 2 rd 0x03 rs1 o.bits
  | .sub rd rs1 o => fmt3 2 rd 0x04 rs1 o.bits
  | .andn rd rs1 o => fmt3 2 rd 0x05 rs1 o.bits
  | .orn rd rs1 o => fmt3 2 rd 0x06 rs1 o.bits
  | .xnor rd rs1 o => fmt3 2 rd 0x07 rs1 o.bits
  | .addc rd rs1 o => fmt3 2 rd 0x08 rs1 o.bits
  | .mulx rd rs1 o => fmt3 2 rd 0x09 rs1 o.bits
  | .umul rd rs1 o => fmt3 2 rd 0x0A rs1 o.bits
  | .smul rd rs1 o => fmt3 2 rd 0x0B rs1 o.bits
  | .subc rd rs1 o => fmt3 2 rd 0x0C rs1 o.bits
  | .udivx rd rs1 o => fmt3 2 rd 0x0D rs1 o.bits
  | .udiv rd rs1 o => fmt3 2 rd 0x0E rs1 o.bits
  | .sdiv rd rs1 o => fmt3 2 rd 0x0F rs1 o.bits
  | .addcc rd rs1 o => fmt3 2 rd 0x10 rs1 o.bits
  | .andcc rd rs1 o => fmt3 2 rd 0x11 rs1 o.bits
  | .orcc rd rs1 o => fmt3 2 rd 0x12 rs1 o.bits
  | .xorcc rd rs1 o => fmt3 2 rd 0x13 rs1 o.bits
  | .subcc rd rs1 o => fmt3 2 rd 0x14 rs1 o.bits
  | .andncc rd rs1 o => fmt3 2 rd 0x15 rs1 o.bits
  | .orncc rd rs1 o => fmt3 2 rd 0x16 rs1 o.bits
  | .xnorcc rd rs1 o => fmt3 2 rd 0x17 rs1 o.bits
  | .addccc rd rs1 o => fmt3 2 rd 0x18 rs1 o.bits
  | .umulcc rd rs1 o => fmt3 2 rd 0x1A rs1 o.bits
  | .smulcc rd rs1 o => fmt3 2 rd 0x1B rs1 o.bits
  | .subccc rd rs1 o => fmt3 2 rd 0x1C rs1 o.bits
  | .udivcc rd rs1 o => fmt3 2 rd 0x1E rs1 o.bits
  | .sdivcc rd rs1 o => fmt3 2 rd 0x1F rs1 o.bits
  | .taddcc rd rs1 o => fmt3 2 rd 0x20 rs1 o.bits
  | .tsubcc rd rs1 o => fmt3 2 rd 0x21 rs1 o.bits
  | .taddcctv rd rs1 o => fmt3 2 rd 0x22 rs1 o.bits
  | .tsubcctv rd rs1 o => fmt3 2 rd 0x23 rs1 o.bits
  | .mulscc rd rs1 o => fmt3 2 rd 0x24 rs1 o.bits
  | .sdivx rd rs1 o => fmt3 2 rd 0x2D rs1 o.bits
  | .sll rd rs1 c => fmt3 2 rd 0x25 rs1 c.bits
  | .sllx rd rs1 c => fmt3 2 rd 0x25 rs1 c.bits
  | .srl rd rs1 c => fmt3 2 rd 0x26 rs1 c.bits
  | .srlx rd rs1 c => fmt3 2 rd 0x26 rs1 c.bits
  | .sra rd rs1 c => fmt3 2 rd 0x27 rs1 c.bits
  | .srax rd rs1 c => fmt3 2 rd 0x27 rs1 c.bits
  | .popc rd o => fmt3 2 rd 0x2E 0 o.bits
  | .movcc rd c o => fmt3 2 rd 0x2C (c.selBits.extractLsb' 2 1 ++ c.condBits) (o.bits (c.selBits.extractLsb' 0 2))
  | .movr rd rs1 c o => fmt3 2 rd 0x2F rs1 (o.bits c.bits)
  | .jmpl rd rs1 o => fmt3 2 rd 0x38 rs1 o.bits
  | .returnI rs1 o => fmt3 2 0 0x39 rs1 o.bits
  | .tcc c cc rs1 o => fmt3 2 (0#1 ++ c.bits) 0x3A rs1 (o.bits cc.bits)
  | .save rd rs1 o => fmt3 2 rd 0x3C rs1 o.bits
  | .restore rd rs1 o => fmt3 2 rd 0x3D rs1 o.bits
  | .done => fmt3 2 0 0x3E 0 0
  | .retry => fmt3 2 1 0x3E 0 0
  | .saved => fmt3 2 0 0x31 0 0
  | .restored => fmt3 2 1 0x31 0 0
  | .allclean => fmt3 2 2 0x31 0 0
  | .otherw => fmt3 2 3 0x31 0 0
  | .normalw => fmt3 2 4 0x31 0 0
  | .invalw => fmt3 2 5 0x31 0 0
  | .flushw => fmt3 2 0 0x2B 0 0
  | .rdY rd => fmt3 2 rd 0x28 0x00 0
  | .rdCcr rd => fmt3 2 rd 0x28 0x02 0
  | .rdAsi rd => fmt3 2 rd 0x28 0x03 0
  | .rdTick rd => fmt3 2 rd 0x28 0x04 0
  | .rdPc rd => fmt3 2 rd 0x28 0x05 0
  | .rdFprs rd => fmt3 2 rd 0x28 0x06 0
  | .rdPcr rd => fmt3 2 rd 0x28 0x10 0
  | .rdPic rd => fmt3 2 rd 0x28 0x11 0
  | .rdGsr rd => fmt3 2 rd 0x28 0x13 0
  | .rdSoftint rd => fmt3 2 rd 0x28 0x16 0
  | .rdTickCmpr rd => fmt3 2 rd 0x28 0x17 0
  | .rdStick rd => fmt3 2 rd 0x28 0x18 0
  | .rdStickCmpr rd => fmt3 2 rd 0x28 0x19 0
  | .stbar => fmt3 2 0 0x28 0x0F 0
  | .membar c m => fmt3 2 0 0x28 0x0F (1#1 ++ (0#6 ++ (c ++ m)))
  | .wrY rs1 o => fmt3 2 0x00 0x30 rs1 o.bits
  | .wrCcr rs1 o => fmt3 2 0x02 0x30 rs1 o.bits
  | .wrAsi rs1 o => fmt3 2 0x03 0x30 rs1 o.bits
  | .wrTick rs1 o => fmt3 2 0x04 0x30 rs1 o.bits
  | .wrFprs rs1 o => fmt3 2 0x06 0x30 rs1 o.bits
  | .wrPcr rs1 o => fmt3 2 0x10 0x30 rs1 o.bits
  | .wrPic rs1 o => fmt3 2 0x11 0x30 rs1 o.bits
  | .wrGsr rs1 o => fmt3 2 0x13 0x30 rs1 o.bits
  | .wrSoftintSet rs1 o => fmt3 2 0x14 0x30 rs1 o.bits
  | .wrSoftintClr rs1 o => fmt3 2 0x15 0x30 rs1 o.bits
  | .wrSoftint rs1 o => fmt3 2 0x16 0x30 rs1 o.bits
  | .wrTickCmpr rs1 o => fmt3 2 0x17 0x30 rs1 o.bits
  | .wrStick rs1 o => fmt3 2 0x18 0x30 rs1 o.bits
  | .wrStickCmpr rs1 o => fmt3 2 0x19 0x30 rs1 o.bits
  | .sir imm => fmt3 2 0x0F 0x30 0 (1#1 ++ imm)
  | .rdprTpc rd => fmt3 2 rd 0x2A 0x00 0
  | .rdprTnpc rd => fmt3 2 rd 0x2A 0x01 0
  | .rdprTstate rd => fmt3 2 rd 0x2A 0x02 0
  | .rdprTt rd => fmt3 2 rd 0x2A 0x03 0
  | .rdprTick rd => fmt3 2 rd 0x2A 0x04 0
  | .rdprTba rd => fmt3 2 rd 0x2A 0x05 0
  | .rdprPstate rd => fmt3 2 rd 0x2A 0x06 0
  | .rdprTl rd => fmt3 2 rd 0x2A 0x07 0
  | .rdprPil rd => fmt3 2 rd 0x2A 0x08 0
  | .rdprCwp rd => fmt3 2 rd 0x2A 0x09 0
  | .rdprCansave rd => fmt3 2 rd 0x2A 0x0A 0
  | .rdprCanrestore rd => fmt3 2 rd 0x2A 0x0B 0
  | .rdprCleanwin rd => fmt3 2 rd 0x2A 0x0C 0
  | .rdprOtherwin rd => fmt3 2 rd 0x2A 0x0D 0
  | .rdprWstate rd => fmt3 2 rd 0x2A 0x0E 0
  | .rdprGl rd => fmt3 2 rd 0x2A 0x10 0
  | .wrprTpc rs1 o => fmt3 2 0x00 0x32 rs1 o.bits
  | .wrprTnpc rs1 o => fmt3 2 0x01 0x32 rs1 o.bits
  | .wrprTstate rs1 o => fmt3 2 0x02 0x32 rs1 o.bits
  | .wrprTt rs1 o => fmt3 2 0x03 0x32 rs1 o.bits
  | .wrprTick rs1 o => fmt3 2 0x04 0x32 rs1 o.bits
  | .wrprTba rs1 o => fmt3 2 0x05 0x32 rs1 o.bits
  | .wrprPstate rs1 o => fmt3 2 0x06 0x32 rs1 o.bits
  | .wrprTl rs1 o => fmt3 2 0x07 0x32 rs1 o.bits
  | .wrprPil rs1 o => fmt3 2 0x08 0x32 rs1 o.bits
  | .wrprCwp rs1 o => fmt3 2 0x09 0x32 rs1 o.bits
  | .wrprCansave rs1 o => fmt3 2 0x0A 0x32 rs1 o.bits
  | .wrprCanrestore rs1 o => fmt3 2 0x0B 0x32 rs1 o.bits
  | .wrprCleanwin rs1 o => fmt3 2 0x0C 0x32 rs1 o.bits
  | .wrprOtherwin rs1 o => fmt3 2 0x0D 0x32 rs1 o.bits
  | .wrprWstate rs1 o => fmt3 2 0x0E 0x32 rs1 o.bits
  | .wrprGl rs1 o => fmt3 2 0x10 0x32 rs1 o.bits
  | .rdhprHpstate rd => fmt3 2 rd 0x29 0x00 0
  | .rdhprHtstate rd => fmt3 2 rd 0x29 0x01 0
  | .rdhprHintp rd => fmt3 2 rd 0x29 0x03 0
  | .rdhprHtba rd => fmt3 2 rd 0x29 0x05 0
  | .rdhprHver rd => fmt3 2 rd 0x29 0x06 0
  | .rdhprHalt rd => fmt3 2 rd 0x29 0x1E 0
  | .rdhprHstickCmpr rd => fmt3 2 rd 0x29 0x1F 0
  | .wrhprHpstate rs1 o => fmt3 2 0x00 0x33 rs1 o.bits
  | .wrhprHtstate rs1 o => fmt3 2 0x01 0x33 rs1 o.bits
  | .wrhprHintp rs1 o => fmt3 2 0x03 0x33 rs1 o.bits
  | .wrhprHtba rs1 o => fmt3 2 0x05 0x33 rs1 o.bits
  | .wrhprHver rs1 o => fmt3 2 0x06 0x33 rs1 o.bits
  | .halt rs1 o => fmt3 2 0x1E 0x33 rs1 o.bits
  | .wrhprHstickCmpr rs1 o => fmt3 2 0x1F 0x33 rs1 o.bits
  | .flush rs1 o => fmt3 2 0 0x3B rs1 o.bits
  | .impdep2 rd rest => fmt3 2 rd 0x37 (rest.extractLsb' 14 5) (rest.extractLsb' 0 14)
  | .fmovs rd rs2 => fmtOpf 0x34 rd 0 0x001 rs2
  | .fmovd rd rs2 => fmtOpf 0x34 rd 0 0x002 rs2
  | .fnegs rd rs2 => fmtOpf 0x34 rd 0 0x005 rs2
  | .fnegd rd rs2 => fmtOpf 0x34 rd 0 0x006 rs2
  | .fabss rd rs2 => fmtOpf 0x34 rd 0 0x009 rs2
  | .fabsd rd rs2 => fmtOpf 0x34 rd 0 0x00A rs2
  | .fsqrts rd rs2 => fmtOpf 0x34 rd 0 0x029 rs2
  | .fsqrtd rd rs2 => fmtOpf 0x34 rd 0 0x02A rs2
  | .fadds rd rs1 rs2 => fmtOpf 0x34 rd rs1 0x041 rs2
  | .faddd rd rs1 rs2 => fmtOpf 0x34 rd rs1 0x042 rs2
  | .fsubs rd rs1 rs2 => fmtOpf 0x34 rd rs1 0x045 rs2
  | .fsubd rd rs1 rs2 => fmtOpf 0x34 rd rs1 0x046 rs2
  | .fmuls rd rs1 rs2 => fmtOpf 0x34 rd rs1 0x049 rs2
  | .fmuld rd rs1 rs2 => fmtOpf 0x34 rd rs1 0x04A rs2
  | .fdivs rd rs1 rs2 => fmtOpf 0x34 rd rs1 0x04D rs2
  | .fdivd rd rs1 rs2 => fmtOpf 0x34 rd rs1 0x04E rs2
  | .fsmuld rd rs1 rs2 => fmtOpf 0x34 rd rs1 0x069 rs2
  | .fstox rd rs2 => fmtOpf 0x34 rd 0 0x081 rs2
  | .fdtox rd rs2 => fmtOpf 0x34 rd 0 0x082 rs2
  | .fxtos rd rs2 => fmtOpf 0x34 rd 0 0x084 rs2
  | .fxtod rd rs2 => fmtOpf 0x34 rd 0 0x088 rs2
  | .fitos rd rs2 => fmtOpf 0x34 rd 0 0x0C4 rs2
  | .fdtos rd rs2 => fmtOpf 0x34 rd 0 0x0C6 rs2
  | .fitod rd rs2 => fmtOpf 0x34 rd 0 0x0C8 rs2
  | .fstod rd rs2 => fmtOpf 0x34 rd 0 0x0C9 rs2
  | .fstoi rd rs2 => fmtOpf 0x34 rd 0 0x0D1 rs2
  | .fdtoi rd rs2 => fmtOpf 0x34 rd 0 0x0D2 rs2
  | .fmovq rd rs1 rs2 => fmtOpf 0x34 rd rs1 0x003 rs2
  | .fnegq rd rs1 rs2 => fmtOpf 0x34 rd rs1 0x007 rs2
  | .fabsq rd rs1 rs2 => fmtOpf 0x34 rd rs1 0x00B rs2
  | .fsqrtq rd rs1 rs2 => fmtOpf 0x34 rd rs1 0x02B rs2
  | .faddq rd rs1 rs2 => fmtOpf 0x34 rd rs1 0x043 rs2
  | .fsubq rd rs1 rs2 => fmtOpf 0x34 rd rs1 0x047 rs2
  | .fmulq rd rs1 rs2 => fmtOpf 0x34 rd rs1 0x04B rs2
  | .fdivq rd rs1 rs2 => fmtOpf 0x34 rd rs1 0x04F rs2
  | .fdmulq rd rs1 rs2 => fmtOpf 0x34 rd rs1 0x06E rs2
  | .fqtox rd rs1 rs2 => fmtOpf 0x34 rd rs1 0x083 rs2
  | .fxtoq rd rs1 rs2 => fmtOpf 0x34 rd rs1 0x08C rs2
  | .fqtos rd rs1 rs2 => fmtOpf 0x34 rd rs1 0x0C7 rs2
  | .fqtod rd rs1 rs2 => fmtOpf 0x34 rd rs1 0x0CB rs2
  | .fitoq rd rs1 rs2 => fmtOpf 0x34 rd rs1 0x0CC rs2
  | .fstoq rd rs1 rs2 => fmtOpf 0x34 rd rs1 0x0CD rs2
  | .fdtoq rd rs1 rs2 => fmtOpf 0x34 rd rs1 0x0CE rs2
  | .fqtoi rd rs1 rs2 => fmtOpf 0x34 rd rs1 0x0D3 rs2
  | .fcmps fcc rs1 rs2 => fmtOpf 0x35 (0#3 ++ fcc) rs1 0x051 rs2
  | .fcmpd fcc rs1 rs2 => fmtOpf 0x35 (0#3 ++ fcc) rs1 0x052 rs2
  | .fcmpes fcc rs1 rs2 => fmtOpf 0x35 (0#3 ++ fcc) rs1 0x055 rs2
  | .fcmped fcc rs1 rs2 => fmtOpf 0x35 (0#3 ++ fcc) rs1 0x056 rs2
  | .fcmpq rd rs1 rs2 => fmtOpf 0x35 rd rs1 0x053 rs2
  | .fcmpeq rd rs1 rs2 => fmtOpf 0x35 rd rs1 0x057 rs2
  | .fmovscc rd c rs2 => fmtOpf 0x35 rd (0#1 ++ c.condBits) (c.selBits ++ 0x01#6) rs2
  | .fmovdcc rd c rs2 => fmtOpf 0x35 rd (0#1 ++ c.condBits) (c.selBits ++ 0x02#6) rs2
  | .fmovqcc rd c cc rs2 => fmtOpf 0x35 rd (0#1 ++ c) (cc ++ 0x03#6) rs2
  | .fmovrs rd rs1 c rs2 => fmtOpf 0x35 rd rs1 (0#1 ++ (c.bits ++ 0x05#5)) rs2
  | .fmovrd rd rs1 c rs2 => fmtOpf 0x35 rd rs1 (0#1 ++ (c.bits ++ 0x06#5)) rs2
  | .fmovrq rd rs1 c rs2 => fmtOpf 0x35 rd rs1 (0#1 ++ (c ++ 0x07#5)) rs2
  | .edge8 rd rs1 rs2 => fmtOpf 0x36 rd rs1 0x000 rs2
  | .edge8n rd rs1 rs2 => fmtOpf 0x36 rd rs1 0x001 rs2
  | .edge8l rd rs1 rs2 => fmtOpf 0x36 rd rs1 0x002 rs2
  | .edge8ln rd rs1 rs2 => fmtOpf 0x36 rd rs1 0x003 rs2
  | .edge16 rd rs1 rs2 => fmtOpf 0x36 rd rs1 0x004 rs2
  | .edge16n rd rs1 rs2 => fmtOpf 0x36 rd rs1 0x005 rs2
  | .edge16l rd rs1 rs2 => fmtOpf 0x36 rd rs1 0x006 rs2
  | .edge16ln rd rs1 rs2 => fmtOpf 0x36 rd rs1 0x007 rs2
  | .edge32 rd rs1 rs2 => fmtOpf 0x36 rd rs1 0x008 rs2
  | .edge32n rd rs1 rs2 => fmtOpf 0x36 rd rs1 0x009 rs2
  | .edge32l rd rs1 rs2 => fmtOpf 0x36 rd rs1 0x00A rs2
  | .edge32ln rd rs1 rs2 => fmtOpf 0x36 rd rs1 0x00B rs2
  | .array8 rd rs1 rs2 => fmtOpf 0x36 rd rs1 0x010 rs2
  | .array16 rd rs1 rs2 => fmtOpf 0x36 rd rs1 0x012 rs2
  | .array32 rd rs1 rs2 => fmtOpf 0x36 rd rs1 0x014 rs2
  | .alignaddress rd rs1 rs2 => fmtOpf 0x36 rd rs1 0x018 rs2
  | .bmask rd rs1 rs2 => fmtOpf 0x36 rd rs1 0x019 rs2
  | .alignaddressLittle rd rs1 rs2 => fmtOpf 0x36 rd rs1 0x01A rs2
  | .fcmple16 rd rs1 rs2 => fmtOpf 0x36 rd rs1 0x020 rs2
  | .fcmpne16 rd rs1 rs2 => fmtOpf 0x36 rd rs1 0x022 rs2
  | .fcmple32 rd rs1 rs2 => fmtOpf 0x36 rd rs1 0x024 rs2
  | .fcmpne32 rd rs1 rs2 => fmtOpf 0x36 rd rs1 0x026 rs2
  | .fcmpgt16 rd rs1 rs2 => fmtOpf 0x36 rd rs1 0x028 rs2
  | .fcmpeq16 rd rs1 rs2 => fmtOpf 0x36 rd rs1 0x02A rs2
  | .fcmpgt32 rd rs1 rs2 => fmtOpf 0x36 rd rs1 0x02C rs2
  | .fcmpeq32 rd rs1 rs2 => fmtOpf 0x36 rd rs1 0x02E rs2
  | .fmul8x16 rd rs1 rs2 => fmtOpf 0x36 rd rs1 0x031 rs2
  | .fmul8x16au rd rs1 rs2 => fmtOpf 0x36 rd rs1 0x033 rs2
  | .fmul8x16al rd rs1 rs2 => fmtOpf 0x36 rd rs1 0x035 rs2
  | .fmul8sux16 rd rs1 rs2 => fmtOpf 0x36 rd rs1 0x036 rs2
  | .fmul8ulx16 rd rs1 rs2 => fmtOpf 0x36 rd rs1 0x037 rs2
  | .fmuld8sux16 rd rs1 rs2 => fmtOpf 0x36 rd rs1 0x038 rs2
  | .fmuld8ulx16 rd rs1 rs2 => fmtOpf 0x36 rd rs1 0x039 rs2
  | .fpack32 rd rs1 rs2 => fmtOpf 0x36 rd rs1 0x03A rs2
  | .fpack16 rd rs2 => fmtOpf 0x36 rd 0 0x03B rs2
  | .fpackfix rd rs2 => fmtOpf 0x36 rd 0 0x03D rs2
  | .pdist rd rs1 rs2 => fmtOpf 0x36 rd rs1 0x03E rs2
  | .faligndata rd rs1 rs2 => fmtOpf 0x36 rd rs1 0x048 rs2
  | .fpmerge rd rs1 rs2 => fmtOpf 0x36 rd rs1 0x04B rs2
  | .bshuffle rd rs1 rs2 => fmtOpf 0x36 rd rs1 0x04C rs2
  | .fexpand rd rs2 => fmtOpf 0x36 rd 0 0x04D rs2
  | .fpadd16 rd rs1 rs2 => fmtOpf 0x36 rd rs1 0x050 rs2
  | .fpadd16s rd rs1 rs2 => fmtOpf 0x36 rd rs1 0x051 rs2
  | .fpadd32 rd rs1 rs2 => fmtOpf 0x36 rd rs1 0x052 rs2
  | .fpadd32s rd rs1 rs2 => fmtOpf 0x36 rd rs1 0x053 rs2
  | .fpsub16 rd rs1 rs2 => fmtOpf 0x36 rd rs1 0x054 rs2
  | .fpsub16s rd rs1 rs2 => fmtOpf 0x36 rd rs1 0x055 rs2
  | .fpsub32 rd rs1 rs2 => fmtOpf 0x36 rd rs1 0x056 rs2
  | .fpsub32s rd rs1 rs2 => fmtOpf 0x36 rd rs1 0x057 rs2
  | .fzero rd => fmtOpf 0x36 rd 0 0x060 0
  | .fzeros rd => fmtOpf 0x36 rd 0 0x061 0
  | .fnor rd rs1 rs2 => fmtOpf 0x36 rd rs1 0x062 rs2
  | .fnors rd rs1 rs2 => fmtOpf 0x36 rd rs1 0x063 rs2
  | .fandnot2 rd rs1 rs2 => fmtOpf 0x36 rd rs1 0x064 rs2
  | .fandnot2s rd rs1 rs2 => fmtOpf 0x36 rd rs1 0x065 rs2
  | .fnot2 rd rs2 => fmtOpf 0x36 rd 0 0x066 rs2
  | .fnot2s rd rs2 => fmtOpf 0x36 rd 0 0x067 rs2
  | .fandnot1 rd rs1 rs2 => fmtOpf 0x36 rd rs1 0x068 rs2
  | .fandnot1s rd rs1 rs2 => fmtOpf 0x36 rd rs1 0x069 rs2
  | .fnot1 rd rs1 => fmtOpf 0x36 rd rs1 0x06A 0
  | .fnot1s rd rs1 => fmtOpf 0x36 rd rs1 0x06B 0
  | .fxor rd rs1 rs2 => fmtOpf 0x36 rd rs1 0x06C rs2
  | .fxors rd rs1 rs2 => fmtOpf 0x36 rd rs1 0x06D rs2
  | .fnand rd rs1 rs2 => fmtOpf 0x36 rd rs1 0x06E rs2
  | .fnands rd rs1 rs2 => fmtOpf 0x36 rd rs1 0x06F rs2
  | .fand rd rs1 rs2 => fmtOpf 0x36 rd rs1 0x070 rs2
  | .fands rd rs1 rs2 => fmtOpf 0x36 rd rs1 0x071 rs2
  | .fxnor rd rs1 rs2 => fmtOpf 0x36 rd rs1 0x072 rs2
  | .fxnors rd rs1 rs2 => fmtOpf 0x36 rd rs1 0x073 rs2
  | .fsrc1 rd rs1 => fmtOpf 0x36 rd rs1 0x074 0
  | .fsrc1s rd rs1 => fmtOpf 0x36 rd rs1 0x075 0
  | .fornot2 rd rs1 rs2 => fmtOpf 0x36 rd rs1 0x076 rs2
  | .fornot2s rd rs1 rs2 => fmtOpf 0x36 rd rs1 0x077 rs2
  | .fsrc2 rd rs2 => fmtOpf 0x36 rd 0 0x078 rs2
  | .fsrc2s rd rs2 => fmtOpf 0x36 rd 0 0x079 rs2
  | .fornot1 rd rs1 rs2 => fmtOpf 0x36 rd rs1 0x07A rs2
  | .fornot1s rd rs1 rs2 => fmtOpf 0x36 rd rs1 0x07B rs2
  | .forD rd rs1 rs2 => fmtOpf 0x36 rd rs1 0x07C rs2
  | .forS rd rs1 rs2 => fmtOpf 0x36 rd rs1 0x07D rs2
  | .fone rd => fmtOpf 0x36 rd 0 0x07E 0
  | .fones rd => fmtOpf 0x36 rd 0 0x07F 0
  | .siam mode => fmtOpf 0x36 0 0 0x081 (0#2 ++ mode)
  | .lduw rd rs1 o => fmt3 3 rd 0x00 rs1 o.bits
  | .ldub rd rs1 o => fmt3 3 rd 0x01 rs1 o.bits
  | .lduh rd rs1 o => fmt3 3 rd 0x02 rs1 o.bits
  | .ldtw rd rs1 o => fmt3 3 rd 0x03 rs1 o.bits
  | .stw rd rs1 o => fmt3 3 rd 0x04 rs1 o.bits
  | .stb rd rs1 o => fmt3 3 rd 0x05 rs1 o.bits
  | .sth rd rs1 o => fmt3 3 rd 0x06 rs1 o.bits
  | .sttw rd rs1 o => fmt3 3 rd 0x07 rs1 o.bits
  | .ldsw rd rs1 o => fmt3 3 rd 0x08 rs1 o.bits
  | .ldsb rd rs1 o => fmt3 3 rd 0x09 rs1 o.bits
  | .ldsh rd rs1 o => fmt3 3 rd 0x0A rs1 o.bits
  | .ldx rd rs1 o => fmt3 3 rd 0x0B rs1 o.bits
  | .ldstub rd rs1 o => fmt3 3 rd 0x0D rs1 o.bits
  | .stx rd rs1 o => fmt3 3 rd 0x0E rs1 o.bits
  | .swap rd rs1 o => fmt3 3 rd 0x0F rs1 o.bits
  | .ldf rd rs1 o => fmt3 3 rd 0x20 rs1 o.bits
  | .lddf rd rs1 o => fmt3 3 rd 0x23 rs1 o.bits
  | .stf rd rs1 o => fmt3 3 rd 0x24 rs1 o.bits
  | .stdf rd rs1 o => fmt3 3 rd 0x27 rs1 o.bits
  | .lduwa rd rs1 a => fmt3 3 rd 0x10 rs1 a.bits
  | .lduba rd rs1 a => fmt3 3 rd 0x11 rs1 a.bits
  | .lduha rd rs1 a => fmt3 3 rd 0x12 rs1 a.bits
  | .ldtwa rd rs1 a => fmt3 3 rd 0x13 rs1 a.bits
  | .stwa rd rs1 a => fmt3 3 rd 0x14 rs1 a.bits
  | .stba rd rs1 a => fmt3 3 rd 0x15 rs1 a.bits
  | .stha rd rs1 a => fmt3 3 rd 0x16 rs1 a.bits
  | .sttwa rd rs1 a => fmt3 3 rd 0x17 rs1 a.bits
  | .ldswa rd rs1 a => fmt3 3 rd 0x18 rs1 a.bits
  | .ldsba rd rs1 a => fmt3 3 rd 0x19 rs1 a.bits
  | .ldsha rd rs1 a => fmt3 3 rd 0x1A rs1 a.bits
  | .ldxa rd rs1 a => fmt3 3 rd 0x1B rs1 a.bits
  | .ldstuba rd rs1 a => fmt3 3 rd 0x1D rs1 a.bits
  | .stxa rd rs1 a => fmt3 3 rd 0x1E rs1 a.bits
  | .swapa rd rs1 a => fmt3 3 rd 0x1F rs1 a.bits
  | .ldfa rd rs1 a => fmt3 3 rd 0x30 rs1 a.bits
  | .lddfa rd rs1 a => fmt3 3 rd 0x33 rs1 a.bits
  | .stfa rd rs1 a => fmt3 3 rd 0x34 rs1 a.bits
  | .stdfa rd rs1 a => fmt3 3 rd 0x37 rs1 a.bits
  | .ldtxa rd rs1 asi rs2 => fmt3 3 rd 0x13 rs1 (0#1 ++ (asi ++ rs2))
  | .ldblockf rd rs1 asi rs2 => fmt3 3 rd 0x33 rs1 (0#1 ++ (asi ++ rs2))
  | .stblockf rd rs1 asi rs2 => fmt3 3 rd 0x37 rs1 (0#1 ++ (asi ++ rs2))
  | .stpartialf rd rs1 asi rs2 => fmt3 3 rd 0x37 rs1 (0#1 ++ (asi ++ rs2))
  | .ldshortf rd rs1 asi rs2 => fmt3 3 rd 0x33 rs1 (0#1 ++ (asi ++ rs2))
  | .stshortf rd rs1 asi rs2 => fmt3 3 rd 0x37 rs1 (0#1 ++ (asi ++ rs2))
  | .ldfsr rs1 o => fmt3 3 0 0x21 rs1 o.bits
  | .ldxfsr rs1 o => fmt3 3 1 0x21 rs1 o.bits
  | .stfsr rs1 o => fmt3 3 0 0x25 rs1 o.bits
  | .stxfsr rs1 o => fmt3 3 1 0x25 rs1 o.bits
  | .ldqf rd rs1 o => fmt3 3 rd 0x22 rs1 o.bits
  | .stqf rd rs1 o => fmt3 3 rd 0x26 rs1 o.bits
  | .ldqfa rd rs1 a => fmt3 3 rd 0x32 rs1 a.bits
  | .stqfa rd rs1 a => fmt3 3 rd 0x36 rs1 a.bits
  | .prefetch rd rs1 o => fmt3 3 rd 0x2D rs1 o.bits
  | .prefetcha rd rs1 a => fmt3 3 rd 0x3D rs1 a.bits
  | .casa rd rs1 a rs2 => fmt3 3 rd 0x3C rs1 (a.bits rs2)
  | .casxa rd rs1 a rs2 => fmt3 3 rd 0x3E rs1 (a.bits rs2)

end Sys2Proof
end

