-- ==== Sys2Proof/Config.lean ====
section
/-! DEFINITION. Config.lean: what an implementation fixes (spec/00_scope.md R12) and the values the manual leaves open.
Every constant that has no body is opaque: no proof can learn its value. -/

namespace Sys2Proof

/-! ## Parameters of one chip -/

/-- Mask level of HVER, "4 bits major, 4 bits minor" (R12, spec/10_state.md R176). -/
opaque Config.hverMask : BitVec 8

/-- The chip serial number (R12, spec/68_ncu_platform.md R2162). -/
opaque Config.serialNumber : Word

/-- Which of the physical cores are available (R12, spec/61_interrupts_cmt.md R1500): CORE_AVAIL_MASK. At least one is; 0 stands
for all of them. The model executes strand 0 of the lowest one (spec/70_reset_and_hazards.md R2320 case 3). -/
opaque Config.coresAvailable : BitVec 8

/-- Which of the L2 banks are available (R12, spec/66_diag_debug.md R2051). -/
opaque Config.bankAvailable : BitVec 8

/-- The contents of the boot ROM behind the SSI, by physical address (R12, spec/68_ncu_platform.md R2200). Log entry 7,
DESIGN CHOICE. -/
opaque Config.bootRom : Nat → Byte

/-- How much DRAM is behind each memory controller, as a number of doublings of 512 MB (R12, spec/65_mcu_dram.md R1845: a
branch of TABLE 17-3 has 512 MB to 128 GB). Log entry 16, DESIGN CHOICE. -/
opaque Config.branchDoublings : Nat → Nat

/-- What the AMB configuration registers behind a memory controller hold, by controller and address (spec/65_mcu_dram.md
R1920). Log entry 24, DESIGN CHOICE. -/
opaque Config.ambRegister : Nat → Word → Word

/-- What a reserved bit that the manual prints "X" reads as, and a PLL lock bit of SERDES_PLL_STATUS_REG (spec/65_mcu_dram.md
R1916), by register address (spec/93_implementation_defined.md 2.1: one fixed unknown value). Log entry 6, DESIGN CHOICE. -/
opaque Config.unknownBits : Nat → Word

/-- Whether a TLB keeps the address bits below the page size as software wrote them, or zeroes them
(spec/12_mmu_translation.md R391). Log entry 19, DESIGN CHOICE. -/
opaque Config.tlbKeepsLowPa : Bool

/-- Whether the parity bits of a TLB entry make even or odd parity, which the manual does not state
(spec/13_mmu_registers.md R452). Log entry 19, DESIGN CHOICE. -/
opaque Config.tlbParityOdd : Bool

/-- Which half of a floating-point register the "even" syndrome belongs to: bits 63:32, the even-numbered register, or bits
31:0 (spec/62_errors_core.md R1610, spec/91_not_in_source.md). Log entry 54, DESIGN CHOICE. -/
opaque Config.evenSyndromeIsUpper : Bool

/-- The bytes of DRAM behind a memory controller (R1845). -/
def Config.branchBytes (k : Nat) : Nat := 2 ^ (29 + min (Config.branchDoublings k) 8)

/-- The value TCU_MBIST_BYPASS has after reset in a chip that lacks a core or an L2 bank: the bypass bits of the memories that it
lacks are set so that they are not tested, and which bits those are the manual does not give (spec/67_ecc_jtag.md R2135). Log
entry 5, DESIGN CHOICE. -/
opaque Config.mbistBypass : Word

/-- Whether the parity bit of the address of a store-buffer entry makes even or odd parity, which the manual does not state
(spec/66_diag_debug.md R2020). Log entry 12, DESIGN CHOICE. -/
opaque Config.storeParityOdd : Bool

/-- Whether CALL, JMPL and RETURN are counted as branches or as other instructions (spec/10_state.md R92). Log entry 10,
DESIGN CHOICE. -/
opaque Config.transferIsBranch : Bool

/-- Whether a prefetch is counted as a load or as an other instruction (R92). Log entry 10, DESIGN CHOICE. -/
opaque Config.prefetchIsLoad : Bool

/-! ## Open values -/

/-- What a free word stands for: one name for every place where the manual gives a step but not the value. -/
inductive OpenWord where
  /-- The data of a load whose error report is masked (spec/62_errors_core.md R1556, spec/63_errors_l2_dram.md R1711).
  Log entries 14 and 47. -/
  | maskedErrorData
  /-- The instruction word of a fetch whose error report is masked (R1556, spec/64_errors_soc.md R1767). Log entry 14. -/
  | maskedErrorFetch
  /-- A location of a cache, store-buffer or register-array check-bit field read through its diagnostic address
  (spec/66_diag_debug.md, decision D101). Log entry 12. -/
  | diagnosticArray
  /-- The error address and syndrome bits that the manual calls undefined (spec/62_errors_core.md R1610,
  spec/63_errors_l2_dram.md R1692, spec/64_errors_soc.md R1762). Log entry 15. -/
  | undefinedErrorInfo
  /-- The result of an ARRAY instruction with a size outside the defined range (spec/45_vis.md R1185). Log entry 21. -/
  | arrayResult
  /-- The translation that more than one matching TLB entry gives while the error is masked (spec/62_errors_core.md
  R1562, R1566). Log entry 17. -/
  | tlbMultipleHit
  /-- The random number (spec/68_ncu_platform.md R2186). Log entry 23. -/
  | randomNumber
  /-- The DRAM refresh counter (spec/65_mcu_dram.md R1856). Log entry 23. -/
  | refreshCounter
  /-- A load from a device of the PCI-Express, network or DMU address ranges, which the manual leaves to the platform;
  and what an access of an SSI register in another size than 8 bytes loads or stores (spec/20_memory.md R512). Log
  entries 25 and 52. -/
  | deviceRead
  /-- How often an event of the streams outside group 2 that PIC.h counts happens in this step (spec/10_state.md R93).
  Log entry 10. -/
  | eventHigh
  /-- The same for PIC.l. Log entry 10. -/
  | eventLow
  /-- Which of the bytes a load sees where a block store is still in the store buffer (spec/42_load_store.md R931, decision
  D71), and how much of the store buffer a warm reset drops (spec/70_reset_and_hazards.md R2247, decision
  D109). Log entries 11 and 32. -/
  | storeOrder
  /-- The entry of the store buffer that a store takes when the buffer is empty (spec/66_diag_debug.md R2020). Log entry 60. -/
  | storeIndex
  /-- Which of the requests of this step that the L1 caches or the store buffer may answer reach the L2 banks (spec/66_diag_debug.md
  R2079). Log entry 31. -/
  | l2Requests
  /-- Which of the errors that software injects into the SOC happen in this step (spec/64_errors_soc.md R1797). Log entry 62. -/
  | socInjection
  /-- Which line a memory controller writes to DRAM in this step while software injects errors into its writes, if any
  (spec/63_errors_l2_dram.md R1723). Log entry 65. -/
  | dramInjection
  /-- Which line the scrubber of a memory controller reads in this step, if any (spec/65_mcu_dram.md R1841). Log entry 65. -/
  | dramScrub
  /-- Which read of DRAM a link error that software injects spoils, if any (spec/63_errors_l2_dram.md R1710, R1727). Log entry
  62. -/
  | linkTarget
  /-- Which L2 banks tell a core of a `dsc` or `dsu` in this step, with their next miss (spec/63_errors_l2_dram.md R1691). Log entry
  62. -/
  | scrubForward
  /-- What the Polling state of an FBDIMM link determines (spec/65_mcu_dram.md R1910, R1911). Log entry 63. -/
  | linkPolling
  /-- Which of the enabled TSBs that match a parallel tablewalk takes (spec/12_mmu_translation.md R342). Log entry 18. -/
  | tablewalkOrder
  /-- What check bits a write stores while more than one error source is selected, "undefined results"
  (spec/62_errors_core.md R1640). Log entry 53. -/
  | injectedCheck
  /-- Which bits of ASI_CORE_RUNNING_STATUS follow ASI_CORE_RUNNING_RW in this step (spec/61_interrupts_cmt.md R1518, decision
  D31). Log entry 34. -/
  | runningStatus
  /-- How many comparisons of a compare register at the ends of a stretch of time happen in it (spec/10_state.md R75,
  spec/62_errors_core.md R1589). Log entry 53. -/
  | compareAccess
  deriving DecidableEq, Repr

/-- What a free bit stands for. -/
inductive OpenBit where
  /-- Whether the periodic TICK_CMPR comparison happens now (spec/10_state.md R75). Log entry 9. -/
  | tickCompare
  /-- The same for STICK_CMPR. Log entry 9. -/
  | stickCompare
  /-- The same for HSTICK_CMPR. Log entry 9. -/
  | hstickCompare
  /-- Which of the two orders the tablewalk predictor picks (spec/13_mmu_registers.md R425). Log entry 18. -/
  | tablewalkPredict
  /-- Whether a strand that enters the address hole with PSTATE.am set traps when am is cleared (spec/20_memory.md R506
  item 5). Log entry 20. -/
  | holeDetected
  /-- Whether a trap request of a spare SOC error entry is an uncorrectable one (spec/64_errors_soc.md R1793). Log entry
  45. -/
  | socSpareClass
  /-- Whether a block-initializing store to the first word of a line zeroes the rest of it (spec/42_load_store.md R940).
  Log entry 22. -/
  | blockInit
  /-- Whether a store leaves the store buffer before the read that looks (spec/20_memory.md R529). Log entry 11. -/
  | storeDrains
  /-- Whether a line with bad data has been written back to memory since the last access to it (spec/20_memory.md R550). Log
  entry 61. -/
  | lineEvicted
  /-- Whether a disrupting error trap waits for one more instruction (spec/62_errors_core.md R1559, spec/60_exceptions.md R1420).
  Log entry 38. -/
  | errorSkid
  /-- Which of two errors the privilege level and the index of DFESR are those of (spec/62_errors_core.md R1620, decision D91).
  Log entry 60. -/
  | deferredInfo
  /-- Whether a device of the DMU answers a load (spec/64_errors_soc.md R1766). Log entry 25. -/
  | deviceAnswers
  /-- Whether a store whose packet has an error on its way is performed (spec/64_errors_soc.md R1770). Log entry 62. -/
  | storePerformed
  /-- Whether the hardware ends the masking of link errors after a warm reset in this step (spec/66_diag_debug.md R2081). Log entry
  63. -/
  | linkRealigned
  /-- Whether a disrupting error is detected at the same time as the earlier ones of the step (spec/62_errors_core.md R1616). Log
  entry 60. -/
  | errorsTogether
  /-- Whether the chunks with bad data of a set of an L1 cache are still in it (spec/67_ecc_jtag.md R2121). Log entry 68. -/
  | l1Kept
  deriving DecidableEq, Repr

/-- The word an open point takes the `n`-th time a value is drawn. -/
opaque Config.freeWord : OpenWord → Nat → Word

/-- The bit an open point takes the `n`-th time a value is drawn. -/
opaque Config.freeBit : OpenBit → Nat → Bool

/-- The kinds of requests to an L2 bank. -/
inductive L2Kind where
  | fetch | load | prefetch | walk | atomic | store | blockStore | initStore
  deriving DecidableEq, Repr

/-- The code of the type of an L2 request (spec/66_diag_debug.md R2079). Log entry 31. -/
opaque Config.l2RequestType : L2Kind → BitVec 4

/-- How many core clocks pass in a step: the manual gives no instruction timing that software can rely on
(spec/70_reset_and_hazards.md). Log entry 9, DESIGN CHOICE. -/
opaque Config.clocks : Nat → BitVec 62

end Sys2Proof
end

