-- ==== Sys2Proof/Machine/State.lean ====
section
/-! DEFINITION. Machine/State.lean: everything the manual gives one strand and the chip registers it can reach, as plain
data, with the state right after power-on reset. INVENTORY.md lists each field with its rule. -/

namespace Sys2Proof.Machine

/-! ## Registers of the strand -/

/-- PSTATE, spec/10_state.md R110: the implemented bits; all others read 0. -/
structure PState where
  tct : Bool
  cle : Bool
  tle : Bool
  pef : Bool
  am : Bool
  priv : Bool
  ie : Bool
  deriving DecidableEq, Repr

/-- HPSTATE, R151. -/
structure HPState where
  ibe : Bool
  red : Bool
  hpriv : Bool
  tlz : Bool
  deriving DecidableEq, Repr

/-- One level of the trap stack: TPC, TNPC, TT, TSTATE and HTSTATE (R101 to R105, R160). TPC and TNPC hold bits 47:2; `tpcHole`
and `tnpcHole` are the bits of the trap stack array that say that the address was in the hole (spec/66_diag_debug.md R2040, bits
151 and 150). -/
structure TrapFrame where
  tpc : BitVec 46
  tnpc : BitVec 46
  tpcHole : Bool
  tnpcHole : Bool
  tt : BitVec 9
  gl : BitVec 2
  ccr : BitVec 8
  asi : BitVec 8
  pstate : PState
  cwp : BitVec 3
  hpstate : HPState
  deriving DecidableEq, Repr

/-- The integer registers, R51: four sets of globals, eight windows of locals, eight windows of in/out registers. -/
structure IntRegs where
  globals : File 5 Word
  locals : File 6 Word
  inouts : File 6 Word
  deriving DecidableEq, Repr

/-- The window registers, R120 to R122. -/
structure Windows where
  cwp : BitVec 3
  cansave : BitVec 3
  canrestore : BitVec 3
  cleanwin : BitVec 3
  otherwin : BitVec 3
  wstate : BitVec 6
  deriving DecidableEq, Repr

/-- FSR, R82: `ver`, `qne` and the reserved bits read 0 (R83). -/
structure Fsr where
  fcc0 : BitVec 2
  fcc1 : BitVec 2
  fcc2 : BitVec 2
  fcc3 : BitVec 2
  rd : BitVec 2
  tem : BitVec 5
  ns : Bool
  ftt : BitVec 3
  aexc : BitVec 5
  cexc : BitVec 5
  deriving DecidableEq, Repr

/-- GSR, R84. -/
structure Gsr where
  mask : BitVec 32
  im : Bool
  irnd : BitVec 2
  scale : BitVec 5
  align : BitVec 3
  deriving DecidableEq, Repr

/-- The timers, R70 to R77, R165. `counter` is the core's TICK and STICK counter. The three `…Seen` bits are the model's
own: whether the periodic comparison of R75 has happened in the present window of 128 counts. -/
structure Timers where
  npt : Bool
  counter : BitVec 63
  tickCmpr : Word
  stickCmpr : Word
  hstickCmpr : Word
  softint : BitVec 17
  hsp : Bool
  tickSeen : Bool
  stickSeen : Bool
  hstickSeen : Bool
  deriving DecidableEq, Repr

/-- LSU_CONTROL_REG, spec/11_state_asi_regs.md R220. -/
structure LsuControl where
  mode : BitVec 2
  bm : BitVec 8
  re : Bool
  we : Bool
  se : Bool
  dm : Bool
  im : Bool
  dc : Bool
  ic : Bool
  deriving DecidableEq, Repr

/-- The strand's watchpoints, R230, R240: data address bits 47:3; instruction address bits 47:2 with the enable. -/
structure Watch where
  data : BitVec 45
  inst : BitVec 46
  instEnable : Bool
  deriving DecidableEq, Repr

/-! ## The MMU, spec/12_mmu_translation.md and spec/13_mmu_registers.md -/

/-- The supported page sizes, R304. -/
inductive PageSize where
  | k8 | k64 | m4 | m256
  deriving DecidableEq, Repr

/-- One TLB entry, R310. The second copy of the context is a function of what is here. `tagBad` and `dataBad` say that a
parity bit is the wrong one (spec/62_errors_core.md R1563, R1564, R1640). -/
structure TlbEntry where
  valid : Bool
  used : Bool
  pid : BitVec 3
  real : Bool
  va : BitVec 35
  context : BitVec 13
  pa : BitVec 27
  nfo : Bool
  ie : Bool
  e : Bool
  cp : Bool
  p : Bool
  w : Bool
  size : PageSize
  tagBad : Bool
  dataBad : Bool
  deriving DecidableEq, Repr

/-- A Tag Access register, R415: address bits 47:13 and the context. -/
structure TagAccess where
  va : BitVec 35
  context : BitVec 13
  deriving DecidableEq, Repr

/-- A Real Range register, R430. -/
structure RealRange where
  enable : Bool
  high : BitVec 27
  low : BitVec 27
  deriving DecidableEq, Repr

/-- A TSB Config register, R435. -/
structure TsbConfig where
  enable : Bool
  useContext0 : Bool
  useContext1 : Bool
  base : BitVec 27
  raNotPa : Bool
  pageSize : PageSize
  tsbSize : BitVec 4
  deriving DecidableEq, Repr

/-- The MMU registers of the strand, R401. `dsfar` is the D-SFAR's 48 bits with bit 48 for the error formats whose upper
bits read 0 instead of the sign (spec/62_errors_core.md R1610). -/
structure Mmu where
  primary0 : BitVec 13
  primary1 : BitVec 13
  secondary0 : BitVec 13
  secondary1 : BitVec 13
  pid : BitVec 3
  itag : TagAccess
  dtag : TagAccess
  dsfar : BitVec 48
  dsfarError : Bool
  hwtw : BitVec 2
  realRange : File 2 RealRange
  physOffset : File 2 (BitVec 27)
  tsbZero : File 2 TsbConfig
  tsbNonzero : File 2 TsbConfig
  stp : Bool
  deriving DecidableEq, Repr

/-! ## Error, debug, interrupt and CMT registers -/

/-- DESR, spec/62_errors_core.md R1615. -/
structure Desr where
  f : Bool
  me : Bool
  s : Bool
  errtype : BitVec 5
  erraddr : BitVec 11
  deriving DecidableEq, Repr

/-- DFESR, R1620. -/
structure Dfesr where
  sba : Bool
  sbdio : Bool
  priv : BitVec 2
  stbindex : BitVec 3
  deriving DecidableEq, Repr

/-- Errors that are detected at the same time (spec/62_errors_core.md R1616): DESR before them, and of each group,
sw_recoverable_error and hw_corrected_error, the one of the highest relative priority (R1617), with that priority, its `errtype`
and its address bits. -/
structure ErrorEvent where
  base : Desr
  sre : Option (Nat × BitVec 5 × BitVec 11)
  hce : Option (Nat × BitVec 5 × BitVec 11)
  deriving DecidableEq, Repr

/-- The error registers of the strand and its core: I-SFSR, D-SFSR, DESR, DFESR, CLFESR{63:48}, CERER, SETER{62:60},
ERROR_INJECT (R1590 to R1640). `together` is the model's own: the errors of the present step that another one may be detected
together with. -/
structure ErrRegs where
  isfsr : BitVec 3
  dsfsr : BitVec 4
  desr : Desr
  together : Option ErrorEvent
  dfesr : Dfesr
  clfesr : BitVec 16
  cerer : Word
  seter : BitVec 3
  inject : BitVec 32
  deriving DecidableEq, Repr

/-- Debug and power registers of the core: INST_MASK, LSU_DIAG, DECR, SPARC_PWR_MGMT (spec/66_diag_debug.md R1975, R1980,
spec/62_errors_core.md R1600, spec/11_state_asi_regs.md R250), and OVERLAP_MODE: whether the strand is in Disable Overlap or Single
Step mode, which only JTAG commands enter (spec/66_diag_debug.md R2075, spec/70_reset_and_hazards.md R2250; that one bit says so is
log entry 36, DESIGN CHOICE). -/
structure DebugRegs where
  instMask : BitVec 39
  lsuDiag : BitVec 2
  decr : Word
  pwrMgmt : BitVec 16
  overlapMode : Bool
  deriving DecidableEq, Repr

/-- What the strand is doing, spec/61_interrupts_cmt.md R1530. A disabled strand executes nothing until a warm reset.
`stopped`: a debug event has stopped the clocks (spec/66_diag_debug.md R2084). `hung`: an access was never answered
(spec/64_errors_soc.md R1765, R1770). -/
inductive RunState where
  | running | halted | parked | disabled | stopped | hung
  deriving DecidableEq, Repr

/-- Interrupt registers: ASI_INTR_RECEIVE and the eight queue pointers, bits 17:6, in the order of their addresses
(R1460, R1470). -/
structure Intr where
  receive : Word
  queue : File 3 (BitVec 12)
  deriving DecidableEq, Repr

/-- The CMT registers of the chip, R1502 to R1518, and the reset vector mask (spec/70_reset_and_hazards.md R2240). `lag` says in
which bits ASI_CORE_RUNNING_STATUS, which follows `running` with a delay, still differs from it (R1518). -/
structure Cmt where
  enableStatus : Word
  enable : Word
  xirSteering : Word
  tickEnable : Bool
  running : Word
  lag : Word
  rstVecMask : Bool
  deriving DecidableEq, Repr

/-- A chipwide reset that has been asked for (R2231). -/
inductive ChipReset where
  | wmr | dbr
  deriving DecidableEq, Repr

/-- The kinds of stores to memory by their order: a block store and a block-initializing store are relaxed
(spec/20_memory.md R528, R529). -/
inductive StoreKind where
  | ordinary | block | init
  deriving DecidableEq, Repr

/-- A store that is still in the store buffer (spec/20_memory.md R529; spec/66_diag_debug.md R2020): its address; the bytes that
it writes, each with what memory held before it; how many of them, from the first, a later load of the strand finds in the
buffer; its privilege level (00 user, 01 supervisor, 10 hyperprivileged); its entry of the buffer; by how much the check bits
of its data differ from the right ones, and whether the parity of its address is wrong (spec/62_errors_core.md R1581,
R1640). -/
structure PendingStore where
  pa : Nat
  old : List Host.Cell
  seen : Nat
  kind : StoreKind
  level : BitVec 2
  index : BitVec 3
  ecc : BitVec 7
  camBad : Bool
  deriving DecidableEq, Repr

/-- What is known of a line of memory that is in error: whether it is in the L2 cache; which of its 32-bit sublines are marked
NotData there (spec/63_errors_l2_dram.md R1681); whether it has been written there; whether the data of its marked sublines is not
known (R1710); by how much the check bits of its four 16-byte chunks in DRAM differ from the right ones (R1723), of which one
syndrome is that of signalling ECC (R1688); and the bytes of DRAM that differ from those of the cache. -/
structure MemLine where
  resident : Bool
  marks : BitVec 16
  dirty : Bool
  unknown : Bool
  syndromes : File 2 (BitVec 16)
  dram : List Host.Cell
  deriving DecidableEq, Repr

/-- The debug events of the present step that its registers do not show (spec/66_diag_debug.md R2074, R2078): a disrupting and a
deferred error of the core, the wrap of a performance counter, and, where their triggers are enabled, an error of the SOC, of
each memory controller and of each L2 bank. The model's own. -/
structure DebugEvents where
  disrupting : Bool
  deferred : Bool
  wrap : Bool
  soc : Bool
  mcu : BitVec 4
  l2 : BitVec 8
  deriving DecidableEq, Repr

/-- What an L1 cache may hold of a 16-byte chunk: no bad data; bad data, with the parity that belongs to it; or bad data with bad
parity (spec/63_errors_l2_dram.md R1683, R1684, R1711; spec/67_ecc_jtag.md R2120, R2121). -/
inductive L1Chunk where
  | absent | badData | badParity
  deriving DecidableEq, Repr

/-! ## The machine -/

/-- The whole machine.

`csr` holds the registers of the chip outside the cores, by physical address: what is not listed is at its reset value.
`mem` holds DRAM and `rom` the boot ROM, by physical address: what is not listed is `0` or the ROM's own contents.
`chipReset` and `xirPending` are resets asked for by a register write and not yet taken. `debugWait` holds the debug events
whose response waits for the TCU cycle counter: whether a stop of the clocks, and how many pulses of the pin TRIGOUT
(spec/66_diag_debug.md R2086). `trigout` counts the pulses of TRIGOUT, an output of the machine (decision D102).
`storeError` is a deferred store_error that has not been taken (spec/62_errors_core.md R1621).
`checks` says by how much the check bits of an entry of a protected array differ from the right ones: not at all for what is
not listed (spec/62_errors_core.md R1640).
`undrained` is the store buffer of R529, newest store first: `mem` already holds what memory holds when it is drained.
`notData` holds the lines of memory that are known to be in error, by address / 64 (spec/63_errors_l2_dram.md R1681, R1688, R1723);
of a line that is not listed nothing is known to be wrong. `l1d` and `l1i` hold the chunks with bad data that the data and the
instruction cache may hold, by address / 16 (spec/67_ecc_jtag.md R2120). `intManSet` says which entries of INT_MAN have been written since the
power-on reset (spec/61_interrupts_cmt.md R1480).
`unreported` holds the DRAM scrub and link errors that the L2 banks have not yet told a core of: bit b a `dsc` of bank b, bit
8 + b a `dsu` (R1691). `realign` holds the memory controllers whose `mask_err` hardware is about to clear after a warm reset
(spec/66_diag_debug.md R2081).
`linkLine`, `events`, `oracle` and `taken` are the model's own: the line whose read in the present step meets an injected link
error, and whether that is an unrecoverable one; the debug events of the present step, the number of free values drawn, and the
trap the present step has taken. -/
structure State where
  regs : IntRegs
  pc : Word
  npc : Word
  win : Windows
  gl : BitVec 2
  ccr : BitVec 8
  y : BitVec 32
  asi : BitVec 8
  fprs : BitVec 3
  fregs : File 6 Word32
  fsr : Fsr
  gsr : Gsr
  pcr : Word
  pic : Word
  pstate : PState
  hpstate : HPState
  tl : BitVec 3
  pil : BitVec 4
  tba : BitVec 33
  htba : BitVec 34
  traps : File 3 TrapFrame
  tim : Timers
  scratch : File 3 Word
  lsu : LsuControl
  watch : Watch
  mmu : Mmu
  itlb : File 6 TlbEntry
  dtlb : File 7 TlbEntry
  err : ErrRegs
  dbg : DebugRegs
  intr : Intr
  cmt : Cmt
  run : RunState
  chipReset : Option ChipReset
  xirPending : Bool
  debugWait : Option (Bool × Nat)
  trigout : Nat
  checks : List (Nat × BitVec 8)
  csr : List (Nat × Word)
  rom : List Host.Cell
  mem : List Host.Cell
  undrained : List PendingStore
  storeError : Bool
  notData : List (Nat × MemLine)
  l1d : List (Nat × L1Chunk)
  l1i : List (Nat × L1Chunk)
  intManSet : BitVec 128
  unreported : BitVec 16
  realign : BitVec 4
  linkLine : Option (Nat × Bool)
  events : DebugEvents
  oracle : Nat
  taken : Option (BitVec 9)
  deriving DecidableEq, Repr

/-- Why the machine stops with a fault. -/
inductive Fault where
  /-- An instruction fetch from the L2 control registers, "can cause undefined behavior" (spec/20_memory.md R509, and
  spec/93_implementation_defined.md: the undefined fetch outcome). Raised by the fetch. Safe: the model stops where the
  hardware does something unstated. -/
  | undefinedFetch (pa : Nat)
  deriving DecidableEq, Repr

/-- Why an instruction has no meaning. -/
inductive Refusal where
  /-- The instruction has no meaning in the model yet. Raised by the dispatcher only. Safe. -/
  | notModelled (mnemonic : String)
  /-- A store that software must never make: the manual calls what follows unpredictable or undefined
  (spec/93_implementation_defined.md). Raised by stores to the register named. Safe. -/
  | unpredictableStore (register : String)
  /-- An access of a kind the manual calls undefined at this device (spec/20_memory.md R512, R513). Raised by loads and
  stores. Safe. -/
  | undefinedAccess (what : String)
  /-- A block operation to a device whose behaviour the manual does not give (spec/93_implementation_defined.md).
  Raised by block stores. Safe. -/
  | deviceAccess (what : String)
  deriving DecidableEq, Repr

/-! ## Reset, R195 and spec/70_reset_and_hazards.md R2245, R2250 -/

/-- The trap frame of a level that no trap has used. -/
def TrapFrame.zero : TrapFrame where
  tpc := 0
  tnpc := 0
  tpcHole := false
  tnpcHole := false
  tt := 0
  gl := 0
  ccr := 0
  asi := 0
  pstate := ⟨false, false, false, false, false, false, false⟩
  cwp := 0
  hpstate := ⟨false, false, false, false⟩

/-- An invalid TLB entry, R349. -/
def TlbEntry.invalid : TlbEntry where
  valid := false
  used := false
  pid := 0
  real := false
  va := 0
  context := 0
  pa := 0
  nfo := false
  ie := false
  e := false
  cp := false
  p := false
  w := false
  size := .k8
  tagBad := false
  dataBad := false

/-- PSTATE after power-on reset, R111. -/
def PState.reset : PState := ⟨false, false, false, true, false, true, false⟩

/-- HPSTATE after every reset, R152. -/
def HPState.reset : HPState := ⟨false, true, true, false⟩

/-- LSU_CONTROL_REG after every reset, R221. -/
def LsuControl.reset : LsuControl := ⟨0, 0, false, false, false, false, false, false, false⟩

/-- A TSB Config register at reset, R435. -/
def TsbConfig.reset : TsbConfig := ⟨false, false, false, 0, false, .k8, 0⟩

/-- No debug event. -/
def DebugEvents.none : DebugEvents := ⟨false, false, false, false, 0, 0⟩

/-- The available physical cores (R1500). -/
def coresPresent : BitVec 8 := if Config.coresAvailable = 0 then 0xFF else Config.coresAvailable

/-- The strands that exist: every strand of the available cores (R1500). -/
def coreAvailable : Word :=
  (List.range 8).foldl (fun acc c => if coresPresent.getLsbD c then acc ||| ((0xFF : Word) <<< (8 * c)) else acc) 0

/-- The lowest physical core that a mask of cores names. -/
def lowestCore (cores : BitVec 8) : Nat := ((List.range 8).find? (fun c => cores.getLsbD c)).getD 0

/-- The number of the strand that this model executes: strand 0 of the lowest available core, the one that runs after power-on
reset (spec/61_interrupts_cmt.md R1514, spec/70_reset_and_hazards.md R2320 case 3). -/
def ownStrand : BitVec 6 := BitVec.ofNat 6 (8 * lowestCore coresPresent)

/-- Its bit in the registers that have a bit for each strand. -/
def ownBit : Word := (1 : Word) <<< ownStrand.toNat

/-- The machine right after power-on reset: spec/10_state.md R195, spec/13_mmu_registers.md R460,
spec/70_reset_and_hazards.md R2250. TT[6] is 1 and TL is 6. TPC[6], and TPC, TNPC, TT, TSTATE and HTSTATE of the trap levels 1
to 5, are unspecified after power-on (spec/70_reset_and_hazards.md R2246, R2255): they are 0 here (log entry 3, DESIGN
CHOICE). -/
def State.reset : State where
  regs := ⟨fileOf 5 0, fileOf 6 0, fileOf 6 0⟩
  pc := 0xFFFFFFFFF0000020
  npc := 0xFFFFFFFFF0000024
  win := ⟨0, 6, 0, 7, 0, 0⟩
  gl := 3
  ccr := 0
  y := 0
  asi := 0
  fprs := 4
  fregs := fileOf 6 0
  fsr := ⟨0, 0, 0, 0, 0, 0, false, 0, 0, 0⟩
  gsr := ⟨0, false, 0, 0, 0⟩
  pcr := 0
  pic := 0
  pstate := .reset
  hpstate := .reset
  tl := 6
  pil := 0
  tba := 0
  htba := 0
  traps := fileSet (fileOf 3 .zero) 6 { TrapFrame.zero with tt := 1 }
  tim := ⟨true, 0, 0x8000000000000000, 0x8000000000000000, 0x8000000000000000, 0, false, false, false, false⟩
  scratch := fileOf 3 0
  lsu := .reset
  watch := ⟨0, 0, false⟩
  mmu := ⟨0, 0, 0, 0, 0, ⟨0, 0⟩, ⟨0, 0⟩, 0, false, 0, fileOf 2 ⟨false, 0, 0⟩, fileOf 2 0, fileOf 2 .reset,
    fileOf 2 .reset, false⟩
  itlb := fileOf 6 .invalid
  dtlb := fileOf 7 .invalid
  err := ⟨0, 0, ⟨false, false, false, 0, 0⟩, none, ⟨false, false, 0, 0⟩, 0, 0, 0, 0⟩
  dbg := ⟨0, 0, 0, 0, false⟩
  intr := ⟨0, fileOf 3 0⟩
  cmt := ⟨coreAvailable, coreAvailable, coreAvailable, false, ownBit, 0, false⟩
  run := .running
  chipReset := none
  xirPending := false
  debugWait := none
  trigout := 0
  checks := []
  csr := []
  rom := []
  mem := []
  undrained := []
  storeError := false
  notData := []
  l1d := []
  l1i := []
  intManSet := 0
  unreported := 0
  realign := 0
  linkLine := none
  events := .none
  oracle := 0
  taken := none

end Sys2Proof.Machine
end

