-- ==== Sys2Proof/Machine/Ops.lean ====
section
/-! DEFINITION. Machine/Ops.lean: the named operations of the strand: its mode, its registers, the program counters, taking
an exception (spec/60_exceptions.md section 6), the strand's resets, and the return from a trap
(spec/41_control_transfer.md section 5). -/

namespace Sys2Proof.Machine

/-! ## Words and bits -/

/-- One bit of a register as a truth value (spec/00_scope.md R20). -/
def bitAt {w : Nat} (v : BitVec w) (i : Nat) : Bool := v.getLsbD i

/-- A truth value as one bit. -/
def boolBit (b : Bool) : BitVec 1 := if b then 1 else 0

/-- A 48-bit address as the 64-bit value software sees: bits 63:48 repeat bit 47 (spec/10_state.md R60, R102). -/
def sext48 (a : BitVec 48) : Word := a.signExtend 64

/-- An address as software or the fetch uses it: with PSTATE.am = 1, bits 63:32 are 0 (R63,
spec/20_memory.md R507). -/
def maskAddr (am : Bool) (a : Word) : Word := if am then (a.setWidth 32).setWidth 64 else a

/-- An address is in the hole of the 48-bit address space (spec/20_memory.md R506). -/
def outOfRange (a : Word) : Bool :=
  let high : BitVec 17 := a.extractLsb' 47 17
  high != 0 && high != 0x1FFFF

/-! ## What a meaning answers -/

/-- The outcome of a part of an instruction: a value with the state, a trap raised in a state (whose fault registers the
rule has written), an access that is never answered, a refusal, or a fault. -/
inductive Res (α : Type) where
  | ok (a : α) (s : State)
  | trap (tt : BitVec 9) (s : State)
  | hang (s : State)
  | refuse (r : Refusal)
  | fault (f : Fault)
  deriving Repr

/-- Go on with the value and the state, if there are any. -/
def Res.bind {α β : Type} (x : Res α) (k : α → State → Res β) : Res β :=
  match x with
  | .ok a s => k a s
  | .trap tt s => .trap tt s
  | .hang s => .hang s
  | .refuse r => .refuse r
  | .fault f => .fault f

/-- The first condition of a list that holds raises its trap; otherwise go on (spec/60_exceptions.md R1316: "the first
that applies"). -/
def firstTrap {α : Type} (s : State) (checks : List (Bool × BitVec 9)) (k : Res α) : Res α :=
  match checks with
  | [] => k
  | (c, tt) :: rest => if c then .trap tt s else firstTrap s rest k

/-! ## Modes, spec/60_exceptions.md R1301 -/

/-- The privilege level of the strand. -/
inductive Level where
  | user | priv | hyper
  deriving DecidableEq, Repr

/-- R1301: HPSTATE.hpriv decides first, then PSTATE.priv. -/
def State.level (s : State) : Level :=
  if s.hpstate.hpriv then .hyper else if s.pstate.priv then .priv else .user

/-- MAXTL (spec/00_scope.md R11). -/
def maxTl : BitVec 3 := 6

/-- MAXPTL, as a trap level. -/
def maxPtl : BitVec 3 := 2

/-! ## Register layouts -/

/-- PSTATE bits 12:0 (spec/10_state.md R110). -/
def PState.bits (p : PState) : BitVec 13 :=
  boolBit p.tct ++ 0#2 ++ boolBit p.cle ++ boolBit p.tle ++ 0#3 ++ boolBit p.pef ++ boolBit p.am ++
    boolBit p.priv ++ boolBit p.ie ++ 0#1

/-- The implemented bits of a value written to PSTATE; the others are ignored (R110). -/
def PState.ofBits (v : BitVec 13) : PState :=
  ⟨bitAt v 12, bitAt v 9, bitAt v 8, bitAt v 4, bitAt v 3, bitAt v 2, bitAt v 1⟩

/-- HPSTATE as a register (R151). -/
def HPState.word (h : HPState) : Word :=
  (boolBit h.ibe ++ 0#4 ++ boolBit h.red ++ 0#2 ++ boolBit h.hpriv ++ 0#1 ++ boolBit h.tlz : BitVec 11).setWidth 64

/-- The implemented bits of a value written to HPSTATE or HTSTATE (R151, R160). -/
def HPState.ofWord (v : Word) : HPState := ⟨bitAt v 10, bitAt v 5, bitAt v 2, bitAt v 0⟩

/-- TSTATE as a register (R103). -/
def TrapFrame.tstate (t : TrapFrame) : Word :=
  (t.gl ++ t.ccr ++ t.asi ++ 0#3 ++ t.pstate.bits ++ 0#5 ++ t.cwp : BitVec 42).setWidth 64

/-- A frame with its TSTATE fields taken from a written word; reserved bits are ignored (R103). -/
def TrapFrame.withTstate (t : TrapFrame) (v : Word) : TrapFrame :=
  { t with
    gl := v.extractLsb' 40 2
    ccr := v.extractLsb' 32 8
    asi := v.extractLsb' 24 8
    pstate := PState.ofBits (v.extractLsb' 8 13)
    cwp := v.extractLsb' 0 3 }

/-- TPC or TNPC as a register (R102). -/
def tpcWord (t : BitVec 46) : Word := sext48 (t ++ 0#2)

/-- What TPC or TNPC keeps of a program counter (R60, R63): bits 47:2, after the masking of PSTATE.am. -/
def savedPc (am : Bool) (pc : Word) : BitVec 46 := (maskAddr am pc).extractLsb' 2 46

/-- The trap stack element of the current level (R101). -/
def State.frame (s : State) : TrapFrame := fileGet s.traps s.tl

/-- TBA as a register (R106). -/
def tbaWord (t : BitVec 33) : Word := sext48 (t ++ 0#15)

/-- HTBA as a register (R170). -/
def htbaWord (t : BitVec 34) : Word := sext48 (t ++ 0#14)

/-- HVER (R176). -/
def hverWord : Word := 0x003E#16 ++ 0x0024#16 ++ Config.hverMask ++ 0x030607#24

/-! ## Integer registers, R51 to R53 -/

/-- Where an integer register is stored. -/
inductive RegSlot where
  | zero
  | global (i : BitVec 5)
  | windowLocal (i : BitVec 6)
  | inout (i : BitVec 6)
  deriving DecidableEq, Repr

/-- The storage of `r[i]` in global set `gl` and window `cwp` (R51). -/
def regSlot (gl : BitVec 2) (cwp : BitVec 3) (r : Reg) : RegSlot :=
  let n : BitVec 3 := r.extractLsb' 0 3
  if r = 0 then .zero
  else if r.extractLsb' 3 2 = 0 then .global (gl ++ n)
  else if r.extractLsb' 3 2 = 1 then .inout ((cwp + 1) ++ n)
  else if r.extractLsb' 3 2 = 2 then .windowLocal (cwp ++ n)
  else .inout (cwp ++ n)

/-- What a storage place holds; the zero register reads 0 (R52). -/
def IntRegs.get (f : IntRegs) : RegSlot → Word
  | .zero => 0
  | .global i => fileGet f.globals i
  | .windowLocal i => fileGet f.locals i
  | .inout i => fileGet f.inouts i

/-- The files after a write; a write to the zero register is discarded (R52). -/
def IntRegs.set (f : IntRegs) (slot : RegSlot) (v : Word) : IntRegs :=
  match slot with
  | .zero => f
  | .global i => { f with globals := fileSet f.globals i v }
  | .windowLocal i => { f with locals := fileSet f.locals i v }
  | .inout i => { f with inouts := fileSet f.inouts i v }

/-- The storage of a register in the present window and global set. -/
def State.slot (s : State) (r : Reg) : RegSlot := regSlot s.gl s.win.cwp r

/-- `r[i]` (spec/00_scope.md R23). -/
def State.reg (s : State) (r : Reg) : Word := s.regs.get (s.slot r)

/-- `r[i] <- v` (R23). -/
def State.setReg (s : State) (r : Reg) (v : Word) : State := { s with regs := s.regs.set (s.slot r) v }

/-! ## Floating-point registers, R80 -/

/-- The pair of words a double-precision field names: its number is `b[0] :: b[4:1] :: 0`. -/
def doublePair (b : Reg) : BitVec 5 := b.extractLsb' 0 1 ++ b.extractLsb' 1 4

/-- `f32[i]`. -/
def State.f32 (s : State) (r : Reg) : Word32 := fileGet s.fregs (0#1 ++ r)

/-- The double-precision register of pair `d`. -/
def State.pair (s : State) (d : BitVec 5) : Word := fileGet s.fregs (d ++ 0#1) ++ fileGet s.fregs (d ++ 1#1)

/-- `f64` of a register field. -/
def State.f64 (s : State) (b : Reg) : Word := s.pair (doublePair b)

/-- FPRS with the dirty bit of one half of the file set: `du` for f32 to f62, `dl` for f0 to f31 (R68, R69). -/
def dirty (fprs : BitVec 3) (upper : Bool) : BitVec 3 := fprs ||| (if upper then 2 else 1)

/-- `f32[i] <- v`, with FPRS.dl (R69). -/
def State.setF32 (s : State) (r : Reg) (v : Word32) : State :=
  { s with fregs := fileSet s.fregs (0#1 ++ r) v, fprs := dirty s.fprs false }

/-- Write the double-precision register of pair `d`, with the dirty bit of its half (R69). -/
def State.setPair (s : State) (d : BitVec 5) (v : Word) : State :=
  { s with
    fregs := fileSet (fileSet s.fregs (d ++ 0#1) (v.extractLsb' 32 32)) (d ++ 1#1) (v.extractLsb' 0 32)
    fprs := dirty s.fprs (bitAt d 4) }

/-- `f64 <- v` of a register field. -/
def State.setF64 (s : State) (b : Reg) (v : Word) : State := s.setPair (doublePair b) v

/-- The floating-point unit is enabled (R68). -/
def State.fpEnabled (s : State) : Bool := s.pstate.pef && bitAt s.fprs 2

/-! ## Program counters, R60 to R63 -/

/-- Instruction completion (spec/00_scope.md R24). -/
def State.advance (s : State) : State := { s with pc := s.npc, npc := s.npc + 4 }

/-- A taken delayed transfer: the delay instruction is next, then the target (spec/41_control_transfer.md R800). -/
def State.delayTo (s : State) (target : Word) : State := { s with pc := s.npc, npc := target }

/-- A transfer that annuls its delay instruction and goes to the target at once (R801). -/
def State.jumpTo (s : State) (target : Word) : State := { s with pc := target, npc := target + 4 }

/-- Annulment of the delay instruction of a branch that is not taken (R801). -/
def State.skip (s : State) : State := { s with pc := s.npc + 4, npc := s.npc + 8 }

/-- The PC as RDPC, CALL and JMPL write it to a register (spec/10_state.md R60, R63). -/
def State.pcValue (s : State) : Word :=
  maskAddr s.pstate.am (sext48 (s.pc.extractLsb' 2 46 ++ 0#2))

/-! ## Free values -/

/-- The next free word for an open point. -/
def State.drawWord (s : State) (o : OpenWord) : Word := Config.freeWord o s.oracle

/-- The next free bit for an open point. -/
def State.drawBit (s : State) (o : OpenBit) : Bool := Config.freeBit o s.oracle

/-- A free value has been drawn: the next one is another. -/
def State.drawn (s : State) : State := { s with oracle := s.oracle + 1 }

/-! ## Traps -/

/-- A trap type that TABLE 6-2 delivers to privileged mode from nonprivileged and privileged mode (R1310). -/
def trapToPriv (tt : BitVec 9) : Bool :=
  tt == 0x011 || tt == 0x020 || tt == 0x021 || tt == 0x022 || tt == 0x023 || (0x024 ≤ tt && tt ≤ 0x027) || tt == 0x028 ||
  (0x041 ≤ tt && tt ≤ 0x04F) || tt == 0x074 || (0x07C ≤ tt && tt ≤ 0x07E) || (0x080 ≤ tt && tt ≤ 0x17F)

/-- The priority of a precise exception, `a.b` as `16 a + b` (R1310, R1315). -/
def trapPriority (tt : BitVec 9) : Nat :=
  if 0x080 ≤ tt && tt ≤ 0x0FF then 9 * 16
  else if 0x100 ≤ tt then 16 * 16 + 2
  else match tt.toNat with
  | 0x004 => 1 * 16 + 3
  | 0x008 => 3 * 16 + 1
  | 0x009 => 2 * 16 + 8
  | 0x00A => 4 * 16
  | 0x00B => 2 * 16 + 9
  | 0x00C => 3 * 16 + 3
  | 0x00D => 2 * 16 + 6
  | 0x00E => 2 * 16 + 6
  | 0x010 => 6 * 16 + 1
  | 0x011 => 7 * 16
  | 0x014 => 12 * 16 + 1
  | 0x015 => 12 * 16 + 4
  | 0x016 => 12 * 16 + 5
  | 0x017 => 12 * 16 + 6
  | 0x020 => 8 * 16 + 1
  | 0x021 => 11 * 16 + 1
  | 0x022 => 11 * 16 + 1
  | 0x023 => 14 * 16
  | 0x024 => 10 * 16 + 1
  | 0x028 => 15 * 16
  | 0x029 => 8 * 16 + 2
  | 0x02A => 2 * 16 + 10
  | 0x02B => 12 * 16 + 3
  | 0x02D => 11 * 16 + 3
  | 0x02E => 11 * 16 + 3
  | 0x030 => 12 * 16 + 6
  | 0x031 => 12 * 16 + 3
  | 0x032 => 12 * 16 + 9
  | 0x034 => 10 * 16 + 2
  | 0x035 => 10 * 16 + 1
  | 0x036 => 10 * 16 + 1
  | 0x037 => 11 * 16 + 1
  | 0x03B => 13 * 16
  | 0x03E => 2 * 16 + 8
  | 0x03F => 12 * 16 + 3
  | 0x061 => 12 * 16 + 8
  | 0x062 => 11 * 16 + 2
  | 0x064 => 2 * 16 + 8
  | 0x068 => 12 * 16 + 3
  | 0x06C => 12 * 16 + 7
  | 0x071 => 2 * 16 + 7
  | 0x072 => 12 * 16 + 2
  | 0x074 => 11 * 16 + 1
  | 0x075 => 2 * 16 + 5
  | 0x076 => 6 * 16 + 2
  | _ => 0

/-- The window adjustment of a window trap; every other trap leaves the windows (R1340 step 3,
spec/41_control_transfer.md R843). -/
def trapWindow (tt : BitVec 9) (w : Windows) : Windows :=
  if 0x080 ≤ tt && tt ≤ 0x0BF then { w with cwp := w.cwp + w.cansave + 2 }
  else if 0x0C0 ≤ tt && tt ≤ 0x0FF then { w with cwp := w.cwp - 1 }
  else if tt == 0x024 then { w with cwp := w.cwp + 1 }
  else w

/-- Where a trap goes (R1320). -/
inductive TrapDest where
  /-- Ordinary entry to privileged mode. -/
  | priv
  /-- Ordinary entry to hyperprivileged mode. -/
  | hyper
  /-- Hyperprivileged entry at the guest watchdog vector. -/
  | guestWatchdog
  /-- RED_state entry. -/
  | red
  /-- error_state, then the watchdog reset. -/
  | watchdog
  deriving DecidableEq, Repr

/-- R1320. -/
def trapDest (tt : BitVec 9) (s : State) : TrapDest :=
  if s.tl = maxTl then .watchdog
  else if s.tl = maxTl - 1 || s.hpstate.red then .red
  else if s.hpstate.hpriv || !trapToPriv tt then .hyper
  else if s.tl < maxPtl then .priv
  else .guestWatchdog

/-- Step 1 of R1340: what the trap stack keeps of the state. -/
def State.capture (s : State) (tt : BitVec 9) : TrapFrame where
  tpc := savedPc s.pstate.am s.pc
  tnpc := savedPc s.pstate.am s.npc
  tpcHole := !s.pstate.am && outOfRange s.pc
  tnpcHole := !s.pstate.am && outOfRange s.npc
  tt := tt
  gl := s.gl
  ccr := s.ccr
  asi := s.asi
  pstate := s.pstate
  cwp := s.win.cwp
  hpstate := s.hpstate

/-- RSTVADDR (R1365). -/
def State.rstv (s : State) : Word := if s.cmt.rstVecMask then 0 else 0xFFFFFFFFF0000000

/-- min(GL + 1, MAXGL) and min(GL + 1, MAXPTL) (R1340, spec/10_state.md R131). -/
def glNext (gl max : BitVec 2) : BitVec 2 := if gl < max then gl + 1 else max

/-- min(TL + 1, MAXTL). -/
def tlNext (tl : BitVec 3) : BitVec 3 := if tl < maxTl then tl + 1 else maxTl

/-- PSTATE after every reset and RED_state entry (R111): only `tle` is kept. -/
def PState.red (p : PState) : PState := { PState.reset with tle := p.tle }

/-- The entry shared by RED_state and the strand resets XIR, WDR and SIR (R1360, R1382); the LSU control register is 0
after each of them (spec/70_reset_and_hazards.md R2250). -/
def State.enterRed (s : State) (tt : BitVec 9) (offset : Word) : State :=
  let pc := s.rstv + offset
  { s with
    traps := fileSet s.traps (tlNext s.tl) (s.capture tt)
    tl := tlNext s.tl
    gl := glNext s.gl 3
    win := trapWindow tt s.win
    pstate := s.pstate.red
    hpstate := .reset
    lsu := .reset
    pc := pc
    npc := pc + 4
    taken := some tt }

/-- The vector of a privileged trap (R1345). -/
def privVector (tba : BitVec 33) (tl : BitVec 3) (tt : BitVec 9) : Word :=
  sext48 (tba ++ (if tl = 0 then 0#1 else 1#1) ++ tt ++ 0#5)

/-- The vector of a hyperprivileged trap (R1346). -/
def hyperVector (htba : BitVec 34) (tt : BitVec 9) : Word := sext48 (htba ++ tt ++ 0#5)

/-- Ordinary entry to privileged mode (R1340). -/
def State.enterPriv (s : State) (tt : BitVec 9) : State :=
  let pc := privVector s.tba s.tl tt
  { s with
    traps := fileSet s.traps (s.tl + 1) (s.capture tt)
    tl := s.tl + 1
    gl := glNext s.gl 2
    win := trapWindow tt s.win
    pstate := { tct := false, cle := s.pstate.tle, tle := s.pstate.tle, pef := true, am := false, priv := true, ie := false }
    pc := pc
    npc := pc + 4
    taken := some tt }

/-- Ordinary entry to hyperprivileged mode, at the vector of `slot` (R1340; R1352 for the guest watchdog, whose vector is
that of trap type 2). -/
def State.enterHyper (s : State) (tt slot : BitVec 9) : State :=
  let pc := hyperVector s.htba slot
  { s with
    traps := fileSet s.traps (s.tl + 1) (s.capture tt)
    tl := s.tl + 1
    gl := glNext s.gl 3
    win := trapWindow tt s.win
    pstate := { tct := false, cle := false, tle := s.pstate.tle, pef := true, am := false, priv := false, ie := false }
    hpstate := { s.hpstate with hpriv := true, ibe := false }
    pc := pc
    npc := pc + 4
    taken := some tt }

/-- Taking a trap, the one operation every exception uses (spec/60_exceptions.md R1320, R1340, R1352, R1360, R1395). The
state is that of the instruction which does not complete, or of the next instruction for a disrupting trap. An entry to
RED_state by another trap than a reset leaves the store buffer empty (spec/10_state.md R195): R1360 does not say whether its
stores are performed or dropped, and here they are performed, without their errors (log entry 32, DESIGN CHOICE). -/
def State.takeTrap (s : State) (tt : BitVec 9) : State :=
  match trapDest tt s with
  | .priv => s.enterPriv tt
  | .hyper => s.enterHyper tt tt
  | .guestWatchdog => s.enterHyper tt 2
  | .red => { s.enterRed tt 0xA0 with undrained := [] }
  | .watchdog => s.enterRed tt 0x40

/-- The software-initiated reset (R1390). -/
def State.takeSir (s : State) : State := s.enterRed 4 0x80

/-- The externally initiated reset (R1385). It also ends a halt (spec/61_interrupts_cmt.md R1532). -/
def State.takeXir (s : State) : State := { s.enterRed 3 0x60 with run := .running, xirPending := false }

/-- The end of an instruction: a raised trap is taken; where an access is never answered the strand hangs
(spec/64_errors_soc.md R1765, R1770). -/
def Res.outcome (r : Res Unit) : Host.Outcome State Fault Refusal :=
  match r with
  | .ok _ s => .next s
  | .trap tt s => .next (s.takeTrap tt)
  | .hang s => .next { s with run := .hung }
  | .refuse r => .refused r
  | .fault f => .fault f

/-! ## Return from a trap, spec/41_control_transfer.md R830 to R832 -/

/-- GL after DONE or RETRY (R832): GL above MAXPTL only for a return to hyperprivileged mode. -/
def returnGl (toHyper : Bool) (gl : BitVec 2) : BitVec 2 := if toHyper || gl < 2 then gl else 2

/-- The address that DONE and RETRY go to, from what the trap stack keeps of it: one that was in the address hole is in it again
(spec/20_memory.md R506 item 4, spec/66_diag_debug.md R2040), its bits 63:48 the complement of bit 47 (log entry 20, DESIGN
CHOICE: the trap stack does not hold them). -/
def returnTarget (hole : Bool) (t : BitVec 46) : Word := if hole then tpcWord t ^^^ 0xFFFF000000000000 else tpcWord t

/-- What DONE and RETRY restore from the trap stack; RETRY goes back to TPC, DONE goes on at TNPC. -/
def State.returnFromTrap (s : State) (retry : Bool) : State :=
  let t := s.frame
  let hyper := s.hpstate.hpriv
  let pc := if retry then returnTarget t.tpcHole t.tpc else returnTarget t.tnpcHole t.tnpc
  let npc := if retry then returnTarget t.tnpcHole t.tnpc else pc + 4
  { s with
    pc := pc
    npc := npc
    ccr := t.ccr
    asi := t.asi
    win := { s.win with cwp := t.cwp }
    pstate := t.pstate
    hpstate := if hyper then t.hpstate else s.hpstate
    gl := returnGl (hyper && t.hpstate.hpriv) t.gl
    tl := s.tl - 1 }

end Sys2Proof.Machine
end

