-- ==== Sys2Proof/Machine/Memory.lean ====
section
/-! DEFINITION. Machine/Memory.lean: sparse storage in one canonical form, and the bytes of DRAM and of the boot ROM
(spec/20_memory.md R500 to R504, R520). -/

namespace Sys2Proof.Machine

/-! ## Sparse storage -/

/-- What is listed at an address. -/
def sparseFind {β : Type} (m : List (Nat × β)) (a : Nat) : Option β :=
  match m with
  | [] => none
  | c :: rest => if c.1 = a then some c.2 else sparseFind rest a

/-- List a value at an address, before the first greater address. -/
def sparseInsert {β : Type} (m : List (Nat × β)) (a : Nat) (v : β) : List (Nat × β) :=
  match m with
  | [] => [(a, v)]
  | c :: rest => if a < c.1 then (a, v) :: c :: rest else if c.1 = a then (a, v) :: rest else c :: sparseInsert rest a v

/-- What an address holds: `d` where nothing is listed. -/
def sparseGet {β : Type} (d : β) (m : List (Nat × β)) (a : Nat) : β := (sparseFind m a).getD d

/-- Store a value; an address that holds `d` is not listed. -/
def sparsePut {β : Type} [DecidableEq β] (d : β) (m : List (Nat × β)) (a : Nat) (v : β) : List (Nat × β) :=
  if v = d then m.filter (fun c => c.1 != a) else sparseInsert m a v

/-- The canonical form: addresses strictly rise, and no entry equals what its address reads as when it is not listed. -/
def sparseWf {β : Type} [DecidableEq β] (d : Nat → β) (m : List (Nat × β)) : Bool :=
  match m with
  | [] => true
  | [c] => c.2 != d c.1
  | c :: c' :: rest => c.2 != d c.1 && decide (c.1 < c'.1) && sparseWf d (c' :: rest)

/-! ## DRAM -/

/-- What a byte of DRAM reads as before anything is stored there. The manual gives DRAM no contents at power-on
(spec/70_reset_and_hazards.md R2255). DESIGN CHOICE (log entry 2), unsafe. -/
def dramInitial : Byte := 0

/-- The canonical form of memory. -/
def Memory.wf (m : List Host.Cell) : Bool := sparseWf (fun _ => dramInitial) m

/-- One byte of DRAM. -/
def State.readByte (s : State) (pa : Nat) : Byte := sparseGet dramInitial s.mem pa

/-- Memory with one byte stored. -/
def memPut (m : List Host.Cell) (pa : Nat) (b : Byte) : List Host.Cell := sparsePut dramInitial m pa b

/-- Memory with bytes stored at rising addresses. -/
def memPutBytes (m : List Host.Cell) (pa : Nat) (bs : List Byte) : List Host.Cell :=
  match bs with
  | [] => m
  | b :: rest => memPutBytes (memPut m pa b) (pa + 1) rest

/-- Memory with bytes stored at their addresses. -/
def memPutCells (m : List Host.Cell) (cells : List Host.Cell) : List Host.Cell := cells.foldl (fun acc c => memPut acc c.1 c.2) m

/-- Bytes with their rising addresses. -/
def cellsFrom (pa : Nat) (bs : List Byte) : List Host.Cell :=
  match bs with
  | [] => []
  | b :: rest => (pa, b) :: cellsFrom (pa + 1) rest

/-- Store bytes at rising addresses of DRAM. -/
def State.writeBytes (s : State) (pa : Nat) (bs : List Byte) : State := { s with mem := memPutBytes s.mem pa bs }

/-- `n` bytes of DRAM at rising addresses. -/
def State.readBytes (s : State) (pa n : Nat) : List Byte := (List.range n).map (fun i => s.readByte (pa + i))

/-! ## The store buffer, R526, R529, R534

A store is in memory at once, and the store buffer keeps what memory held before it. Fetches see the youngest store; an ordinary
load sees the youngest too, but under a block store, and where a line is being initialized (spec/42_load_store.md R931, R940);
a block load and a tablewalk do not look in the buffer. When a store leaves the buffer matters to those reads alone, and is
settled when one of them comes (log entry 11, DESIGN CHOICE). -/

/-- The store may pass older stores to other lines, and they it (R528, R529). -/
def StoreKind.relaxed : StoreKind → Bool
  | .ordinary => false
  | _ => true

/-- Its check bits are the right ones. -/
def PendingStore.clean (p : PendingStore) : Bool := p.ecc == 0 && !p.camBad

/-- It writes one of the `n` bytes from `pa` on. -/
def PendingStore.touches (p : PendingStore) (pa n : Nat) : Bool :=
  p.old.any (fun c => decide (pa ≤ c.1) && decide (c.1 < pa + n))

/-- It must leave the buffer after an older one: stores leave in their order, but relaxed ones to different lines, and the
pieces of block stores (R529; spec/42_load_store.md R931). -/
def PendingStore.waitsFor (p older : PendingStore) : Bool :=
  if p.pa / 64 = older.pa / 64 then !(p.kind == .block && older.kind == .block && p.pa != older.pa)
  else !(older.kind.relaxed || p.kind == .init)

/-- A later load of the strand finds this byte in the buffer. -/
def PendingStore.shows (p : PendingStore) (a : Nat) : Bool := decide (a < p.pa + p.seen)

/-- The privilege level of a store as the buffer keeps it (spec/62_errors_core.md R1620). -/
def State.levelCode (s : State) : BitVec 2 :=
  match s.level with
  | .user => 0
  | .priv => 1
  | .hyper => 2

/-- The entry of the next store: the first one after the newest store's that no store of the buffer is in, any where the buffer is
empty. -/
def State.nextIndex (s : State) : BitVec 3 :=
  match s.undrained with
  | [] => (s.drawWord .storeIndex).setWidth 3
  | p :: _ =>
    let entries := (List.range 8).map (fun k => p.index + 1 + BitVec.ofNat 3 k)
    (entries.find? (fun i => s.undrained.all (fun q => q.index != i))).getD (p.index + 1)

/-- The entry of the store buffer for a store to some bytes, of which a later load finds the first `seen`. -/
def State.noted (s : State) (kind : StoreKind) (flaw : BitVec 7 × Bool) (pa seen : Nat) (addrs : List Nat) : PendingStore :=
  { pa := pa, old := addrs.map (fun a => (a, s.readByte a)), seen := seen, kind := kind, level := s.levelCode,
    index := s.nextIndex, ecc := flaw.1, camBad := flaw.2 }

/-- A store of some bytes, each with its address, that goes through the buffer; `flaw` is what is wrong with its check bits. -/
def State.bufferCells (s : State) (kind : StoreKind) (flaw : BitVec 7 × Bool) (pa seen : Nat) (cells : List Host.Cell) :
    State :=
  { s.drawn with
    mem := memPutCells s.mem cells
    undrained := s.noted kind flaw pa seen (cells.map (fun c => c.1)) :: s.undrained }

/-- Some store of the buffer that a read must look at writes one of the `n` bytes from `pa` on. -/
def State.pendingIn (s : State) (pa n : Nat) (test : PendingStore → Bool) : Bool :=
  s.undrained.any (fun p => test p && p.touches pa n)

/-- The stores that are still in the buffer after some have left it, as free bits say; those in error stay. -/
def keepPending (n : Nat) (ps : List PendingStore) : List PendingStore :=
  match ps with
  | [] => []
  | p :: rest =>
    let kept := keepPending (n + 1) rest
    if p.clean && !kept.any p.waitsFor && Config.freeBit .storeDrains n then kept else p :: kept

/-- What stays in the buffer when a store that may be reordered with no ordinary one leaves after it: the relaxed stores that no
store which leaves waits for (R529). -/
def stayBehind (leaving ps : List PendingStore) : List PendingStore :=
  match ps with
  | [] => []
  | p :: rest =>
    if p.kind.relaxed && !leaving.any (fun q => q.waitsFor p) then p :: stayBehind leaving rest
    else stayBehind (p :: leaving) rest

/-- Some stores leave the buffer. -/
def State.drainSome (s : State) : State :=
  { s with undrained := keepPending s.oracle s.undrained, oracle := s.oracle + s.undrained.length }

/-- The bytes that a load which looks in the store buffer may see at an address; `cur` is what the newest of the stores has
left there. Under a block store either byte (R931, decision D71); the rest of a line that is being initialized is not found in
the buffer (R940). -/
def seenBytes (cur : Byte) (a : Nat) (ps : List PendingStore) : List Byte :=
  match ps with
  | [] => [cur]
  | p :: rest =>
    match sparseFind p.old a with
    | none => seenBytes cur a rest
    | some old =>
      if !p.shows a then seenBytes old a rest else if p.kind = .block then cur :: seenBytes old a rest else [cur]

/-- A byte as memory holds it, without the stores that are still in the buffer. -/
def State.globalByte (s : State) (a : Nat) : Byte :=
  s.undrained.foldl (fun acc p => (sparseFind p.old a).getD acc) (s.readByte a)

/-- Before an ordinary load, where a relaxed store to its bytes is in the buffer, some stores have left it. -/
def State.settle (s : State) (pa n : Nat) : State :=
  if s.pendingIn pa n (fun p => p.kind.relaxed) then s.drainSome else s

/-- `n` bytes, 8 at most, as an ordinary load sees them. -/
def State.loadBytes (s : State) (pa n : Nat) : List Byte × State :=
  if !s.pendingIn pa n (fun p => p.kind.relaxed) then (s.readBytes pa n, s)
  else
    let choices := fun i => seenBytes (s.readByte (pa + i)) (pa + i) s.undrained
    let pick := fun i => ((s.drawWord .storeOrder).extractLsb' (8 * i) 8).toNat
    ((List.range n).map (fun i => (choices i).getD (pick i % (choices i).length) (s.readByte (pa + i))), s.drawn)

/-- The 16 bytes at an address at one instant, without a look in the store buffer: a helper of a block load, a TTE
(R524, R529; spec/42_load_store.md R930). -/
def State.globalBytes (s : State) (pa : Nat) : List Byte × State :=
  if !s.pendingIn pa 16 (fun _ => true) then (s.readBytes pa 16, s)
  else ((List.range 16).map (fun i => s.drainSome.globalByte (pa + i)), s.drainSome)

/-- Memory without some stores, the newest first. -/
def dropStores (m : List Host.Cell) (ps : List PendingStore) : List Host.Cell := ps.foldl (fun acc p => memPutCells acc p.old) m

/-- What later stores, oldest first, and memory keep when the bytes of a store are back: the oldest later store to one of them
has found that byte. -/
def cancelCells (m : List Host.Cell) (later : List PendingStore) (cells : List Host.Cell) :
    List PendingStore × List Host.Cell :=
  match later with
  | [] => ([], memPutCells m cells)
  | p :: rest =>
    let found := fun (c : Host.Cell) => (sparseFind p.old c.1).isSome
    let after := cancelCells m rest (cells.filter (fun c => !found c))
    ({ p with old := p.old.map (fun c => (c.1, (sparseFind cells c.1).getD c.2)) } :: after.1, after.2)

/-- Bytes of memory change below the stores that are still in the buffer. -/
def State.putUnder (s : State) (cells : List Host.Cell) : State :=
  if cells = [] then s
  else
    let r := cancelCells s.mem s.undrained.reverse cells
    { s with mem := r.2, undrained := r.1.reverse }

/-! ## Byte order, R520 -/

/-- The number whose most significant byte comes first. -/
def wordOfBytes (bs : List Byte) : Word := bs.foldl (fun acc b => acc <<< 8 ||| b.setWidth 64) 0

/-- The low `n` bytes of a word, the most significant first. -/
def bytesOfWord (n : Nat) (v : Word) : List Byte :=
  (List.range n).map (fun i => v.extractLsb' (8 * (n - 1 - i)) 8)

/-- Bytes in the order of the access: a little-endian access reverses them. -/
def orderBytes (little : Bool) (bs : List Byte) : List Byte := if little then bs.reverse else bs

/-! ## The boot ROM, spec/68_ncu_platform.md R2200 -/

/-- One byte of the boot ROM. -/
def State.romByte (s : State) (pa : Nat) : Byte := (sparseFind s.rom pa).getD (Config.bootRom pa)

/-- `n` bytes of the boot ROM. -/
def State.romBytes (s : State) (pa n : Nat) : List Byte := (List.range n).map (fun i => s.romByte (pa + i))

/-- The boot ROM with other contents: no instruction does this, it stands for the device behind the SSI. -/
def State.withRomBytes (s : State) (pa : Nat) (bs : List Byte) : State :=
  match bs with
  | [] => s
  | b :: rest => ({ s with rom := sparseInsert s.rom pa b } : State).withRomBytes (pa + 1) rest

end Sys2Proof.Machine
end

