-- ==== Sys2Proof/Machine/Csr.lean ====
section
/-! DEFINITION. Machine/Csr.lean: the registers of the chip that are reached by physical address (spec/20_memory.md R502),
as one table: name, base address, how many, their distance, reset value, and the masks of the bits that software writes,
of the bits a written 1 clears, and of the reserved bits the manual prints "X". Each row's comment names its rule. -/

namespace Sys2Proof.Machine

/-- One row of the register table. -/
structure CsrRow where
  name : String
  base : Nat
  count : Nat
  step : Nat
  reset : Word
  rw : Word
  w1c : Word
  unknown : Word
  deriving DecidableEq, Repr

/-- Part 1 of the register table. -/
def csrTable1 : List CsrRow :=
  [ ⟨"INT_MAN", 0x8000000000, 128, 8, 0x0, 0x3F3F, 0x0, 0x0⟩, -- spec/61_interrupts_cmt.md R1480
    ⟨"MONDO_INT_VEC", 0x8000000A00, 1, 0, 0x0, 0x3F, 0x0, 0x0⟩, -- spec/61_interrupts_cmt.md R1482
    ⟨"MONDO_INT_DATA0", 0x8000040000, 64, 8, 0x0, 0x0, 0x0, 0x0⟩, -- spec/61_interrupts_cmt.md R1483
    ⟨"MONDO_INT_DATA1", 0x8000040200, 64, 8, 0x0, 0x0, 0x0, 0x0⟩, -- spec/61_interrupts_cmt.md R1484
    ⟨"MONDO_INT_BUSY", 0x8000040800, 64, 8, 0x40, 0x40, 0x0, 0x0⟩, -- spec/61_interrupts_cmt.md R1486
    ⟨"SER_NUM", 0x8000001000, 1, 0, 0x0, 0x0, 0x0, 0x0⟩, -- spec/68_ncu_platform.md
    ⟨"EFU_STAT", 0x8000001008, 1, 0, 0xFFFFFFFFFFFFFFFF, 0x0, 0x0, 0x0⟩, -- spec/68_ncu_platform.md
    ⟨"CORE_AVAIL", 0x8000001010, 1, 0, 0x0, 0x0, 0x0, 0x0⟩, -- spec/68_ncu_platform.md
    ⟨"BANK_AVAIL", 0x8000001018, 1, 0, 0x0, 0x0, 0x0, 0x0⟩, -- spec/66_diag_debug.md R2051
    ⟨"BANK_ENABLE", 0x8000001020, 1, 0, 0xFF, 0xFF, 0x0, 0x0⟩, -- spec/66_diag_debug.md R2052
    ⟨"BANK_ENABLE_STATUS", 0x8000001028, 1, 0, 0xFF, 0x0, 0x0, 0x0⟩, -- spec/66_diag_debug.md R2054
    ⟨"L2_IDX_HASH_EN", 0x8000001030, 1, 0, 0x0, 0x1, 0x0, 0x0⟩, -- spec/66_diag_debug.md R2055
    ⟨"L2_IDX_HASH_EN_STATUS", 0x8000001038, 1, 0, 0x0, 0x0, 0x0, 0x0⟩, -- spec/66_diag_debug.md R2056
    ⟨"SOC_ERROR_STATUS_REG", 0x8000003000, 1, 0, 0x0, 0xFFFFFFFFC7FFFFAA, 0x0, 0x0⟩, -- spec/64_errors_soc.md R1790
    ⟨"SOC_ERROR_LOG_ENABLE_REG", 0x8000003008, 1, 0, 0x7FFFFFFFFFF, 0xFFFFFFFFFFFFFFFF, 0x0, 0x0⟩, -- spec/64_errors_soc.md R1792
    ⟨"SOC_ERROR_INTERRUPT_ENABLE_REG", 0x8000003010, 1, 0, 0x0, 0x7FFFFFFFC7FFFFAA, 0x0, 0x0⟩, -- spec/64_errors_soc.md R1793
    ⟨"SOC_ERROR_INJECTION_REG", 0x8000003018, 1, 0, 0x0, 0xFFFFFFFFC7FFFFAA, 0x0, 0x0⟩, -- spec/64_errors_soc.md R1797
    ⟨"SOC_FATAL_ERROR_ENABLE_REG", 0x8000003020, 1, 0, 0x0, 0x7FFFFFFFC7FFFFAA, 0x0, 0x0⟩, -- spec/64_errors_soc.md R1795
    ⟨"SOC_PENDING_ERROR_STATUS_REG", 0x8000003028, 1, 0, 0x0, 0xFFFFFFFFC7FFFFAA, 0x0, 0x0⟩, -- spec/64_errors_soc.md R1796
    ⟨"SOC_SII_ERROR_SYNDROME_REG", 0x8000003030, 1, 0, 0x0, 0x87FFFFFFFFFFFFFF, 0x0, 0x0⟩ ] -- spec/64_errors_soc.md R1798

/-- Part 2 of the register table. The fields of IO_QUIESCE_CONTROL other than `dmu_stall` are unknown after power-on
(spec/70_reset_and_hazards.md R2250, R2255): bits 3 to 1 read 0 here, but bit 2 while `dmu_stall` is set (log entry 5, DESIGN
CHOICE). The reset value of TCU_MBIST_BYPASS is `mbistReset`. -/
def csrTable2 : List CsrRow :=
  [ ⟨"SOC_NCU_ERROR_SYNDROME_REG", 0x8000003038, 1, 0, 0x0, 0xFCFFFFFFFFFFFFFF, 0x0, 0x0⟩, -- spec/64_errors_soc.md R1799
    ⟨"SSI_CLKSEL", 0x8000003040, 1, 0, 0x0, 0x3, 0x0, 0x0⟩, -- spec/68_ncu_platform.md
    ⟨"NCU_DBG_TRG_EN_REG", 0x8000004000, 1, 0, 0x0, 0x1, 0x0, 0x0⟩, -- spec/66_diag_debug.md R2082
    ⟨"SOC_ERROR_STEER_REG", 0x9001041000, 1, 0, 0x0, 0x3F, 0x0, 0x0⟩, -- spec/64_errors_soc.md R1794
    ⟨"PLL_CTL", 0x8300000000, 1, 0, 0x1002011C1, 0x1FFFFFFFFF, 0x0, 0x0⟩, -- spec/68_ncu_platform.md R2180
    ⟨"RNG_CTL", 0x8300000020, 1, 0, 0x7C0F, 0x1FFFFFF, 0x0, 0x0⟩, -- spec/68_ncu_platform.md R2185
    ⟨"DEBUG_PORT_CONFIG", 0x8600000000, 1, 0, 0x0, 0xC00000000000001F, 0x0, 0x0⟩, -- spec/66_diag_debug.md R2091
    ⟨"IO_QUIESCE_CONTROL", 0x8600000008, 1, 0, 0x0, 0x1, 0x0, 0xFFFFFFFFFFFFFFF0⟩, -- spec/66_diag_debug.md R2092
    ⟨"SOC_DECR", 0x8600000010, 1, 0, 0x0, 0x3FFFFF, 0x0, 0x0⟩, -- spec/66_diag_debug.md R2078
    ⟨"TCU_MBIST_MODE", 0x8500000000, 1, 0, 0x2, 0xF, 0x0, 0xFFFFFFFFFFFFFFF0⟩, -- spec/67_ecc_jtag.md R2135
    ⟨"TCU_MBIST_BYPASS", 0x8500000008, 1, 0, 0xFFFFFFFFFFFF, 0xFFFFFFFFFFFF, 0x0, 0xFFFF000000000000⟩, -- spec/67_ecc_jtag.md R2135
    ⟨"TCU_MBIST_START", 0x8500000010, 1, 0, 0x0, 0x0, 0x0, 0x0⟩, -- spec/67_ecc_jtag.md R2135
    ⟨"TCU_MBIST_ABORT", 0x8500000018, 1, 0, 0x0, 0x0, 0x0, 0x0⟩, -- spec/67_ecc_jtag.md R2135
    ⟨"TCU_MBIST_RESULT", 0x8500000020, 1, 0, 0x0, 0x0, 0x0, 0x0⟩, -- spec/67_ecc_jtag.md R2135
    ⟨"TCU_MBIST_DONE", 0x8500000028, 1, 0, 0x0, 0x0, 0x0, 0x0⟩, -- spec/67_ecc_jtag.md R2135
    ⟨"TCU_MBIST_FAIL", 0x8500000030, 1, 0, 0x0, 0x0, 0x0, 0x0⟩, -- spec/67_ecc_jtag.md R2135
    ⟨"TCU_MBIST_START_WMR", 0x8500000038, 1, 0, 0x0, 0x0, 0x0, 0x0⟩, -- spec/67_ecc_jtag.md R2135
    ⟨"TCU_LBIST_MODE", 0x8500000040, 1, 0, 0x0, 0x3, 0x0, 0x0⟩, -- spec/67_ecc_jtag.md R2135
    ⟨"TCU_LBIST_BYPASS", 0x8500000048, 1, 0, 0x0, 0xFF, 0x0, 0x0⟩, -- spec/67_ecc_jtag.md R2135
    ⟨"TCU_LBIST_START", 0x8500000050, 1, 0, 0x0, 0x1, 0x0, 0x0⟩ ] -- spec/67_ecc_jtag.md R2135

/-- Part 3 of the register table. -/
def csrTable3 : List CsrRow :=
  [ ⟨"TCU_LBIST_DONE", 0x8500000058, 1, 0, 0x0, 0xFF, 0x0, 0x0⟩, -- spec/67_ecc_jtag.md R2135
    ⟨"TCU_CYCLE_COUNTER_REG", 0x8500000100, 1, 0, 0x0, 0xFFFFFFFFFFFFFFFF, 0x0, 0x0⟩, -- spec/66_diag_debug.md R2086
    ⟨"TCU_DEBUG_CONTROL_REG", 0x8500000108, 1, 0, 0x0, 0xF, 0x0, 0x0⟩, -- spec/66_diag_debug.md R2087
    ⟨"TCU_TRIGOUT_REG", 0x8500000110, 1, 0, 0x0, 0x0, 0x0, 0x0⟩, -- spec/66_diag_debug.md R2088
    ⟨"TCU_DEBUG_EVENT_COUNTER_REG", 0x8500000118, 1, 0, 0x0, 0xFFFFFFFF, 0x0, 0x0⟩, -- spec/66_diag_debug.md R2085
    ⟨"TCU_CLKSTOP_DELAY", 0x8500000120, 1, 0, 0x0, 0xFF, 0x0, 0x0⟩, -- spec/67_ecc_jtag.md R2135
    ⟨"RESET_GEN", 0x8900000808, 1, 0, 0x0, 0x0, 0x0, 0x0⟩, -- spec/70_reset_and_hazards.md R2231
    ⟨"RESET_STAT", 0x8900000810, 1, 0, 0x4, 0x1E, 0x0, 0x0⟩, -- spec/70_reset_and_hazards.md R2232
    ⟨"RESET_SOURCE", 0x8900000818, 1, 0, 0x10, 0x0, 0xFFFB, 0x0⟩, -- spec/70_reset_and_hazards.md R2232
    ⟨"RESET_FEE", 0x8900000820, 1, 0, 0x0, 0xFF00, 0x0, 0x0⟩, -- spec/70_reset_and_hazards.md R2233
    ⟨"CPU_THROTTLE_CTL", 0x8900000828, 1, 0, 0x0, 0x0, 0x0, 0x0⟩, -- spec/11_state_asi_regs.md R255
    ⟨"SSYS_RESET", 0x8900000838, 1, 0, 0x0, 0x73, 0x0, 0x0⟩, -- spec/70_reset_and_hazards.md R2234
    ⟨"LOCK_TIME", 0x8900000870, 1, 0, 0x1400, 0xFFFF, 0x0, 0x0⟩, -- spec/70_reset_and_hazards.md
    ⟨"PROP_TIME", 0x8900000880, 1, 0, 0xC00, 0xFFFF, 0x0, 0x0⟩, -- spec/70_reset_and_hazards.md
    ⟨"SSI_LOG", 0xFF00000018, 1, 0, 0x0, 0x0, 0x3, 0xFFFFFFFFFFFFFFFC⟩, -- spec/64_errors_soc.md R1754
    ⟨"SSI_TIMEOUT", 0xFF00010088, 1, 0, 0x200000, 0x1FFFFFF, 0x0, 0xFFFFFFFFFE000000⟩, -- spec/64_errors_soc.md R1753
    ⟨"L2_CONTROL_REG", 0xA900000000, 8, 64, 0x1, 0x3FFFFF, 0x0, 0xFFFFFFFFFF800000⟩, -- spec/66_diag_debug.md R2050
    ⟨"L2_ERROR_EN_REG", 0xAA00000000, 8, 64, 0x0, 0x7, 0x0, 0x0⟩, -- spec/63_errors_l2_dram.md R1690
    ⟨"L2_ERROR_STATUS_REG", 0xAB00000000, 8, 64, 0x0, 0x3FC000000FFFFFFF, 0xC03FFFFC00000000, 0x0⟩, -- spec/63_errors_l2_dram.md R1691
    ⟨"L2_ERROR_ADDRESS_REG", 0xAC00000000, 8, 64, 0x0, 0xFFFFFFFFF0, 0x0, 0x0⟩ ] -- spec/63_errors_l2_dram.md R1696

/-- Part 4 of the register table. -/
def csrTable4 : List CsrRow :=
  [ ⟨"L2_ERROR_INJECT_REG", 0xAD00000000, 8, 64, 0x0, 0x3, 0x0, 0xFFFFFFFFFFFFFFFC⟩, -- spec/63_errors_l2_dram.md R1698
    ⟨"L2_NOTDATA_ERROR_REG", 0xAE00000000, 8, 64, 0x0, 0x43FFFFFFFFFF0, 0xB000000000000, 0x0⟩, -- spec/63_errors_l2_dram.md R1697
    ⟨"L2_MASK_REG", 0xAF00000000, 8, 64, 0x0, 0xF3F03FFFFFFFC, 0x0, 0x0⟩, -- spec/66_diag_debug.md R2079
    ⟨"L2_COMP_REG", 0xBF00000000, 8, 64, 0x0, 0xF3F03FFFFFFFC, 0x0, 0x0⟩, -- spec/66_diag_debug.md R2079
    ⟨"DRAM_CAS_ADDR_WIDTH_REG", 0x8400000000, 4, 4096, 0xB, 0xF, 0x0, 0x0⟩, -- spec/65_mcu_dram.md R1851
    ⟨"DRAM_RAS_ADDR_WIDTH_REG", 0x8400000008, 4, 4096, 0xF, 0xF, 0x0, 0x0⟩, -- spec/65_mcu_dram.md R1852
    ⟨"DRAM_CAS_LAT_REG", 0x8400000010, 4, 4096, 0x3, 0x7, 0x0, 0x0⟩, -- spec/65_mcu_dram.md R1853
    ⟨"DRAM_SCRUB_FREQ_REG", 0x8400000018, 4, 4096, 0xFFF, 0xFFF, 0x0, 0x0⟩, -- spec/65_mcu_dram.md R1854
    ⟨"DRAM_REFRESH_FREQ_REG", 0x8400000020, 4, 4096, 0x820, 0x1FFF, 0x0, 0x0⟩, -- spec/65_mcu_dram.md R1855
    ⟨"DRAM_OPEN_BANK_MAX_REG", 0x8400000028, 4, 4096, 0x1FFFF, 0x1FFFF, 0x0, 0x0⟩, -- spec/65_mcu_dram.md R1900
    ⟨"DRAM_REFRESH_COUNTER_REG", 0x8400000038, 4, 4096, 0x0, 0x1FFF, 0x0, 0x0⟩, -- spec/65_mcu_dram.md R1856
    ⟨"DRAM_SCRUB_ENABLE_REG", 0x8400000040, 4, 4096, 0x0, 0x1, 0x0, 0xFFFFFFFFFFFFFFFE⟩, -- spec/65_mcu_dram.md R1857
    ⟨"DRAM_PROG_TIME_CNTR_REG", 0x8400000048, 4, 4096, 0xFFFF, 0xFFFF, 0x0, 0x0⟩, -- spec/65_mcu_dram.md R1900
    ⟨"DRAM_TRRD_REG", 0x8400000080, 4, 4096, 0x2, 0xF, 0x0, 0x0⟩, -- spec/65_mcu_dram.md R1858
    ⟨"DRAM_TRC_REG", 0x8400000088, 4, 4096, 0xC, 0x1F, 0x0, 0x0⟩, -- spec/65_mcu_dram.md R1859
    ⟨"DRAM_TRCD_REG", 0x8400000090, 4, 4096, 0x3, 0xF, 0x0, 0x0⟩, -- spec/65_mcu_dram.md R1860
    ⟨"DRAM_TWTR_REG", 0x8400000098, 4, 4096, 0x0, 0xF, 0x0, 0x0⟩, -- spec/65_mcu_dram.md R1861
    ⟨"DRAM_TRTW_REG", 0x84000000A0, 4, 4096, 0x0, 0xF, 0x0, 0x0⟩, -- spec/65_mcu_dram.md R1862
    ⟨"DRAM_TRTP_REG", 0x84000000A8, 4, 4096, 0x2, 0x7, 0x0, 0x0⟩, -- spec/65_mcu_dram.md R1863
    ⟨"DRAM_TRAS_REG", 0x84000000B0, 4, 4096, 0x9, 0xF, 0x0, 0x0⟩ ] -- spec/65_mcu_dram.md R1864

/-- Part 5 of the register table. -/
def csrTable5 : List CsrRow :=
  [ ⟨"DRAM_TRP_REG", 0x84000000B8, 4, 4096, 0x3, 0xF, 0x0, 0x0⟩, -- spec/65_mcu_dram.md R1865
    ⟨"DRAM_TWR_REG", 0x84000000C0, 4, 4096, 0x3, 0xF, 0x0, 0x0⟩, -- spec/65_mcu_dram.md R1866
    ⟨"DRAM_TRFC_REG", 0x84000000C8, 4, 4096, 0x27, 0x7F, 0x0, 0x0⟩, -- spec/65_mcu_dram.md R1867
    ⟨"DRAM_TMRD_REG", 0x84000000D0, 4, 4096, 0x2, 0x3, 0x0, 0x0⟩, -- spec/65_mcu_dram.md R1868
    ⟨"DRAM_FAWIN_REG", 0x84000000D8, 4, 4096, 0xA, 0x1F, 0x0, 0x0⟩, -- spec/65_mcu_dram.md R1869
    ⟨"DRAM_TIWTR_REG", 0x84000000E0, 4, 4096, 0x2, 0x3, 0x0, 0x0⟩, -- spec/65_mcu_dram.md R1870
    ⟨"DRAM_PRECHARGE_WAIT_REG", 0x84000000E8, 4, 4096, 0x55, 0xFF, 0x0, 0x0⟩, -- spec/65_mcu_dram.md R1871
    ⟨"DRAM_DIMM_STACK_REG", 0x8400000108, 4, 4096, 0x0, 0x1, 0x0, 0x0⟩, -- spec/65_mcu_dram.md R1872
    ⟨"DRAM_EXT_WR_MODE2_REG", 0x8400000110, 4, 4096, 0x0, 0x7FFF, 0x0, 0x0⟩, -- spec/65_mcu_dram.md R1873
    ⟨"DRAM_EXT_WR_MODE1_REG", 0x8400000118, 4, 4096, 0x18, 0x7FFF, 0x0, 0x0⟩, -- spec/65_mcu_dram.md R1874
    ⟨"DRAM_EXT_WR_MODE3_REG", 0x8400000120, 4, 4096, 0x0, 0x7FFF, 0x0, 0x0⟩, -- spec/65_mcu_dram.md R1875
    ⟨"DRAM_8_BANK_MODE_REG", 0x8400000128, 4, 4096, 0x1, 0x1, 0x0, 0xFFFFFFFFFFFFFFFE⟩, -- spec/65_mcu_dram.md R1876
    ⟨"DRAM_BRANCH_DISABLED_REG", 0x8400000138, 4, 4096, 0x0, 0x1, 0x0, 0xFFFFFFFFFFFFFFFE⟩, -- spec/65_mcu_dram.md R1877
    ⟨"DRAM_SEL_LO_ADDR_BITS_REG", 0x8400000140, 4, 4096, 0x0, 0x1, 0x0, 0xFFFFFFFFFFFFFFFE⟩, -- spec/65_mcu_dram.md R1878
    ⟨"DRAM_SNGL_CHNL_MODE_REG", 0x8400000148, 4, 4096, 0x0, 0x1, 0x0, 0xFFFFFFFFFFFFFFFE⟩, -- spec/65_mcu_dram.md R1879
    ⟨"DRAM_DIMM_INIT_REG", 0x84000001A0, 4, 4096, 0x1, 0x3, 0x0, 0xFFFFFFFFFFFFFFFC⟩, -- spec/65_mcu_dram.md R1881
    ⟨"DRAM_MODE_WRITE_STATUS_REG", 0x8400000208, 4, 4096, 0x0, 0x0, 0x0, 0xFFFFFFFFFFFFFFFE⟩, -- spec/65_mcu_dram.md R1882
    ⟨"DRAM_INIT_STATUS_REG", 0x8400000210, 4, 4096, 0x0, 0x0, 0x0, 0xFFFFFFFFFFFFFFFE⟩, -- spec/65_mcu_dram.md R1883
    ⟨"DRAM_DIMMS_PRESENT_REG", 0x8400000218, 4, 4096, 0x1, 0xF, 0x0, 0xFFFFFFFFFFFFFFF0⟩, -- spec/65_mcu_dram.md R1884
    ⟨"DRAM_FAILOVER_STATUS_REG", 0x8400000220, 4, 4096, 0x0, 0x1, 0x0, 0xFFFFFFFFFFFFFFFE⟩ ] -- spec/65_mcu_dram.md R1885

/-- Part 6 of the register table. -/
def csrTable6 : List CsrRow :=
  [ ⟨"DRAM_FAILOVER_MASK_REG", 0x8400000228, 4, 4096, 0x0, 0x7FFFFFFFF, 0x0, 0x0⟩, -- spec/65_mcu_dram.md R1886
    ⟨"DRAM_DBG_TRG_EN_REG", 0x8400000230, 4, 4096, 0x0, 0x1F, 0x0, 0x0⟩, -- spec/66_diag_debug.md R2081
    ⟨"DRAM_POWER_DOWN_MODE_REG", 0x8400000238, 4, 4096, 0x0, 0x1, 0x0, 0x0⟩, -- spec/65_mcu_dram.md R1887
    ⟨"DRAM_ERROR_STATUS_REG", 0x8400000280, 4, 4096, 0x0, 0xFFFF, 0xFFC0000000000000, 0x0⟩, -- spec/63_errors_l2_dram.md R1720
    ⟨"DRAM_ERROR_ADDRESS_REG", 0x8400000288, 4, 4096, 0x0, 0xFFFFFFFFF0, 0x0, 0x0⟩, -- spec/63_errors_l2_dram.md R1722
    ⟨"DRAM_ERROR_INJECT_REG", 0x8400000290, 4, 4096, 0x0, 0xC000FFFF, 0x0, 0x0⟩, -- spec/63_errors_l2_dram.md R1723
    ⟨"DRAM_ERROR_COUNTER_REG", 0x8400000298, 4, 4096, 0x0, 0xFFFF, 0x0, 0xFFFFFFFFFFFF0000⟩, -- spec/63_errors_l2_dram.md R1724
    ⟨"DRAM_ERROR_LOCATION_REG", 0x84000002A0, 4, 4096, 0x0, 0xFFFFFFFFF, 0x0, 0x0⟩, -- spec/63_errors_l2_dram.md R1725
    ⟨"DRAM_ERROR_RETRY_REG", 0x84000002A8, 4, 4096, 0x0, 0xFFFFFFF0000C0003, 0x0, 0x0⟩, -- spec/63_errors_l2_dram.md R1726
    ⟨"DRAM_PERF_CTL_REG", 0x8400000400, 4, 4096, 0x0, 0xFF, 0x0, 0xFFFFFFFFFFFFFF00⟩, -- spec/65_mcu_dram.md R1935
    ⟨"DRAM_PERF_COUNT_REG", 0x8400000408, 4, 4096, 0x0, 0xFFFFFFFFFFFFFFFF, 0x0, 0x0⟩, -- spec/65_mcu_dram.md R1936
    ⟨"FBD_CHANNEL_STATE_REG", 0x8400000800, 4, 4096, 0x0, 0xFF, 0x0, 0x0⟩, -- spec/65_mcu_dram.md R1888
    ⟨"FBD_FAST_RESET_FLAG_REG", 0x8400000808, 4, 4096, 0x0, 0xF, 0x0, 0x0⟩, -- spec/65_mcu_dram.md R1889
    ⟨"FBD_CHNL_RESET_REG", 0x8400000810, 4, 4096, 0x0, 0x3, 0x0, 0x0⟩, -- spec/65_mcu_dram.md R1890
    ⟨"TS1_SB_NB_MAPPING_REG", 0x8400000818, 4, 4096, 0x0, 0xF, 0x0, 0x0⟩, -- spec/65_mcu_dram.md R1891
    ⟨"TS1_TEST_PARAMETER_REG", 0x8400000820, 4, 4096, 0x0, 0xFFFFFF, 0x0, 0x0⟩, -- spec/65_mcu_dram.md R1892
    ⟨"TS3_FAILOVER_CONFIG_REG", 0x8400000828, 4, 4096, 0xFFFF, 0xFFFF, 0x0, 0x0⟩, -- spec/65_mcu_dram.md R1893
    ⟨"ELECTRICAL_IDLE_DETECTED_REG", 0x8400000830, 4, 4096, 0xFFC3FF, 0x0, 0x0, 0x0⟩, -- spec/65_mcu_dram.md R1894
    ⟨"DISABLE_STATE_PERIOD_REG", 0x8400000838, 4, 4096, 0xFF, 0x3FF, 0x0, 0x0⟩, -- spec/65_mcu_dram.md R1895
    ⟨"DISABLE_STATE_PERIOD_DONE_REG", 0x8400000840, 4, 4096, 0x0, 0x1, 0x0, 0x0⟩ ] -- spec/65_mcu_dram.md R1896

/-- Part 7 of the register table. Software must not set `enb_hp` of L0S_DURATION_REG, which "will cause unrecoverable channel
errors" (spec/65_mcu_dram.md R1908): which ones and when the manual does not say, and here the bit is stored and no error follows
(log entry 63, DESIGN CHOICE). -/
def csrTable7 : List CsrRow :=
  [ ⟨"CALIBRATE_STATE_PERIOD_REG", 0x8400000848, 4, 4096, 0x0, 0xFFFFF, 0x0, 0x0⟩, -- spec/65_mcu_dram.md R1897
    ⟨"CALIBRATE_STATE_PERIOD_DONE_REG", 0x8400000850, 4, 4096, 0x0, 0x1, 0x0, 0x0⟩, -- spec/65_mcu_dram.md R1898
    ⟨"TRAINING_STATE_MIN_TIME_REG", 0x8400000858, 4, 4096, 0xFF, 0xFFFF, 0x0, 0x0⟩, -- spec/65_mcu_dram.md R1899
    ⟨"TRAINING_STATE_DONE_REG", 0x8400000860, 4, 4096, 0x0, 0x3, 0x0, 0x0⟩, -- spec/65_mcu_dram.md R1901
    ⟨"TRAINING_STATE_TIMEOUT_REG", 0x8400000868, 4, 4096, 0xFFFF, 0xFFFF, 0x0, 0x0⟩, -- spec/65_mcu_dram.md R1902
    ⟨"TESTING_STATE_DONE_REG", 0x8400000870, 4, 4096, 0x0, 0x3, 0x0, 0x0⟩, -- spec/65_mcu_dram.md R1903
    ⟨"TESTING_STATE_TIMEOUT_REG", 0x8400000878, 4, 4096, 0xFF, 0xFF, 0x0, 0x0⟩, -- spec/65_mcu_dram.md R1904
    ⟨"POLLING_STATE_DONE_REG", 0x8400000880, 4, 4096, 0x0, 0x3, 0x0, 0x0⟩, -- spec/65_mcu_dram.md R1905
    ⟨"POLLING_STATE_TIMEOUT_REG", 0x8400000888, 4, 4096, 0xFF, 0xFF, 0x0, 0x0⟩, -- spec/65_mcu_dram.md R1905
    ⟨"CONFIG_STATE_DONE_REG", 0x8400000890, 4, 4096, 0x0, 0x3, 0x0, 0x0⟩, -- spec/65_mcu_dram.md R1906
    ⟨"CONFIG_STATE_TIMEOUT_REG", 0x8400000898, 4, 4096, 0xFF, 0xFF, 0x0, 0x0⟩, -- spec/65_mcu_dram.md R1906
    ⟨"PER_RANK_CKE_REG", 0x84000008A0, 4, 4096, 0xFFFF, 0xFFFF, 0x0, 0x0⟩, -- spec/65_mcu_dram.md R1907
    ⟨"L0S_DURATION_REG", 0x84000008A8, 4, 4096, 0x2A, 0x7F, 0x0, 0x0⟩, -- spec/65_mcu_dram.md R1908
    ⟨"CHANNEL_SYNC_FRAME_FREQ_REG", 0x84000008B0, 4, 4096, 0x2A, 0x3F, 0x0, 0x0⟩, -- spec/65_mcu_dram.md R1909
    ⟨"CHANNEL_READ_LAT_REG", 0x84000008B8, 4, 4096, 0xFFFF, 0xFFFF, 0x0, 0x0⟩, -- spec/65_mcu_dram.md R1910
    ⟨"CHANNEL_CAPABILITY_REG", 0x84000008C0, 4, 4096, 0x0, 0x0, 0x0, 0x0⟩, -- spec/65_mcu_dram.md R1911
    ⟨"LOOPBACK_MODE_CNTL_REG", 0x84000008C8, 4, 4096, 0x0, 0x3, 0x0, 0x0⟩, -- spec/65_mcu_dram.md R1912
    ⟨"SERDES_CONFIG_BUS_REG", 0x84000008D0, 4, 4096, 0x1000018, 0x3FFF7F3F, 0x0, 0x0⟩, -- spec/65_mcu_dram.md R1913
    ⟨"SERDES_INVPAIR_REG", 0x84000008D8, 4, 4096, 0x0, 0xFFFFFFFFFFFF, 0x0, 0x0⟩, -- spec/65_mcu_dram.md R1914
    ⟨"SERDES_TEST_CONFIG_BUS_REG", 0x84000008E0, 4, 4096, 0xC003, 0xFFFFFFFF, 0x0, 0x0⟩ ] -- spec/65_mcu_dram.md R1915

/-- Part 8 of the register table. The PLL lock bits of SERDES_PLL_STATUS_REG, of which a model "may return any value"
(spec/65_mcu_dram.md R1916), read as one fixed unknown value (log entry 6, DESIGN CHOICE). -/
def csrTable8 : List CsrRow :=
  [ ⟨"SERDES_PLL_STATUS_REG", 0x84000008E8, 4, 4096, 0x0, 0x0, 0x0, 0x3F⟩, -- spec/65_mcu_dram.md R1916
    ⟨"SERDES_TEST_STATUS_REG", 0x84000008F0, 4, 4096, 0x0, 0x0, 0x0, 0x0⟩, -- spec/65_mcu_dram.md R1917
    ⟨"CONFIG_REG_ACCESS_ADDR_REG", 0x8400000900, 4, 4096, 0x0, 0xFFFC, 0x0, 0x0⟩, -- spec/65_mcu_dram.md R1919
    ⟨"CONFIG_REG_ACCESS_DATA_REG", 0x8400000908, 4, 4096, 0x0, 0x0, 0x0, 0x0⟩, -- spec/65_mcu_dram.md R1920
    ⟨"DRAM_FBD_ERROR_SYND_REG", 0x8400000C00, 4, 4096, 0x0, 0x800000003FFFFFFF, 0x0, 0x0⟩, -- spec/63_errors_l2_dram.md R1727
    ⟨"DRAM_FBD_INJ_ERROR_SRC_REG", 0x8400000C08, 4, 4096, 0x0, 0x3, 0x0, 0x0⟩, -- spec/63_errors_l2_dram.md R1728
    ⟨"DRAM_FBR_COUNT_REG", 0x8400000C10, 4, 4096, 0x0, 0x1FFFF, 0x0, 0x0⟩, -- spec/63_errors_l2_dram.md R1729
    ⟨"SBFIBPORTCTL_SBFIBPGCTL_REG", 0x8400000E80, 4, 4096, 0x23C01E478, 0x800029FFFFFFFF, 0x400000000, 0x0⟩, -- spec/65_mcu_dram.md R1921
    ⟨"SBFIBPATTBUF1_SBFIBTXMSK_REG", 0x8400000E88, 4, 4096, 0x2CCFD000003FF, 0xFFFFFF000003FF, 0x0, 0x0⟩, -- spec/65_mcu_dram.md R1922
    ⟨"SBFIBTXSHFT_REG", 0x8400000E90, 4, 4096, 0x3FF, 0x3FF, 0x0, 0x0⟩, -- spec/65_mcu_dram.md R1923
    ⟨"SBFIBPATTBUF2_SBFIBPATT2EN_REG", 0x8400000EA0, 4, 4096, 0xFD330200000000, 0xFFFFFF000003FF, 0x0, 0x0⟩, -- spec/65_mcu_dram.md R1924
    ⟨"SBFIBINIT_SBIBISTMISC_REG", 0x8400000EB0, 4, 4096, 0x1900280400061A80, 0x7FFFFFFD00FFFFFF, 0x0, 0x0⟩, -- spec/65_mcu_dram.md R1925
    ⟨"NBFIBPORTCTL_NBFIBPGCTL_REG", 0x8400000EC0, 4, 4096, 0x3C01E478, 0x39FFFFFFFF, 0x3FF0C400000000, 0x0⟩, -- spec/65_mcu_dram.md R1926
    ⟨"NBFIBPATTBUF1_REG", 0x8400000EC8, 4, 4096, 0x2CCFD00000000, 0xFFFFFF00000000, 0x0, 0x0⟩, -- spec/65_mcu_dram.md R1927
    ⟨"NBFIBRXMSK_REG", 0x8400000ED0, 4, 4096, 0x3FFF00000000, 0x3FFF00000000, 0x0, 0x0⟩, -- spec/65_mcu_dram.md R1928
    ⟨"NBFIBRXSHFT_NBFIBRXLNERR_REG", 0x8400000ED8, 4, 4096, 0x3FFF00000000, 0x3FFF00000000, 0x0, 0x0⟩, -- spec/65_mcu_dram.md R1929
    ⟨"NBFIBPATTBUF2_NBFIBPATT2EN_REG", 0x8400000EE0, 4, 4096, 0xFD330200000000, 0xFFFFFF00003FFF, 0x0, 0x0⟩, -- spec/65_mcu_dram.md R1930
    ⟨"RNG_DATA", 0x8300000030, 1, 0, 0x0, 0x0, 0x0, 0x0⟩ ] -- spec/68_ncu_platform.md R2186

/-- The whole register table. -/
def csrTable : List CsrRow :=
  csrTable1 ++ csrTable2 ++ csrTable3 ++ csrTable4 ++ csrTable5 ++ csrTable6 ++ csrTable7 ++ csrTable8

/-- The row covers the address. -/
def CsrRow.covers (r : CsrRow) (pa : Nat) : Bool :=
  decide (r.base ≤ pa) && decide (pa < r.base + (r.count - 1) * r.step + 1) &&
    (decide (pa = r.base) || decide ((pa - r.base) % r.step = 0))

/-- The first row of a table that covers an address. -/
def csrLookup (table : List CsrRow) (pa : Nat) : Option CsrRow :=
  match table with
  | [] => none
  | r :: rest => if r.covers pa then some r else csrLookup rest pa

/-- The register at a physical address. -/
def csrRow (pa : Nat) : Option CsrRow := csrLookup csrTable pa

/-- TCU_MBIST_BYPASS, spec/67_ecc_jtag.md R2135. -/
def csrMbistBypass : Nat := 0x8500000008

/-- What TCU_MBIST_BYPASS holds after reset: all ones in a chip that lacks nothing; in another one it depends on the core and bank
fuses, in a way that R2135 does not give. -/
def mbistReset : Word :=
  if coresPresent = 0xFF ∧ Config.bankAvailable = 0xFF then 0xFFFFFFFFFFFF else Config.mbistBypass &&& 0xFFFFFFFFFFFF

/-- What a register holds at reset; an address without a register holds nothing. -/
def csrReset (pa : Nat) : Word := if pa = csrMbistBypass then mbistReset else ((csrRow pa).map CsrRow.reset).getD 0

/-- What a register holds. -/
def State.csrGet (s : State) (pa : Nat) : Word := (sparseFind s.csr pa).getD (csrReset pa)

/-- A register holds another value. -/
def State.csrSet (s : State) (pa : Nat) (v : Word) : State := { s with csr := sparsePut (csrReset pa) s.csr pa v }

/-! ## Addresses of the registers with effects of their own -/

/-- INT_MAN, spec/61_interrupts_cmt.md R1480. -/
def csrIntMan : Nat := 0x8000000000
/-- MONDO_INT_DATA0, R1483. -/
def csrMondoData0 : Nat := 0x8000040000
/-- MONDO_INT_DATA1, R1483. -/
def csrMondoData1 : Nat := 0x8000040200
/-- MONDO_INT_BUSY, R1483. -/
def csrMondoBusy : Nat := 0x8000040800
/-- SER_NUM, spec/68_ncu_platform.md R2161. -/
def csrSerNum : Nat := 0x8000001000
/-- CORE_AVAIL, R2164. -/
def csrCoreAvail : Nat := 0x8000001010
/-- BANK_AVAIL, spec/66_diag_debug.md R2051. -/
def csrBankAvail : Nat := 0x8000001018
/-- BANK_ENABLE, R2052. -/
def csrBankEnable : Nat := 0x8000001020
/-- BANK_ENABLE_STATUS, R2054: the value of BANK_ENABLE at the last warm reset is what is stored. -/
def csrBankEnableStatus : Nat := 0x8000001028
/-- L2_IDX_HASH_EN, R2055. -/
def csrHashEn : Nat := 0x8000001030
/-- L2_IDX_HASH_EN_STATUS, R2056. -/
def csrHashEnStatus : Nat := 0x8000001038
/-- SOC_ERROR_STATUS_REG, spec/64_errors_soc.md R1790. -/
def csrSocEsr : Nat := 0x8000003000
/-- SOC_ERROR_INTERRUPT_ENABLE_REG, R1793. -/
def csrSocEie : Nat := 0x8000003010
/-- SOC_FATAL_ERROR_ENABLE_REG, R1795. -/
def csrSocFee : Nat := 0x8000003020
/-- SOC_PENDING_ERROR_STATUS_REG, R1796. -/
def csrSocPending : Nat := 0x8000003028
/-- SOC_ERROR_STEER_REG, R1794. -/
def csrSocSteer : Nat := 0x9001041000
/-- PLL_CTL, spec/68_ncu_platform.md R2180. -/
def csrPllCtl : Nat := 0x8300000000
/-- RNG_CTL, R2185. -/
def csrRngCtl : Nat := 0x8300000020
/-- RNG_DATA, R2186. -/
def csrRngData : Nat := 0x8300000030
/-- IO_QUIESCE_CONTROL, spec/66_diag_debug.md R2092. -/
def csrIoQuiesce : Nat := 0x8600000008
/-- SOC_DECR, R2078. -/
def csrSocDecr : Nat := 0x8600000010
/-- TCU_CYCLE_COUNTER_REG, R2086. -/
def csrCycleCounter : Nat := 0x8500000100
/-- TCU_DEBUG_CONTROL_REG, R2087. -/
def csrDebugControl : Nat := 0x8500000108
/-- TCU_TRIGOUT_REG, R2088. -/
def csrTrigout : Nat := 0x8500000110
/-- TCU_DEBUG_EVENT_COUNTER_REG, R2085. -/
def csrEventCounter : Nat := 0x8500000118
/-- DRAM_DBG_TRG_EN_REG, R2081. -/
def csrDramDebugTrigger : Nat := 0x8400000230
/-- NCU_DBG_TRG_EN_REG, R2082. -/
def csrNcuDebugTrigger : Nat := 0x8000004000
/-- TCU_LBIST_START, spec/67_ecc_jtag.md R2139. -/
def csrLbistStart : Nat := 0x8500000050
/-- RESET_GEN, spec/70_reset_and_hazards.md R2231. -/
def csrResetGen : Nat := 0x8900000808
/-- RESET_STAT, R2235. -/
def csrResetStat : Nat := 0x8900000810
/-- RESET_SOURCE, R2232. -/
def csrResetSource : Nat := 0x8900000818
/-- L2_CONTROL_REG, spec/66_diag_debug.md R2050. -/
def csrL2Control : Nat := 0xA900000000
/-- L2_ERROR_EN_REG, spec/63_errors_l2_dram.md R1690. -/
def csrL2ErrorEn : Nat := 0xAA00000000
/-- L2_ERROR_STATUS_REG, R1691. -/
def csrL2ErrorStatus : Nat := 0xAB00000000
/-- L2_ERROR_ADDRESS_REG, R1696. -/
def csrL2ErrorAddress : Nat := 0xAC00000000
/-- L2_NOTDATA_ERROR_REG, R1697. -/
def csrL2NotData : Nat := 0xAE00000000
/-- DRAM_CAS_ADDR_WIDTH_REG, spec/65_mcu_dram.md R1851. -/
def csrDramCas : Nat := 0x8400000000
/-- DRAM_REFRESH_FREQ_REG, R1855. -/
def csrDramRefreshFreq : Nat := 0x8400000020
/-- DRAM_REFRESH_COUNTER_REG, R1856. -/
def csrDramRefreshCounter : Nat := 0x8400000038
/-- DRAM_TRTP_REG, R1863. -/
def csrDramTrtp : Nat := 0x84000000A8
/-- DRAM_SCRUB_ENABLE_REG, R1857. -/
def csrDramScrub : Nat := 0x8400000040
/-- DRAM_SNGL_CHNL_MODE_REG, R1879. -/
def csrDramSingleChannel : Nat := 0x8400000148
/-- DRAM_FAILOVER_STATUS_REG, R1885. -/
def csrDramFailover : Nat := 0x8400000220
/-- DRAM_8_BANK_MODE_REG, R1876. -/
def csrDram8Bank : Nat := 0x8400000128
/-- DRAM_ERROR_STATUS_REG, spec/63_errors_l2_dram.md R1720. -/
def csrDramErrorStatus : Nat := 0x8400000280
/-- DRAM_ERROR_ADDRESS_REG, R1722. -/
def csrDramErrorAddress : Nat := 0x8400000288
/-- DRAM_ERROR_INJECT_REG, R1723. -/
def csrDramErrorInject : Nat := 0x8400000290
/-- DRAM_ERROR_COUNTER_REG, R1724. -/
def csrDramErrorCounter : Nat := 0x8400000298
/-- DRAM_ERROR_LOCATION_REG, R1725. -/
def csrDramErrorLocation : Nat := 0x84000002A0
/-- DRAM_ERROR_RETRY_REG, R1726. -/
def csrDramErrorRetry : Nat := 0x84000002A8
/-- FBD_CHANNEL_STATE_REG, spec/65_mcu_dram.md R1888. -/
def csrFbdChannelState : Nat := 0x8400000800
/-- FBD_CHNL_RESET_REG, R1890. -/
def csrFbdChnlReset : Nat := 0x8400000810
/-- FBD_FAST_RESET_FLAG_REG, R1889. -/
def csrFbdFastReset : Nat := 0x8400000808
/-- DISABLE_STATE_PERIOD_DONE_REG, R1896: the first of the six Done registers. -/
def csrLinkDone : Nat := 0x8400000840
/-- CHANNEL_READ_LAT_REG, R1910. -/
def csrReadLatency : Nat := 0x84000008B8
/-- CHANNEL_CAPABILITY_REG, R1911. -/
def csrCapability : Nat := 0x84000008C0
/-- NBFIBPORTCTL_NBFIBPGCTL_REG, R1926. -/
def csrIbistReceive : Nat := 0x8400000EC0
/-- SBFIBPORTCTL_SBFIBPGCTL_REG, R1921. -/
def csrIbistPort : Nat := 0x8400000E80
/-- DRAM_FBD_ERROR_SYND_REG, spec/63_errors_l2_dram.md R1727. -/
def csrFbdErrorSyndrome : Nat := 0x8400000C00
/-- DRAM_FBD_INJ_ERROR_SRC_REG, R1728. -/
def csrFbdErrorSource : Nat := 0x8400000C08
/-- DRAM_FBR_COUNT_REG, R1729. -/
def csrFbrCount : Nat := 0x8400000C10
/-- SOC_ERROR_LOG_ENABLE_REG, spec/64_errors_soc.md R1792. -/
def csrSocLogEnable : Nat := 0x8000003008
/-- SOC_ERROR_INJECTION_REG, R1797. -/
def csrSocInject : Nat := 0x8000003018
/-- SOC_SII_ERROR_SYNDROME_REG, R1798. -/
def csrSiiSyndrome : Nat := 0x8000003030
/-- SOC_NCU_ERROR_SYNDROME_REG, R1799. -/
def csrNcuSyndrome : Nat := 0x8000003038
/-- L2_MASK_REG, spec/66_diag_debug.md R2079. -/
def csrL2Mask : Nat := 0xAF00000000
/-- L2_COMP_REG, R2079. -/
def csrL2Compare : Nat := 0xBF00000000
/-- CONFIG_REG_ACCESS_ADDR_REG, R1919. -/
def csrAmbAddr : Nat := 0x8400000900
/-- CONFIG_REG_ACCESS_DATA_REG, R1920. -/
def csrAmbData : Nat := 0x8400000908

end Sys2Proof.Machine
end

