-- ==== Sys2Proof/Machine/Checks.lean ====
section
/-! DEFINITION. Machine/Checks.lean: the check bits of the protected arrays of the core, and the errors that software
injects into them (spec/62_errors_core.md R1640; spec/67_ecc_jtag.md R2101 to R2105). Hardware adds no error of its own
(log entry 13): an entry is in error if a write stored check bits that differ from the right ones. -/

namespace Sys2Proof.Machine

/-- The exclusive or of the bits of a field. -/
def xorBits {w : Nat} (v : BitVec w) : Bool := (List.range w).foldl (fun acc i => acc != v.getLsbD i) false

/-! ## The arrays -/

/-- An entry of an array: an integer register, one half of an FRF entry, a scratchpad register, a compare register
(spec/66_diag_debug.md R2030), an entry of the trap stack array (R2040) or of the MMU register array (R2045). -/
inductive CheckSlot where
  | int (r : RegSlot)
  | float (i : BitVec 6)
  | scratch (i : BitVec 3)
  | tick (i : BitVec 2)
  | trapStack (i : BitVec 3)
  | mmu (i : BitVec 3)
  deriving DecidableEq, Repr

/-- The number of an entry in `State.checks`; the zero register has none. -/
def CheckSlot.key : CheckSlot → Option Nat
  | .int .zero => none
  | .int (.global i) => some i.toNat
  | .int (.windowLocal i) => some (64 + i.toNat)
  | .int (.inout i) => some (128 + i.toNat)
  | .float i => some (192 + i.toNat)
  | .scratch i => some (256 + i.toNat)
  | .tick i => some (264 + i.toNat)
  | .trapStack i => some (272 + i.toNat)
  | .mmu i => some (280 + i.toNat)

/-- The exclusive or of an entry's check bits and the right ones; 0 means that the entry has no error. -/
def State.checkOf (s : State) (c : CheckSlot) : BitVec 8 :=
  match c.key with
  | some k => sparseGet 0 s.checks k
  | none => 0

/-- An entry's check bits differ from the right ones by `m`. -/
def State.putCheck (s : State) (c : CheckSlot) (m : BitVec 8) : State :=
  match c.key with
  | some k => { s with checks := sparsePut 0 s.checks k m }
  | none => s

/-! ## Injection, R1640 -/

/-- `enb_hp`. -/
def State.injecting (s : State) : Bool := bitAt s.err.inject 31

/-- No entry of an array and no store in the store buffer is in error, and none is about to be. -/
def State.checksClean (s : State) : Bool := s.checks.isEmpty && !s.injecting && s.undrained.all PendingStore.clean

/-- More than one error source bit is set: "undefined results". -/
def State.injectsMany (s : State) : Bool := decide (1 < ((List.range 13).filter (fun k => bitAt s.err.inject (17 + k))).length)

/-- The error source of bit `k` is in effect. -/
def State.injects (s : State) (k : Nat) : Bool :=
  s.injecting && bitAt s.err.inject k && (!s.injectsMany || bitAt (s.drawWord .injectedCheck) k)

/-- The error source bit of an array. -/
def CheckSlot.source : CheckSlot → Nat
  | .int _ => 25
  | .float _ => 24
  | .scratch _ => 23
  | .tick _ => 22
  | .trapStack _ => 21
  | .mmu _ => 20

/-- What a write now adds to the right check bits of an entry: `eccmask`; of the MMU register array both parity bits. -/
def State.injected (s : State) (c : CheckSlot) : BitVec 8 :=
  let mask : BitVec 8 := if s.injectsMany then (s.drawWord .injectedCheck).extractLsb' 32 8 else s.err.inject.setWidth 8
  if !s.injects c.source then 0
  else match c with
  | .float _ => mask &&& 0x7F
  | .mmu _ => 3
  | _ => mask

/-- What is wrong with the check bits of a store that enters the store buffer now: those of its data by `eccmask` (`stdu`), the
parity of its address (`stau`; spec/66_diag_debug.md R2020). -/
def State.storeFlaw (s : State) : BitVec 7 × Bool :=
  let mask : BitVec 7 := if s.injectsMany then (s.drawWord .injectedCheck).extractLsb' 40 7 else s.err.inject.setWidth 7
  (if s.injects 17 then mask else 0, s.injects 19)

/-- The check bits of some entries are written. -/
def State.storeChecks (s : State) (t : State) (slots : List CheckSlot) : State :=
  let t1 := slots.foldl (fun acc c => acc.putCheck c (s.injected c)) t
  if s.injectsMany then t1.drawn else t1

/-! ## Syndromes -/

/-- The syndrome of the codes with eight check bits (spec/67_ecc_jtag.md R2102, R2104). -/
def syndrome8 (m : BitVec 8) : BitVec 8 := boolBit (xorBits m) ++ m.extractLsb' 0 7

/-- The syndrome of the code with seven (R2105). -/
def syndrome7 (m : BitVec 8) : BitVec 7 := boolBit (xorBits (m.extractLsb' 0 7)) ++ m.extractLsb' 0 6

/-- A syndrome of the 64+8 code that names one bit (R2102). -/
def corrects64 (m : BitVec 8) : Bool := bitAt (syndrome8 m) 7 && decide (m.extractLsb' 0 7 < 0x48)

/-- A syndrome of the 68+8 code that names one bit (R2104). -/
def corrects68 (m : BitVec 8) : Bool := bitAt (syndrome8 m) 7 && decide (m.extractLsb' 0 7 < 0x4C)

/-- A syndrome of the 32+7 code that names one bit, as the store buffer takes it (R2105). -/
def corrects39 (m : BitVec 7) : Bool :=
  let y := syndrome7 (m.setWidth 8)
  bitAt y 6 && decide (y.extractLsb' 0 6 < 0x27)

/-- What hardware inverts in a doubleword of the store buffer when it corrects an error of both its words: the data bit that the
syndrome names, if it names one (spec/67_ecc_jtag.md R2101, R2105). -/
def corrected39 (m : BitVec 7) : Word :=
  let p := ((syndrome7 (m.setWidth 8)).extractLsb' 0 6).toNat
  if !corrects39 m || p == 0 || p == 2 ^ p.log2 then 0
  else
    let bit : Word32 := 1 <<< (p - 2 - p.log2)
    bit ++ bit

/-- A syndrome that the floating-point register file reports as correctable: every odd one (R2103). -/
def corrects32 (m : BitVec 8) : Bool := bitAt (syndrome7 m) 6

end Sys2Proof.Machine
end

