-- ==== Sys2Proof/Machine/Errors.lean ====
section
/-! DEFINITION. Machine/Errors.lean: how an error is recorded. The hardware makes no error of its own (decision D88): what
is left are the errors that a program itself causes, an error it injects into an array of the core, an access to memory or
I/O that does not exist, more than one matching TLB entry, and the trap requests of the SOC error registers. -/

namespace Sys2Proof.Machine

/-- One bit of CERER enables the recording of an error (spec/62_errors_core.md R1556, R1590). -/
def State.cerer (s : State) (i : Nat) : Bool := bitAt s.err.cerer i

/-- SETER.pscce (R1595). -/
def State.pscce (s : State) : Bool := bitAt s.err.seter 2

/-! ## DESR, DFESR, CLESR, R1615 to R1628 -/

/-- DESR as a register (R1615). -/
def Desr.word (d : Desr) : Word :=
  boolBit d.f ++ boolBit d.me ++ boolBit d.s ++ d.errtype ++ 0#45 ++ d.erraddr

/-- An empty DESR. -/
def Desr.zero : Desr := ⟨false, false, false, 0, 0⟩

/-- DFESR as a register (R1620). -/
def Dfesr.word (d : Dfesr) : Word :=
  0#2 ++ boolBit d.sba ++ boolBit d.sbdio ++ d.priv ++ d.stbindex ++ 0#55

/-- An empty DFESR. -/
def Dfesr.zero : Dfesr := ⟨false, false, 0, 0⟩

/-- CLESR bits 63:48: the strand is strand 0 of its core, whose field is the lowest (R1625). -/
def State.clesr (s : State) : BitVec 16 :=
  0#14 ++ boolBit s.err.desr.f ++ boolBit (s.err.dfesr.sba || s.err.dfesr.sbdio)

/-- The first-error register follows a change of CLESR from `old` (R1628). -/
def State.updateClfesr (s : State) (old : BitVec 16) : State :=
  if s.clesr = 0 then { s with err := { s.err with clfesr := 0 } }
  else if old = 0 then { s with err := { s.err with clfesr := s.clesr } }
  else s

/-- The relative priority of a disrupting error, 10 times its number so that 11.1 is 111 (R1617); `sre` for
sw_recoverable_error. -/
def desrPriority (sre : Bool) (errtype : BitVec 5) : Nat :=
  match sre, errtype.toNat with
  | true, 6 => 10
  | true, 14 | true, 15 => 20
  | true, 16 | true, 17 | true, 20 => 50
  | true, 1 | true, 2 | true, 3 | true, 4 => 60
  | true, _ => 70
  | false, 9 => 130
  | false, 10 => 140
  | false, 11 => 150
  | false, k => if k ≤ 4 then 110 + k else 116 + k

/-- Of two errors of one group the one of higher relative priority, the earlier one where they are equal. -/
def higherError (old : Option (Nat × BitVec 5 × BitVec 11)) (new : Nat × BitVec 5 × BitVec 11) :
    Option (Nat × BitVec 5 × BitVec 11) :=
  match old with
  | none => some new
  | some o => if new.1 < o.1 then some new else some o

/-- One more error is detected together with those of an event. -/
def ErrorEvent.add (e : ErrorEvent) (sre : Bool) (errtype : BitVec 5) (erraddr : BitVec 11) : ErrorEvent :=
  let new := (desrPriority sre errtype, errtype, erraddr)
  if sre then { e with sre := higherError e.sre new } else { e with hce := higherError e.hce new }

/-- DESR after the errors of an event (R1616). Case 5 is taken as it is written where `f` and `s` are set already too (decision
D90). -/
def ErrorEvent.desr (e : ErrorEvent) : Desr :=
  match e.sre, e.hce with
  | none, none => e.base
  | some (_, errtype, erraddr), some _ => ⟨true, true, true, errtype, erraddr⟩
  | some (_, errtype, erraddr), none =>
    if !e.base.f then { e.base with f := true, s := true, errtype := errtype, erraddr := erraddr }
    else if e.base.s then { e.base with me := true }
    else ⟨true, true, true, errtype, erraddr⟩
  | none, some (_, errtype, erraddr) =>
    if !e.base.f then { e.base with f := true, s := false, errtype := errtype, erraddr := erraddr }
    else { e.base with me := true }

/-- The errors that the next one is detected together with: none, or, freely, those of the present step (R1616; which errors
are simultaneous the manual does not say: log entry 60, DESIGN CHOICE). -/
def State.errorEvent (s : State) : ErrorEvent :=
  match s.err.together with
  | some e => if s.drawBit .errorsTogether then e else ⟨s.err.desr, none, none⟩
  | none => ⟨s.err.desr, none, none⟩

/-- Record a disrupting error with its address bits, if CERER bit `enable` is set (R1556, R1616); it is a debug event
(R1600). -/
def State.recordDesr (s : State) (enable : Nat) (sre : Bool) (errtype : BitVec 5) (addr : BitVec 11) : State :=
  if s.cerer enable then
    let e := s.errorEvent.add sre errtype addr
    let s1 := if s.err.together.isSome then s.drawn else s
    let s2 : State :=
      { s1 with
        err := { s.err with desr := e.desr, together := some e }
        events := { s.events with disrupting := true } }
    s2.updateClfesr s.clesr
  else s

/-- The errors that come now are not detected together with those before. -/
def State.apart (s : State) : State := { s with err := { s.err with together := none } }

/-- Record a disrupting error whose address bits are undefined. -/
def State.recordDisrupting (s : State) (enable : Nat) (sre : Bool) (errtype : BitVec 5) : State :=
  if s.cerer enable then s.drawn.recordDesr enable sre errtype ((s.drawWord .undefinedErrorInfo).setWidth 11) else s

/-- Record a deferred error (`io` for SBDIOU, else SBAPP), which is not masked (R1586, R1587, R1620): store_error is pending.
Of an error that DFESR holds already and this one, either gives the privilege level and the index (decision D91). -/
def State.recordDeferred (s : State) (io : Bool) (priv : BitVec 2) (index : BitVec 3) : State :=
  let d := s.err.dfesr
  let second := d.sba || d.sbdio
  let level := if second && s.drawBit .deferredInfo then d.priv else priv
  let entry := if second && s.drawn.drawBit .deferredInfo then d.stbindex else index
  let s' : State :=
    { s.drawn.drawn with
      err := { s.err with dfesr := ⟨d.sba || !io, d.sbdio || io, level, entry⟩ }
      storeError := true
      events := { s.events with deferred := true } }
  s'.updateClfesr s.clesr

/-- The value and the effect of a load of DESR: the read clears it (R1615). -/
def State.readDesr (s : State) : Word × State :=
  (s.err.desr.word, ({ s with err := { s.err with desr := .zero, together := none } } : State).updateClfesr s.clesr)

/-- The value and the effect of a load of DFESR (R1620). -/
def State.readDfesr (s : State) : Word × State :=
  (s.err.dfesr.word, ({ s with err := { s.err with dfesr := .zero } } : State).updateClfesr s.clesr)

/-! ## Precise error traps -/

/-- D-SFAR with a virtual address (spec/13_mmu_registers.md R420). -/
def State.setDsfar (s : State) (va : Word) : State :=
  { s with mmu := { s.mmu with dsfar := va.setWidth 48, dsfarError := false } }

/-- D-SFAR in error format 1: VA bits 47:0, the upper bits 0 (spec/62_errors_core.md R1610). -/
def State.setDsfarTlb (s : State) (va : Word) : State :=
  { s with mmu := { s.mmu with dsfar := va.setWidth 48, dsfarError := true } }

/-- D-SFAR in error format 3: the 48 bits are undefined, the upper bits 0 (spec/62_errors_core.md R1610). -/
def State.setDsfarUndefined (s : State) : State :=
  { s.drawn with
    mmu := { s.mmu with dsfar := (s.drawWord .undefinedErrorInfo).setWidth 48, dsfarError := true } }

/-- D-SFAR in the error formats whose low `n` bits are `info`; the bits above are undefined, those above bit 47 are 0
(R1610). -/
def State.setDsfarInfo (s : State) (n : Nat) (info : BitVec 48) : State :=
  let free : BitVec 48 := (s.drawWord .undefinedErrorInfo).setWidth 48
  { s.drawn with mmu := { s.mmu with dsfar := ((free >>> n) <<< n) ||| info, dsfarError := true } }

/-- D-SFSR <- an error type (R1608). -/
def State.setDsfsr (s : State) (errtype : BitVec 4) : State := { s with err := { s.err with dsfsr := errtype } }

/-- I-SFSR <- an error type (R1605). -/
def State.setIsfsr (s : State) (errtype : BitVec 3) : State := { s with err := { s.err with isfsr := errtype } }

/-! ## The L2 banks, spec/66_diag_debug.md R2052 to R2054 -/

/-- BANK_ENABLE after the remap of three enabled pairs to two (R2052). -/
def bankRemap (v : BitVec 8) : BitVec 8 :=
  if v = 0x3F then 0x0F else if v = 0xCF then 0x0F else if v = 0xF3 then 0xF0 else if v = 0xFC then 0xF0 else v

/-- The values BANK_ENABLE may be given, those that are remapped among them (TABLE 19-36, TABLE 19-37). -/
def bankLegal (v : BitVec 8) : Bool :=
  [0x03, 0x0C, 0x30, 0xC0, 0x0F, 0x33, 0x3C, 0xC3, 0xCC, 0xF0, 0xFF, 0x3F, 0xCF, 0xF3, 0xFC].contains v

/-- The five status bits of a BANK_ENABLE value: partial mode and the four pairs (R2054). -/
def bankStatus (v : BitVec 8) : BitVec 5 :=
  let r := bankRemap v
  boolBit (r != 0xFF) ++ boolBit (r.extractLsb' 6 2 == 3) ++ boolBit (r.extractLsb' 4 2 == 3) ++
    boolBit (r.extractLsb' 2 2 == 3) ++ boolBit (r.extractLsb' 0 2 == 3)

/-- BANK_ENABLE as it reads: only available banks (R2052). -/
def State.bankEnable (s : State) : BitVec 8 := (s.csrGet csrBankEnable).setWidth 8 &&& Config.bankAvailable

/-- The L2 banks in use since the last warm reset. -/
def State.banksInUse (s : State) : BitVec 8 :=
  bankRemap ((s.csrGet csrBankEnableStatus).setWidth 8 &&& Config.bankAvailable)

/-- The bank that bits 8:6 of an address select (R2053; spec/20_memory.md R549). -/
def l2Bank (inUse : BitVec 8) (sel : BitVec 3) : BitVec 3 :=
  let low := sel.extractLsb' 0 1
  let high := bitAt sel 1
  let pair : BitVec 2 :=
    if inUse = 0xFF then sel.extractLsb' 1 2
    else if inUse = 0x03 then 0 else if inUse = 0x0C then 1 else if inUse = 0x30 then 2 else if inUse = 0xC0 then 3
    else if inUse = 0x0F then (if high then 1 else 0)
    else if inUse = 0x3C then (if high then 2 else 1)
    else if inUse = 0xF0 then (if high then 3 else 2)
    else if inUse = 0xC3 then (if high then 0 else 3)
    else if inUse = 0x33 then (if high then 2 else 0)
    else if inUse = 0xCC then (if high then 3 else 1)
    else sel.extractLsb' 1 2
  pair ++ low

/-- The number of the bank that serves a memory address. -/
def State.bankOf (s : State) (pa : Nat) : Nat := (l2Bank s.banksInUse (BitVec.ofNat 3 (pa / 64))).toNat

/-- How many memory controllers are in use, those of the pairs of banks in use (R2053; spec/65_mcu_dram.md R1830). -/
def State.portsInUse (s : State) : Nat :=
  max 1 ((List.range 4).filter (fun k => s.banksInUse.extractLsb' (2 * k) 2 == 3)).length

/-- A memory address is populated: lines rotate over the controllers in use, and each has DRAM from its own address 0 on
(R2053; spec/65_mcu_dram.md R1830, R1845). The first 512 MB are populated in every configuration. -/
def State.dramExists (s : State) (pa : Nat) : Bool :=
  decide (pa < 2 ^ 29) || decide (pa / s.portsInUse < Config.branchBytes (s.bankOf pa / 2))

/-- The L2 cache is enabled or disabled in all banks in use: "Operation when the dis bit of the enabled L2 banks are not
all the same is undefined" (spec/66_diag_debug.md R2050). -/
def State.l2Uniform (s : State) : Bool :=
  let dis := fun b => bitAt (s.csrGet (csrL2Control + 64 * b)) 0
  let unused := fun b => !bitAt s.banksInUse b
  (List.range 8).all (fun b => dis b || unused b) || (List.range 8).all (fun b => !dis b || unused b)

/-- L2_ERROR_EN.nceen of the bank of an address (spec/63_errors_l2_dram.md R1690). -/
def State.nceen (s : State) (pa : Nat) : Bool := bitAt (s.csrGet (csrL2ErrorEn + 64 * s.bankOf pa)) 1

/-- L2_CONTROL.errorsteer of a bank (spec/66_diag_debug.md R2050). -/
def State.errorSteer (s : State) (b : Nat) : BitVec 6 := (s.csrGet (csrL2Control + 64 * b)).extractLsb' 15 6

/-- The bank of an address steers its errors to this strand. -/
def State.steeredHere (s : State) (pa : Nat) : Bool := s.errorSteer (s.bankOf pa) == ownStrand

/-- Some bits of a register. -/
def anyOf (v mask : Word) : Bool := v &&& mask != 0

/-- The fatal and uncorrectable entries of an L2 error status register: LVF, LRF, LDAU, LDSU, LDWU, LDRU, DAU, DRU. -/
def l2SevereBits : Word := 0x00155A8000000000

/-- Its correctable entries: LVC, LTC, LDAC, LDSC, LDWC, LDRC, DAC, DRC. -/
def l2CorrectableBits : Word := 0x002AA50400000000

/-- An error of an L2 bank is a debug event while the bank's trigger is enabled (R1690). -/
def State.noteBank (s : State) (b : Nat) : State :=
  if bitAt (s.csrGet (csrL2ErrorEn + 64 * b)) 2 then
    { s with events := { s.events with l2 := s.events.l2 ||| ((1 : BitVec 8) <<< b) } }
  else s

/-- The same for the bank of an address. -/
def State.noteL2 (s : State) (pa : Nat) : State := s.noteBank (s.bankOf pa)

/-- The address of an error as a bank logs it: with index hashing on, the hashed one (R1696). -/
def State.loggedAddress (s : State) (pa : Nat) : Word :=
  let a : PAddr := BitVec.ofNat 40 pa
  if bitAt (s.csrGet csrHashEnStatus) 0 then
    (a.extractLsb' 18 22 ++ (a.extractLsb' 28 5 ^^^ a.extractLsb' 13 5) ++ (a.extractLsb' 18 2 ^^^ a.extractLsb' 11 2) ++
      a.extractLsb' 0 11 : BitVec 40).setWidth 64
  else a.setWidth 64

/-- Log a DAC (`one`) or a DAU in the L2 bank of an address, by what is logged there already (R1691, R1692, R1694). At the line
fill (`fill`) the requester is errorsteer and `rw` and `moda` are not defined. -/
def State.logDram (s : State) (pa : Nat) (one write fill : Bool) : State :=
  let status := csrL2ErrorStatus + 64 * s.bankOf pa
  let esr := s.csrGet status
  if anyOf esr (if one then l2SevereBits ||| l2CorrectableBits else l2SevereBits) then
    (s.csrSet status (esr ||| (if one then 0x4000000000000000 else 0x8000000000000000))).noteL2 pa
  else
    let open1 := s.drawWord .undefinedErrorInfo
    let steer := s.errorSteer (s.bankOf pa)
    let rw : BitVec 1 := if fill then open1.extractLsb' 61 1 else boolBit write
    let moda : BitVec 1 := if fill then open1.extractLsb' 60 1 else 0
    let vcid : BitVec 6 := if fill then steer else ownStrand
    let info : Word := 0#2 ++ rw ++ moda ++ vcid ++ 0#26 ++ open1.extractLsb' 0 28
    let kept := esr &&& 0xC03FFFFFF0000000
    let mec : Word := if anyOf esr l2CorrectableBits then 0x4000000000000000 else 0
    let own : Word := if one then 0x0000041000000000 else 0x0000020800000000
    let s' := s.drawn.csrSet status (kept ||| info ||| mec ||| own)
    (s'.drawn.csrSet (csrL2ErrorAddress + 64 * s.bankOf pa)
      ((s.loggedAddress pa &&& 0xFFFFFFFFC0) ||| (s'.drawWord .undefinedErrorInfo &&& 0x30))).noteL2 pa

/-- Log a NotData error of a processor access in the L2 bank of an address (R1697). -/
def State.logNotData (s : State) (pa : Nat) (write : Bool) : State :=
  let reg := csrL2NotData + 64 * s.bankOf pa
  let old := s.csrGet reg
  (if anyOf old 0x0003000000000000 then s.csrSet reg (old ||| 0x0008000000000000)
  else s.csrSet reg
    ((old &&& 0x0008000000000000) ||| (if write then 0x0004000000000000 else 0) ||| 0x0002000000000000 |||
      (ownStrand.setWidth 64 <<< 40) ||| (s.loggedAddress pa &&& 0xFFFFFFFFF0))).noteL2 pa

/-- An error of a memory controller is a debug event while its trigger is enabled, which fires once (spec/66_diag_debug.md
R2081). -/
def State.noteMcu (s : State) (k : Nat) : State :=
  let reg := csrDramDebugTrigger + 0x1000 * k
  if bitAt (s.csrGet reg) 2 then
    { s.csrSet reg (s.csrGet reg &&& ~~~0x4) with
      events := { s.events with mcu := s.events.mcu ||| ((1 : BitVec 4) <<< k) } }
  else s

/-- The memory controller of the bank logs an access to an address that no DIMM backs: `dbu`, or `meb` when one is logged
(R1710, R1720, R1721). -/
def State.logOutOfBounds (s : State) (pa : Nat) : State :=
  let reg := csrDramErrorStatus + 0x1000 * (s.bankOf pa / 2)
  let old := s.csrGet reg
  (s.csrSet reg (old ||| (if bitAt old 57 then 0x0100000000000000 else 0x0200000000000000))).noteMcu (s.bankOf pa / 2)

/-- Memory controller `k` logs an error: its own bit of DRAM_ERROR_STATUS_REG with the syndrome, and with the address of a scrub
error, or `meu` or `mec` where one as severe is logged (R1720 to R1722). -/
def State.logMcu (s : State) (k bit : Nat) (severe : Bool) (syndrome : BitVec 16) (address : Option Nat) : State :=
  let reg := csrDramErrorStatus + 0x1000 * k
  let old := s.csrGet reg
  if anyOf old (if severe then 0x1480000000000000 else 0x3CC0000000000000) then
    (s.csrSet reg (old ||| (if severe then 0x8000000000000000 else 0x4000000000000000))).noteMcu k
  else
    let s1 := s.csrSet reg ((old &&& 0xFFFFFFFFFFFF0000) ||| ((1 : Word) <<< bit) ||| syndrome.setWidth 64)
    (match address with
    | some a => s1.csrSet (csrDramErrorAddress + 0x1000 * k) (BitVec.ofNat 64 a &&& 0xFFFFFFFFF0)
    | none => s1).noteMcu k

/-- The L2U report to the strand that errorsteer names (R1712, R1715). -/
def State.reportL2U (s : State) (pa : Nat) : State :=
  if s.nceen pa && s.steeredHere pa then s.recordDisrupting 20 true 16 else s

/-! ## I/O accesses that nothing answers -/

/-- A load that the NCU answers with an uncorrectable error: the precise SOCU error (spec/64_errors_soc.md R1762 (c),
R1766; decisions D94, D95). D-SFAR holds its virtual address in the form of spec/13_mmu_registers.md R420, sign-extended:
spec/62_errors_core.md R1610 gives no format for this error (log entry 15, DESIGN CHOICE). -/
def State.missingIoLoad (s : State) (va : Word) : Res Word :=
  if s.cerer 20 && s.pscce then .trap 0x032 ((s.setDsfsr 4).setDsfar va)
  else .ok (s.drawWord .maskedErrorData) s.drawn

/-- A fetch from an I/O address that is no boot ROM (R1767). -/
def State.missingIoFetch (s : State) : Res Word :=
  if s.cerer 54 && s.pscce then .trap 0x00A (s.setIsfsr 1)
  else .ok (s.drawWord .maskedErrorFetch) s.drawn

/-! ## SOC trap requests, R1761, R1796 -/

/-- The correctable entries of the SOC error status register (R1790). -/
def socCorrectableBits : Word := 0x0000036D84800408

/-- The entries without a class: SPARE4 to SPARE0 and `spare`. -/
def socSpareBits : Word := 0x7FFFF89241000000

/-- The entries whose syndrome NCUSYN and NCUSIISYN hold, in the order of their bits (R1798, R1799). -/
def socNcuSyndromes : List Nat := [14, 17, 18, 19, 21, 22]

/-- The same for NCUSIISYN. -/
def socSiiSyndromes : List Nat := [1, 5, 7]

/-- What NCUSYN holds of an error: its valid bits with the fields that are known, and the fields that are free: the Ctag, or type,
strand and address of the request (R1765, R1799). Of an access of this strand to address `own` only the type is free, whose codes
are not given. That `ncuinttable`, 17, has an address is TABLE 16-51's (R1790); R1775 lists none (log entry 62, DESIGN
CHOICE). -/
def socNcuFields (own : Option Nat) (b : Nat) : Word × Word :=
  if b = 14 ∨ b = 22 then (0x4000000000000000, 0xFFFF)
  else match own with
  | none => (0x3C00000000000000, 0x0007FFFFFFFFFFFF)
  | some pa =>
    (0x3C00000000000000 ||| (ownStrand.setWidth 64 <<< 40) ||| (BitVec.ofNat 40 pa).setWidth 64, 0x0007C00000000000)

/-- A syndrome register after an error of one of its entries, which is kept only where it holds none (decision D97): the entry's
number (decision D98) and fields that are free (log entry 62). Of several errors at once it keeps that of the lowest bit, which the
manual leaves open (log entry 62, DESIGN CHOICE). -/
def State.socSyndrome (s : State) (reg : Nat) (entries : List Nat) (shift : Nat) (fields : Nat → Word × Word)
    (logged : Word) : State :=
  match entries.find? (fun b => bitAt logged b) with
  | none => s
  | some b =>
    if bitAt (s.csrGet reg) 63 then s
    else
      let tag : Word := BitVec.ofNat 64 (b % 32) <<< shift
      s.drawn.csrSet reg
        (0x8000000000000000 ||| (fields b).1 ||| tag ||| (s.drawWord .undefinedErrorInfo &&& (fields b).2))

/-- The Error Indication packet for some entries. It goes to the strand of SOC_ERROR_STEER_REG; that for a strand which is not
enabled is dropped (R1794). Where correctable and uncorrectable entries ask together one packet is sent, an uncorrectable one, which
R1761 does not say (log entry 62, DESIGN CHOICE). Every entry is treated alike, as R1760 and R1761 have it: bit 8, `dmuinternal`,
of which the table of R1790 says that the strand records nothing, is recorded as SOCU too (log entry 62, DESIGN CHOICE). -/
def State.socPacket (s : State) (asking : Word) : State :=
  if (s.csrGet csrSocSteer).setWidth 6 != ownStrand || s.run == .disabled then s
  else if anyOf asking (~~~(socCorrectableBits ||| socSpareBits)) then s.recordDisrupting 20 true 19
  else if anyOf asking socCorrectableBits then s.recordDisrupting 21 false 11
  else if s.drawBit .socSpareClass then s.drawn.recordDisrupting 20 true 19
  else s.drawn.recordDisrupting 21 false 11

/-- A trap request of the SOC error registers for some entries, if none is pending and one of them is interrupt-enabled (R1761
step 3, decision D96). -/
def State.socRequest (s : State) (entries : Word) : State :=
  let asking := entries &&& s.csrGet csrSocEie &&& 0x7FFFFFFFFFFFFFFF
  if bitAt (s.csrGet csrSocPending) 63 || asking == 0 then s
  else
    ((s.csrSet csrSocPending (s.csrGet csrSocEsr ||| 0x8000000000000000)).csrSet csrSocEsr 0).socPacket asking

/-- Errors of the SOC, those of an access of this strand to address `own` if that is given (R1761): those that are log-enabled are
logged with their syndromes, a fatal one asks for a warm reset (decision D93), another for a trap. Where a fatal one and another
that is interrupt-enabled come together, the reset is taken and no request is made, which R1761 leaves open (log entry 62, DESIGN
CHOICE). An error is a debug event while the trigger of the NCU is enabled (spec/66_diag_debug.md R2082). -/
def State.socErrorsAt (s : State) (errors : Word) (own : Option Nat) : State :=
  let logged := errors &&& s.csrGet csrSocLogEnable &&& 0x7FFFFFFFFFFFFFFF
  if logged = 0 then s
  else
    let s1 := s.csrSet csrSocEsr (s.csrGet csrSocEsr ||| logged ||| 0x8000000000000000)
    let s2 := s1.socSyndrome csrNcuSyndrome socNcuSyndromes 51 (socNcuFields own) logged
    let s3 := s2.socSyndrome csrSiiSyndrome socSiiSyndromes 56 (fun _ => (0, 0x00FFFFFFFFFFFFFF)) logged
    let s4 : State := { s3 with events := { s3.events with soc := s3.events.soc || bitAt (s.csrGet csrNcuDebugTrigger) 0 } }
    if anyOf logged (s.csrGet csrSocFee) then
      { s4.csrSet csrResetSource (s4.csrGet csrResetSource ||| 0x80) with chipReset := some .wmr }
    else s4.socRequest logged

/-- Errors of the SOC that no access of this strand has met. -/
def State.socErrors (s : State) (errors : Word) : State := s.socErrorsAt errors none

end Sys2Proof.Machine
end

