-- ==== Sys2Proof/Machine/Dram.lean ====
section
/-! DEFINITION. Machine/Dram.lean: the error correcting code of memory, and the errors that a memory controller corrects
(spec/67_ecc_jtag.md R2110 to R2117; spec/63_errors_l2_dram.md R1700 to R1706, R1720 to R1726). -/

namespace Sys2Proof.Machine

/-! ## The code, spec/67_ecc_jtag.md R2112, R2113, R2116 -/

/-- A nibble times 2 in GF(16), with the polynomial 10011 (R2116). -/
def gfDouble (a : BitVec 4) : BitVec 4 := (a <<< 1) ^^^ (if bitAt a 3 then 3 else 0)

/-- The product in GF(16). -/
def gfMul (a b : BitVec 4) : BitVec 4 :=
  [3, 2, 1, 0].foldl (fun acc i => gfDouble acc ^^^ (if bitAt b i then a else 0)) 0

/-- The weights of the data nibbles 0 to 14, and again of 15 to 29, in C3 (R2112). -/
def qecWeights : List (BitVec 4) := [0x1, 0x9, 0xE, 0xD, 0xB, 0x7, 0x6, 0xF, 0x2, 0xC, 0x5, 0xA, 0x4, 0x3, 0x8]

/-- The syndrome S3 S2 S1 S0 of an error `e` in one nibble of a chunk: data nibble `n`, or, from 32 on, check nibble `n - 32`
(R2112, R2117). -/
def qecSyndrome (n : Nat) (e : BitVec 4) : BitVec 16 :=
  let first := gfMul (BitVec.ofNat 4 (n % 15 + 1)) e
  let last := gfMul (qecWeights.getD (n % 15) 0) e
  if n < 15 then last ++ 0#4 ++ e ++ first
  else if n < 30 then last ++ e ++ 0#4 ++ first
  else if n = 30 then e ++ e ++ e ++ 0#4
  else if n = 31 then 0#4 ++ e ++ e ++ e
  else (e.setWidth 16) <<< (4 * (n - 32))

/-- The nibble that a syndrome says is in error, with its error; none where it says that more than one is (R2113). -/
def qecNibble (syndrome : BitVec 16) : Option (Nat × BitVec 4) :=
  ((List.range 36).flatMap (fun n => (List.range 15).map (fun e => (n, BitVec.ofNat 4 (e + 1))))).find?
    (fun c => qecSyndrome c.1 c.2 == syndrome)

/-- The syndrome of poisoned memory (R2123). -/
def poisonSyndrome : BitVec 16 := 0x8221

/-! ## Logging, spec/63_errors_l2_dram.md R1701, R1720 to R1726 -/

/-- L2_ERROR_EN.ceen of the bank of an address (R1690). -/
def State.ceen (s : State) (pa : Nat) : Bool := bitAt (s.csrGet (csrL2ErrorEn + 64 * s.bankOf pa)) 0

/-- The error counter of a memory controller counts down, and tells the SOC when it comes to 0 (R1724; spec/64_errors_soc.md
R1785). -/
def State.countCorrected (s : State) (k : Nat) : State :=
  let reg := csrDramErrorCounter + 0x1000 * k
  let count : BitVec 16 := (s.csrGet reg).setWidth 16
  if count = 0 then s
  else
    let s1 := s.csrSet reg ((count - 1).setWidth 64)
    if count = 1 then s1.socErrors ((1 : Word) <<< (32 + 3 * k)) else s1

/-- What a retry read finds, as DRAM_ERROR_RETRY_REG codes it: 01 no error, 10 a correctable one, 11 another (R1726). -/
def retryCode (syndrome : BitVec 16) : BitVec 2 :=
  if syndrome = 0 then 1 else if (qecNibble syndrome).isSome then 2 else 3

/-- The retry reads of an error, with the syndromes that they find; after an uncorrectable one there is no second (R1726;
spec/65_mcu_dram.md R1842). R1726 says that the register is set on each correctable error: that it is set on the others too, with
the result of their first retry read, is R1842's (log entry 65, DESIGN CHOICE). -/
def State.logRetry (s : State) (k : Nat) (first : BitVec 16) (second : Option (BitVec 16)) : State :=
  let reg := csrDramErrorRetry + 0x1000 * k
  let again : BitVec 18 := match second with
    | some y => y ++ retryCode y
    | none => 0
  s.csrSet reg ((s.csrGet reg &&& 0xFFFFFFE000000000) ||| (1#1 ++ again ++ first ++ retryCode first : BitVec 37).setWidth 64)

/-- A memory controller puts the place of the nibble that it corrects in DRAM_ERROR_LOCATION_REG, unless a correctable error is
logged (R1725). -/
def State.logLocation (s : State) (k n : Nat) : State :=
  if anyOf (s.csrGet (csrDramErrorStatus + 0x1000 * k)) 0x2840000000000000 then s
  else s.csrSet (csrDramErrorLocation + 0x1000 * k) ((1 : Word) <<< n)

/-! ## Link errors that software injects, R1709, R1716, R1717, R1727 to R1729 -/

/-- While a cause is logged no further link errors are (R1727). -/
def State.linkBlocked (s : State) (k : Nat) : Bool := bitAt (s.csrGet (csrFbdErrorSyndrome + 0x1000 * k)) 63

/-- Where the errors of a link are injected: 0 a CRC error, 1 an alert frame, 2 an alert asserted, 3 the status frame parity
(R1728). -/
def State.linkSource (s : State) (k : Nat) : BitVec 2 := (s.csrGet (csrFbdErrorSource + 0x1000 * k)).extractLsb' 0 2

/-- The resets of the channel that come before an unrecoverable link error is logged: a Fast Reset for a CRC error, a Soft Channel
Reset for a status frame parity or an alert frame error (R1716, R1717, R1727); any others are free. -/
def linkResets (source : BitVec 2) : Word := if source = 0 then 0x10 else if source = 2 then 0 else 0x20

/-- A memory controller logs a link error: its cause, and `fbu` or `fbr` (R1720, R1721, R1727). -/
def State.logLink (s : State) (k : Nat) (fatal : Bool) : State :=
  let source := s.linkSource k
  let cause : Word := 0x8000000000000000 ||| ((1 : Word) <<< source.toNat) ||| (if fatal then linkResets source else 0)
  let s1 := s.drawn.csrSet (csrFbdErrorSyndrome + 0x1000 * k) (cause ||| (s.drawWord .undefinedErrorInfo &&& 0x3FFFFFF0))
  s1.drawn.logMcu k (if fatal then 55 else 54) fatal ((s1.drawWord .undefinedErrorInfo).setWidth 16) none

/-- A recoverable link error counts down, and is sent to the SOC when the count comes to 0, when it is 0, or every time (R1727, R1729;
spec/64_errors_soc.md R1785). -/
def State.countLink (s : State) (k : Nat) : State :=
  let reg := csrFbrCount + 0x1000 * k
  let count : BitVec 16 := (s.csrGet reg).setWidth 16
  let tell := fun (t : State) => t.socErrors ((1 : Word) <<< (31 + 3 * k))
  if bitAt (s.csrGet reg) 16 || count == 0 then tell s
  else if count = 1 then tell (s.csrSet reg (s.csrGet reg - 1))
  else s.csrSet reg (s.csrGet reg - 1)

/-! ## Reports -/

/-- A corrected error that comes with the data of a request, at the core (R1702): DESR, with the CERER bit and the error type of
the kind of request. -/
def State.reportCorrected (s : State) (pa cerer : Nat) (errtype : BitVec 5) : State :=
  if s.ceen pa then s.recordDisrupting cerer true errtype else s

/-- The L2C report to the strand that errorsteer names (R1703). -/
def State.reportL2C (s : State) (pa : Nat) : State :=
  if s.ceen pa && s.steeredHere pa then s.recordDisrupting 21 false 9 else s

end Sys2Proof.Machine
end

