-- ==== Sys2Proof/Machine/Lines.lean ====
section
/-! DEFINITION. Machine/Lines.lean: accesses to lines of memory whose data is known to be bad: those of memory that does not
exist, those with sublines marked NotData, in the L2 cache or written back with signalling ECC, and those with wrong check bits
in DRAM (spec/62_errors_core.md R1551; spec/63_errors_l2_dram.md R1681 to R1688, R1700 to R1706, R1710 to R1716, R1723). -/

namespace Sys2Proof.Machine

/-! ## What is known of a line -/

/-- The L2 bank of an address is disabled. -/
def State.l2Off (s : State) (pa : Nat) : Bool := bitAt (s.csrGet (csrL2Control + 64 * s.bankOf pa)) 0

/-- A line with which nothing is wrong. -/
def MemLine.none : MemLine := ⟨false, 0, false, false, fileOf 2 0, []⟩

/-- What is listed of the line of an address. -/
def State.line (s : State) (pa : Nat) : MemLine := sparseGet .none s.notData (pa / 64)

/-- The line of an address is listed as in the L2 cache. -/
def State.resident (s : State) (pa : Nat) : Bool := (s.line pa).resident

/-- The marked sublines of the line of an address. -/
def State.marks (s : State) (pa : Nat) : BitVec 16 := (s.line pa).marks

/-- By how much the check bits in DRAM of a chunk of the line differ from the right ones (R1723). -/
def State.syndrome (s : State) (pa q : Nat) : BitVec 16 := fileGet (s.line pa).syndromes (BitVec.ofNat 2 q)

/-- The memory controller of the bank of an address. -/
def State.mcuOf (s : State) (pa : Nat) : Nat := s.bankOf pa / 2

/-- Software injects errors into the writes of the memory controller of an address (R1723). -/
def State.injectsDram (s : State) (pa : Nat) : Bool := bitAt (s.csrGet (csrDramErrorInject + 0x1000 * s.mcuOf pa)) 31

/-- Software injects errors into the writes of some memory controller. -/
def State.injectsSome (s : State) : Bool := (List.range 4).any (fun k => bitAt (s.csrGet (csrDramErrorInject + 0x1000 * k)) 31)

/-- In failover mode a memory controller corrects single errors and detects no others (spec/65_mcu_dram.md R1840, R1885). Single
channel mode "rules out" that (R1879): `en` does nothing there, which the manual leaves open (log entry 65, DESIGN CHOICE). -/
def State.failover (s : State) (pa : Nat) : Bool :=
  bitAt (s.csrGet (csrDramFailover + 0x1000 * s.mcuOf pa)) 0 &&
    !bitAt (s.csrGet (csrDramSingleChannel + 0x1000 * s.mcuOf pa)) 0

/-- The read of the line of an address meets an injected link error in this step; whether that is an unrecoverable one. -/
def State.linked (s : State) (pa : Nat) : Option Bool :=
  match s.linkLine with
  | none => none
  | some (l, fatal) => if l = pa / 64 then some fatal else none

/-- The memory of an address exists, nothing is wrong with its line, and a store to it writes the right check bits: with the L2
cache disabled it goes to DRAM at once, where software may inject errors (R1723; spec/20_memory.md R552). -/
def State.plainLine (s : State) (pa : Nat) : Bool :=
  s.dramExists pa && (sparseFind s.notData (pa / 64)).isNone && s.linked pa == none &&
    !(s.injectsSome && s.l2Off pa && s.injectsDram pa)

/-- A line as it is listed: with nothing wrong it does not matter where the line is. -/
def MemLine.tidy (l : MemLine) : MemLine :=
  if l.marks = 0 ∧ l.syndromes = fileOf 2 0 ∧ l.dram = [] then .none else l

/-- The line of an address is in another condition. Of memory that does not exist only a line in the cache is listed. -/
def State.putLine (s : State) (pa : Nat) (l : MemLine) : State :=
  let v : MemLine :=
    if s.dramExists pa then l.tidy
    else if l.resident then { MemLine.none with resident := true, marks := l.marks } else .none
  { s with notData := sparsePut .none s.notData (pa / 64) v }

/-- The sublines that `n` bytes from an address on touch; of those past the line, none. -/
def sublines (pa n : Nat) : BitVec 16 :=
  BitVec.ofFnLE (fun k => decide (4 * k.val < pa % 64 + n) && decide (pa % 64 < 4 * k.val + 4) && decide (0 < n))

/-- The sublines that some bytes fill. -/
def fullSublines (addrs : List Nat) : BitVec 16 :=
  BitVec.ofFnLE (fun k => (List.range 4).all (fun i => addrs.any (fun a => a % 64 == 4 * k.val + i)))

/-- The sublines that some bytes touch. -/
def anySublines (addrs : List Nat) : BitVec 16 :=
  BitVec.ofFnLE (fun k => addrs.any (fun a => a % 64 / 4 == k.val))

/-- The chunks of some sublines. -/
def chunksOf (m : BitVec 16) : BitVec 4 := BitVec.ofFnLE (fun k => m.extractLsb' (4 * k.val) 4 != 0)

/-- The sublines of some chunks. -/
def chunkSublines (c : BitVec 4) : BitVec 16 := BitVec.ofFnLE (fun k => bitAt c (k.val / 4))

/-- The chunks in DRAM whose wrong check bits satisfy a test. -/
def State.wrongChunks (s : State) (pa : Nat) (test : BitVec 16 → Bool) : BitVec 4 :=
  BitVec.ofFnLE (fun k => s.syndrome pa k.val != 0 && test (s.syndrome pa k.val))

/-- The sublines in DRAM whose error is corrected when they are read. -/
def State.corrected (s : State) (pa : Nat) : BitVec 16 :=
  if s.linked pa = some false then BitVec.allOnes 16
  else chunkSublines (s.wrongChunks pa (fun y => (qecNibble y).isSome))

/-- The sublines in DRAM whose error is detected when they are read, and not corrected, those with signalling ECC among them
(spec/67_ecc_jtag.md R2123). In failover mode none is: the read gives the bytes that are stored, which the manual leaves open (log
entry 65, DESIGN CHOICE). -/
def State.uncorrected (s : State) (pa : Nat) : BitVec 16 :=
  if s.failover pa then 0 else chunkSublines (s.wrongChunks pa (fun y => (qecNibble y).isNone))

/-- The sublines that are bad when memory is read: all of them where it does not exist (R1710), or where the read meets an
unrecoverable link error (R1716). -/
def State.badMemory (s : State) (pa : Nat) : BitVec 16 :=
  if !s.dramExists pa || s.linked pa == some true then BitVec.allOnes 16 else s.uncorrected pa

/-! ## Writes to DRAM, R1688, R1718, R1723 -/

/-- A byte of DRAM, which of a line in the cache may differ from the cache's. -/
def State.dramByte (s : State) (a : Nat) : Byte := (sparseFind (s.line a).dram a).getD (s.globalByte a)

/-- Bytes of a line of DRAM change: those of memory, or, while the cache holds the line, only what DRAM has beside it. What DRAM
holds below a line that has been written in the cache is never read. -/
def State.putDram (s : State) (pa : Nat) (cells : List Host.Cell) : State :=
  let l := s.line pa
  let listed := cells.foldl (fun acc c => sparseInsert acc c.1 c.2) l.dram
  if !l.resident then s.putUnder cells
  else if l.dirty then s
  else s.putLine pa { l with dram := listed.filter (fun c => c.2 != s.globalByte c.1) }

/-- What hardware changes in the data of a chunk that it reads with a syndrome, where it takes the error for one of data nibble `n`
and corrects that (spec/67_ecc_jtag.md R2111, R2113). -/
def State.miscorrected (s : State) (chunk : Nat) (syndrome : BitVec 16) : List Host.Cell :=
  match qecNibble syndrome with
  | none => []
  | some (n, e) =>
    if 32 ≤ n then []
    else
      let a := chunk + 15 - n / 2
      [(a, s.dramByte a ^^^ (if n % 2 = 0 then e.setWidth 8 else e.setWidth 8 <<< 4))]

/-- The check bits of some chunks of a line are wrong by `mask`. -/
def MemLine.withSyndromes (l : MemLine) (chunks : BitVec 4) (mask : BitVec 16) : MemLine :=
  { l with
    syndromes := (List.range 4).foldl
      (fun acc q => if bitAt chunks q then fileSet acc (BitVec.ofNat 2 q) mask else acc) l.syndromes }

/-- Some chunks of a line are written to DRAM: with the right check bits, or, while software injects errors there, with wrong ones;
a single-shot injection ends with that (R1723). -/
def State.writeDram (s : State) (pa : Nat) (chunks : BitVec 4) : State :=
  let reg := csrDramErrorInject + 0x1000 * s.mcuOf pa
  let v := s.csrGet reg
  if chunks = 0 then s
  else if !bitAt v 31 then s.putLine pa ((s.line pa).withSyndromes chunks 0)
  else
    let s1 := s.putLine pa ((s.line pa).withSyndromes chunks (v.setWidth 16))
    if bitAt v 30 then s1.csrSet reg (v &&& 0xFFFF) else s1

/-- A line leaves the L2 cache: one that has been written there goes to DRAM, where the chunks with a marked subline get signalling
ECC (R1688); of another one DRAM keeps what it has; that of nonexistent memory is dropped (R1710). -/
def State.evict (s : State) (pa : Nat) : State :=
  let l := s.line pa
  let out : MemLine := { l with resident := false, marks := 0, dirty := false, dram := [] }
  let bad := chunksOf l.marks
  if !s.dramExists pa then s.putLine pa out
  else if !l.dirty then (s.putUnder l.dram).putLine pa { out with unknown := l.unknown && l.syndromes != fileOf 2 0 }
  else (s.putLine pa (out.withSyndromes bad poisonSyndrome)).writeDram pa (~~~bad)

/-- Before an access, a line in the cache may have left it; with the L2 cache disabled it has. -/
def State.aged (s : State) (pa : Nat) : State :=
  if !s.resident pa then s
  else if s.l2Off pa then s.evict pa
  else if s.drawBit .lineEvicted then s.drawn.evict pa
  else s.drawn

/-! ## Reads of DRAM, R1700 to R1703, R1710 to R1712 -/

/-- A memory controller has detected an error that it cannot correct in a chunk, in a read (bit 60 of its status register) or in a
scrub (bit 58), of `address` (R1674, R1709, R1717, R1720; spec/65_mcu_dram.md R1842). -/
def State.logUncorrectable (s : State) (pa q bit : Nat) (address : Option Nat) : State :=
  let y := s.syndrome pa q
  (s.logMcu (s.mcuOf pa) bit true y address).logRetry (s.mcuOf pa) y none

/-- A memory controller has corrected an error in a chunk, in a read (bit 61) or in a scrub (bit 59): it logs that and writes the
corrected data again, with the right check bits unless software injects an error into that write too (R1701, R1709, R1720, R1723 to
R1726; spec/65_mcu_dram.md R1842). -/
def State.logCorrected (s : State) (pa q bit : Nat) (address : Option Nat) : State :=
  let k := s.mcuOf pa
  let y := s.syndrome pa q
  match qecNibble y with
  | none => s
  | some (n, _) =>
    let s1 := (s.logLocation k n).logMcu k bit false y address
    let s2 := (s1.putDram pa (s1.miscorrected (pa / 64 * 64 + 16 * q) y)).writeDram pa ((1 : BitVec 4) <<< q)
    (s2.logRetry k y (some (s2.syndrome pa q))).countCorrected k

/-- A memory controller logs a link error that a read has met (R1716, R1740). -/
def State.logLinked (s : State) (pa : Nat) : State :=
  match s.linked pa with
  | none => s
  | some fatal =>
    let s1 : State := { s.logLink (s.mcuOf pa) fatal with linkLine := none }
    if fatal then s1 else s1.countLink (s.mcuOf pa)

/-- The memory controller logs a read of a line: the address that no DIMM backs, the link error that it has met, and one error for
each chunk that is in error (R1720). -/
def State.logMemory (s : State) (pa : Nat) : State :=
  if !s.dramExists pa then s.logOutOfBounds pa
  else
    let wrong := (List.range 4).filter (fun q => bitAt (chunksOf (s.uncorrected pa)) q)
    let fixed := (List.range 4).filter (fun q => (qecNibble (s.syndrome pa q)).isSome)
    let s1 := wrong.foldl (fun acc q => acc.logUncorrectable pa q 60 none) (s.logLinked pa)
    fixed.foldl (fun acc q => acc.logCorrected pa q 61 none) s1

/-- The line is loaded into the L2 cache, if that is enabled, with its bad sublines marked (R1711); what of it is known to be bad
in DRAM stays known. `spoilt` says that the link has spoilt its data on the way. -/
def State.fillLine (s : State) (pa : Nat) (bad : BitVec 16) (spoilt : Bool) : State :=
  let l := s.line pa
  if s.l2Off pa then s
  else s.putLine pa { l with resident := true, marks := bad, unknown := l.unknown || spoilt }

/-- The errors seen when the line is loaded, in some of its sublines: logged, and reported to errorsteer (R1703, R1712). -/
def State.fillReport (s : State) (pa : Nat) (bad fixed : BitVec 16) : State :=
  let s1 := if bad = 0 then s else (s.logDram pa false false true).reportL2U pa
  if fixed = 0 then s1 else (s1.logDram pa true false true).reportL2C pa

/-! ## Reads that wait for their chunk: loads and fetches, R1711, R1712 -/

/-- What a read finds. -/
inductive Found where
  /-- Good data. -/
  | good
  /-- Good data, corrected on its way from memory. -/
  | corrected
  /-- A subline marked NotData in the cache. -/
  | marked
  /-- Bad data in the chunk from memory that the read waits for. -/
  | bad
  deriving DecidableEq, Repr

/-- The data is good. -/
def Found.fine : Found → Bool
  | .good | .corrected => true
  | _ => false

/-- What a read has found: of what it waits for; which sublines of the line are bad; and whether bad data is what memory holds. -/
structure Finding where
  found : Found
  bad : BitVec 16
  known : Bool
  deriving DecidableEq, Repr

/-- A read of a listed line that waits for an aligned chunk of it, which is what the L2 cache sends (spec/67_ecc_jtag.md R2122);
`note` is what a corrected error in that chunk does at the core (R1702). A corrected error beside bad data in the chunk only sets
`mec` (R1693). -/
def State.findBytes (s : State) (pa chunk : Nat) (note : State → State) : Finding × State :=
  let s1 := s.aged pa
  let here := sublines (pa / chunk * chunk) chunk
  let known := s1.dramExists pa && !(s1.line pa).unknown
  if s1.resident pa then (⟨if s1.marks pa &&& here != 0 then .marked else .good, s1.marks pa, known⟩, s1)
  else
    let bad := s1.badMemory pa
    let fixed := s1.corrected pa
    let spoilt := s1.linked pa == some true
    let found : Found := if bad &&& here != 0 then .bad else if fixed &&& here != 0 then .corrected else .good
    let s2 := s1.logMemory pa
    let both := fun (t : State) => if fixed &&& here != 0 then t.logDram pa true false false else t
    let s3 := if found = .bad then both (s2.logDram pa false false false)
      else if found = .corrected then note (s2.logDram pa true false false) else s2
    (⟨found, bad, known && !spoilt⟩,
      (s3.fillReport pa (bad &&& ~~~here) (fixed &&& ~~~here)).fillLine pa bad spoilt)

/-- A read has found bad data: its record, if the report of that is enabled: the error type of D-SFSR or I-SFSR, the CERER bit of
each class being given (R1666, R1683, R1684, R1711). -/
def State.reported (s : State) (pa : Nat) (found : Found) (cererBad cererMarked : Nat) : Bool :=
  match found with
  | .good | .corrected => false
  | .bad => s.nceen pa && s.cerer cererBad && s.pscce
  | .marked => s.nceen pa && s.cerer cererMarked && s.pscce

/-- A read has found a subline marked NotData: the bank logs it (R1681). -/
def State.logFound (s : State) (pa : Nat) (found : Found) : State :=
  if found = .marked then s.logNotData pa false else s

/-- Bytes of a bad line whose error is not reported: the stored ones where these are `known` (R1666), or any. -/
def State.storedOrFree (s : State) (known : Bool) (pa n : Nat) : List Byte × State :=
  if known then (s.readBytes pa n, s)
  else (bytesOfWord 8 (s.drawWord .maskedErrorData) ++ bytesOfWord 8 (s.drawn.drawWord .maskedErrorData) |>.take n, s.drawn.drawn)

/-! ### The copies in the L1 caches, R1683, R1684, R1711; spec/67_ecc_jtag.md R2120, R2121

Only chunks with bad data are listed. Whether a set still holds those of it is free: a line may have been replaced, invalidated or
overwritten since (log entry 68, DESIGN CHOICE). -/

/-- The set of the data cache that a listed chunk is in is that of an address (spec/20_memory.md R548). -/
def inSetD (pa : Nat) (c : Nat × L1Chunk) : Bool := c.1 % 128 == pa / 16 % 128

/-- A listed chunk is in the line of the instruction cache at an address (R547). -/
def inLineI (pa : Nat) (c : Nat × L1Chunk) : Bool := c.1 / 2 == pa / 32

/-- What a set of an L1 cache holds of a chunk that a read has found bad: from memory always bad parity, of NotData only where its
report is enabled (`reports`; R1683, R1684, R1711). -/
def Found.l1Chunk (found : Found) (reports : Bool) : L1Chunk :=
  match found with
  | .good | .corrected => .absent
  | .bad => .badParity
  | .marked => if reports then .badParity else .badData

/-- A load puts the chunk that it has found bad into the data cache, if the strand uses that. -/
def State.fillL1d (s : State) (pa : Nat) (found : Found) : State :=
  if !s.lsu.dc || found.fine then s
  else { s with l1d := sparsePut .absent s.l1d (pa / 16) (found.l1Chunk (s.nceen pa && s.cerer 38)) }

/-- A fetch puts the bad chunks of the line that it has found bad into the instruction cache, if the strand uses that. -/
def State.fillL1i (s : State) (pa : Nat) (f : Finding) : State :=
  if !s.lsu.ic || f.found.fine then s
  else
    let chunk := f.found.l1Chunk (s.nceen pa && s.cerer 53)
    let put := fun (acc : List (Nat × L1Chunk)) (c : Nat) =>
      if f.bad &&& sublines (16 * c) 16 = 0 then acc else sparsePut .absent acc c chunk
    { s with l1i := put (put s.l1i (pa / 32 * 2)) (pa / 32 * 2 + 1) }

/-- A load looks in the data cache: whether it gets bad data there. All ways of the set are checked for bad parity, which is
recorded, and then invalidated (spec/62_errors_core.md R1578; format 5 of R1610). -/
def State.lookL1d (s : State) (pa : Nat) : Bool × State :=
  if !s.lsu.dc || !s.l1d.any (inSetD pa) then (false, s)
  else
    let emptied := s.l1d.filter (fun c => !inSetD pa c)
    let index : BitVec 7 := BitVec.ofNat 7 (pa / 16)
    let addr : BitVec 11 := (s.drawn.drawWord .undefinedErrorInfo).extractLsb' 7 4 ++ index
    if !s.drawBit .l1Kept then (false, { s.drawn with l1d := emptied })
    else if s.cerer 11 && s.l1d.any (fun c => inSetD pa c && c.2 == .badParity) then
      (false, ({ s.drawn.drawn with l1d := emptied } : State).recordDesr 11 false 8 addr)
    else ((sparseFind s.l1d (pa / 16)).isSome, s.drawn)

/-- What an instruction fetch finds in the instruction cache. -/
inductive FetchHit where
  | miss | good | bad
  deriving DecidableEq, Repr

/-- A fetch looks in the instruction cache. Bad parity of the word is recorded, and all ways of the set are invalidated
(spec/62_errors_core.md R1574; format 4 of R1610). -/
def State.lookL1i (s : State) (pa : Nat) : FetchHit × State :=
  if !s.lsu.ic || !s.l1i.any (inLineI pa) then (.miss, s)
  else
    let index : BitVec 6 := BitVec.ofNat 6 (pa / 32)
    let addr : BitVec 11 := (s.drawn.drawWord .undefinedErrorInfo).extractLsb' 6 5 ++ index
    let set := fun (c : Nat × L1Chunk) => c.1 / 2 % 64 == pa / 32 % 64
    if !s.drawBit .l1Kept then (.miss, { s.drawn with l1i := s.l1i.filter (fun c => !inLineI pa c) })
    else match sparseFind s.l1i (pa / 16) with
    | none => (.good, s.drawn)
    | some .badParity =>
      if s.cerer 15 then
        (.miss, ({ s.drawn.drawn with l1i := s.l1i.filter (fun c => !set c) } : State).recordDesr 15 false 4 addr)
      else (.bad, s.drawn)
    | some _ => (.bad, s.drawn)

/-- What bad data of a line in an L1 cache gives: the stored bytes where they are known, or any. -/
def State.l1Bytes (s : State) (pa n : Nat) : List Byte × State :=
  s.storedOrFree (s.dramExists pa && !(s.line pa).unknown) pa n

/-! ### Loads and fetches -/

/-- `n` bytes of a bad line, for a load that may bring its chunk into the data cache (`caches`: not the loads of 16 bytes, which
"force a miss in the primary cache and will not allocate a line" there, spec/42_load_store.md R920, R930). -/
def State.badLoad (s : State) (caches : Bool) (pa n : Nat) : Res (List Byte) :=
  let f := s.findBytes pa 16 (fun t => t.reportCorrected pa 40 4)
  let s1 := f.2.logFound pa f.1.found
  let s2 := if caches then s1.fillL1d pa f.1.found else s1
  if s1.reported pa f.1.found 39 38 then
    .trap 0x032 ((s2.setDsfsr (if f.1.found = .marked then 2 else 1)).setDsfarUndefined)
  else
    let got := s2.storedOrFree (f.1.found.fine || f.1.known) pa n
    .ok got.1 got.2

/-- The word that an instruction fetch reads from a bad line. -/
def State.badFetch (s : State) (pa : Nat) : Res Word :=
  let look := s.lookL1i pa
  let f := look.2.findBytes pa 32 (fun t => t.reportCorrected pa 55 2)
  let s1 := (f.2.logFound pa f.1.found).fillL1i pa f.1
  let got := match look.1 with
    | .miss => s1.storedOrFree (f.1.found.fine || f.1.known) pa 4
    | .good => (look.2.readBytes pa 4, look.2)
    | .bad => look.2.l1Bytes pa 4
  if look.1 = .miss ∧ s1.reported pa f.1.found 54 53 = true then
    .trap 0x00A (s1.setIsfsr (if f.1.found = .marked then 2 else 1))
  else .ok (wordOfBytes got.1) got.2

/-! ## Requests that wait for the whole line: atomics, tablewalks, prefetches, R1713, R1714 -/

/-- The line is in the cache, or its errors have been reported and it has been loaded; its bad sublines, and whether their data is
what memory holds. -/
def State.waitLine (s : State) (pa : Nat) : (BitVec 16 × Bool) × State :=
  let s1 := s.aged pa
  let known := s1.dramExists pa && !(s1.line pa).unknown
  if s1.resident pa then ((s1.marks pa, known), s1)
  else
    let bad := s1.badMemory pa
    let spoilt := s1.linked pa == some true
    ((bad, known && !spoilt), ((s1.logMemory pa).fillReport pa bad (s1.corrected pa)).fillLine pa bad spoilt)

/-- The 16 bytes of a TTE in a bad line, for the instruction or the data side (R1682). The data side writes Tag Access too, where
`tag` is what it gets. -/
def State.badWalk (s : State) (pa : Nat) (inst : Bool) (tag : State → State) : Res (List Byte) :=
  let w := s.waitLine pa
  if w.1.1 &&& sublines pa 16 = 0 then .ok (w.2.readBytes pa 16) w.2
  else
    let s1 := w.2.logNotData pa false
    if s1.nceen pa && s1.cerer 58 then
      if inst then .trap 0x071 (s1.setIsfsr 6) else .trap 0x072 (tag ((s1.setDsfsr 6).setDsfarUndefined))
    else
      let got := s1.storedOrFree w.1.2 pa 16
      .ok got.1 got.2

/-- A prefetch of a listed line: the errors of its load into the cache, of which the strand records that of its chunk where it is
corrected, or the NotData that it meets there (R1685, R1702, R1714). -/
def State.badPrefetch (s : State) (pa : Nat) : State :=
  let s1 := s.aged pa
  let here := sublines (pa / 16 * 16) 16
  if !s1.resident pa then
    let bad := s1.badMemory pa
    let fixed := s1.corrected pa
    let s2 := s1.logMemory pa
    let own : Bool := bad &&& here == 0 && fixed &&& here != 0
    let s3 := if own then (s2.logDram pa true false false).reportCorrected pa 21 20 else s2
    (s3.fillReport pa bad (if own then fixed &&& ~~~here else fixed)).fillLine pa bad (s1.linked pa == some true)
  else if s1.marks pa &&& here = 0 then s1
  else
    let s2 := s1.logNotData pa false
    if s2.nceen pa then s2.recordDisrupting 19 true 17 else s2

/-! ## Stores, R1686, R1710, R1715 -/

/-- Some bytes of a line are written, without a change of its bad sublines: in the cache, or, with the L2 cache disabled, in their
chunks of DRAM, of which those with a bad subline get signalling ECC for all of it (R1688, R1718; spec/67_ecc_jtag.md R2122). -/
def State.rewritten (s : State) (pa : Nat) (addrs : List Nat) (bad : BitVec 16) : State :=
  let l := s.line pa
  if l.resident || !s.l2Off pa then s.putLine pa { l with resident := true, dirty := true, marks := bad, dram := [] }
  else
    let chunks := chunksOf (anySublines addrs)
    let poison := chunks &&& chunksOf bad
    (s.putLine pa (l.withSyndromes poison poisonSyndrome)).writeDram pa (chunks &&& ~~~poison)

/-- The bad sublines of a line that a store meets. -/
def State.badSublines (s : State) (pa : Nat) : BitVec 16 := if s.resident pa then s.marks pa else s.uncorrected pa

/-- Bytes that reach a line with their addresses: a subline that they fill is good from now on, and bytes of another bad one are
dropped. So of a store that fills one subline and covers part of a bad one only the latter part is dropped, which R1686 leaves open
(log entry 61, DESIGN CHOICE). -/
def State.storeCells (s : State) (pa : Nat) (cells : List Host.Cell) : State :=
  let addrs := cells.map (fun c => c.1)
  let bad := s.badSublines pa &&& ~~~fullSublines addrs
  let kept := cells.filter (fun c => !bitAt bad (c.1 % 64 / 4))
  { s with mem := memPutCells s.mem kept }.rewritten pa addrs bad

/-- A store to a listed line. A miss is logged and reported; with the L2 cache disabled a store of whole sublines reads nothing
(R1701, R1705, R1706, R1715), and neither does one of a whole line by a block-initializing store (spec/42_load_store.md R940;
spec/67_ecc_jtag.md R2124). What goes to memory that does not exist is lost. -/
def State.badStore (s : State) (kind : StoreKind) (pa : Nat) (cells : List Host.Cell) : State :=
  let s1 := s.aged pa
  let addrs := cells.map (fun c => c.1)
  let s2 :=
    if s1.resident pa || (s1.l2Off pa && fullSublines addrs == anySublines addrs) then s1
    else if kind = .init ∧ fullSublines addrs = BitVec.allOnes 16 then s1.putLine pa { s1.line pa with resident := true }
    else
      let bad := s1.badMemory pa
      let s2 := s1.logMemory pa
      let s3 := if bad = 0 then s2 else (s2.logDram pa false true false).reportL2U pa
      let s4 := if s1.corrected pa = 0 then s3 else (s3.logDram pa true true true).reportL2C pa
      s4.fillLine pa bad (s1.linked pa == some true)
  if s2.dramExists pa || s2.resident pa then s2.storeCells pa cells else s2

/-- A block store to memory that does not exist is dropped "with no error indication" (R1710). -/
def State.badBlockStore (s : State) (pa : Nat) (cells : List Host.Cell) : State :=
  if s.dramExists pa then s.badStore .block pa cells else s

/-- An atomic on `n` bytes of a bad line: the bytes, and whether the update is done, which it is not where one of their sublines is
bad (R1666, R1684, R1713). Their own sublines alone count, not the others of their 16-byte chunk: spec/67_ecc_jtag.md R2122 names
L1 misses, DMA reads and writebacks, and leaves atomics open (log entry 61, DESIGN CHOICE). -/
def State.badAtomic (s : State) (pa n : Nat) : Res (List Byte × Bool) :=
  let w := s.waitLine pa
  if w.1.1 &&& sublines pa n = 0 then .ok (w.2.readBytes pa n, true) w.2
  else
    let s1 := w.2.logNotData pa true
    if s1.nceen pa && s1.cerer 38 && s1.pscce then .trap 0x032 ((s1.setDsfsr 2).setDsfarUndefined)
    else
      let got := s1.storedOrFree w.1.2 pa n
      .ok (got.1, false) got.2

end Sys2Proof.Machine
end

