-- ==== Sys2Proof/Machine/StoreBuffer.lean ====
section
/-! DEFINITION. Machine/StoreBuffer.lean: what the store buffer does with the stores in it: they leave it for memory, in error
some of them, and a load finds one of them there (spec/62_errors_core.md R1581 to R1587; spec/20_memory.md R529). -/

namespace Sys2Proof.Machine

/-! ## Stores that leave the buffer -/

/-- DESR's address bits of a store-buffer error: format 6, the entry below bits that are undefined (R1610). -/
def State.storeInfo (s : State) (index : BitVec 3) : BitVec 11 := (s.drawWord .undefinedErrorInfo).extractLsb' 3 8 ++ index

/-- The highest privilege level of some stores, and of one of level `also` beside them (R1586, R1587, R1620). -/
def highestLevel (also : BitVec 2) (ps : List PendingStore) : BitVec 2 :=
  ps.foldl (fun acc p => if acc < p.level then p.level else acc) also

/-- The addresses that a store writes. -/
def PendingStore.addrs (p : PendingStore) : List Nat := p.old.map (fun c => c.1)

/-- Of a store that reaches memory the bytes in sublines that are bad, and that it does not fill, are lost: memory, below the younger
stores `rest`, has its own again (spec/63_errors_l2_dram.md R1686; spec/67_ecc_jtag.md R2122). -/
def State.mergeStore (s : State) (p : PendingStore) (rest : List PendingStore) : List PendingStore × State :=
  let bad := s.badSublines p.pa &&& ~~~fullSublines p.addrs
  let lost := p.old.filter (fun c => bitAt bad (c.1 % 64 / 4))
  if lost = [] then (rest, s)
  else
    let left := cancelCells s.mem rest lost
    (left.1, { s with mem := left.2 })

/-- A store reaches memory with its data: the marked sublines that it fills are good (spec/63_errors_l2_dram.md R1686). The younger
stores `rest`, and the state after it. -/
def State.performed (s : State) (p : PendingStore) (rest : List PendingStore) : List PendingStore × State :=
  if (sparseFind s.notData (p.pa / 64)).isNone then (rest, s)
  else
    let m := s.mergeStore p rest
    (m.1, m.2.rewritten p.pa p.addrs (s.badSublines p.pa &&& ~~~fullSublines p.addrs))

/-- A store reaches memory as NotData (R1585). -/
def State.poisoned (s : State) (p : PendingStore) (rest : List PendingStore) : List PendingStore × State :=
  let m := s.mergeStore p rest
  (m.1, m.2.rewritten p.pa p.addrs (s.badSublines p.pa ||| anySublines p.addrs))

/-- The byte that a store of the buffer wrote: what the oldest younger store to the address found there, or what memory holds;
`younger` has the oldest first. -/
def State.writtenByte (s : State) (younger : List PendingStore) (a : Nat) : Byte :=
  ((younger.findSome? (fun p => sparseFind p.old a))).getD (s.readByte a)

/-- The byte of a doubleword at an address. -/
def byteAt (v : Word) (a : Nat) : Byte := v.extractLsb' (8 * (7 - a % 8)) 8

/-- What hardware changes in the bytes that a store wrote when it corrects an error of their check bits: nothing, or the data bit
that the syndrome names, in both words of the entry (spec/67_ecc_jtag.md R2101). -/
def State.correctedCells (s : State) (p : PendingStore) (younger : List PendingStore) : List Host.Cell :=
  let base := p.pa / 8 * 8
  let changed := p.addrs.filter (fun a => a / 8 * 8 == base && byteAt (corrected39 p.ecc) a != 0)
  changed.map (fun a => (a, s.writtenByte younger a ^^^ byteAt (corrected39 p.ecc) a))

/-- Stores leave the buffer, the oldest first; `mem` holds what they leave there, and `n` is at least their number. An error in
the address of one drops it and all younger ones (R1587), the one of level `also` among them that waits to enter. Of an error in the
data, one bit is corrected (R1584), more make NotData (R1585), and of a block store's piece they end it (R1735). -/
def State.drainList (s : State) (also : BitVec 2) (n : Nat) (ps : List PendingStore) : State :=
  match n, ps with
  | 0, _ => s
  | _, [] => s
  | n + 1, p :: rest =>
    if p.camBad && s.cerer 23 then
      ({ s with mem := dropStores s.mem (p :: rest).reverse } : State).recordDeferred false (highestLevel also (p :: rest)) p.index
    else if p.ecc = 0 then
      let d := s.performed p rest
      d.2.drainList also n d.1
    else if corrects39 p.ecc && s.cerer 10 then
      let s1 := s.drawn.recordDesr 10 false 10 (s.storeInfo p.index)
      let left := cancelCells s1.mem rest (s1.correctedCells p rest)
      let d := ({ s1 with mem := left.2 } : State).performed p left.1
      d.2.drainList also n d.1
    else if corrects39 p.ecc || !s.cerer 9 then
      let d := s.performed p rest
      d.2.drainList also n d.1
    else
      let s1 := s.drawn.recordDesr 9 true 6 (s.storeInfo p.index)
      if p.kind = .block then
        let left := cancelCells s1.mem rest p.old
        ({ s1 with mem := left.2 } : State).drainList also n left.1
      else
        let d := s1.poisoned p rest
        d.2.drainList also n d.1

/-- The store buffer is drained (R529, R536), for a store of level `also` that waits, or 0. -/
def State.drainFor (s : State) (also : BitVec 2) : State :=
  let empty : State := { s with undrained := [] }
  if s.undrained.all PendingStore.clean then empty else empty.drainList also s.undrained.length s.undrained.reverse

/-- The store buffer is drained. -/
def State.drain (s : State) : State := s.drainFor 0

/-- A store in error leaves the buffer sooner or later, with those before it. -/
def State.drainFlawed (s : State) : State :=
  if s.undrained.all PendingStore.clean then s
  else if s.drawBit .storeDrains then s.drawn.drain else s.drawn

/-! ## Errors that software injects into DRAM, spec/63_errors_l2_dram.md R1723 -/

/-- While software injects errors into the writes of memory controller `k`, it may write a line to DRAM, here at most one in a
step, which is free (log entry 65, DESIGN CHOICE). -/
def State.injectDram (s : State) (k : Nat) : State :=
  if !bitAt (s.csrGet (csrDramErrorInject + 0x1000 * k)) 31 then s
  else
    let free := s.drawWord .dramInjection
    let pa := (free.setWidth 39).toNat / 64 * 64
    if !bitAt free 63 || s.mcuOf pa != k || s.l2Off pa || !s.plainLine pa || s.pendingIn pa 64 (fun _ => true) then s.drawn
    else s.drawn.writeDram pa 15

/-- The same for the four memory controllers. -/
def State.injectMemory (s : State) : State := (List.range 4).foldl (fun acc k => acc.injectDram k) s

/-! ## The scrubber of a memory controller, R1709, R1717; spec/65_mcu_dram.md R1841, R1842 -/

/-- An L2 bank notes a DRAM scrub or link error: `dsu` or `dsc`, which it tells a core of later (R1691). -/
def State.logScrub (s : State) (b : Nat) (severe : Bool) : State :=
  let status := csrL2ErrorStatus + 64 * b
  let s1 := (s.csrSet status (s.csrGet status ||| (if severe then 0x0000002000000000 else 0x0000004000000000))).noteBank b
  { s1 with unreported := s1.unreported ||| ((1 : BitVec 16) <<< (if severe then 8 + b else b)) }

/-- The scrubber reads a chunk of a line in DRAM. -/
def State.scrubChunk (s : State) (pa q : Nat) : State :=
  let wrong := bitAt (chunksOf (s.uncorrected pa)) q
  let address := some (pa / 64 * 64 + 16 * q)
  if wrong then (s.logUncorrectable pa q 58 address).logScrub (s.bankOf pa) true
  else if (qecNibble (s.syndrome pa q)).isSome then (s.logCorrected pa q 59 address).logScrub (s.bankOf pa) false
  else s

/-- While its scrubber is enabled, a memory controller may read a chunk with an error in a step, which is free (log entry 65, DESIGN
CHOICE). -/
def State.scrubDram (s : State) (k : Nat) : State :=
  if !bitAt (s.csrGet (csrDramScrub + 0x1000 * k)) 0 || s.notData.isEmpty then s
  else
    let free := s.drawWord .dramScrub
    let pa := (free.setWidth 39).toNat / 64 * 64
    if !bitAt free 63 || s.mcuOf pa != k || (sparseFind s.notData (pa / 64)).isNone || !s.dramExists pa then s.drawn
    else s.drawn.scrubChunk pa (free.extractLsb' 4 2).toNat

/-- The same for the four memory controllers. -/
def State.scrubMemory (s : State) : State := (List.range 4).foldl (fun acc k => acc.scrubDram k) s

/-- An L2 bank that has not told a core of a scrub or link error does so with its next miss, at a free time (R1691, R1709, R1717):
the L2C or L2U report to the strand that its errorsteer names. -/
def State.forwardScrub (s : State) (b : Nat) (severe : Bool) : State :=
  let n := if severe then 8 + b else b
  if !bitAt s.unreported n || !bitAt (s.drawWord .scrubForward) n then s
  else
    let s1 : State := { s with unreported := s.unreported &&& ~~~((1 : BitVec 16) <<< n) }
    if s.errorSteer b != ownStrand || !bitAt (s.csrGet (csrL2ErrorEn + 64 * b)) (if severe then 1 else 0) then s1
    else if severe then s1.recordDisrupting 20 true 16
    else s1.recordDisrupting 21 false 9

/-- The same for the eight banks. -/
def State.forwardScrubs (s : State) : State :=
  if s.unreported = 0 then s
  else ((List.range 8).foldl (fun acc b => (acc.forwardScrub b true).forwardScrub b false) s).drawn

/-! ## Stores that are done at once -/

/-- The stores that a store which is done at once must follow have left the buffer; those in error do too. -/
def State.followed (s : State) : State :=
  if s.undrained.all PendingStore.clean then { s with undrained := stayBehind [] s.undrained } else s.drainFor s.levelCode

/-- Before a store enters a full buffer, the oldest one has left it; where one is in error, all have (R1581: eight entries). -/
def State.makeRoom (s : State) : State :=
  if s.undrained.length < 8 then s
  else if s.undrained.all PendingStore.clean then { s with undrained := s.undrained.take 7 }
  else s.drainFor s.levelCode

/-- A deferred error of a store that is done at once, of the highest privilege level of the stores in the buffer (R1586, R1587,
R1620). -/
def State.deferStore (s : State) (io : Bool) (index : BitVec 3) : State :=
  s.recordDeferred io (highestLevel s.levelCode s.undrained) index

/-- A store that is done at once, with the errors of the store buffer (R1584, R1586, R1587): it follows the stores in the
buffer, takes an entry of it, is dropped with them where one of their addresses is in error, and its own errors are those of the
check bits that it is given; `bad` is what an uncorrectable error in its data does, and `k` gets what a correction changes in its
doubleword (spec/67_ecc_jtag.md R2101). -/
def State.sendStore (s : State) (flaw : BitVec 7 × Bool) (bad : State → BitVec 3 → Res Unit) (k : Word → State → Res Unit) :
    Res Unit :=
  let s1 := s.followed.makeRoom
  let index := s1.nextIndex
  if s1.storeError && !s.storeError then .ok () s1
  else if s.checksClean then k 0 s1
  else
    let s2 := s1.drawn
    if flaw.2 && s2.cerer 23 then .ok () (s2.deferStore false index)
    else if flaw.1 = 0 then k 0 s2
    else if corrects39 flaw.1 then
      if s2.cerer 10 then k (corrected39 flaw.1) (s2.drawn.recordDesr 10 false 10 (s2.storeInfo index)) else k 0 s2
    else if s2.cerer 9 then bad s2 index
    else k 0 s2

/-- A store to I/O or over the ASI ring: an uncorrectable error drops it (R1586). -/
def State.ringStore (s : State) (flaw : BitVec 7 × Bool) (k : Word → State → Res Unit) : Res Unit :=
  s.sendStore flaw (fun s1 index => .ok () (s1.deferStore true index)) k

/-- A store of bytes to a line with bad data, after the stores of the buffer. An uncorrectable error makes it NotData, and ends a
block store (R1585, R1735). -/
def State.lineStore (s : State) (kind : StoreKind) (pa : Nat) (cells : List Host.Cell) : Res Unit :=
  let store := fun (t : State) (cells : List Host.Cell) =>
    if kind = .block then t.badBlockStore pa cells else t.badStore kind pa cells
  let bad := fun (t : State) index =>
    let t1 := t.drawn.recordDesr 9 true 6 (t.storeInfo index)
    if kind = .block then t1 else ((store t1 cells).poisoned (t1.noted kind (0, false) pa 0 (cells.map (fun c => c.1))) []).2
  s.sendStore s.storeFlaw (fun t index => .ok () (bad t index))
    (fun change t => .ok () (store { t with undrained := [] } (cells.map (fun c => (c.1, c.2 ^^^ byteAt change c.1)))))

/-- A store of some bytes goes into the buffer, unless it is dropped with a store whose address is in error (R1587). -/
def State.pushCells (s : State) (kind : StoreKind) (flaw : BitVec 7 × Bool) (pa seen : Nat) (cells : List Host.Cell) : State :=
  if s.makeRoom.storeError && !s.storeError then s.makeRoom else s.makeRoom.bufferCells kind flaw pa seen cells

/-! ## Loads that find their data in the buffer -/

/-- The newest store of the buffer that a load of `n` bytes must look at, if it holds all of them: a full RAW hit. -/
def State.rawHit (s : State) (pa n : Nat) : Option PendingStore :=
  match s.undrained.find? (fun p => p.old.any (fun c => decide (pa ≤ c.1) && decide (c.1 < pa + n) && p.shows c.1)) with
  | none => none
  | some p =>
    if (List.range n).all (fun i => p.shows (pa + i) && (sparseFind p.old (pa + i)).isSome) then some p else none

/-- The error of a load that finds its data in the buffer, recorded, if its report is enabled: D-SFSR and format 6 of D-SFAR
(R1582, R1583, R1608). -/
def State.rawError (s : State) (pa n : Nat) : Option State :=
  match s.rawHit pa n with
  | none => none
  | some p =>
    let one := corrects39 p.ecc
    if p.ecc != 0 && s.cerer (if one then 37 else 36) && s.pscce then
      some ((s.setDsfsr (if one then 5 else 6)).setDsfarInfo 3 (p.index.setWidth 48))
    else none

/-! ## Diagnostic reads, spec/66_diag_debug.md R2020 -/

/-- The byte that a store of the buffer wrote: what the oldest younger store to the address found there, or what memory holds;
`younger` has the newest first. -/
def State.storedByte (s : State) (younger : List PendingStore) (a : Nat) : Byte :=
  younger.foldl (fun acc p => (sparseFind p.old a).getD acc) (s.readByte a)

/-- The privilege level of a store as the diagnostic read shows it (R2020). -/
def levelControl (level : BitVec 2) : BitVec 3 := if level = 0 then 0 else if level = 1 then 3 else 5

/-- The entry of the buffer with a number, with the stores younger than it. -/
def entryWith (i : BitVec 3) (younger : List PendingStore) (ps : List PendingStore) :
    Option (PendingStore × List PendingStore) :=
  match ps with
  | [] => none
  | p :: rest => if p.index = i then some (p, younger) else entryWith i (younger ++ [p]) rest

/-- The byte marks of an entry: bit 7 is that of the lowest address (log entry 12, DESIGN CHOICE). -/
def PendingStore.byteMarks (p : PendingStore) : BitVec 8 :=
  BitVec.ofFnLE (fun k =>
    let a := p.pa / 8 * 8 + (7 - k.val)
    (sparseFind p.old a).isSome && p.shows a)

/-- The parity bit of an entry's byte marks and address; which parity it is, the manual does not say. -/
def PendingStore.addressParity (p : PendingStore) : Bool :=
  (xorBits (p.byteMarks ++ (BitVec.ofNat 37 (p.pa / 8))) != Config.storeParityOdd) != p.camBad

/-- The doubleword of an entry, with free bytes where the store wrote none; the byte at the lower address is the more
significant. -/
def State.entryData (s : State) (p : PendingStore) (younger : List PendingStore) (free : Word) : Word :=
  let base := p.pa / 8 * 8
  wordOfBytes ((List.range 8).map (fun i =>
    if (sparseFind p.old (base + i)).isSome then s.storedByte younger (base + i)
    else free.extractLsb' (8 * (7 - i)) 8))

end Sys2Proof.Machine
end

