-- ==== Sys2Proof/Machine/Mmu.lean ====
section
/-! DEFINITION. Machine/Mmu.lean: the TLBs, the hardware tablewalk, and the translation of one address
(spec/12_mmu_translation.md, spec/13_mmu_registers.md). -/

namespace Sys2Proof.Machine

/-! ## Page sizes, R304 -/

/-- The `size` code of a page size. -/
def PageSize.code : PageSize → BitVec 4
  | .k8 => 0 | .k64 => 1 | .m4 => 3 | .m256 => 5

/-- The page size of a code; the other codes are reserved. -/
def PageSize.ofCode (c : BitVec 4) : Option PageSize :=
  match c with
  | 0 => some .k8 | 1 => some .k64 | 3 => some .m4 | 5 => some .m256 | _ => none

/-- How many bits of the 8-Kbyte page number lie inside the page: PageBits(size) - 13. -/
def PageSize.shift : PageSize → Nat
  | .k8 => 0 | .k64 => 3 | .m4 => 9 | .m256 => 15

/-- A page number with the bits inside the page cleared. -/
def PageSize.clear {w : Nat} (p : PageSize) (n : BitVec w) : BitVec w := (n >>> p.shift) <<< p.shift

/-- Two page numbers name the same page of this size. -/
def PageSize.same {w : Nat} (p : PageSize) (m n : BitVec w) : Bool := m >>> p.shift == n >>> p.shift

/-! ## Requests -/

/-- The context a translation uses (TABLE 12-13, R355). -/
inductive Ctx where
  | nucleus | primary | secondary
  deriving DecidableEq, Repr

/-- Which MMU is asked. -/
inductive Side where
  | inst | data
  deriving DecidableEq, Repr

/-- One request for a translation: address bits 47:0 as they are translated, whether it is a real address, the context, and address
bits 47:0 of the access, of which a real ASI translates the lower 40 (spec/21_asi_map.md R570). -/
structure Request where
  va : BitVec 48
  real : Bool
  ctx : Ctx
  access : BitVec 48
  deriving DecidableEq, Repr

/-- The page number of the request. -/
def Request.page (q : Request) : BitVec 35 := q.va.extractLsb' 13 35

/-- The page number of the access, which Tag Access records (R415). -/
def Request.tagPage (q : Request) : BitVec 35 := q.access.extractLsb' 13 35

/-- The two context values offered to the TLB (R311). -/
def State.contexts (s : State) : Ctx → BitVec 13 × BitVec 13
  | .nucleus => (0, 0)
  | .primary => (s.mmu.primary0, s.mmu.primary1)
  | .secondary => (s.mmu.secondary0, s.mmu.secondary1)

/-- The context that Tag Access records for a request: 0 for a real one (R415). -/
def State.tagContext (s : State) (q : Request) : BitVec 13 := if q.real then 0 else (s.contexts q.ctx).1

/-- A physical address with the page attributes of the access (R313). -/
structure Translation where
  pa : PAddr
  nfo : Bool
  ie : Bool
  e : Bool
  cp : Bool
  p : Bool
  w : Bool
  deriving DecidableEq, Repr

/-- A bypassed address and the attributes of TABLE 12-5 (R353). -/
def bypass (va : BitVec 48) : Translation :=
  let pa := va.extractLsb' 0 40
  let io := bitAt pa 39
  { pa := pa, nfo := false, ie := false, e := io, cp := !io, p := false, w := true }

/-! ## Looking up a TLB, R311 to R313, R388 -/

/-- The hit rule (R311). -/
def TlbEntry.hits (e : TlbEntry) (pid : BitVec 3) (q : Request) (c : BitVec 13 × BitVec 13) : Bool :=
  e.valid && e.pid == pid && e.real == q.real && e.size.same e.va q.page &&
    (e.real || e.context == c.1 || e.context == c.2)

/-- The translation of an entry (R313). -/
def TlbEntry.translate (e : TlbEntry) (va : BitVec 48) : Translation :=
  let mask : BitVec 27 := (BitVec.allOnes 27) <<< e.size.shift
  let page := (e.pa &&& mask) ||| (va.extractLsb' 13 27 &&& ~~~mask)
  { pa := page ++ va.extractLsb' 0 13, nfo := e.nfo, ie := e.ie, e := e.e, cp := e.cp, p := e.p, w := e.w }

/-- The numbers of a TLB's entries, in order. -/
def tlbIndices (n : Nat) : List (BitVec n) := (List.range (2 ^ n)).map (BitVec.ofNat n)

/-- The entries of a TLB that satisfy a test. -/
def tlbFind {n : Nat} (tlb : File n TlbEntry) (test : TlbEntry → Bool) : List (BitVec n) :=
  (tlbIndices n).filter (fun i => test (fileGet tlb i))

/-- An entry with another used bit. -/
def TlbEntry.setUsed (e : TlbEntry) (u : Bool) : TlbEntry := { e with used := u }

/-- `SetUsed` (R388): when every other entry is used, all used bits are cleared instead. -/
def tlbSetUsed {n : Nat} (tlb : File n TlbEntry) (i : BitVec n) : File n TlbEntry :=
  if (tlbIndices n).all (fun j => j == i || (fileGet tlb j).used) then tlb.map (fun e => e.setUsed false)
  else fileSet tlb i ((fileGet tlb i).setUsed true)

/-- The entry that the next automatic write replaces (R388). -/
def tlbVictim {n : Nat} (tlb : File n TlbEntry) : BitVec n :=
  ((tlbFind tlb (fun e => !e.valid || !e.used)).head?).getD 0

/-- The TLB of a side, read by a function that does not depend on its size. -/
def State.tlbMatches (s : State) (side : Side) (q : Request) : List TlbEntry :=
  let test := fun (e : TlbEntry) => e.hits s.mmu.pid q (s.contexts q.ctx)
  match side with
  | .inst => (tlbFind s.itlb test).map (fileGet s.itlb)
  | .data => (tlbFind s.dtlb test).map (fileGet s.dtlb)

/-- The used bits after a translation that hits these entries (R388). -/
def State.tlbUse (s : State) (side : Side) (q : Request) : State :=
  let test := fun (e : TlbEntry) => e.hits s.mmu.pid q (s.contexts q.ctx)
  match side with
  | .inst => { s with itlb := (tlbFind s.itlb test).foldl tlbSetUsed s.itlb }
  | .data => { s with dtlb := (tlbFind s.dtlb test).foldl tlbSetUsed s.dtlb }

/-- The translation that more than one matching entry gives while its report is masked: any value
(spec/62_errors_core.md R1562, R1566). -/
def freeTranslation (w : Word) : Translation :=
  { pa := w.extractLsb' 0 40, nfo := bitAt w 62, ie := bitAt w 44, e := bitAt w 43, cp := bitAt w 42, p := bitAt w 41,
    w := bitAt w 40 }

/-- More than one entry matches (R1562, R1566). -/
def State.multipleHit (s : State) (side : Side) (va : Word) (q : Request) : Res (Option Translation) :=
  let free := Res.ok (some (freeTranslation (s.drawWord .tlbMultipleHit))) ((s.tlbUse side q).drawn)
  match side with
  | .inst => if s.cerer 61 then .trap 0x071 (s.setIsfsr 1) else free
  | .data => if s.cerer 47 then .trap 0x072 ((s.setDsfsr 1).setDsfarTlb va) else free

/-- A parity error in the entry that matches, the tag's first, if its report is enabled (R1563, R1564, R1567, R1568). -/
def State.entryError (s : State) (side : Side) (va : Word) (e : TlbEntry) : Option (BitVec 9 × State) :=
  match side with
  | .inst =>
    if e.tagBad && s.cerer 63 then some (0x071, s.setIsfsr 2)
    else if e.dataBad && s.cerer 62 then some (0x071, s.setIsfsr 3) else none
  | .data =>
    if e.tagBad && s.cerer 48 then some (0x072, (s.setDsfsr 2).setDsfarTlb va)
    else if e.dataBad && s.cerer 46 then some (0x072, (s.setDsfsr 3).setDsfarTlb va) else none

/-- Look a request up in a TLB. Which used bits a lookup sets whose report is an error, spec/12_mmu_translation.md R388 does
not say: none where its trap is taken, those of all the entries that match where the report is masked (log entry 56, DESIGN
CHOICE). Where more than one entry matches and the report of that is masked, a parity error of one of them is not reported either,
which R1563 and R1567 of spec/62_errors_core.md leave open (log entry 17, DESIGN CHOICE). -/
def State.lookup (s : State) (side : Side) (va : Word) (q : Request) : Res (Option Translation) :=
  match s.tlbMatches side q with
  | [] => .ok none s
  | [e] =>
    match s.entryError side va e with
    | some (tt, s1) => .trap tt s1
    | none => .ok (some (e.translate q.va)) (s.tlbUse side q)
  | _ => s.multipleHit side va q

/-! ## Writing a TLB, R390 to R393 -/

/-- Autodemap (R390, decision D45): the entry translates the page address of the write. -/
def TlbEntry.demappedBy (e new : TlbEntry) (page : BitVec 35) : Bool :=
  e.pid == new.pid && e.real == new.real && (new.real || e.context == new.context) && e.size.same e.va page

/-- An entry that no longer translates. -/
def TlbEntry.invalidate (e : TlbEntry) : TlbEntry := { e with valid := false }

/-- A TLB after the write of an entry, at a given place or at the replacement index. -/
def tlbWrite {n : Nat} (tlb : File n TlbEntry) (place : Option (BitVec n)) (page : BitVec 35) (new : TlbEntry) :
    File n TlbEntry :=
  let clean := tlb.map (fun e => if e.demappedBy new page then e.invalidate else e)
  let i := place.getD (tlbVictim clean)
  tlbSetUsed (fileSet clean i new) i

/-- A Tag Access register has another value. -/
def State.setTag (s : State) (side : Side) (t : TagAccess) : State :=
  match side with
  | .inst => { s with mmu := { s.mmu with itag := t } }
  | .data => { s with mmu := { s.mmu with dtag := t } }

/-- A Tag Access register. -/
def State.tag (s : State) : Side → TagAccess
  | .inst => s.mmu.itag
  | .data => s.mmu.dtag

/-- An entry written now has a tag parity error, and a data parity error, that software injects (spec/62_errors_core.md
R1640). -/
def State.injectsTlb (s : State) : Side → Bool × Bool
  | .inst => (s.injects 28, s.injects 29)
  | .data => (s.injects 26, s.injects 27)

/-- The entry that a store to Data In or Data Access forms from the Tag Access register (R391). -/
def State.storedEntry (s : State) (side : Side) (real : Bool) (size : PageSize) (d : Word) : TlbEntry where
  valid := bitAt d 63
  used := true
  pid := s.mmu.pid
  real := real
  va := size.clear (s.tag side).va
  context := if real then 3 else (s.tag side).context
  pa := if Config.tlbKeepsLowPa then d.extractLsb' 13 27 else size.clear (d.extractLsb' 13 27)
  nfo := bitAt d 62
  ie := bitAt d 12
  e := bitAt d 11
  cp := bitAt d 10
  p := bitAt d 8
  w := bitAt d 6
  size := size
  tagBad := (s.injectsTlb side).1
  dataBad := (s.injectsTlb side).2

/-- A store to Data In (`place` = none) or Data Access (R391, R392). -/
def State.storeTlb (s : State) (side : Side) (place : Option (BitVec 7)) (real : Bool) (d : Word) : Res Unit :=
  match PageSize.ofCode (d.extractLsb' 0 4) with
  | none => .trap 0x03B s
  | some size =>
    let new := s.storedEntry side real size d
    let page := (s.tag side).va
    match side with
    | .inst => .ok () { s with itlb := tlbWrite s.itlb (place.map (BitVec.extractLsb' 0 6)) page new }
    | .data => .ok () { s with dtlb := tlbWrite s.dtlb place page new }

/-! ## Reading a TLB, spec/13_mmu_registers.md R428, R452, R455 -/

/-- The parity bit of a field of bits; which parity it is, the manual does not say (R452). -/
def tlbParity {w : Nat} (v : BitVec w) : Bool :=
  (List.range w).foldl (fun acc i => acc != v.getLsbD i) Config.tlbParityOdd

/-- The three-bit page size that goes into the data parity (R452). -/
def PageSize.parityCode : PageSize → BitVec 3
  | .k8 => 0 | .k64 => 1 | .m4 => 3 | .m256 => 7

/-- An entry as a Data Access load returns it (R452). -/
def TlbEntry.dataWord (e : TlbEntry) : Word :=
  let parity := tlbParity (e.pa ++ boolBit e.nfo ++ boolBit e.ie ++ boolBit e.cp ++ boolBit e.e ++ boolBit e.p ++
    boolBit e.w ++ e.size.parityCode) != e.dataBad
  boolBit e.valid ++ boolBit e.nfo ++ boolBit parity ++ 0#21 ++ e.pa ++ boolBit e.ie ++ boolBit e.e ++ boolBit e.cp ++
    0#1 ++ boolBit e.p ++ 0#1 ++ boolBit e.w ++ 0#2 ++ e.size.code

/-- An entry as a Tag Read load returns it (R455). -/
def TlbEntry.tagWord (e : TlbEntry) : Word :=
  let parity := tlbParity (e.pid ++ boolBit e.real ++ e.va ++ e.context) != e.tagBad
  e.pid ++ boolBit e.real ++ boolBit parity ++ boolBit e.used ++ 0#10 ++ e.va ++ e.context

/-- The ITLB probe (R428, decision D51): no used bit is set and no error is raised; a parity error shows in `tp` or, where the
tag has none, in `dp`. Of more than one match the page is that of the entry with the lowest number (log entry 57, DESIGN
CHOICE). -/
def State.probe (s : State) (va : Word) : Word :=
  match s.tlbMatches .inst ⟨va.setWidth 48, bitAt va 4, .primary, va.setWidth 48⟩ with
  | [] => 0
  | [e] => 1#1 ++ 0#1 ++ boolBit e.tagBad ++ boolBit (e.dataBad && !e.tagBad) ++ 0#20 ++ e.pa ++ 0#13
  | e :: _ => 3#2 ++ 0#22 ++ e.pa ++ 0#13

/-! ## Demap, spec/12_mmu_translation.md R385 -/

/-- Whether a demap address removes an entry; `ctx` is the context it names, none where the demap is ignored. -/
def TlbEntry.demapHits (e : TlbEntry) (pid : BitVec 3) (a : Word) (ctx : Option (BitVec 13)) : Bool :=
  let inCtx := match ctx with
    | some c => e.context == c
    | none => false
  let page := e.size.same e.va (a.extractLsb' 13 35)
  e.pid == pid && match a.extractLsb' 6 2 with
    | 0 => page && ctx.isSome && (if bitAt a 10 then e.real else !e.real && inCtx)
    | 1 => !e.real && inCtx
    | 2 => true
    | _ => e.real == bitAt a 10

/-- A demap; it also writes Tag Access (spec/13_mmu_registers.md R415 cause 3, decision D46). -/
def State.demap (s : State) (side : Side) (a : Word) : State :=
  let ctx : Option (BitVec 13) := match a.extractLsb' 4 2 with
    | 0 => some s.mmu.primary0
    | 1 => if side = .inst then none else some s.mmu.secondary0
    | 2 => some 0
    | _ => none
  let drop := fun (e : TlbEntry) => if e.demapHits s.mmu.pid a ctx then e.invalidate else e
  let s' := s.setTag side ⟨a.extractLsb' 13 35, if a.extractLsb' 4 2 == 0 then s.mmu.primary0 else 0⟩
  match side with
  | .inst => { s' with itlb := s'.itlb.map drop }
  | .data => { s' with dtlb := s'.dtlb.map drop }

/-! ## The hardware tablewalk, R340 to R344 -/

/-- The TSB configurations for a context (R340; spec/13_mmu_registers.md R438). -/
def State.tsbSet (s : State) (context : BitVec 13) : File 2 TsbConfig :=
  if context = 0 then s.mmu.tsbZero else s.mmu.tsbNonzero

/-- Hardware tablewalk is enabled for the strand (R340). -/
def State.walkEnabled (s : State) : Bool :=
  s.mmu.tsbZero.any (fun c => c.enable) || s.mmu.tsbNonzero.any (fun c => c.enable)

/-- The TSB pointer (R438): bits above VA{47} count as 0. -/
def tsbPointer (page : BitVec 35) (c : TsbConfig) : PAddr :=
  let n := c.tsbSize.toNat
  let index := (page >>> c.pageSize.shift).setWidth 40 &&& (((1 : PAddr) <<< (9 + n)) - 1)
  (((c.base >>> n) <<< n) ++ 0#13) ||| (index <<< 4)

/-- One TTE, tag then data, big-endian, for a request (R341, decision D42); the tablewalk does not look in the store buffer
(spec/20_memory.md R529). -/
def State.readTte (s : State) (side : Side) (q : Request) (pa : PAddr) : Res (Word × Word) :=
  let words := fun (bs : List Byte) => (wordOfBytes (bs.take 8), wordOfBytes (bs.drop 8))
  if bitAt pa 39 then .ok (s.drawWord .maskedErrorData, s.drawn.drawWord .maskedErrorData) s.drawn.drawn
  else if !s.l2Uniform then .refuse (.undefinedAccess "L2_CONTROL_REG.dis")
  else if s.plainLine pa.toNat then .ok (words (s.globalBytes pa.toNat).1) (s.globalBytes pa.toNat).2
  else (s.badWalk pa.toNat (side = .inst) (fun t => t.setTag side ⟨q.tagPage, t.tagContext q⟩)).bind fun bs s1 => .ok (words bs) s1

/-- A TTE answers the request (R341). -/
def tteMatches (c : TsbConfig) (context : BitVec 13) (q : Request) (tag data : Word) : Bool :=
  match PageSize.ofCode (data.extractLsb' 0 4) with
  | none => false
  | some size =>
    let drop := size.shift - 9
    let vpn : BitVec 42 := (sext48 q.va).extractLsb' 22 42
    bitAt data 63 && tag.extractLsb' 61 3 == 0 && tag.extractLsb' 42 6 == 0 && decide (c.pageSize.shift ≤ size.shift) &&
      (context == 0 || c.useContext0 || c.useContext1 || tag.extractLsb' 48 13 == context) &&
      (tag.extractLsb' 0 42) >>> drop == vpn >>> drop

/-- Read the enabled TSBs in order; the first match ends the search unless all are read at once (R342). -/
def State.searchTsbs (s : State) (side : Side) (q : Request) (context : BitVec 13) (parallel : Bool)
    (order : List (BitVec 2)) : Res (List (TsbConfig × Word × Word)) :=
  match order with
  | [] => .ok [] s
  | i :: rest =>
    let c := fileGet (s.tsbSet context) i
    if !c.enable then s.searchTsbs side q context parallel rest
    else (s.readTte side q (tsbPointer q.page c)).bind fun t s1 =>
      if !tteMatches c context q t.1 t.2 then s1.searchTsbs side q context parallel rest
      else if !parallel then .ok [(c, t)] s1
      else (s1.searchTsbs side q context parallel rest).bind fun more s2 => .ok ((c, t) :: more) s2

/-- The order of the TSB reads (R342; spec/13_mmu_registers.md R425). -/
def State.tsbOrder (s : State) : List (BitVec 2) :=
  if bitAt s.mmu.hwtw 1 && !bitAt s.mmu.hwtw 0 && s.drawBit .tablewalkPredict then [1, 0, 2, 3] else [0, 1, 2, 3]

/-- The range that holds a real page, and its offset (R343). -/
def State.rangeOffset (s : State) (low high : BitVec 27) : Option (BitVec 27) :=
  let fits := (tlbIndices 2).filter (fun i =>
    let r := fileGet s.mmu.realRange i
    r.enable && decide (r.low ≤ low) && decide (high ≤ r.high))
  fits.head?.map (fileGet s.mmu.physOffset)

/-- The physical page number of a TTE; none is an invalid TSB entry (R343). -/
def State.ttePage (s : State) (c : TsbConfig) (size : PageSize) (data : Word) : Option (BitVec 27) :=
  let rpn : BitVec 27 := data.extractLsb' 13 27
  if !c.raNotPa then some (size.clear rpn)
  else if data.extractLsb' 40 16 != 0 then none
  else
    let low := size.clear rpn
    let high := rpn ||| ~~~(size.clear (BitVec.allOnes 27))
    (s.rangeOffset low high).map (fun offset => size.clear (rpn + offset))

/-- The context that the walk stores (R342). -/
def State.walkContext (s : State) (q : Request) (c : TsbConfig) (tag : Word) : BitVec 13 :=
  let cs := s.contexts q.ctx
  if cs.1 = 0 then 0 else if c.useContext0 then cs.1 else if c.useContext1 then cs.2 else tag.extractLsb' 48 13

/-- Load a TTE into the TLB that missed, and write Tag Access (R344; spec/13_mmu_registers.md R415 cause 4). -/
def State.loadTte (s : State) (side : Side) (q : Request) (c : TsbConfig) (size : PageSize) (tag data : Word)
    (pa : BitVec 27) : State :=
  let ctx := s.walkContext q c tag
  let new : TlbEntry :=
    { valid := true, used := true, pid := s.mmu.pid, real := false, va := size.clear q.page, context := ctx, pa := pa,
      nfo := bitAt data 62, ie := bitAt data 12, e := bitAt data 11, cp := bitAt data 10, p := bitAt data 8,
      w := bitAt data 6, size := size, tagBad := (s.injectsTlb side).1, dataBad := (s.injectsTlb side).2 }
  let s' := s.setTag side ⟨q.tagPage, ctx⟩
  match side with
  | .inst => { s' with itlb := tlbWrite s'.itlb none q.page new }
  | .data => { s' with dtlb := tlbWrite s'.dtlb none q.page new }

/-- A trap of the MMU that records the address in Tag Access (R370, R415 cause 1). -/
def State.tagTrap {α : Type} (s : State) (side : Side) (q : Request) (tt : BitVec 9) : Res α :=
  .trap tt (s.setTag side ⟨q.tagPage, s.tagContext q⟩)

/-- A parity error in one of the entries of the MMU register array that a tablewalk reads, the first of them, if its report
is enabled (spec/62_errors_core.md R1565, R1569). -/
def State.walkError (s : State) (side : Side) (entries : List (BitVec 3)) : Option (BitVec 9 × State) :=
  match entries.find? (fun i => s.checkOf (.mmu i) != 0) with
  | none => none
  | some i =>
    if !s.cerer 59 then none
    else match side with
    | .inst => some (0x071, (s.setIsfsr 4).setDsfarInfo 3 (i.setWidth 48))
    | .data => some (0x072, (s.setDsfsr 4).setDsfarInfo 3 (i.setWidth 48))

/-- Go on unless the tablewalk meets such an error. -/
def State.walkReads {α : Type} (s : State) (side : Side) (entries : List (BitVec 3)) (k : Res α) : Res α :=
  match s.walkError side entries with
  | some (tt, s1) => .trap tt s1
  | none => k

/-- The entries that hold the TSB Config registers for a context (spec/66_diag_debug.md R2045). -/
def tsbEntries (context : BitVec 13) : List (BitVec 3) := if context = 0 then [0, 1] else [2, 3]

/-- The entries that hold the Real Range and Physical Offset registers, for a TTE that needs them (R2045). -/
def rangeEntries (c : TsbConfig) : List (BitVec 3) := if c.raNotPa then [4, 5, 6, 7] else []

/-- The hardware tablewalk for a request that missed (R340). -/
def State.walk (s : State) (side : Side) (q : Request) : Res Unit :=
  let inst : Bool := side = .inst
  let context := (s.contexts q.ctx).1
  s.walkReads side (tsbEntries context)
    ((s.drawn.searchTsbs side q context (bitAt s.mmu.hwtw 0) s.tsbOrder).bind fun found s1 =>
      let pick := if found.length < 2 then 0 else (s1.drawWord .tablewalkOrder).toNat % found.length
      match found[pick]? with
      | none => s1.tagTrap side q (if inst then 0x009 else 0x031)
      | some (c, tag, data) =>
        if inst && !bitAt data 7 then s1.tagTrap side q 0x00B
        else match PageSize.ofCode (data.extractLsb' 0 4) with
          | none => s1.tagTrap side q (if inst then 0x009 else 0x031)
          | some size =>
            s1.walkReads side (rangeEntries c) (match s1.ttePage c size data with
              | none => s1.tagTrap side q (if inst then 0x02A else 0x02B)
              | some pa => .ok () (s1.drawn.loadTte side q c size tag data pa)))

/-- Translate a request through a TLB, with the tablewalk where one is enabled (R340, R371, R375). -/
def State.translate (s : State) (side : Side) (va : Word) (q : Request) : Res Translation :=
  let inst : Bool := side = .inst
  (s.lookup side va q).bind fun hit s1 =>
    match hit with
    | some t => .ok t s1
    | none =>
      if q.real then s1.tagTrap side q (if inst then 0x03E else 0x03F)
      else if !s1.walkEnabled then s1.tagTrap side q (if inst then 0x064 else 0x068)
      else (s1.walk side q).bind fun _ s2 => (s2.lookup side va q).bind fun again s3 =>
        match again with
        | some t => .ok t s3
        | none => s3.tagTrap side q (if inst then 0x009 else 0x031)

/-! ## Address spaces, spec/21_asi_map.md R565 -/

/-- How a translating ASI translates (R355, R358). -/
structure AsiSpace where
  ctx : Ctx
  real : Bool
  user : Bool
  asIf : Bool
  noFault : Bool
  little : Bool
  deriving DecidableEq, Repr

/-- The context of the ASI pairs in which the lowest bit selects the secondary context. -/
def pairCtx (asi : BitVec 8) : Ctx := if bitAt asi 0 then .secondary else .primary

/-- The big-endian translating ASIs, R358; `little` is filled in by `asiSpace`. -/
def asiSpaceBig (b : BitVec 8) : Option AsiSpace :=
  if b == 0x04 || b == 0x24 || b == 0x27 then some ⟨.nucleus, false, false, false, false, false⟩
  else if b == 0x10 || b == 0x11 || b == 0x16 || b == 0x17 || b == 0x22 || b == 0x23 then
    some ⟨pairCtx b, false, true, true, false, false⟩
  else if b == 0x14 || b == 0x15 || b == 0x26 then some ⟨.nucleus, true, false, true, false, false⟩
  else if b == 0x30 || b == 0x31 then some ⟨pairCtx b, false, false, true, false, false⟩
  else if b == 0x36 then some ⟨.nucleus, false, false, true, false, false⟩
  else if b == 0x80 || b == 0x81 then some ⟨pairCtx b, false, false, false, false, false⟩
  else if b == 0x82 || b == 0x83 then some ⟨pairCtx b, false, false, false, true, false⟩
  else if (0xC0 ≤ b && b ≤ 0xC5) || (0xD0 ≤ b && b ≤ 0xD3) || (0xE0 ≤ b && b ≤ 0xE3) || b == 0xF0 || b == 0xF1 then
    some ⟨pairCtx b, false, false, false, false, false⟩
  else none

/-- The translating ASIs: bit 3 makes the little-endian one, but for 0xE8 and 0xE9, which are reserved (R565). -/
def asiSpace (asi : BitVec 8) : Option AsiSpace :=
  if asi == 0xE8 || asi == 0xE9 then none
  else (asiSpaceBig (asi &&& 0xF7)).map (fun sp => { sp with little := bitAt asi 3 })

/-- The implicit ASI's space (spec/20_memory.md R522). -/
def State.implicitSpace (s : State) : AsiSpace :=
  ⟨if s.tl = 0 then .primary else .nucleus, false, false, false, false, s.pstate.cle⟩

/-- The numbers that name register ASIs (R565). -/
def isRegisterAsi (a : BitVec 8) : Bool :=
  a == 0x20 || a == 0x21 || a == 0x25 || (0x41 ≤ a && a ≤ 0x43) || (0x45 ≤ a && a ≤ 0x4A) || a == 0x4C || a == 0x4E ||
  a == 0x4F || (0x50 ≤ a && a ≤ 0x5F) || a == 0x63 || a == 0x66 || a == 0x67 || (0x72 ≤ a && a ≤ 0x74)

/-- How a data access of this space is made now (R351, R358). -/
inductive Route where
  | bypass | virt | real
  deriving DecidableEq, Repr

/-- R351, R358. -/
def State.route (s : State) (sp : AsiSpace) : Route :=
  if sp.real then .real
  else if s.hpstate.hpriv then (if sp.asIf then .virt else .bypass)
  else if s.lsu.dm then .virt else .real

end Sys2Proof.Machine
end

