-- ==== Sys2Proof/Machine/ChipRegs.lean ====
section
/-! DEFINITION. Machine/ChipRegs.lean: loads and stores of the registers outside the cores, by physical address: the
registers of Machine/Csr.lean with the effects some of them have (spec/20_memory.md R502 to R514). -/

namespace Sys2Proof.Machine

/-! ## Which register an address names -/

/-- The register of an address of the L2 space: bits 35:32 select it, bits 8:6 the bank; bits 31:9 and 5:3 are ignored
and 0xA9 to 0xAE are also 0xB9 to 0xBE (spec/66_diag_debug.md R2050; spec/63_errors_l2_dram.md R1690). -/
def State.l2Canon (s : State) (pa : Nat) : Nat :=
  let block := pa / 0x100000000
  let reg := block % 16
  let base := if reg = 15 then block * 0x100000000 else (0xA0 + reg) * 0x100000000
  base + 64 * s.bankOf pa

/-- The address at which a register is stored: the L2 aliases, and the mondo tables' entries of the strand itself
(spec/61_interrupts_cmt.md R1483). -/
def State.csrCanon (s : State) (pa : Nat) : Nat :=
  if 0xA000000000 ≤ pa ∧ pa < 0xC000000000 then s.l2Canon pa
  else if pa = 0x8000040400 then csrMondoData0 + 8 * ownStrand.toNat
  else if pa = 0x8000040600 then csrMondoData1 + 8 * ownStrand.toNat
  else if pa = 0x8000040A00 then csrMondoBusy + 8 * ownStrand.toNat
  else pa

/-- The diagnostic windows of the L2 arrays, 0xA0 to 0xA7 and 0xB0 to 0xB7 (spec/66_diag_debug.md, decision D101), and
the reserved register number 8, which reads 0. -/
def l2Array (pa : Nat) : Bool := decide (0xA000000000 ≤ pa) && decide (pa < 0xC000000000) && decide (pa / 0x100000000 % 16 < 8)

/-- L2 register number 8, which is reserved. -/
def l2Reserved (pa : Nat) : Bool :=
  decide (0xA000000000 ≤ pa) && decide (pa < 0xC000000000) && decide (pa / 0x100000000 % 16 = 8)

/-! ## Loads -/

/-- The offset of a memory controller's registers within its 4 Kbytes, and the base of the controller. -/
def mcuBase (pa : Nat) : Nat := (pa - 0x8400000000) / 0x1000 * 0x1000

/-- BANK_ENABLE_STATUS: the preview of BANK_ENABLE above the status of the last warm reset
(spec/66_diag_debug.md R2054). -/
def State.bankEnableStatus (s : State) : Word :=
  (bankStatus s.bankEnable ++ 0#3 ++ bankStatus s.banksInUse : BitVec 13).setWidth 64

/-- A register of a memory controller that is not in use: in partial-bank mode it is "not accessible"
(spec/65_mcu_dram.md R1850). What an access to it does the manual does not state: nothing answers, as at an address of no
register (log entry 58, DESIGN CHOICE). -/
def State.mcuOff (s : State) (pa : Nat) : Bool :=
  decide (0x8400000000 ≤ pa) && decide (pa < 0x8500000000) && !bitAt s.banksInUse (2 * (mcuBase pa / 0x1000))

/-- What a register reads as, by the address it is stored at. -/
def State.csrValue (s : State) (pa : Nat) : Word :=
  let stored := s.csrGet pa
  if pa = csrSerNum then Config.serialNumber &&& 0xFFFDC1FFFFFFFFFF
  else if pa = csrCoreAvail then coreAvailable
  else if pa = csrBankAvail then Config.bankAvailable.setWidth 64
  else if pa = csrBankEnable then s.bankEnable.setWidth 64
  else if pa = csrBankEnableStatus then s.bankEnableStatus
  else if pa = csrIoQuiesce then stored ||| ((stored &&& 1) <<< 2)
  else if pa = csrRngData then s.drawWord .randomNumber
  else if pa = csrDramRefreshCounter + mcuBase pa then
    BitVec.ofNat 64 ((s.drawWord .refreshCounter).toNat % max (s.csrGet (csrDramRefreshFreq + mcuBase pa)).toNat 1)
  else if pa = csrDram8Bank + mcuBase pa then
    if s.csrGet (csrDramCas + mcuBase pa) = 0xA then stored ||| 1 else stored
  else if pa = csrAmbData + mcuBase pa then
    Config.ambRegister (mcuBase pa / 0x1000) (s.csrGet (csrAmbAddr + mcuBase pa)) &&& 0xFFFFFFFF
  else stored

/-- The entry of INT_MAN at an address, if it is one of its 128 (spec/61_interrupts_cmt.md R1480). -/
def intManEntry (pa : Nat) : Option Nat :=
  if csrIntMan ≤ pa ∧ pa < csrIntMan + 0x400 then some ((pa - csrIntMan) / 8) else none

/-- A load of an entry of INT_MAN that software has not initialized "will result in false parity errors in NCU" (R1480): the error of
the interrupt table, bit 17 of the SOC error registers (log entry 64, DEDUCED). -/
def State.readIntMan (s : State) (pa : Nat) : State :=
  match intManEntry pa with
  | some k => if s.intManSet.getLsbD k then s else s.socErrorsAt 0x20000 (some pa)
  | none => s

/-- A store to an entry of INT_MAN initializes it. -/
def State.noteIntMan (s : State) (pa : Nat) : State :=
  match intManEntry pa with
  | some k => { s with intManSet := s.intManSet ||| ((1 : BitVec 128) <<< k) }
  | none => s

/-- An aligned 8-byte load of a chip register; none where nothing answers (R505). -/
def State.csrLoad (s : State) (pa : Nat) : Option (Word × State) :=
  if l2Array pa then some (s.drawWord .diagnosticArray, s.drawn)
  else if l2Reserved pa then some (0, s)
  else
    let at_ := s.csrCanon pa
    (if s.mcuOff at_ then none else csrRow at_).map (fun r =>
      ((s.csrValue at_ &&& ~~~r.unknown) ||| (Config.unknownBits at_ &&& r.unknown), s.drawn.readIntMan at_))

/-! ## Stores -/

/-- A register after software has written it: the writable bits take the value, and a 1 clears a write-1-to-clear bit. -/
def CsrRow.written (r : CsrRow) (old v : Word) : Word :=
  (old &&& ~~~(r.rw ||| r.w1c)) ||| (v &&& r.rw) ||| (old &&& r.w1c &&& ~~~v)

/-- The generic store of a register. -/
def State.csrWrite (s : State) (pa : Nat) (v : Word) : State :=
  match csrRow pa with
  | some r => s.csrSet pa (r.written (s.csrGet pa) v)
  | none => s

/-- PLL_CTL divider values that work: rows 1 to 14 of TABLES 13-3 and 13-4 (spec/68_ncu_platform.md R2181). -/
def pllLegal (v : Word) : Bool :=
  let d2 : BitVec 6 := v.extractLsb' 6 6
  v.extractLsb' 0 6 == 1 && v.extractLsb' 12 6 == 1 && decide (7 ≤ d2) && decide (d2 ≤ 20) &&
    v.extractLsb' 18 7 == d2.setWidth 7 + 1

/-- A store to RESET_GEN (spec/70_reset_and_hazards.md R2231): the reset is taken before the next instruction. The
externally initiated reset reaches the strand that ASI_XIR_STEERING selects. -/
def State.storeResetGen (s : State) (v : Word) : Res Unit :=
  let wmr := bitAt v 0
  let xir := bitAt v 1
  let dbr := bitAt v 3
  if (wmr && xir) || (wmr && dbr) || (xir && dbr) then .refuse (.unpredictableStore "RESET_GEN")
  else
    let source : Word := if wmr then 1 else if xir then 2 else if dbr then 8 else 0
    let s1 := s.csrSet csrResetSource (s.csrGet csrResetSource ||| source)
    if wmr then .ok () { s1 with chipReset := some .wmr }
    else if dbr then .ok () { s1 with chipReset := some .dbr }
    else if xir && s.cmt.xirSteering &&& s.cmt.enableStatus &&& ownBit != 0 then .ok () { s1 with xirPending := true }
    else .ok () s1

/-- A store to SOC_ERROR_STATUS_REG: writing the spare bit 24 asks for a trap (spec/64_errors_soc.md R1790, R1793). R1793, R1795
and R1797 print the same of their own registers: here the store that asks is that of this register, with bit 24 set in what is
stored and in SOC_ERROR_INTERRUPT_ENABLE_REG (log entry 45, DESIGN CHOICE). -/
def State.storeSocEsr (s : State) (v : Word) : State :=
  let s1 := s.csrWrite csrSocEsr v
  if bitAt v 24 then s1.socRequest 0x1000000 else s1

/-- A store to SOC_PENDING_ERROR_STATUS_REG: clearing `v` lets a waiting error ask (R1796, decision D96). -/
def State.storeSocPending (s : State) (v : Word) : State :=
  let s1 := s.csrWrite csrSocPending v
  if bitAt (s.csrGet csrSocPending) 63 && !bitAt v 63 then s1.socRequest (s1.csrGet csrSocEsr) else s1

/-- The FBDIMM link of a memory controller is in a state (FBD_CHANNEL_STATE.state; spec/65_mcu_dram.md R1888, decision
D99). -/
def State.setLink (s : State) (b : Nat) (state : Word) : State :=
  s.csrSet (csrFbdChannelState + b) ((s.csrGet (csrFbdChannelState + b) &&& 0xFFFFFFFFFFFFFFF8) ||| state)

/-- In its Polling state, 4, a link determines the latencies of its channels and the capabilities of the selected AMBs, which are
free (R1910, R1911; log entry 63). -/
def State.pollLink (s : State) (b : Nat) : State :=
  let free := s.drawWord .linkPolling
  (s.drawn.csrSet (csrReadLatency + b) (free &&& 0xFFFF)).csrSet (csrCapability + b) ((free >>> 16) &&& 0x3FF)

/-- The link has been through some of its states 0 to 5, at once and without a time-out: the `done` bit of each is set (R1895 to
R1906; log entry 63, DESIGN CHOICE). -/
def State.passLink (s : State) (b : Nat) (states : List Nat) : State :=
  let s1 := states.foldl (fun acc k => acc.csrSet (csrLinkDone + 0x10 * k + b) (acc.csrGet (csrLinkDone + 0x10 * k + b) ||| 1)) s
  if states.contains 4 then s1.pollLink b else s1

/-- A reset of the link ends in L0, state 6; a fast one leaves out the calibration (R1836, R1889, R1890, decision D99). -/
def State.resetLink (s : State) (b : Nat) : State :=
  let fast := bitAt (s.csrGet (csrFbdFastReset + b)) 0
  (s.passLink b (if fast then [0, 2, 3, 4, 5] else [0, 1, 2, 3, 4, 5])).setLink b 6

/-- A run of the interconnect BIST is over at once: the transmit engine is done, and the receive engine if it has been started,
unless they are to loop for ever (R1836, R1921, R1926). -/
def State.finishIbist (s : State) (b : Nat) : State :=
  let done := fun (t : State) (reg : Nat) =>
    if bitAt (t.csrGet reg) 32 && !bitAt (t.csrGet reg) 35 then t.csrSet reg (t.csrGet reg ||| 0x0000000400000000) else t
  done (done s (csrIbistPort + b)) (csrIbistReceive + b)

/-- The stores of the memory controllers' registers that do more than the table says: clearing `kp_lnk_up` takes the link to L0
(spec/66_diag_debug.md R2081, R2094). -/
def State.storeMcu (s : State) (pa : Nat) (v : Word) : State :=
  let b := mcuBase pa
  if pa = csrDramCas + b then
    if v.extractLsb' 0 4 == 0xA || v.extractLsb' 0 4 == 0xB then s.csrWrite pa v else s
  else if pa = csrDramTrtp + b then
    s.csrWrite pa (if v.extractLsb' 0 3 == 0 || v.extractLsb' 0 3 == 1 then 2 else v)
  else if pa = csrDramRefreshFreq + b then (s.csrWrite pa v).csrSet (csrDramRefreshCounter + b) 0
  else if pa = csrFbdChannelState + b then
    (s.csrWrite pa v).passLink b (if v.extractLsb' 0 3 < 6 then [(v.extractLsb' 0 3).toNat] else [])
  else if pa = csrFbdChnlReset + b then
    if bitAt v 0 then (s.csrSet pa 0).resetLink b else s.csrWrite pa v
  else if pa = csrIbistPort + b then
    let s1 := s.csrWrite pa v
    if bitAt v 32 then (s1.resetLink b).finishIbist b else s1
  else if pa = csrDramDebugTrigger + b then
    let s1 := s.csrWrite pa v
    if bitAt (s.csrGet pa) 0 && !bitAt (s1.csrGet pa) 0 then s1.setLink b 6 else s1
  else s.csrWrite pa v

/-- An aligned 8-byte store to a chip register; a store that nothing answers is discarded (R505). A 1 to bit 0 of TRIGOUT pulses
the pin (spec/66_diag_debug.md R2088). Software that disables the L2 banks must first have flushed them, with the L1 caches off
(spec/20_memory.md R552, R591; spec/66_diag_debug.md R2050): where it has not, the spec does not say what later accesses read, and
here they go on reading the newest bytes (log entry 27, DESIGN CHOICE). -/
def State.csrStore (s : State) (pa : Nat) (v : Word) : Res Unit :=
  if l2Array pa || l2Reserved pa then .ok () s
  else
    let at_ := s.csrCanon pa
    if at_ = csrResetGen then s.storeResetGen v
    else if at_ = csrBankEnable then
      let enable := v.setWidth 8 &&& Config.bankAvailable
      if bankLegal enable then .ok () (s.csrWrite at_ ((bankRemap enable).setWidth 64))
      else .refuse (.unpredictableStore "BANK_ENABLE")
    else if at_ = csrPllCtl then
      if pllLegal v then .ok () (s.csrWrite at_ v) else .refuse (.unpredictableStore "PLL_CTL")
    else if at_ = csrLbistStart then
      if bitAt v 0 then .refuse (.unpredictableStore "TCU_LBIST_START") else .ok () (s.csrWrite at_ v)
    else if at_ = csrTrigout then .ok () (if bitAt v 0 then { s with trigout := s.trigout + 1 } else s)
    else if at_ = csrSocEsr then .ok () (s.storeSocEsr v)
    else if at_ = csrSocPending then .ok () (s.storeSocPending v)
    else if 0x8400000000 ≤ at_ ∧ at_ < 0x8500000000 then .ok () (if s.mcuOff at_ then s else s.storeMcu at_ v)
    else .ok () ((s.csrWrite at_ v).noteIntMan at_)

/-! ## Errors that software injects into the SOC and the links, spec/64_errors_soc.md R1797 -/

/-- The bits of SOC_ERROR_INJECTION_REG whose error is logged by its own bit: not the spare and reserved ones, and not the link
errors, which the memory controllers log. -/
def socInjectable : Word := 0x64906FFFFAA

/-- The two L2 banks of a memory controller note a link error (R1691, TABLE 16-40; log entry 62). -/
def State.reportLink (s : State) (k : Nat) (fatal : Bool) : State :=
  (s.logScrub (2 * k) fatal).logScrub (2 * k + 1) fatal

/-- An unrecoverable CRC error of a read that no instruction waits for, of a free line: the read is that of a line fill (R1716,
TABLE 16-40). -/
def State.spoilLine (s : State) (k pa : Nat) : State :=
  if s.mcuOf pa = k ∧ s.plainLine pa ∧ s.pendingIn pa 64 (fun _ => true) = false then
    let s1 := (s.logLink k true).logDram pa false false true
    (s1.reportL2U pa).fillLine pa (BitVec.allOnes 16) true
  else s

/-- A link error of memory controller `k` is injected now, an unrecoverable one (`fatal`), which the SOC is not told of (R1797,
R1720), or a recoverable one. An unrecoverable one with source 2, Alert Asserted, which R1717 and R1740 do not name, is logged and
reported as those of status and alert frames are (log entry 62, DESIGN CHOICE). A CRC error meets a read of data, an access of this step to a line that is free or another one (log
entry 62); the others are those of status and alert frames (R1709, R1717). No mismatch of an alert frame is seen while `mask_err`
is set (spec/66_diag_debug.md R2081). While a cause is logged no further errors are (R1727), but a recoverable one counts down then
too, which R1729 leaves open (log entry 62, DESIGN CHOICE). -/
def State.injectLink (s : State) (k : Nat) (fatal : Bool) : State :=
  let free := s.drawWord .linkTarget
  let pa := (free.setWidth 39).toNat / 64 * 64
  let source := s.linkSource k
  if source = 1 ∧ bitAt (s.csrGet (csrDramDebugTrigger + 0x1000 * k)) 1 then s
  else if s.linkBlocked k then (if fatal then s else s.countLink k)
  else if source = 0 ∧ bitAt free 63 then
    (if s.mcuOf pa = k ∧ s.dramExists pa then { s.drawn with linkLine := some (pa / 64, fatal) } else s.drawn)
  else if source = 0 ∧ fatal then s.drawn.spoilLine k pa
  else
    let s1 := (s.drawn.logLink k fatal).reportLink k fatal
    if fatal then s1 else s1.countLink k

/-- The link errors that are injected now: bit 31 + 3 k of a recoverable one of memory controller `k`, bit 30 + 3 k of an
unrecoverable one. -/
def State.injectLinks (s : State) (now : Word) : State :=
  (List.range 4).foldl
    (fun acc k =>
      let t := if bitAt now (30 + 3 * k) then acc.injectLink k true else acc
      if bitAt now (31 + 3 * k) then t.injectLink k false else t) s

/-! ## The physical address map, R502 -/

/-- What answers at an I/O address. -/
inductive IoBlock where
  /-- Registers of the chip. -/
  | registers
  /-- The boot ROM behind the SSI (spec/68_ncu_platform.md R2200). -/
  | bootRom
  /-- The DMU's registers and the PCI-Express range, whose contents are outside the manual (spec/00_scope.md R8). -/
  | device
  /-- Nothing. -/
  | nothing
  deriving DecidableEq, Repr

/-- The block of an I/O address. The boot ROM takes 0xFF_F000_0000 and up. In block 0x90 only the SOC error steering
register answers (spec/64_errors_soc.md R1794, decision D60). -/
def ioBlock (pa : Nat) : IoBlock :=
  let b := pa / 0x100000000
  if b = 0xFF then (if 0xFFF0000000 ≤ pa then .bootRom else .registers)
  else if b = 0x80 ∨ b = 0x83 ∨ b = 0x84 ∨ b = 0x85 ∨ b = 0x86 ∨ b = 0x89 then .registers
  else if 0xA0 ≤ b ∧ b < 0xC0 then .registers
  else if b = 0x90 then (if pa = csrSocSteer then .registers else .nothing)
  else if b = 0x88 ∨ (0xC0 ≤ b ∧ b < 0xD0) then .device
  else .nothing

/-- An I/O address (R501). -/
def isIo (pa : Nat) : Bool := decide (0x8000000000 ≤ pa)

/-- The SSI range (R513). -/
def isSsi (pa : Nat) : Bool := decide (0xFF00000000 ≤ pa)

/-- The boot ROM (spec/68_ncu_platform.md R2200). -/
def isBootRom (pa : Nat) : Bool := decide (0xFFF0000000 ≤ pa)

/-- The address of the SSI register that holds a byte: an access of it in another size is treated as one of 8 bytes, "with
potentially undefined results" (R512, spec/68_ncu_platform.md R2205). -/
def ssiRegister (pa : Nat) : Option Nat :=
  let at_ := pa / 8 * 8
  if isSsi pa && (csrRow at_).isSome then some at_ else none

end Sys2Proof.Machine
end

