-- ==== Sys2Proof/Machine/Access.lean ====
section
/-! DEFINITION. Machine/Access.lean: one data access from its ASI and address to the bytes of memory or the device, with
every check in the order of spec/20_memory.md R540. -/

namespace Sys2Proof.Machine

/-! ## Which instruction may use which ASI, spec/42_load_store.md R960 -/

/-- The kinds of instruction that access data, by the ASIs they may use. -/
inductive OpClass where
  | load | loadX | loadTwin | loadQuad | loadF | loadD | blockLoad | shortLoad
  | store | storeX | storeTwin | storeF | storeD | blockStore | partialStore | shortStore
  | atomic
  deriving DecidableEq, Repr

/-- The instruction reads memory; an atomic both reads and writes. -/
def OpClass.reads : OpClass → Bool
  | .load | .loadX | .loadTwin | .loadQuad | .loadF | .loadD | .blockLoad | .shortLoad | .atomic => true
  | _ => false

/-- The instruction writes memory. -/
def OpClass.writes : OpClass → Bool
  | .store | .storeX | .storeTwin | .storeF | .storeD | .blockStore | .partialStore | .shortStore | .atomic => true
  | _ => false

/-- The rows of R960 for translating ASIs. -/
inductive AsiKind where
  | ordinary | realIo | noFault | twinLoad | twinInit | block | partialStore | short | none
  deriving DecidableEq, Repr

/-- The row of an ASI. -/
def asiKind (a : BitVec 8) : AsiKind :=
  let b := a &&& 0xF7
  if isBlockAsi a then .block
  else if isPartialAsi a then .partialStore
  else if isShortAsi a then .short
  else if b == 0x04 || b == 0x10 || b == 0x11 || b == 0x14 || b == 0x30 || b == 0x31 || b == 0x36 || b == 0x80 || b == 0x81
  then .ordinary
  else if b == 0x15 then .realIo
  else if b == 0x82 || b == 0x83 then .noFault
  else if b == 0x24 || b == 0x26 then .twinLoad
  else if b == 0x22 || b == 0x23 || b == 0x27 || b == 0xE2 || b == 0xE3 then .twinInit
  else .none

/-- The matrix of R960, without its register row. -/
def OpClass.allows (op : OpClass) (k : AsiKind) : Bool :=
  match op, k with
  | .atomic, .ordinary => true
  | .atomic, _ => false
  | .loadQuad, k => k == .twinLoad || k == .twinInit
  | .blockLoad, k => k == .block
  | .blockStore, k => k == .block
  | .shortLoad, k => k == .short
  | .shortStore, k => k == .short
  | .partialStore, k => k == .partialStore
  | .store, k => k == .ordinary || k == .realIo || k == .twinInit
  | .storeX, k => k == .ordinary || k == .realIo || k == .twinInit
  | .storeTwin, k => k == .ordinary || k == .realIo || k == .twinInit
  | .storeF, k => k == .ordinary || k == .realIo
  | .storeD, k => k == .ordinary || k == .realIo
  | _, k => k == .ordinary || k == .realIo || k == .noFault

/-! ## The request and where it goes -/

/-- A data access: what it is, its ASI where the instruction names one, its address after the masking of PSTATE.am
(R508), and its size in bytes. -/
structure DataReq where
  op : OpClass
  asi : Option (BitVec 8)
  va : Word
  size : Nat
  deriving DecidableEq, Repr

/-- Where an access goes after every check: the physical address, and the byte order (R520). -/
structure Located where
  pa : Nat
  little : Bool
  deriving DecidableEq, Repr

/-- The ASI may not be used at the present privilege level (spec/21_asi_map.md R561); an implicit access is never
restricted (spec/20_memory.md R522). -/
def State.restricted (s : State) (asi : Option (BitVec 8)) : Bool :=
  match asi with
  | none => false
  | some a => match s.level with
    | .user => decide (a < 0x80)
    | .priv => decide (0x30 ≤ a) && decide (a < 0x80)
    | .hyper => false

/-- The translating space of an access, if its ASI is a translating one. -/
def State.space (s : State) (asi : Option (BitVec 8)) : Option AsiSpace :=
  match asi with
  | none => some s.implicitSpace
  | some a => asiSpace a

/-- The opcode may use the ASI; an implicit one is always legal (R960). -/
def DataReq.legal (r : DataReq) : Bool :=
  match r.asi with
  | none => true
  | some a => r.op.allows (asiKind a)

/-- The watchpoint is enabled for this kind of access and its byte mask overlaps the access; only the lowest 8 bytes of a
wider access count (spec/11_state_asi_regs.md R231 (b), (c), R234, decision D22). -/
def State.watches (s : State) (r : DataReq) : Bool :=
  let offset := (r.va.extractLsb' 0 3).toNat
  ((r.op.reads && s.lsu.re) || (r.op.writes && s.lsu.we)) &&
    (List.range (min r.size 8)).any (fun k => bitAt s.lsu.bm (offset + k))

/-- VA_watchpoint (R231, R233, R235). -/
def State.vaWatch (s : State) (r : DataReq) (route : Route) : Bool :=
  route == .virt && s.level != .hyper && s.lsu.mode == 3 && r.va.extractLsb' 3 45 == s.watch.data && s.watches r

/-- PA_watchpoint (R231). -/
def State.paWatch (s : State) (r : DataReq) (pa : PAddr) : Bool :=
  s.lsu.mode == 2 && pa.extractLsb' 3 37 == s.watch.data.extractLsb' 0 37 && s.watches r

/-- DAE_nc_page: an atomic or a 16-byte load of a page that is not cacheable, a block load from I/O, and a block
operation on the SSI range (spec/12_mmu_translation.md R367; spec/20_memory.md R512, R513). -/
def ncPage (op : OpClass) (t : Translation) : Bool :=
  match op with
  | .atomic => !t.cp || bitAt t.pa 39
  | .loadQuad => !t.cp || bitAt t.pa 39
  | .blockLoad => bitAt t.pa 39
  | .blockStore => isSsi t.pa.toNat
  | _ => false

/-- The request of an access to the D-MMU. The real ASIs cut the address to 40 bits (spec/21_asi_map.md R570, R571), but not what
Tag Access records of it (R415); a real access that LSU_CONTROL_REG.dm makes one passes it whole (R351). -/
def DataReq.request (r : DataReq) (sp : AsiSpace) (route : Route) : Request :=
  ⟨if sp.real then (r.va.setWidth 40).setWidth 48 else r.va.setWidth 48, route == .real, sp.ctx, r.va.setWidth 48⟩

/-- The translation of an access on its route (R351 to R353). -/
def State.routed (s : State) (r : DataReq) (sp : AsiSpace) (route : Route) : Res Translation :=
  match route with
  | .bypass => .ok (bypass (r.va.setWidth 48)) s
  | _ => s.translate .data r.va (r.request sp route)

/-- D-SFAR and the D-TLB Tag Access register as a page trap of the D-MMU leaves them (R370). -/
def State.recordPage (s : State) (r : DataReq) (sp : AsiSpace) (route : Route) : State :=
  let q := r.request sp route
  (s.setDsfar r.va).setTag .data ⟨q.tagPage, s.tagContext q⟩

/-- The access is a load that looks in the store buffer. -/
def OpClass.looksInBuffer : OpClass → Bool
  | .blockLoad => false
  | .atomic => false
  | op => op.reads

/-- The error of the store-buffer entry that a load finds its data in, as the first exception after the translation
(spec/62_errors_core.md R1570, R1582, R1583; log entry 54). -/
def State.bufferError (s : State) (r : DataReq) (t : Translation) : Option State :=
  if r.op.looksInBuffer then s.rawError t.pa.toNat r.size else none

/-- VA_watchpoint comes first: not where the access finds its data in a store-buffer entry in error, whose trap has the higher
priority (spec/60_exceptions.md R1315: 8.2 before 11.2). -/
def State.watchFirst (s : State) (r : DataReq) (sp : AsiSpace) (route : Route) : Bool :=
  s.vaWatch r route &&
    match s.routed r sp route with
    | .ok t s1 => outOfRange r.va || !r.legal || (s1.bufferError r t).isNone
    | _ => true

/-- The checks of one data access from privileged_action to PA_watchpoint, steps 3 to 9 of R540. -/
def State.access (s : State) (r : DataReq) : Res Located :=
  let noted := s.setDsfar r.va
  match s.space r.asi with
  | none => .trap (if s.restricted r.asi then 0x037 else 0x014) noted
  | some sp =>
    let route := s.route sp
    firstTrap noted
      [(s.restricted r.asi, 0x037), (s.watchFirst r sp route, 0x062), (route == .virt && outOfRange r.va, 0x02E),
        (route == .real && outOfRange r.va, 0x02D), (!r.legal, 0x014)]
      ((s.routed r sp route).bind fun t s1 =>
        match s1.bufferError r t with
        | some s2 => .trap 0x029 s2
        | none =>
          firstTrap (s1.recordPage r sp route)
            [(t.p && (sp.user || s.level == .user), 0x015), (ncPage r.op t, 0x016), (t.nfo && !sp.noFault, 0x017),
              (sp.noFault && t.e, 0x030), (r.op.writes && !t.w, 0x06C)]
            (firstTrap (s1.setDsfar r.va) [(s1.paWatch r t.pa, 0x061)]
              (.ok ⟨t.pa.toNat, sp.little != t.ie⟩ s1)))

/-! ## Performing the access, step 10 of R540 -/

/-- The low `n` bytes of a word. -/
def lowBytes (n : Nat) (v : Word) : Word := wordOfBytes (bytesOfWord n v)

/-- The low `n` bytes of a word in the byte order of an access (R520). -/
def orderWord (little : Bool) (n : Nat) (v : Word) : Word := wordOfBytes (orderBytes little (bytesOfWord n v))

/-- A load or store that goes to the NCU: one to I/O that is not to the L2 control registers (R502). -/
def isPio (pa : Nat) : Bool := isIo pa && !(decide (0xA000000000 ≤ pa) && decide (pa < 0xC000000000))

/-- The SOC errors that a load from an I/O address may meet (spec/64_errors_soc.md R1765, R1775): in the NCU, on the way to and
from the DMU, in the mondo tables. -/
def loadErrors (pa : Nat) : Word :=
  if !isPio pa then 0
  else match ioBlock pa with
  | .device => 0xFC400A
  | .registers => if csrMondoData0 ≤ pa ∧ pa < csrMondoBusy + 0x400 then 0x1D8000 else 0x1C0000
  | _ => 0x1C0000

/-- The SOC errors that a store to an I/O address may meet (R1770). -/
def storeErrors (pa : Nat) : Word :=
  if !isPio pa then 0 else if ioBlock pa = .device then 0x400003C0000 else 0x1C0000

/-- Some of the errors that software injects happen to this access to `pa` (R1797): they are logged, and ask for a trap or a reset
(R1761). Which, and the state after that. -/
def State.pioErrors (s : State) (may : Word) (pa : Nat) : Word × State :=
  let injected := s.csrGet csrSocInject &&& may
  if injected = 0 then (0, s)
  else
    let hits := injected &&& s.drawWord .socInjection
    (hits, s.drawn.socErrorsAt hits (some pa))

/-- A fatal one is among these errors, which drops the access (R1765, R1770). -/
def State.fatalSoc (s : State) (hits : Word) : Bool := anyOf (hits &&& s.csrGet csrSocLogEnable) (s.csrGet csrSocFee)

/-- What answers a load from an I/O address without an error on its way (R502 to R514). The SSI registers give free data to a load
of another size than 8 bytes (R512); what the DMU's addresses answer, and which of them, is not given (spec/64_errors_soc.md
R1766). -/
def State.ioRead (s : State) (va : Word) (l : Located) (n : Nat) : Res Word :=
  match ioBlock l.pa with
  | .registers =>
    match (if n = 8 then s.csrLoad l.pa else none) with
    | some (v, s') => .ok (orderWord l.little 8 v) s'
    | none =>
      if n ≠ 8 ∧ (ssiRegister l.pa).isSome then .ok (lowBytes n (s.drawWord .deviceRead)) s.drawn
      else (s.missingIoLoad va).bind fun v s' => .ok (lowBytes n v) s'
  | .bootRom => .ok (wordOfBytes (orderBytes l.little (s.romBytes l.pa n))) s
  | .device =>
    if s.drawBit .deviceAnswers then .ok (lowBytes n (s.drawWord .deviceRead)) s.drawn
    else (s.drawn.missingIoLoad va).bind fun v s' => .ok (lowBytes n v) s'
  | .nothing => (s.missingIoLoad va).bind fun v s' => .ok (lowBytes n v) s'

/-- A load from an I/O address. One that meets an error is dropped with a fatal one, is never answered (bits 1, 16, 19, 20, 22 of
R1765 and R1775), or is answered as one with an uncorrectable error (14, 15, 21); the others leave it as it is. -/
def State.ioLoad (s : State) (va : Word) (l : Located) (n : Nat) : Res Word :=
  let e := s.pioErrors (loadErrors l.pa) l.pa
  if s.fatalSoc e.1 || anyOf e.1 0x590002 then .hang e.2
  else if anyOf e.1 0x20C000 then (e.2.missingIoLoad va).bind fun v s' => .ok (lowBytes n v) s'
  else e.2.ioRead va l n

/-- A load of `n` bytes, 8 at most, in the byte order of the access, from memory or a device; `caches` says whether it may bring
what it reads into the data cache. -/
def State.loadData (s : State) (caches : Bool) (va : Word) (l : Located) (n : Nat) : Res Word :=
  if isIo l.pa then s.ioLoad va l n
  else if !s.l2Uniform then .refuse (.undefinedAccess "L2_CONTROL_REG.dis")
  else if s.plainLine l.pa then
    let bytes := s.loadBytes l.pa n
    .ok (wordOfBytes (orderBytes l.little bytes.1)) bytes.2
  else (s.badLoad caches l.pa n).bind fun bs s1 => .ok (wordOfBytes (orderBytes l.little bs)) s1

/-- The same load, which looks in the data cache first: what that holds of good data is what memory holds. -/
def State.loadCached (s : State) (va : Word) (l : Located) (n : Nat) : Res Word :=
  if isIo l.pa || !s.l2Uniform then s.loadData true va l n
  else
    let look := s.lookL1d l.pa
    if look.1 then
      let got := look.2.l1Bytes l.pa n
      .ok (wordOfBytes (orderBytes l.little got.1)) got.2
    else look.2.loadData true va l n

/-- What a store to an I/O address does without an error on its way. The boot ROM discards stores (decision D104), and so does what
does not exist; an SSI register takes free data from a store of another size than 8 bytes (R512). -/
def State.ioWrite (s : State) (l : Located) (n : Nat) (v : Word) : Res Unit :=
  match ioBlock l.pa with
  | .registers =>
    if n = 8 then s.csrStore l.pa (orderWord l.little 8 v)
    else match ssiRegister l.pa with
      | some at_ => s.drawn.csrStore at_ (s.drawWord .deviceRead)
      | none => .ok () s
  | _ => .ok () s

/-- A store to an I/O address. One that meets an error is dropped with a fatal one, gets no acknowledgement, so that the strand
hangs (bits 19, 20 of R1770), or does not reach the DMU (21). Whether one with an error in its data (18), or with one in the
acknowledgement (20), is performed R1770 does not say: it is or is not, freely (log entry 62). -/
def State.pioStore (s : State) (pa : Nat) (perform : State → Res Unit) : Res Unit :=
  let e := s.pioErrors (storeErrors pa) pa
  let hits := e.1
  let done : Res Unit := if anyOf hits 0x140000 && !e.2.drawBit .storePerformed then .ok () e.2.drawn else perform e.2.drawn
  if hits = 0 then perform e.2
  else if s.fatalSoc hits || bitAt hits 19 then .hang e.2
  else if bitAt hits 20 then done.bind fun _ s' => .hang s'
  else if bitAt hits 21 then .ok () e.2
  else done

/-- The low `n` bytes of a word that a store-buffer entry holds, where hardware has changed its doubleword by `change`
(spec/67_ecc_jtag.md R2101). -/
def changedWord (change : Word) (l : Located) (n : Nat) (v : Word) : Word :=
  let cells := cellsFrom l.pa (orderBytes l.little (bytesOfWord n v))
  if change = 0 then v else wordOfBytes (orderBytes l.little (cells.map (fun c => c.2 ^^^ byteAt change c.1)))

/-- A store to I/O, after the stores of the buffer (R529). -/
def State.ioStore (s : State) (l : Located) (n : Nat) (v : Word) : Res Unit :=
  s.ringStore s.storeFlaw (fun change s1 => s1.pioStore l.pa (fun s2 => s2.ioWrite l n (changedWord change l n v)))

/-- A store of some bytes of an aligned block to memory, each with its address; of the first `seen` a later load looks in the
store buffer. -/
def State.storeCellsAt (s : State) (kind : StoreKind) (pa seen : Nat) (cells : List Host.Cell) : Res Unit :=
  if !s.l2Uniform then .refuse (.undefinedAccess "L2_CONTROL_REG.dis")
  else if s.plainLine pa then .ok () (s.pushCells kind s.storeFlaw pa seen cells)
  else s.lineStore kind pa cells

/-- The kind of a store of one to eight bytes: a block-initializing one, or an ordinary one. -/
def DataReq.storeKind (r : DataReq) : StoreKind :=
  match r.asi with
  | some a => if asiKind a == .twinInit then .init else .ordinary
  | none => .ordinary

/-- The bytes that a store leaves in memory: after a block-initializing one to the first bytes of a line, the rest of the line is
zero too, or not (spec/42_load_store.md R940). -/
def State.storedBytes (s : State) (r : DataReq) (l : Located) (bs : List Byte) : List Byte :=
  if r.storeKind == .init && l.pa % 64 == 0 && s.drawBit .blockInit then
    bs ++ List.replicate (64 - bs.length) 0
  else bs

/-- A store of bytes in the order of memory, to memory: R870, R940. -/
def State.storeBytes (s : State) (r : DataReq) (l : Located) (bs : List Byte) : Res Unit :=
  s.storeCellsAt r.storeKind l.pa bs.length (cellsFrom l.pa (s.storedBytes r l bs))

/-- A store of the low `n` bytes of a word. -/
def State.storeData (s : State) (r : DataReq) (l : Located) (n : Nat) (v : Word) : Res Unit :=
  if isIo l.pa then s.ioStore l n v
  else s.storeBytes r l (orderBytes l.little (bytesOfWord n v))

/-- An atomic load-store of `n` bytes: what was there, and what is stored in its place (spec/42_load_store.md R921), after
the store buffer is drained (spec/20_memory.md R529, R536). The location is memory, since anything else has raised
DAE_nc_page. -/
def State.atomic (s : State) (l : Located) (n : Nat) (update : Word → Option Word) : Res Word :=
  let update' := fun (bs : List Byte) (t : State) (written : State → State) =>
    let old := wordOfBytes (orderBytes l.little bs)
    match update old with
    | some v => Res.ok old (written (t.writeBytes l.pa (orderBytes l.little (bytesOfWord n v))))
    | none => Res.ok old t
  if !s.l2Uniform then .refuse (.undefinedAccess "L2_CONTROL_REG.dis")
  else if s.drain.plainLine l.pa then update' (s.drain.readBytes l.pa n) s.drain (fun t => t)
  else (s.drain.badAtomic l.pa n).bind fun found s1 =>
    if found.2 then
      update' found.1 s1 (fun t => t.rewritten l.pa ((List.range n).map (fun i => l.pa + i)) (t.badSublines l.pa))
    else .ok (wordOfBytes (orderBytes l.little found.1)) s1

/-! ## Whole accesses -/

/-- Before a load that looks in the store buffer, some relaxed stores may have left it. -/
def State.settled (s : State) (l : Located) (n : Nat) : State := if isIo l.pa then s else s.settle l.pa n

/-- `MemRead` of spec/42_load_store.md R870, for 1, 2, 4 or 8 bytes. -/
def State.memRead (s : State) (r : DataReq) : Res Word :=
  (s.access r).bind fun l s1 => (s1.settled l r.size).loadCached r.va l r.size

/-- `MemWrite` of R870, with the block initialization of R940. -/
def State.memWrite (s : State) (r : DataReq) (v : Word) : Res Unit :=
  (s.access r).bind fun l s1 => s1.storeData r l r.size v

/-- An atomic access. -/
def State.memAtomic (s : State) (r : DataReq) (update : Word → Option Word) : Res Word :=
  (s.access r).bind fun l s1 => s1.atomic l r.size update

/-- The two words of a twin-extended-word load, one access of 16 bytes; each is in the byte order of the access (R920). -/
def State.memReadTwin (s : State) (r : DataReq) : Res (Word × Word) :=
  (s.access r).bind fun l s1 =>
    let s2 := s1.settled l 16
    if isIo l.pa || s2.plainLine l.pa || !s2.l2Uniform then
      (s2.loadData false r.va l 8).bind fun a s3 =>
        (s3.loadData false (r.va + 8) { l with pa := l.pa + 8 } 8).bind fun b s4 => .ok (a, b) s4
    else (s2.badLoad false l.pa 16).bind fun bs s3 =>
      .ok (wordOfBytes (orderBytes l.little (bs.take 8)), wordOfBytes (orderBytes l.little (bs.drop 8))) s3

/-- What one helper load of a block load finds in a bad line: its bytes, and its error, if the report of that is enabled. -/
def State.badHelper (s : State) (pa : Nat) : (List Byte × Found) × State :=
  let f := s.findBytes pa 16 (fun t => t)
  let s1 := f.2.logFound pa f.1.found
  let got := s1.storedOrFree (f.1.found.fine || f.1.known) pa 16
  ((got.1, if f.1.found = .corrected || s1.reported pa f.1.found 39 38 then f.1.found else .good), got.2)

/-- `k` helper loads of 16 bytes, each at its own instant and without a look in the store buffer (R930, R931), with the error that
each of them finds (R1735). -/
def State.loadHelpers (s : State) (pa : Nat) : Nat → List (List Byte × Found) × State
  | 0 => ([], s)
  | k + 1 =>
    let here :=
      if s.plainLine pa then (((s.globalBytes pa).1, Found.good), (s.globalBytes pa).2) else s.badHelper pa
    let rest := here.2.loadHelpers (pa + 16) k
    (here.1 :: rest.1, rest.2)

/-- The doublewords of some bytes. -/
def doublewords (little : Bool) (bs : List Byte) : Nat → List Word
  | 0 => []
  | k + 1 => wordOfBytes (orderBytes little (bs.take 8)) :: doublewords little (bs.drop 8) k

/-- The eight doublewords of a block load (R930), or, where a helper finds bad data, those of the helpers before it with the
trap that follows. One error is reported, after the last helper: NotData before another uncorrectable error, and that before a
corrected one (R933; spec/63_errors_l2_dram.md R1735). -/
def State.memReadBlock (s : State) (r : DataReq) : Res (List Word × Option (BitVec 4)) :=
  (s.access r).bind fun l s1 =>
    if !s1.l2Uniform then .refuse (.undefinedAccess "L2_CONTROL_REG.dis")
    else
      let got := s1.loadHelpers l.pa 4
      let bytes := got.1.flatMap (fun h => h.1)
      match got.1.findIdx? (fun h => !h.2.fine) with
      | some k =>
        .ok (doublewords l.little bytes (2 * k), some (if got.1.any (fun h => h.2 == .marked) then 2 else 1)) got.2
      | none =>
        .ok (doublewords l.little bytes 8, none)
          (if got.1.any (fun h => h.2 == .corrected) then got.2.reportCorrected l.pa 40 4 else got.2)

/-- The eight stores of eight bytes that make a block store (R930); they take the same wrong check bits, so that an uncorrectable
error in one of them ends the whole block store (spec/63_errors_l2_dram.md R1735; log entry 60). -/
def State.storePieces (s : State) (flaw : BitVec 7 × Bool) (pa : Nat) (pieces : List (List Byte)) : State :=
  match pieces with
  | [] => s
  | bs :: rest =>
    let s1 := s.pushCells .block flaw pa 8 (cellsFrom pa bs)
    if s1.storeError && !s.storeError then s1 else s1.storePieces flaw (pa + 8) rest

/-- The store of a block of eight doublewords (R930, R935). -/
def State.memWriteBlock (s : State) (r : DataReq) (vs : List Word) : Res Unit :=
  (s.access r).bind fun l s1 =>
    let pieces := vs.map (fun v => orderBytes l.little (bytesOfWord 8 v))
    if isIo l.pa then
      match ioBlock l.pa with
      | .registers => .refuse (.deviceAccess "block store")
      | _ => s1.ringStore s1.storeFlaw (fun _ s2 => s2.pioStore l.pa (fun s3 => .ok () s3))
    else if !s1.l2Uniform then .refuse (.undefinedAccess "L2_CONTROL_REG.dis")
    else if s1.plainLine l.pa then .ok () (s1.storePieces s1.storeFlaw l.pa pieces)
    else s1.lineStore .block l.pa (cellsFrom l.pa pieces.flatten)

/-- The enabled ones of some bytes at rising addresses. -/
def enabledCells (pa : Nat) (bytes : List (Byte × Bool)) : List Host.Cell :=
  match bytes with
  | [] => []
  | (b, on) :: rest => if on then (pa, b) :: enabledCells (pa + 1) rest else enabledCells (pa + 1) rest

/-- A store under a mask: the bytes in address order with their enables, by the byte order of the access (spec/45_vis.md
R1280). -/
def State.memWritePartial (s : State) (r : DataReq) (bytes : Bool → List (Byte × Bool)) : Res Unit :=
  (s.access r).bind fun l s1 =>
    if isIo l.pa then
      if isSsi l.pa then .refuse (.undefinedAccess "partial store to the SSI") else
        s1.ringStore s1.storeFlaw (fun _ s2 => s2.pioStore l.pa (fun s3 => .ok () s3))
    else s1.storeCellsAt .ordinary l.pa 8 (enabledCells l.pa (bytes l.little))

/-! ## Prefetches, R945, R946 -/

/-- What a weak prefetch of an address finds in the D-TLB: nothing where it misses, and of more than one entry, or of one with a
parity error, the trap that reports it (spec/62_errors_core.md R1566 to R1568, "including prefetch instructions"). The used
bits do not change (log entry 43). -/
def State.prefetchPlace (s : State) (r : DataReq) (sp : AsiSpace) : Res (Option Translation) :=
  match s.route sp with
  | .bypass => .ok (some (bypass (r.va.setWidth 48))) s
  | route =>
    match s.tlbMatches .data (r.request sp route) with
    | [] => .ok none s
    | [e] =>
      match s.entryError .data r.va e with
      | some (tt, s1) => .trap tt s1
      | none => .ok (some (e.translate (r.request sp route).va)) s
    | _ => if s.cerer 47 then s.multipleHit .data r.va (r.request sp route) else .ok none s

/-- A prefetch of a line into the L2 cache, which shows only where its data is bad (spec/63_errors_l2_dram.md R1685, R1714): what
may not be accessed, and what is not cacheable memory, is not prefetched (log entry 43, DESIGN CHOICE). -/
def State.prefetch (s : State) (r : DataReq) : Res Unit :=
  match s.space r.asi with
  | none => .ok () s
  | some sp =>
    if s.restricted r.asi || (s.route sp != .bypass && outOfRange r.va) || !r.legal then .ok () s
    else (s.prefetchPlace r sp).bind fun found s1 =>
      match found with
      | none => .ok () s1
      | some t =>
        let drop := (t.p && (sp.user || s.level == .user)) || (t.nfo && !sp.noFault) || (t.e && sp.noFault) || !t.cp || isIo t.pa.toNat
        if drop || s1.plainLine t.pa.toNat || !s1.l2Uniform then .ok () s1 else .ok () (s1.badPrefetch t.pa.toNat)

end Sys2Proof.Machine
end

