-- ==== Sys2Proof/Machine/Asi.lean ====
section
/-! DEFINITION. Machine/Asi.lean: the registers behind the nontranslating ASIs, for the four instructions that may use
them (spec/21_asi_map.md R565, spec/11_state_asi_regs.md, spec/13_mmu_registers.md, spec/61_interrupts_cmt.md,
spec/62_errors_core.md, spec/66_diag_debug.md). A function answers none where the address, or the direction, is not a
legal one: that is DAE_invalid_asi (R563). -/

namespace Sys2Proof.Machine

/-- What a load of a register ASI gives. -/
abbrev AsiRead := Option (Word × State)

/-- What a store to a register ASI gives. -/
abbrev AsiWrite := Option (Res Unit)

/-- A register that is read without effect. -/
def reads (s : State) (v : Word) : AsiRead := some (v, s)

/-- A store that gives a state. -/
def writes (s : State) : AsiWrite := some (.ok () s)

/-! ## Layouts -/

/-- LSU_CONTROL_REG (spec/11_state_asi_regs.md R220). -/
def LsuControl.word (c : LsuControl) : Word :=
  (c.mode ++ c.bm ++ boolBit c.re ++ boolBit c.we ++ 0#18 ++ boolBit c.se ++ boolBit c.dm ++ boolBit c.im ++
    boolBit c.dc ++ boolBit c.ic : BitVec 35).setWidth 64

/-- The fields of a value written to LSU_CONTROL_REG. -/
def LsuControl.ofWord (v : Word) : LsuControl :=
  ⟨v.extractLsb' 33 2, v.extractLsb' 25 8, bitAt v 24, bitAt v 23, bitAt v 4, bitAt v 3, bitAt v 2, bitAt v 1, bitAt v 0⟩

/-- A Tag Access register (spec/13_mmu_registers.md R415). -/
def TagAccess.word (t : TagAccess) : Word := sext48 (t.va ++ t.context)

/-- A Tag Target register: the Tag Access register, shifted (R410). -/
def TagAccess.target (t : TagAccess) : Word :=
  (t.context.setWidth 64 <<< 48) ||| ((t.word.extractLsb' 22 42).setWidth 64)

/-- A value written to Tag Access. -/
def TagAccess.ofWord (v : Word) : TagAccess := ⟨v.extractLsb' 13 35, v.extractLsb' 0 13⟩

/-- A Real Range register (R430). -/
def RealRange.word (r : RealRange) : Word := boolBit r.enable ++ 0#9 ++ r.high ++ r.low

/-- A value written to a Real Range register. -/
def RealRange.ofWord (v : Word) : RealRange := ⟨bitAt v 63, v.extractLsb' 27 27, v.extractLsb' 0 27⟩

/-- A TSB Config register (R435). -/
def TsbConfig.word (c : TsbConfig) : Word :=
  boolBit c.enable ++ boolBit c.useContext0 ++ boolBit c.useContext1 ++ 0#21 ++ c.base ++ 0#4 ++ boolBit c.raNotPa ++
    c.pageSize.code ++ c.tsbSize

/-- A value written to a TSB Config register; none where its page size is reserved. -/
def TsbConfig.ofWord (v : Word) : Option TsbConfig :=
  (PageSize.ofCode (v.extractLsb' 4 4)).map (fun p =>
    ⟨bitAt v 63, bitAt v 62, bitAt v 61, v.extractLsb' 13 27, bitAt v 8, p, v.extractLsb' 0 4⟩)

/-- D-SFAR: a virtual address is sign-extended, an error address is not (R420; spec/62_errors_core.md R1610). -/
def Mmu.dsfarWord (m : Mmu) : Word := if m.dsfarError then m.dsfar.setWidth 64 else sext48 m.dsfar

/-! ## Check bits, spec/67_ecc_jtag.md R2101 to R2105, spec/66_diag_debug.md R2045 -/

/-- The check bits of a code whose masks are listed from the first check bit up. -/
def checkBits {w : Nat} (masks : List (BitVec w)) (v : BitVec w) : Word :=
  masks.reverse.foldl (fun acc m => (acc <<< 1) ||| (if xorBits (v &&& m) then 1 else 0)) 0

/-- The 64+8 code (R2102; R2104 for 64-bit contents). -/
def ecc64 (v : Word) : Word :=
  checkBits [0xAB55555556AAAD5B, 0xCD9999999B33366D, 0xF1E1E1E1E3C3C78E, 0x01FE01FE03FC07F0, 0x01FFFE0003FFF800,
    0x01FFFFFFFC000000, 0xFE00000000000000, 0x972CD2D32DA65CB7] v

/-- The 32+7 code (R2105). -/
def ecc32 (v : Word32) : Word :=
  checkBits [0x56AAAD5B, 0x9B33366D, 0xE3C3C78E, 0x03FC07F0, 0x03FFF800, 0xFC000000, 0x2DA65CB7] v

/-- The bits of a TSB Config register that the MMU register array holds. -/
def TsbConfig.stored (c : TsbConfig) : BitVec 38 :=
  boolBit c.useContext0 ++ boolBit c.useContext1 ++ c.base ++ boolBit c.raNotPa ++ c.pageSize.code ++ c.tsbSize

/-- The two parity bits of an entry of the MMU register array, even parity unless an error is in them (R2045, decision
D101). -/
def State.mraParity (s : State) (i : BitVec 3) : Word :=
  let j : BitVec 2 := i.extractLsb' 0 2
  let pair : Bool × Bool :=
    if bitAt i 2 then
      let r := fileGet s.mmu.realRange j
      (xorBits (boolBit r.enable ++ r.high ++ r.low.extractLsb' 14 13),
        xorBits (r.low.extractLsb' 0 14 ++ fileGet s.mmu.physOffset j))
    else
      let set := if bitAt i 1 then s.mmu.tsbNonzero else s.mmu.tsbZero
      let k : BitVec 2 := i.extractLsb' 0 1 ++ 0#1
      (xorBits (fileGet set k).stored, xorBits (fileGet set (k + 1)).stored)
  (boolBit pair.1 ++ boolBit pair.2 : BitVec 2).setWidth 64 ^^^ (s.checkOf (.mmu i)).setWidth 64

/-! ## Scratchpad, context and queue registers -/

/-- ASI_SCRATCHPAD: registers 4 and 5 are not reached through it (spec/11_state_asi_regs.md R205). -/
def scratchpadIndex (a : Nat) : Option (BitVec 3) :=
  if a = 0x00 ∨ a = 0x08 ∨ a = 0x10 ∨ a = 0x18 ∨ a = 0x30 ∨ a = 0x38 then some (BitVec.ofNat 3 (a / 8)) else none

/-- ASI_HYP_SCRATCHPAD (R206). -/
def hypScratchpadIndex (a : Nat) : Option (BitVec 3) := if a < 0x40 then some (BitVec.ofNat 3 (a / 8)) else none

/-- A scratchpad register has another value. -/
def State.setScratch (s : State) (i : BitVec 3) (v : Word) : State := { s with scratch := fileSet s.scratch i v }

/-- The context registers (spec/13_mmu_registers.md R405). -/
def State.readContext (s : State) (a : Nat) : AsiRead :=
  match a with
  | 0x008 => reads s (s.mmu.primary0.setWidth 64)
  | 0x010 => reads s (s.mmu.secondary0.setWidth 64)
  | 0x108 => reads s (s.mmu.primary1.setWidth 64)
  | 0x110 => reads s (s.mmu.secondary1.setWidth 64)
  | _ => none

/-- A store to Context 0 also writes Context 1 (R405). -/
def State.writeContext (s : State) (a : Nat) (v : Word) : AsiWrite :=
  let c : BitVec 13 := v.setWidth 13
  match a with
  | 0x008 => writes { s with mmu := { s.mmu with primary0 := c, primary1 := c } }
  | 0x010 => writes { s with mmu := { s.mmu with secondary0 := c, secondary1 := c } }
  | 0x108 => writes { s with mmu := { s.mmu with primary1 := c } }
  | 0x110 => writes { s with mmu := { s.mmu with secondary1 := c } }
  | _ => none

/-- The number of a queue register: heads are even, tails odd (spec/61_interrupts_cmt.md R1470). -/
def queueIndex (a : Nat) : Option (BitVec 3) :=
  if 0x3C0 ≤ a ∧ a < 0x400 then some (BitVec.ofNat 3 ((a - 0x3C0) / 8)) else none

/-- The queue pointers (R1470). -/
def State.readQueue (s : State) (a : Nat) : AsiRead :=
  (queueIndex a).bind fun i => reads s ((fileGet s.intr.queue i ++ 0#6 : BitVec 18).setWidth 64)

/-- A tail pointer is written in hyperprivileged mode only (R1470). -/
def State.writeQueue (s : State) (a : Nat) (v : Word) : AsiWrite :=
  (queueIndex a).bind fun i =>
    if bitAt i 0 && s.level != .hyper then none
    else writes { s with intr := { s.intr with queue := fileSet s.intr.queue i (v.extractLsb' 6 12) } }

/-! ## CMT registers, spec/61_interrupts_cmt.md R1500 to R1521 -/

/-- ASI_CORE_RUNNING_STATUS (R1518). -/
def Cmt.status (c : Cmt) : Word := c.running ^^^ c.lag

/-- R1500 to R1518. -/
def State.readCmt (s : State) (a : Nat) : AsiRead :=
  match a with
  | 0x00 => reads s coreAvailable
  | 0x10 => reads s s.cmt.enableStatus
  | 0x20 => reads s s.cmt.enable
  | 0x30 => reads s s.cmt.xirSteering
  | 0x38 => reads s ((boolBit s.cmt.tickEnable).setWidth 64)
  | 0x50 => reads s s.cmt.running
  | 0x58 => reads s s.cmt.status
  | _ => none

/-- Only whole bytes of ones enable a core, and only an available one (R1504). -/
def wholeCores (v : Word) : Word :=
  (List.range 8).foldl
    (fun acc c => if v.extractLsb' (8 * c) 8 == 0xFF then acc ||| ((0xFF : Word) <<< (8 * c)) else acc) 0 &&& coreAvailable

/-- The running strands become `new`; the strand that stores keeps running rather than park all (R1515, R1517). A strand
that parks itself executes nothing more, and its own status follows at once; the status of the others follows later (R1518). -/
def State.setRunning (s : State) (new : Word) : State :=
  let running := if new = 0 then ownBit else new
  let lag := (s.cmt.status ^^^ running) &&& ~~~ownBit
  { s with
    cmt := { s.cmt with running := running, lag := lag }, run := if running &&& ownBit == 0 then .parked else s.run }

/-- A store to one of the running registers: one that must not be made is refused, a second change before the status has
followed the first, and the parking or unparking of an enabled strand (`wrong`) that is not what the store takes it for
(R1515, spec/93_implementation_defined.md 2.5). -/
def State.storeRunning (s : State) (wrong new : Word) : AsiWrite :=
  if s.cmt.lag != 0 || wrong &&& s.cmt.enableStatus != 0 then
    some (.refuse (.unpredictableStore "CORE_RUNNING"))
  else writes (s.setRunning new)

/-- R1504 to R1517. ASI_XIR_STEERING keeps all the bits written, those of strands that are not enabled too (log entry 59,
DESIGN CHOICE). -/
def State.writeCmt (s : State) (a : Nat) (v : Word) : AsiWrite :=
  match a with
  | 0x20 => writes { s with cmt := { s.cmt with enable := wholeCores v } }
  | 0x30 => writes { s with cmt := { s.cmt with xirSteering := v } }
  | 0x38 => writes { s with cmt := { s.cmt with tickEnable := bitAt v 0 } }
  | 0x50 => s.storeRunning 0 (v &&& s.cmt.enableStatus)
  | 0x60 => s.storeRunning (v &&& s.cmt.status) (s.cmt.running ||| (v &&& s.cmt.enableStatus))
  | 0x68 => s.storeRunning (v &&& ~~~s.cmt.status) (s.cmt.running &&& ~~~v)
  | _ => none

/-- The interrupt and strand numbers of the strand (R1520, R1521). -/
def State.readStrandId (s : State) (a : Nat) : AsiRead :=
  match a with
  | 0x00 => reads s (ownStrand.setWidth 64)
  | 0x10 => reads s (0x00000007003F0000 ||| ownStrand.setWidth 64)
  | _ => none

/-! ## Interrupt registers, R1460 to R1464 -/

/-- The interrupt receive register has another value. -/
def State.setReceive (s : State) (v : Word) : State := { s with intr := { s.intr with receive := v } }

/-- The number of the highest bit set, 0 if there is none. -/
def highestBit (v : Word) : Nat := (List.range 64).foldl (fun acc i => if bitAt v i then i else acc) 0

/-- A load of ASI_INTR_R takes the highest pending vector (R1464). -/
def State.readIncoming (s : State) : AsiRead :=
  let n := highestBit s.intr.receive
  some (BitVec.ofNat 64 n, s.setReceive (s.intr.receive &&& ~~~((1 : Word) <<< n)))

/-- A store to ASI_INTR_W; a vector for another strand leaves this one (R1462). -/
def State.dispatchVector (s : State) (v : Word) : State :=
  if v.extractLsb' 8 6 == ownStrand && s.cmt.enableStatus &&& ownBit != 0 then
    s.setReceive (s.intr.receive ||| ((1 : Word) <<< (v.extractLsb' 0 6).toNat))
  else s

/-! ## Control, error and debug registers -/

/-- The bits of CERER that software writes (spec/62_errors_core.md R1590). -/
def cererMask : Word := 0xECF5C1F3F8BFFFFF

/-- The bits of ASI_ERROR_INJECT_REG (R1640). -/
def injectMask : BitVec 32 := 0xBFFA00FF

/-- The bits of DECR (R1600). -/
def decrMask : Word := 0xFFFFC00000000000

/-- The bits of SPARC_PWR_MGMT (spec/11_state_asi_regs.md R250). -/
def pwrMask : BitVec 16 := 0xFFF7

/-- ASI 0x42: INST_MASK and LSU_DIAG (spec/66_diag_debug.md R1975, R1980). -/
def State.readDiag (s : State) (a : Nat) : AsiRead :=
  match a with
  | 0x08 => reads s (s.dbg.instMask.setWidth 64)
  | 0x10 => reads s (s.dbg.lsuDiag.setWidth 64)
  | _ => none

/-- ASI 0x42. -/
def State.writeDiag (s : State) (a : Nat) (v : Word) : AsiWrite :=
  match a with
  | 0x08 => writes { s with dbg := { s.dbg with instMask := v.setWidth 39 } }
  | 0x10 => writes { s with dbg := { s.dbg with lsuDiag := v.setWidth 2 } }
  | _ => none

/-- ASI 0x45: LSU_CONTROL, DECR, RST_VEC_MASK (R2076 there). -/
def State.readControl (s : State) (a : Nat) : AsiRead :=
  match a with
  | 0x00 => reads s s.lsu.word
  | 0x08 => reads s s.dbg.decr
  | 0x18 => reads s ((boolBit s.cmt.rstVecMask).setWidth 64)
  | _ => none

/-- ASI 0x45. -/
def State.writeControl (s : State) (a : Nat) (v : Word) : AsiWrite :=
  match a with
  | 0x00 => writes { s with lsu := LsuControl.ofWord v }
  | 0x08 => writes { s with dbg := { s.dbg with decr := v &&& decrMask } }
  | 0x18 => writes { s with cmt := { s.cmt with rstVecMask := bitAt v 0 } }
  | _ => none

/-- ASI 0x4C: the error registers; a load of DESR or DFESR clears it (spec/62_errors_core.md R1615, R1620). -/
def State.readError (s : State) (a : Nat) : AsiRead :=
  match a with
  | 0x00 => some s.readDesr
  | 0x08 => some s.readDfesr
  | 0x10 => reads s s.err.cerer
  | 0x18 => reads s (0#1 ++ s.err.seter ++ 0#60)
  | 0x20 => reads s (s.clesr ++ 0#48)
  | 0x28 => reads s (s.err.clfesr ++ 0#48)
  | _ => none

/-- ASI 0x4C: CERER and SETER are written (R1590, R1595). -/
def State.writeError (s : State) (a : Nat) (v : Word) : AsiWrite :=
  match a with
  | 0x10 => writes { s with err := { s.err with cerer := v &&& cererMask } }
  | 0x18 => writes { s with err := { s.err with seter := v.extractLsb' 60 3 } }
  | _ => none

/-! ## MMU registers, spec/13_mmu_registers.md -/

/-- The place of a TSB Config register: whether its set is the nonzero-context one, and its number. -/
def tsbConfigIndex (a : Nat) : Option (Bool × BitVec 2) :=
  if 0x10 ≤ a ∧ a < 0x30 then some (false, BitVec.ofNat 2 ((a - 0x10) / 8))
  else if 0x30 ≤ a ∧ a < 0x50 then some (true, BitVec.ofNat 2 ((a - 0x30) / 8))
  else none

/-- The TSB pointer of a side (R438). -/
def State.pointer (s : State) (side : Side) (i : BitVec 2) : Word :=
  let t := s.tag side
  (tsbPointer t.va (fileGet (s.tsbSet t.context) i)).setWidth 64

/-- ASI 0x54 (R435, R438, R442, R443). Data In is write-only. A tablewalk is one step, so its pending bit reads 0. -/
def State.readTsb (s : State) (a : Nat) : AsiRead :=
  match tsbConfigIndex a with
  | some (nonzero, i) => reads s (fileGet (if nonzero then s.mmu.tsbNonzero else s.mmu.tsbZero) i).word
  | none =>
    if 0x50 ≤ a ∧ a < 0x70 then reads s (s.pointer .inst (BitVec.ofNat 2 ((a - 0x50) / 8)))
    else if 0x70 ≤ a ∧ a < 0x90 then reads s (s.pointer .data (BitVec.ofNat 2 ((a - 0x70) / 8)))
    else if a = 0x90 ∨ a = 0x98 then reads s ((boolBit s.mmu.stp).setWidth 64)
    else none

/-- A TSB Config register has another value. -/
def State.setTsbConfig (s : State) (nonzero : Bool) (i : BitVec 2) (c : TsbConfig) : State :=
  if nonzero then { s with mmu := { s.mmu with tsbNonzero := fileSet s.mmu.tsbNonzero i c } }
  else { s with mmu := { s.mmu with tsbZero := fileSet s.mmu.tsbZero i c } }

/-- ASI 0x54: the ITLB Data In register, the TSB Config registers, and the pending control (R450, R435, R442). -/
def State.writeTsb (s : State) (a : Nat) (v : Word) : AsiWrite :=
  match tsbConfigIndex a with
  | some (nonzero, i) =>
    match TsbConfig.ofWord v with
    | some c => writes (s.setTsbConfig nonzero i c)
    | none => some (.trap 0x03B s)
  | none =>
    if a = 0x0 ∨ a = 0x400 then some (s.storeTlb .inst none (a == 0x400) v)
    else if a = 0x90 then writes { s with mmu := { s.mmu with stp := bitAt v 0 } }
    else none

/-- The place a range or an offset register has in ASI 0x52: the registers are 8 bytes apart from `base` + 8. -/
def rangeIndex (base a : Nat) : Option (BitVec 2) :=
  if base + 8 ≤ a ∧ a < base + 0x28 then some (BitVec.ofNat 2 ((a - (base + 8)) / 8)) else none

/-- ASI 0x52 (R430, R432). -/
def State.readRange (s : State) (a : Nat) : AsiRead :=
  match rangeIndex 0x100 a, rangeIndex 0x200 a with
  | some i, _ => reads s (fileGet s.mmu.realRange i).word
  | _, some i => reads s ((fileGet s.mmu.physOffset i ++ 0#13 : PAddr).setWidth 64)
  | none, none => none

/-- ASI 0x52. -/
def State.writeRange (s : State) (a : Nat) (v : Word) : AsiWrite :=
  match rangeIndex 0x100 a, rangeIndex 0x200 a with
  | some i, _ => writes { s with mmu := { s.mmu with realRange := fileSet s.mmu.realRange i (RealRange.ofWord v) } }
  | _, some i => writes { s with mmu := { s.mmu with physOffset := fileSet s.mmu.physOffset i (v.extractLsb' 13 27) } }
  | none, none => none

/-- ASI 0x50: the I-MMU's registers and the instruction watchpoint (R410, R415; spec/62_errors_core.md R1605;
spec/11_state_asi_regs.md R240). -/
def State.readImmu (s : State) (a : Nat) : AsiRead :=
  match a with
  | 0x00 => reads s s.mmu.itag.target
  | 0x18 => reads s (s.err.isfsr.setWidth 64)
  | 0x30 => reads s s.mmu.itag.word
  | 0x38 => reads s (sext48 (s.watch.inst ++ 0#1 ++ boolBit s.watch.instEnable))
  | _ => none

/-- ASI 0x50. -/
def State.writeImmu (s : State) (a : Nat) (v : Word) : AsiWrite :=
  match a with
  | 0x18 => writes (s.setIsfsr (v.setWidth 3))
  | 0x30 => writes (s.setTag .inst (TagAccess.ofWord v))
  | 0x38 => writes { s with watch := { s.watch with inst := v.extractLsb' 2 46, instEnable := bitAt v 0 } }
  | _ => none

/-- ASI 0x58: the D-MMU's registers, the data watchpoint, the tablewalk configuration and the partition (R410 to R425,
R408; spec/62_errors_core.md R1608; spec/11_state_asi_regs.md R230). -/
def State.readDmmu (s : State) (a : Nat) : AsiRead :=
  match a with
  | 0x00 => reads s s.mmu.dtag.target
  | 0x18 => reads s (s.err.dsfsr.setWidth 64)
  | 0x20 => reads s s.mmu.dsfarWord
  | 0x30 => reads s s.mmu.dtag.word
  | 0x38 => reads s (sext48 (s.watch.data ++ 0#3))
  | 0x40 => reads s (s.mmu.hwtw.setWidth 64)
  | 0x80 => reads s (s.mmu.pid.setWidth 64)
  | _ => none

/-- ASI 0x58. -/
def State.writeDmmu (s : State) (a : Nat) (v : Word) : AsiWrite :=
  match a with
  | 0x18 => writes (s.setDsfsr (v.setWidth 4))
  | 0x30 => writes (s.setTag .data (TagAccess.ofWord v))
  | 0x38 => writes { s with watch := { s.watch with data := v.extractLsb' 3 45 } }
  | 0x40 => writes { s with mmu := { s.mmu with hwtw := v.setWidth 2 } }
  | 0x80 => writes { s with mmu := { s.mmu with pid := v.setWidth 3 } }
  | _ => none

/-- The entry number of a TLB diagnostic address; bit 9 is ignored for the ITLB (R452, decision D52). -/
def tlbEntryIndex (a : Nat) : Option (BitVec 7) := if a < 0x800 then some (BitVec.ofNat 7 (a / 8)) else none

/-- The entry number of an ITLB Tag Read address: 0x000 to 0x1F8 and 0x400 to 0x5F8, no others (spec/21_asi_map.md R565;
decision D52 drops bit 9 for the Data Access register only). -/
def itlbTagIndex (a : Nat) : Option (BitVec 7) := if a / 0x200 % 2 = 0 then tlbEntryIndex a else none

/-- The entry of a TLB by number. -/
def State.tlbEntry (s : State) (side : Side) (i : BitVec 7) : TlbEntry :=
  match side with
  | .inst => fileGet s.itlb (i.extractLsb' 0 6)
  | .data => fileGet s.dtlb i

/-! ## Diagnostic arrays, spec/66_diag_debug.md R1990 to R2045, decision D101 -/

/-- A free value of at most `n` bits. -/
def State.freeBits (s : State) (n : Nat) : AsiRead :=
  some (s.drawWord .diagnosticArray &&& (BitVec.allOnes 64 >>> (64 - n)), s.drawn)

/-- ASI_IRF_ECC_REG (R2010). -/
def State.irfEcc (s : State) (r : Reg) : Word := ecc64 (s.reg r) ^^^ (s.checkOf (.int (s.slot r))).setWidth 64

/-- The check bits of one half of an FRF entry. -/
def State.halfEcc (s : State) (i : BitVec 6) : Word := ecc32 (fileGet s.fregs i) ^^^ (s.checkOf (.float i)).setWidth 64

/-- ASI_STB_ACCESS by field and entry (R2020): what the buffer holds of the entry, with free values for the bytes of its
doubleword that the store did not write, and for an entry that is not in use; the pointer's format is not given. -/
def State.readStoreBuffer (s : State) (a : Nat) : AsiRead :=
  let free := s.drawWord .diagnosticArray
  let field : Nat := a / 64 % 8
  let mask : Word := match field with
    | 1 => 0x3FFF
    | 2 => 0xF
    | 3 => 0x0000FFFFFFFFFFF8
    | _ => 0xFFFFFFFFFFFFFFFF
  match entryWith (BitVec.ofNat 3 (a / 8)) [] s.undrained with
  | none => some (free &&& mask, s.drawn)
  | some (p, younger) =>
    let data := s.entryData p younger free
    let value : Word := match field with
      | 0 => data
      | 1 => (ecc32 (data.extractLsb' 32 32) ^^^ p.ecc.setWidth 64) <<< 7 ||| (ecc32 (data.extractLsb' 0 32) ^^^ p.ecc.setWidth 64)
      | 2 => (boolBit p.addressParity ++ levelControl p.level).setWidth 64
      | 3 => (p.byteMarks.setWidth 64 <<< 40) ||| (BitVec.ofNat 64 p.pa &&& 0x000000FFFFFFFFF8)
      | _ => free
    some (value, s.drawn)

/-- ASI_FRF_ECC_REG (R2015). -/
def State.frfEcc (s : State) (i : BitVec 5) : Word := (s.halfEcc (i ++ 0#1) <<< 7) ||| s.halfEcc (i ++ 1#1)

/-- ASI_SCRATCHPAD_ACCESS (R2025). -/
def State.scratchDiag (s : State) (a : Nat) : Word :=
  let i := BitVec.ofNat 3 (a / 8)
  let v := fileGet s.scratch i
  if a / 64 % 2 = 1 then v else ecc64 v ^^^ (s.checkOf (.scratch i)).setWidth 64

/-- ASI_TICK_ACCESS: the `int_dis` bit is inverted in the check bits (R2030). -/
def State.tickDiag (s : State) (a : Nat) : AsiRead :=
  let reg : Option Word := match a / 8 % 4 with
    | 0 => some s.tim.tickCmpr
    | 1 => some s.tim.stickCmpr
    | 2 => some s.tim.hstickCmpr
    | _ => none
  let check := (s.checkOf (.tick (BitVec.ofNat 2 (a / 8)))).setWidth 64
  if a < 0x40 then
    reg.bind (fun v => reads s (if a / 32 = 1 then v else ecc64 (v ^^^ 0x8000000000000000) ^^^ check))
  else none

/-! ## All of them -/

/-- A load of a register ASI, by address bits 47:0 (R563). -/
def State.asiRead (s : State) (asi : BitVec 8) (a : Nat) : AsiRead :=
  match asi.toNat with
  | 0x20 => (scratchpadIndex a).bind fun i => reads s (fileGet s.scratch i)
  | 0x21 => s.readContext a
  | 0x25 => s.readQueue a
  | 0x41 => s.readCmt a
  | 0x42 => s.readDiag a
  | 0x43 => if a = 0 then reads s (s.err.inject.setWidth 64) else none
  | 0x45 => s.readControl a
  | 0x46 => if a / 0x2000 % 2 = 1 then s.freeBits 64 else s.freeBits 8
  | 0x47 => s.freeBits 32
  | 0x48 => reads s (s.irfEcc (BitVec.ofNat 5 (a / 8)))
  | 0x49 => reads s (s.frfEcc (BitVec.ofNat 5 (a / 8)))
  | 0x4A => s.readStoreBuffer a
  | 0x4C => s.readError a
  | 0x4E => if a = 0 then reads s (s.dbg.pwrMgmt.setWidth 64) else none
  | 0x4F => (hypScratchpadIndex a).bind fun i => reads s (fileGet s.scratch i)
  | 0x50 => s.readImmu a
  | 0x51 => if a < 0x40 then reads s (s.mraParity (BitVec.ofNat 3 (a / 8))) else none
  | 0x52 => s.readRange a
  | 0x53 => reads s (s.probe (BitVec.ofNat 64 a))
  | 0x54 => s.readTsb a
  | 0x55 => (tlbEntryIndex a).bind fun i => reads s (s.tlbEntry .inst i).dataWord
  | 0x56 => (itlbTagIndex a).bind fun i => reads s (s.tlbEntry .inst i).tagWord
  | 0x58 => s.readDmmu a
  | 0x59 => reads s (s.scratchDiag a)
  | 0x5A => s.tickDiag a
  | 0x5B => s.freeBits 16
  | 0x5D => (tlbEntryIndex a).bind fun i => reads s (s.tlbEntry .data i).dataWord
  | 0x5E => (tlbEntryIndex a).bind fun i => reads s (s.tlbEntry .data i).tagWord
  | 0x63 => s.readStrandId a
  | 0x66 => s.freeBits 33
  | 0x67 => s.freeBits 32
  | 0x72 => if a = 0 then reads s s.intr.receive else none
  | 0x74 => if a = 0 then s.readIncoming else none
  | _ => none

/-- A store to a register ASI. The cache arrays are not kept: stores to them have no effect (decision D101). -/
def State.asiWrite (s : State) (asi : BitVec 8) (a : Nat) (v : Word) : AsiWrite :=
  match asi.toNat with
  | 0x20 => (scratchpadIndex a).bind fun i => writes (s.setScratch i v)
  | 0x21 => s.writeContext a v
  | 0x25 => s.writeQueue a v
  | 0x41 => s.writeCmt a v
  | 0x42 => s.writeDiag a v
  | 0x43 => if a = 0 then writes { s with err := { s.err with inject := v.setWidth 32 &&& injectMask } } else none
  | 0x45 => s.writeControl a v
  | 0x46 => writes s
  | 0x47 => writes s
  | 0x4C => s.writeError a v
  | 0x4E => if a = 0 then writes { s with dbg := { s.dbg with pwrMgmt := v.setWidth 16 &&& pwrMask } } else none
  | 0x4F => (hypScratchpadIndex a).bind fun i => writes (s.setScratch i v)
  | 0x50 => s.writeImmu a v
  | 0x52 => s.writeRange a v
  | 0x54 => s.writeTsb a v
  | 0x55 => (tlbEntryIndex a).bind fun i => some (s.storeTlb .inst (some i) (a / 0x400 % 2 == 1) v)
  | 0x57 => writes (s.demap .inst (BitVec.ofNat 64 a))
  | 0x58 => s.writeDmmu a v
  | 0x5C => if a = 0x0 ∨ a = 0x400 then some (s.storeTlb .data none (a == 0x400) v) else none
  | 0x5D => (tlbEntryIndex a).bind fun i => some (s.storeTlb .data (some i) (a / 0x400 % 2 == 1) v)
  | 0x5F => writes (s.demap .data (BitVec.ofNat 64 a))
  | 0x66 => writes s
  | 0x67 => writes s
  | 0x72 => if a = 0 then writes (s.setReceive (s.intr.receive &&& v)) else none
  | 0x73 => if a = 0 then writes (s.dispatchVector v) else none
  | _ => none

/-- A load of a register ASI with its checks: privileged_action, then DAE_invalid_asi (spec/11_state_asi_regs.md R200). -/
def State.asiLoad (s : State) (asi : BitVec 8) (va : Word) : Res Word :=
  if s.restricted (some asi) then .trap 0x037 (s.setDsfar va)
  else match s.asiRead asi (va.setWidth 48).toNat with
    | some (v, s') => .ok v s'
    | none => .trap 0x014 (s.setDsfar va)

/-- A store to a register ASI with its checks. It goes over the ASI ring, with the errors of the store buffer; hardware injects none
into a store to the register that controls injection (spec/66_diag_debug.md R2020). -/
def State.asiStore (s : State) (asi : BitVec 8) (va v : Word) : Res Unit :=
  if s.restricted (some asi) then .trap 0x037 (s.setDsfar va)
  else match s.asiWrite asi (va.setWidth 48).toNat v with
    | some (.ok a s') =>
      s.ringStore (if asi = 0x43 then (0, false) else s.storeFlaw)
        (fun change s1 => (s1.asiWrite asi (va.setWidth 48).toNat (v ^^^ change)).getD (.ok a s'))
    | some r => r
    | none => .trap 0x014 (s.setDsfar va)

/-- An 8-byte load by an instruction that may name a register ASI (spec/42_load_store.md R888, R961). -/
def State.read64 (s : State) (r : DataReq) : Res Word :=
  match r.asi with
  | some a => if isRegisterAsi a then s.asiLoad a r.va else s.memRead r
  | none => s.memRead r

/-- An 8-byte store by an instruction that may name a register ASI (R899, R961). -/
def State.write64 (s : State) (r : DataReq) (v : Word) : Res Unit :=
  match r.asi with
  | some a => if isRegisterAsi a then s.asiStore a r.va v else s.memWrite r v
  | none => s.memWrite r v

end Sys2Proof.Machine
end

