-- ==== Sys2Proof/Machine/Operands.lean ====
section
/-! DEFINITION. Machine/Operands.lean: the value of every operand form, and the conditions that instructions test
(spec/30_encoding.md R622, R627 to R629, R632, R635, R665 to R667). -/

namespace Sys2Proof.Machine

/-! ## Second operands -/

/-- `operand2` (R622): a register or `sext_64(simm13)`. -/
def RegImm.value (o : RegImm) (s : State) : Word :=
  match o with
  | .reg r => s.reg r
  | .imm v => v.signExtend 64

/-- The source of MOVcc (R665). -/
def RegImm11.value (o : RegImm11) (s : State) : Word :=
  match o with
  | .reg r => s.reg r
  | .imm v => v.signExtend 64

/-- The source of MOVr (R667). -/
def RegImm10.value (o : RegImm10) (s : State) : Word :=
  match o with
  | .reg r => s.reg r
  | .imm v => v.signExtend 64

/-- The second operand of Tcc (R666): the immediate is zero-extended. -/
def TrapNum.value (o : TrapNum) (s : State) : Word :=
  match o with
  | .reg r => s.reg r
  | .imm v => v.setWidth 64

/-- The count of a 32-bit shift, 0 to 31 (R632). -/
def Shift32.count (o : Shift32) (s : State) : Nat :=
  match o with
  | .reg r => ((s.reg r).extractLsb' 0 5).toNat
  | .imm v => v.toNat

/-- The count of a 64-bit shift, 0 to 63 (R632). -/
def Shift64.count (o : Shift64) (s : State) : Nat :=
  match o with
  | .reg r => ((s.reg r).extractLsb' 0 6).toNat
  | .imm v => v.toNat

/-! ## Addresses, spec/42_load_store.md R871, R872 -/

/-- An effective address under the masking of PSTATE.am (spec/20_memory.md R508). -/
def State.ea (s : State) (rs1 : Reg) (o : RegImm) : Word := maskAddr s.pstate.am (s.reg rs1 + RegImm.value o s)

/-- The ASI of an alternate-space access (R872). -/
def AltAddr.asi (a : AltAddr) (s : State) : BitVec 8 :=
  match a with
  | .immAsi asi _ => asi
  | .asiReg _ => s.asi

/-- The second address operand of an alternate-space access (R872). -/
def AltAddr.value (a : AltAddr) (s : State) : Word :=
  match a with
  | .immAsi _ r => s.reg r
  | .asiReg v => v.signExtend 64

/-- The effective address of an alternate-space access. -/
def State.eaAlt (s : State) (rs1 : Reg) (a : AltAddr) : Word := maskAddr s.pstate.am (s.reg rs1 + AltAddr.value a s)

/-- The ASI of a compare-and-swap (R635). -/
def CasAsi.asi (a : CasAsi) (s : State) : BitVec 8 :=
  match a with
  | .immAsi asi => asi
  | .asiReg => s.asi

/-! ## Conditions -/

/-- R627, on the four bits N Z V C of icc or xcc. -/
def ICond.holds (c : ICond) (nzvc : BitVec 4) : Bool :=
  let n := bitAt nzvc 3
  let z := bitAt nzvc 2
  let v := bitAt nzvc 1
  let cy := bitAt nzvc 0
  match c with
  | .n => false
  | .e => z
  | .le => z || (n != v)
  | .l => n != v
  | .leu => cy || z
  | .cs => cy
  | .neg => n
  | .vs => v
  | .a => true
  | .ne => !z
  | .g => !(z || (n != v))
  | .ge => !(n != v)
  | .gu => !(cy || z)
  | .cc => !cy
  | .pos => !n
  | .vc => !v

/-- R628: a floating-point condition code is 0 equal, 1 less, 2 greater, 3 unordered. -/
def FCond.holds (c : FCond) (fcc : BitVec 2) : Bool :=
  let e := fcc == 0
  let l := fcc == 1
  let g := fcc == 2
  let u := fcc == 3
  match c with
  | .n => false
  | .ne => l || g || u
  | .lg => l || g
  | .ul => u || l
  | .l => l
  | .ug => u || g
  | .g => g
  | .u => u
  | .a => true
  | .e => e
  | .ue => u || e
  | .ge => g || e
  | .uge => u || g || e
  | .le => l || e
  | .ule => u || l || e
  | .o => e || l || g

/-- R629: a test of all 64 bits, signed. -/
def RCond.holds (c : RCond) (v : Word) : Bool :=
  let zero := v == 0
  let neg := bitAt v 63
  match c with
  | .z => zero
  | .lez => zero || neg
  | .lz => neg
  | .nz => !zero
  | .gz => !zero && !neg
  | .gez => !neg

/-- The bits of icc or xcc in CCR (spec/10_state.md R65). -/
def State.icc (s : State) : ICC → BitVec 4
  | .icc => s.ccr.extractLsb' 0 4
  | .xcc => s.ccr.extractLsb' 4 4

/-- One of fcc0 to fcc3. -/
def State.fcc (s : State) (n : BitVec 2) : BitVec 2 :=
  match n with
  | 0 => s.fsr.fcc0
  | 1 => s.fsr.fcc1
  | 2 => s.fsr.fcc2
  | _ => s.fsr.fcc3

/-- The condition of a conditional move (R665, R671). -/
def CondSel.holds (c : CondSel) (s : State) : Bool :=
  match c with
  | .int cc cond => ICond.holds cond (s.icc cc)
  | .fp fcc cond => FCond.holds cond (s.fcc fcc)

/-- The condition is on a floating-point condition code. -/
def CondSel.isFp (c : CondSel) : Bool :=
  match c with
  | .int _ _ => false
  | .fp _ _ => true

/-! ## Ends of an instruction -/

/-- CCR has another value. -/
def State.setCcr (s : State) (v : BitVec 8) : State := { s with ccr := v }

/-- Y has another value. -/
def State.setY (s : State) (v : BitVec 32) : State := { s with y := v }

/-- `r[rd] <- v`, then the next instruction. -/
def State.finish (s : State) (rd : Reg) (v : Word) : Res Unit := .ok () (s.setReg rd v).advance

/-- `r[rd] <- v` with new condition codes, then the next instruction. -/
def State.finishCc (s : State) (rd : Reg) (v : Word) (ccr : BitVec 8) : Res Unit :=
  .ok () ((s.setReg rd v).setCcr ccr).advance

end Sys2Proof.Machine
end

