-- ==== Sys2Proof/Machine/Flags.lean ====
section
/-! DEFINITION. Machine/Flags.lean: the computation of the integer condition codes (spec/40_integer.md R701;
spec/10_state.md R65: CCR is xcc above icc, each N Z V C). -/

namespace Sys2Proof.Machine

/-- Four condition bits. -/
def nzvc (n z v c : Bool) : BitVec 4 := boolBit n ++ boolBit z ++ boolBit v ++ boolBit c

/-- `add_cc` (R701). -/
def addCc (a b res : Word) : BitVec 8 :=
  let v := fun i => bitAt a i == bitAt b i && bitAt res i != bitAt a i
  let c := fun i => (bitAt a i && bitAt b i) || (!bitAt res i && (bitAt a i || bitAt b i))
  nzvc (bitAt res 63) (res == 0) (v 63) (c 63) ++ nzvc (bitAt res 31) (res.setWidth 32 == 0#32) (v 31) (c 31)

/-- `sub_cc` (R701). -/
def subCc (a b res : Word) : BitVec 8 :=
  let v := fun i => bitAt a i != bitAt b i && bitAt res i != bitAt a i
  let c := fun i => (!bitAt a i && bitAt b i) || (bitAt res i && (!bitAt a i || bitAt b i))
  nzvc (bitAt res 63) (res == 0) (v 63) (c 63) ++ nzvc (bitAt res 31) (res.setWidth 32 == 0#32) (v 31) (c 31)

/-- `logic_cc` (R701); the products and quotients set their codes in the same way (R743, R745). -/
def logicCc (res : Word) : BitVec 8 :=
  nzvc (bitAt res 63) (res == 0) false false ++ nzvc (bitAt res 31) (res.setWidth 32 == 0#32) false false

/-- The codes of UDIVcc and SDIVcc (R750, R752). -/
def divCc (res : Word) (ovf : Bool) : BitVec 8 :=
  nzvc (bitAt res 63) (res == 0) false false ++ nzvc (bitAt res 31) (res.setWidth 32 == 0#32) ovf false

/-- The codes of a tagged operation: icc.v is also set by a tag bit of an operand (R755, R757). -/
def tagCc (a b : Word) (ccr : BitVec 8) : BitVec 8 :=
  if a.extractLsb' 0 2 != 0 || b.extractLsb' 0 2 != 0 then ccr ||| 2 else ccr

/-- icc.c as a number. -/
def carryIn (ccr : BitVec 8) : Word := (ccr.extractLsb' 0 1).setWidth 64

end Sys2Proof.Machine
end

