-- ==== Sys2Proof/Machine/Ancillary.lean ====
section
/-! DEFINITION. Machine/Ancillary.lean: RDasr and WRasr, the barriers that share their opcode, SIR and FLUSH
(spec/43_state_access.md sections 2 and 5; spec/42_load_store.md R950 to R953). -/

namespace Sys2Proof.Machine

/-! ## Shared operations -/

/-- The value of WRasr, WRPR and WRHPR (R991). -/
def State.writeValue (s : State) (rs1 : Reg) (op2 : RegImm) : Word := s.reg rs1 ^^^ RegImm.value op2 s

/-- Nonprivileged mode. -/
def State.isUser (s : State) : Bool := s.level == .user

/-- Privileged mode. -/
def State.isPriv (s : State) : Bool := s.level == .priv

/-- Hyperprivileged mode. -/
def State.isHyper (s : State) : Bool := s.level == .hyper

/-- TICK (spec/10_state.md R70). -/
def State.tickWord (s : State) : Word := boolBit s.tim.npt ++ s.tim.counter

/-- STICK: the low seven bits read as ones (R72). -/
def State.stickWord (s : State) : Word := boolBit s.tim.npt ++ s.tim.counter.extractLsb' 7 56 ++ 0x7F#7

/-- A write of TICK or STICK (R71, R72); a new count starts a new comparison window. -/
def State.setTick (s : State) (v : Word) : State :=
  { s with
    tim := { s.tim with
      npt := bitAt v 63, counter := v.setWidth 63, tickSeen := false, stickSeen := false, hstickSeen := false } }

/-- SOFTINT has another value. -/
def State.setSoftint (s : State) (v : BitVec 17) : State := { s with tim := { s.tim with softint := v } }

/-- TICK_CMPR has another value (R74). Of a value that is written inside its own window of 128 counts R1003 says that its match may
or may not be posted for that window: here it is, since the comparison comes after the write (log entry 9, DESIGN CHOICE). -/
def State.setTickCmpr (s : State) (v : Word) : State :=
  { s with tim := { s.tim with tickCmpr := v, tickSeen := false } }

/-- STICK_CMPR has another value; the same holds of its window (R1003, log entry 9, DESIGN CHOICE). -/
def State.setStickCmpr (s : State) (v : Word) : State :=
  { s with tim := { s.tim with stickCmpr := v, stickSeen := false } }

/-- PCR after a write (R88): the overflow bits may be held, and `ht` is written in hyperprivileged mode only. -/
def pcrWritten (old v : Word) (hyper : Bool) : Word :=
  let ov1 := if bitAt v 63 then bitAt old 31 else bitAt v 31
  let ov0 := if bitAt v 62 then bitAt old 18 else bitAt v 18
  let ht := if hyper then bitAt v 3 else bitAt old 3
  (boolBit ov1 ++ v.extractLsb' 19 12 ++ boolBit ov0 ++ v.extractLsb' 4 14 ++ boolBit ht ++ v.extractLsb' 0 3 :
    BitVec 32).setWidth 64

/-- GSR as a register (R84). -/
def Gsr.word (g : Gsr) : Word := g.mask ++ 0#4 ++ boolBit g.im ++ g.irnd ++ 0#17 ++ g.scale ++ g.align

/-- The implemented fields of a value written to GSR. -/
def Gsr.ofWord (v : Word) : Gsr :=
  ⟨v.extractLsb' 32 32, bitAt v 27, v.extractLsb' 25 2, v.extractLsb' 3 5, v.extractLsb' 0 3⟩

/-- GSR has another value. -/
def State.setGsr (s : State) (g : Gsr) : State := { s with gsr := g }

/-- A read of a state register, after its checks. -/
def State.readReg (s : State) (rd : Reg) (checks : List (Bool × BitVec 9)) (v : Word) : Res Unit :=
  firstTrap s checks (s.finish rd v)

/-- A write of a state register, after its checks. -/
def State.writeReg (s : State) (checks : List (Bool × BitVec 9)) (s' : State) : Res Unit :=
  firstTrap s checks (.ok () s'.advance)

/-! ## RDasr, R995 -/

/-- RDY, R995. -/
def execRdY (rd : Reg) (s : State) : Host.Outcome State Fault Refusal :=
  (s.readReg rd [] (s.y.setWidth 64)).outcome

/-- RDCCR, R995. -/
def execRdCcr (rd : Reg) (s : State) : Host.Outcome State Fault Refusal :=
  (s.readReg rd [] (s.ccr.setWidth 64)).outcome

/-- RDASI, R995. -/
def execRdAsi (rd : Reg) (s : State) : Host.Outcome State Fault Refusal :=
  (s.readReg rd [] (s.asi.setWidth 64)).outcome

/-- RDTICK, R995, R997. -/
def execRdTick (rd : Reg) (s : State) : Host.Outcome State Fault Refusal :=
  (s.readReg rd [(s.isUser && s.tim.npt, 0x037)] s.tickWord).outcome

/-- RDPC, R995. -/
def execRdPc (rd : Reg) (s : State) : Host.Outcome State Fault Refusal :=
  (s.readReg rd [] s.pcValue).outcome

/-- RDFPRS, R995; the floating-point unit need not be enabled. -/
def execRdFprs (rd : Reg) (s : State) : Host.Outcome State Fault Refusal :=
  (s.readReg rd [] (s.fprs.setWidth 64)).outcome

/-- RD %pcr, R998. -/
def execRdPcr (rd : Reg) (s : State) : Host.Outcome State Fault Refusal :=
  (s.readReg rd [(s.isUser, 0x011)] s.pcr).outcome

/-- RD %pic, R998. -/
def execRdPic (rd : Reg) (s : State) : Host.Outcome State Fault Refusal :=
  (s.readReg rd [(s.isUser && bitAt s.pcr 0, 0x037)] s.pic).outcome

/-- RD %gsr, R999. -/
def execRdGsr (rd : Reg) (s : State) : Host.Outcome State Fault Refusal :=
  (s.readReg rd [(!s.fpEnabled, 0x020)] s.gsr.word).outcome

/-- RD %softint, R998. -/
def execRdSoftint (rd : Reg) (s : State) : Host.Outcome State Fault Refusal :=
  (s.readReg rd [(s.isUser, 0x011)] (s.tim.softint.setWidth 64)).outcome

/-- RD %tick_cmpr, R998. -/
def execRdTickCmpr (rd : Reg) (s : State) : Host.Outcome State Fault Refusal :=
  (s.readReg rd [(s.isUser, 0x011)] s.tim.tickCmpr).outcome

/-- RD %stick, R997. -/
def execRdStick (rd : Reg) (s : State) : Host.Outcome State Fault Refusal :=
  (s.readReg rd [(s.isUser && s.tim.npt, 0x037)] s.stickWord).outcome

/-- RD %stick_cmpr, R998. -/
def execRdStickCmpr (rd : Reg) (s : State) : Host.Outcome State Fault Refusal :=
  (s.readReg rd [(s.isUser, 0x011)] s.tim.stickCmpr).outcome

/-! ## Barriers -/

/-- STBAR is a MEMBAR #StoreStore, which orders nothing that is not ordered, R953. -/
def execStbar (s : State) : Host.Outcome State Fault Refusal := .next s.advance

/-- The kinds of MEMBAR that wait until the store buffer is empty: #StoreLoad, #MemIssue and #Sync
(spec/20_memory.md R534). -/
def membarDrains (cmask : BitVec 3) (mmask : BitVec 4) : Bool := bitAt mmask 1 || bitAt cmask 1 || bitAt cmask 2

/-- MEMBAR, R952. -/
def execMembar (cmask : BitVec 3) (mmask : BitVec 4) (s : State) : Host.Outcome State Fault Refusal :=
  .next (if membarDrains cmask mmask then s.drain else s).advance

/-- FLUSH, R950: the address is ignored; the store buffer is drained. -/
def execFlush (_rs1 : Reg) (_op2 : RegImm) (s : State) : Host.Outcome State Fault Refusal :=
  .next s.drain.advance

/-! ## WRasr, R1000 -/

/-- WRY, R1001. -/
def execWrY (rs1 : Reg) (op2 : RegImm) (s : State) : Host.Outcome State Fault Refusal :=
  let v := s.writeValue rs1 op2
  (s.writeReg [] (s.setY (v.setWidth 32))).outcome

/-- WRCCR, R1001. -/
def execWrCcr (rs1 : Reg) (op2 : RegImm) (s : State) : Host.Outcome State Fault Refusal :=
  let v := s.writeValue rs1 op2
  (s.writeReg [] (s.setCcr (v.setWidth 8))).outcome

/-- WRASI, R1001. -/
def execWrAsi (rs1 : Reg) (op2 : RegImm) (s : State) : Host.Outcome State Fault Refusal :=
  let v := s.writeValue rs1 op2
  (s.writeReg [] { s with asi := v.setWidth 8 }).outcome

/-- WR %tick, R1000. -/
def execWrTick (rs1 : Reg) (op2 : RegImm) (s : State) : Host.Outcome State Fault Refusal :=
  let v := s.writeValue rs1 op2
  (s.writeReg [(s.isPriv, 0x010), (s.isUser, 0x011)] (s.setTick v)).outcome

/-- WRFPRS, R1001. -/
def execWrFprs (rs1 : Reg) (op2 : RegImm) (s : State) : Host.Outcome State Fault Refusal :=
  let v := s.writeValue rs1 op2
  (s.writeReg [] { s with fprs := v.setWidth 3 }).outcome

/-- WR %pcr, R1004. -/
def execWrPcr (rs1 : Reg) (op2 : RegImm) (s : State) : Host.Outcome State Fault Refusal :=
  let v := s.writeValue rs1 op2
  (s.writeReg [(s.isUser, 0x011)] { s with pcr := pcrWritten s.pcr v s.isHyper }).outcome

/-- WR %pic, R1004. -/
def execWrPic (rs1 : Reg) (op2 : RegImm) (s : State) : Host.Outcome State Fault Refusal :=
  let v := s.writeValue rs1 op2
  (s.writeReg [(s.isUser && bitAt s.pcr 0, 0x037)] { s with pic := v }).outcome

/-- WR %gsr, R1005. -/
def execWrGsr (rs1 : Reg) (op2 : RegImm) (s : State) : Host.Outcome State Fault Refusal :=
  let v := s.writeValue rs1 op2
  (s.writeReg [(!s.fpEnabled, 0x020)] (s.setGsr (Gsr.ofWord v))).outcome

/-- WR %softint_set, R1002. -/
def execWrSoftintSet (rs1 : Reg) (op2 : RegImm) (s : State) : Host.Outcome State Fault Refusal :=
  let v := s.writeValue rs1 op2
  (s.writeReg [(s.isUser, 0x011)] (s.setSoftint (s.tim.softint ||| v.setWidth 17))).outcome

/-- WR %softint_clr, R1002. -/
def execWrSoftintClr (rs1 : Reg) (op2 : RegImm) (s : State) : Host.Outcome State Fault Refusal :=
  let v := s.writeValue rs1 op2
  (s.writeReg [(s.isUser, 0x011)] (s.setSoftint (s.tim.softint &&& ~~~(v.setWidth 17)))).outcome

/-- WR %softint, R1002. -/
def execWrSoftint (rs1 : Reg) (op2 : RegImm) (s : State) : Host.Outcome State Fault Refusal :=
  let v := s.writeValue rs1 op2
  (s.writeReg [(s.isUser, 0x011)] (s.setSoftint (v.setWidth 17))).outcome

/-- WR %tick_cmpr, R1003. -/
def execWrTickCmpr (rs1 : Reg) (op2 : RegImm) (s : State) : Host.Outcome State Fault Refusal :=
  let v := s.writeValue rs1 op2
  (s.writeReg [(s.isUser, 0x011)] (s.setTickCmpr v)).outcome

/-- WR %stick, R1000. -/
def execWrStick (rs1 : Reg) (op2 : RegImm) (s : State) : Host.Outcome State Fault Refusal :=
  let v := s.writeValue rs1 op2
  (s.writeReg [(!s.isHyper, 0x010)] (s.setTick v)).outcome

/-- WR %stick_cmpr, R1003. -/
def execWrStickCmpr (rs1 : Reg) (op2 : RegImm) (s : State) : Host.Outcome State Fault Refusal :=
  let v := s.writeValue rs1 op2
  (s.writeReg [(s.isUser, 0x011)] (s.setStickCmpr v)).outcome

/-! ## SIR -/

/-- SIR, R1045. -/
def execSir (_simm13 : BitVec 13) (s : State) : Host.Outcome State Fault Refusal :=
  if s.isHyper then .next s.takeSir else .next (s.takeTrap 0x010)

end Sys2Proof.Machine
end

