-- ==== Sys2Proof/Machine/Fetch.lean ====
section
/-! DEFINITION. Machine/Fetch.lean: the fetch of one instruction word, with every check in the order of
spec/20_memory.md R541. -/

namespace Sys2Proof.Machine

/-! ## Where the fetch goes -/

/-- How the fetch is translated (spec/12_mmu_translation.md R350). -/
def State.fetchRoute (s : State) : Route :=
  if s.hpstate.hpriv || s.hpstate.red then .bypass else if s.lsu.im then .virt else .real

/-- The fetch address: PC, under the masking of PSTATE.am. -/
def State.fetchVa (s : State) : Word := maskAddr s.pstate.am s.pc

/-- instruction_VA_watchpoint: the fetch address, masked under PSTATE.am, against the register, which is not
(spec/11_state_asi_regs.md R241; spec/20_memory.md R541 step 0). -/
def State.instWatch (s : State) : Bool :=
  s.watch.instEnable && s.fetchRoute == .virt && s.fetchVa.extractLsb' 2 46 == s.watch.inst

/-- The address is in the hole or in the 32 bytes below it (spec/12_mmu_translation.md R372, R373). -/
def State.fetchOutOfRange (s : State) : Bool :=
  !s.pstate.am && (outOfRange s.pc || s.pc.extractLsb' 5 59 == 0x3FFFFFFFFFF)

/-- The request to the I-MMU. -/
def State.fetchRequest (s : State) : Request :=
  ⟨s.fetchVa.setWidth 48, s.fetchRoute == .real, if s.tl = 0 then .primary else .nucleus, s.fetchVa.setWidth 48⟩

/-- Nonprivileged mode with TL > 0 is invalid (spec/10_state.md R113). -/
def State.invalidMode (s : State) : Bool := s.level == .user && s.tl != 0

/-- The program counters as the hardware keeps them, 48 bits sign-extended (spec/10_state.md R62,
spec/41_control_transfer.md R800). Only a flow that no range check stops, a bypassed one, can have left that form; under
PSTATE.am the bits above stay, since a later change of `am` may show them (spec/20_memory.md R506 items 4 and 5). -/
def State.canonicalPc (s : State) : State :=
  if s.pstate.am then s else { s with pc := sext48 (s.pc.setWidth 48), npc := sext48 (s.npc.setWidth 48) }

/-- The physical address of the next instruction, after every check (R541 steps 0 to 4). A bypassed fetch by a nonprivileged
strand with TL > 0, which only RED_state makes possible, raises IAE_privilege_violation as spec/10_state.md R113 has it, though
spec/12_mmu_translation.md R360 lets no trap of the I-MMU occur there: log entry 55, DESIGN CHOICE. -/
def State.fetchPlace (s : State) : Res PAddr :=
  let q := s.fetchRequest
  match s.fetchRoute with
  | .bypass => if s.invalidMode then s.tagTrap .inst q 0x008 else .ok (s.fetchVa.setWidth 40) s.canonicalPc
  | _ =>
    if s.instWatch then .trap 0x075 s
    else if s.fetchOutOfRange then s.tagTrap .inst q (if q.real then 0x00E else 0x00D)
    else (s.translate .inst s.fetchVa q).bind fun t s1 =>
      if (t.p && s1.level == .user) || s1.invalidMode then s1.tagTrap .inst q 0x008
      else if t.nfo then s1.tagTrap .inst q 0x00C
      else .ok t.pa s1

/-! ## The bytes, R509, decision D104 -/

/-- The word at a physical address, big-endian (R521): DRAM, or the boot ROM. R509 calls the whole SSI range, from 0xFF_0000_0000
on, boot ROM, while spec/68_ncu_platform.md R2205 has it from 0xFF_F000_0000 on, with nothing below that answers a fetch: the
latter is followed (log entry 66, DESIGN CHOICE). -/
def State.fetchWord (s : State) (pa : Nat) : Res Word32 :=
  if !isIo pa then
    if !s.l2Uniform then .refuse (.undefinedAccess "L2_CONTROL_REG.dis")
    else if s.plainLine pa then .ok ((wordOfBytes (s.readBytes pa 4)).setWidth 32) s
    else (s.badFetch pa).bind fun v s1 => .ok (v.setWidth 32) s1
  else if isBootRom pa then .ok ((wordOfBytes (s.romBytes pa 4)).setWidth 32) s
  else if 0xA000000000 ≤ pa ∧ pa < 0xC000000000 then .fault (.undefinedFetch pa)
  else s.missingIoFetch.bind fun v s1 => .ok (v.setWidth 32) s1

/-- The instruction word at PC. -/
def State.fetch (s : State) : Res Word32 := s.fetchPlace.bind fun pa s1 => s1.fetchWord pa.toNat

/-- A word stored where a fetch from a physical address reads it: this is how a program image comes to be in memory or
in the boot ROM; no instruction does it. -/
def State.placeWord (s : State) (pa : Nat) (w : Word32) : State :=
  let bytes := bytesOfWord 4 (w.setWidth 64)
  if !isIo pa then s.writeBytes pa bytes else if isBootRom pa then s.withRomBytes pa bytes else s

/-- A word stored where the next fetch reads it, if the fetch reaches memory. -/
def State.placeNext (s : State) (w : Word32) : State :=
  match s.fetchPlace with
  | .ok pa _ => s.placeWord pa.toNat w
  | _ => s

end Sys2Proof.Machine
end

