-- ==== Sys2Proof/Machine/Control.lean ====
section
/-! DEFINITION. Machine/Control.lean: branches, calls, jumps, traps, trap returns and register windows
(spec/41_control_transfer.md). -/

namespace Sys2Proof.Machine

/-! ## Shared operations -/

/-- A taken transfer: the trap on control transfer, then the range check of the target, then the new program counters
(R803, R845). -/
def State.transfer (s : State) (target : Word) (next : State) : Res Unit :=
  if s.pstate.tct then .trap 0x074 s
  else if !s.pstate.am && outOfRange target then
    .trap (if s.fetchRoute == .real then 0x02D else 0x02E) (s.setDsfar target)
  else .ok () next

/-- A branch (R801). `always` is the branch-always form, whose annul bit skips the delay instruction of a taken branch. -/
def State.branch (s : State) (taken always annul : Bool) (disp : Word) : Res Unit :=
  let target := s.pc + disp
  if taken then s.transfer target (if always && annul then s.jumpTo target else s.delayTo target)
  else .ok () (if annul then s.skip else s.advance)

/-- A word displacement, in bytes. -/
def branchDisp {n : Nat} (d : BitVec n) : Word := d.signExtend 64 <<< 2

/-- A branch on integer condition codes. -/
def State.branchInt (s : State) (annul : Bool) (cond : ICond) (cc : ICC) (disp : Word) : Res Unit :=
  s.branch (ICond.holds cond (s.icc cc)) (cond == .a) annul disp

/-- A branch on floating-point condition codes; it needs the floating-point unit, taken or not (R808). -/
def State.branchFp (s : State) (annul : Bool) (cond : FCond) (fcc : BitVec 2) (disp : Word) : Res Unit :=
  firstTrap s [(!s.fpEnabled, 0x020)] (s.branch (FCond.holds cond (s.fcc fcc)) (cond == .a) annul disp)

/-- A jump to a computed target: its alignment comes first, with the target in D-SFAR (R846). -/
def State.jump (s : State) (target : Word) (next : State) : Res Unit :=
  if target.extractLsb' 0 2 != 0 then .trap 0x034 (s.setDsfar target) else s.transfer target next

/-! ## Branches -/

/-- Bicc, R805. -/
def execBicc (annul : Bool) (cond : ICond) (disp22 : BitVec 22) (s : State) : Host.Outcome State Fault Refusal :=
  (s.branchInt annul cond .icc (branchDisp disp22)).outcome

/-- BPcc, R806; the prediction bit has no effect. -/
def execBpcc (annul : Bool) (cond : ICond) (cc : ICC) (_p : Bool) (disp19 : BitVec 19) (s : State) :
    Host.Outcome State Fault Refusal :=
  (s.branchInt annul cond cc (branchDisp disp19)).outcome

/-- BPr, R807. -/
def execBpr (annul : Bool) (rcond : RCond) (_p : Bool) (rs1 : Reg) (disp16 : BitVec 16) (s : State) :
    Host.Outcome State Fault Refusal :=
  (s.branch (RCond.holds rcond (s.reg rs1)) false annul (branchDisp disp16)).outcome

/-- FBfcc, R808. -/
def execFbfcc (annul : Bool) (cond : FCond) (disp22 : BitVec 22) (s : State) : Host.Outcome State Fault Refusal :=
  (s.branchFp annul cond 0 (branchDisp disp22)).outcome

/-- FBPfcc, R809. -/
def execFbpfcc (annul : Bool) (cond : FCond) (fcc : BitVec 2) (_p : Bool) (disp19 : BitVec 19) (s : State) :
    Host.Outcome State Fault Refusal :=
  (s.branchFp annul cond fcc (branchDisp disp19)).outcome

/-! ## CALL, JMPL, Tcc, ILLTRAP -/

/-- CALL, R810. -/
def execCall (disp30 : BitVec 30) (s : State) : Host.Outcome State Fault Refusal :=
  let target := s.pc + branchDisp disp30
  (s.transfer target ((s.setReg 15 s.pcValue).delayTo target)).outcome

/-- JMPL, R811. -/
def execJmpl (rd rs1 : Reg) (op2 : RegImm) (s : State) : Host.Outcome State Fault Refusal :=
  let target := maskAddr s.pstate.am (s.reg rs1 + RegImm.value op2 s)
  (s.jump target ((s.setReg rd s.pcValue).delayTo target)).outcome

/-- The trap type of a Tcc (R815): bit 7 of the number counts only above nonprivileged mode. -/
def State.softwareTrap (s : State) (n : Word) : BitVec 9 :=
  let low : BitVec 7 := n.extractLsb' 0 7
  if s.level == .user || !bitAt n 7 then 2#2 ++ low else 3#2 ++ low

/-- Tcc, R815. -/
def execTcc (cond : ICond) (cc : ICC) (rs1 : Reg) (op2 : TrapNum) (s : State) : Host.Outcome State Fault Refusal :=
  let n := s.reg rs1 + TrapNum.value op2 s
  (firstTrap s [(ICond.holds cond (s.icc cc), s.softwareTrap n)] (.ok () s.advance)).outcome

/-- ILLTRAP, R816. -/
def execIlltrap (_rd : Reg) (_const22 : BitVec 22) (s : State) : Host.Outcome State Fault Refusal :=
  .next (s.takeTrap 0x010)

/-! ## DONE and RETRY -/

/-- The checks of a trap return, then what it restores (R830). -/
def State.trapReturn (s : State) (retry : Bool) : Res Unit :=
  firstTrap s [(s.tl == 0 && s.level != .user, 0x010), (s.level == .user, 0x011), (s.pstate.tct, 0x074)]
    (.ok () (s.returnFromTrap retry))

/-- DONE, R830. -/
def execDone (s : State) : Host.Outcome State Fault Refusal := (s.trapReturn false).outcome

/-- RETRY, R831. -/
def execRetry (s : State) : Host.Outcome State Fault Refusal := (s.trapReturn true).outcome

/-! ## Register windows -/

/-- The window registers have other values. -/
def State.setWin (s : State) (w : Windows) : State := { s with win := w }

/-- The trap type of a spill (R842). -/
def Windows.spill (w : Windows) : BitVec 9 :=
  if w.otherwin = 0 then 0x080#9 + (w.wstate.extractLsb' 0 3 ++ 0#2).setWidth 9
  else 0x0A0#9 + (w.wstate.extractLsb' 3 3 ++ 0#2).setWidth 9

/-- The trap type of a fill (R842). -/
def Windows.fill (w : Windows) : BitVec 9 :=
  if w.otherwin = 0 then 0x0C0#9 + (w.wstate.extractLsb' 0 3 ++ 0#2).setWidth 9
  else 0x0E0#9 + (w.wstate.extractLsb' 3 3 ++ 0#2).setWidth 9

/-- The window registers after SAVE (R840). -/
def Windows.next (w : Windows) : Windows :=
  { w with cwp := w.cwp + 1, cansave := w.cansave - 1, canrestore := w.canrestore + 1 }

/-- The window registers after RESTORE or RETURN (R841, R812). -/
def Windows.previous (w : Windows) : Windows :=
  { w with cwp := w.cwp - 1, cansave := w.cansave + 1, canrestore := w.canrestore - 1 }

/-- SAVE, R840: the operands are of the old window, the result goes to the new one. -/
def execSave (rd rs1 : Reg) (op2 : RegImm) (s : State) : Host.Outcome State Fault Refusal :=
  let v := s.reg rs1 + RegImm.value op2 s
  (firstTrap s [(s.win.cansave == 0, s.win.spill), (s.win.cleanwin - s.win.canrestore == 0, 0x024)]
    ((s.setWin s.win.next).finish rd v)).outcome

/-- RESTORE, R841. -/
def execRestore (rd rs1 : Reg) (op2 : RegImm) (s : State) : Host.Outcome State Fault Refusal :=
  let v := s.reg rs1 + RegImm.value op2 s
  (firstTrap s [(s.win.canrestore == 0, s.win.fill)] ((s.setWin s.win.previous).finish rd v)).outcome

/-- RETURN, R812: its target is masked under PSTATE.am like JMPL's (spec/30_encoding.md R622; spec/20_memory.md R508). -/
def execReturnI (rs1 : Reg) (op2 : RegImm) (s : State) : Host.Outcome State Fault Refusal :=
  let target := maskAddr s.pstate.am (s.reg rs1 + RegImm.value op2 s)
  (firstTrap s [(s.win.canrestore == 0, s.win.fill)]
    (s.jump target ((s.setWin s.win.previous).delayTo target))).outcome

/-- FLUSHW, R852. -/
def execFlushw (s : State) : Host.Outcome State Fault Refusal :=
  (firstTrap s [(s.win.cansave != 6, s.win.spill)] (.ok () s.advance)).outcome

/-- A privileged instruction on the window registers. -/
def State.windowOp (s : State) (w : Windows) : Res Unit :=
  firstTrap s [(s.level == .user, 0x011)] (.ok () (s.setWin w).advance)

/-- The window registers after SAVED (R850). -/
def Windows.saved (w : Windows) : Windows :=
  if w.otherwin = 0 then { w with cansave := w.cansave + 1, canrestore := w.canrestore - 1 }
  else { w with cansave := w.cansave + 1, otherwin := w.otherwin - 1 }

/-- The window registers after RESTORED (R851). -/
def Windows.restored (w : Windows) : Windows :=
  let clean := if w.cleanwin < 7 then w.cleanwin + 1 else w.cleanwin
  if w.otherwin = 0 then { w with canrestore := w.canrestore + 1, cleanwin := clean, cansave := w.cansave - 1 }
  else { w with canrestore := w.canrestore + 1, cleanwin := clean, otherwin := w.otherwin - 1 }

/-- SAVED, R850. -/
def execSaved (s : State) : Host.Outcome State Fault Refusal := (s.windowOp s.win.saved).outcome

/-- RESTORED, R851. -/
def execRestored (s : State) : Host.Outcome State Fault Refusal := (s.windowOp s.win.restored).outcome

/-- ALLCLEAN, R853. -/
def execAllclean (s : State) : Host.Outcome State Fault Refusal := (s.windowOp { s.win with cleanwin := 7 }).outcome

/-- OTHERW, R854. -/
def execOtherw (s : State) : Host.Outcome State Fault Refusal :=
  (s.windowOp { s.win with otherwin := s.win.canrestore, canrestore := 0 }).outcome

/-- NORMALW, R855. -/
def execNormalw (s : State) : Host.Outcome State Fault Refusal :=
  (s.windowOp { s.win with canrestore := s.win.otherwin, otherwin := 0 }).outcome

/-- INVALW, R856. -/
def execInvalw (s : State) : Host.Outcome State Fault Refusal :=
  (s.windowOp { s.win with cansave := 6, canrestore := 0, otherwin := 0 }).outcome

end Sys2Proof.Machine
end

