-- ==== Sys2Proof/Machine/FloatArith.lean ====
section
/-! DEFINITION. Machine/FloatArith.lean: IEEE 754 arithmetic in single and double precision as OpenSPARC T2 does it: exact
integer arithmetic, one rounding at the end, and the cases that hardware leaves to software
(spec/44_float.md R1061 to R1069, sections 5 to 7). -/

namespace Sys2Proof.Machine

/-! ## Formats and numbers -/

/-- A floating-point format, with the constants of TABLE B-10 (R1131): the sizes of its exponent and fraction fields, its
exponent bias, its greatest exponent field, and its gross underflow bound. -/
structure FloatFormat where
  expBits : Nat
  fracBits : Nat
  bias : Nat
  emax : Nat
  eguf : Int
  deriving DecidableEq, Repr

/-- Single precision. -/
def FloatFormat.single : FloatFormat := ⟨8, 23, 127, 255, -25⟩

/-- Double precision. -/
def FloatFormat.double : FloatFormat := ⟨11, 52, 1023, 2047, -54⟩

/-- The three fields of a number. -/
structure Fields where
  sign : Bool
  exp : Nat
  frac : Nat
  deriving DecidableEq, Repr

/-- The fields of a bit pattern. -/
def FloatFormat.unpack (f : FloatFormat) (b : Nat) : Fields :=
  ⟨b / 2 ^ (f.expBits + f.fracBits) % 2 == 1, b / 2 ^ f.fracBits % 2 ^ f.expBits, b % 2 ^ f.fracBits⟩

/-- The bit pattern of three fields. -/
def FloatFormat.pack (f : FloatFormat) (x : Fields) : Nat :=
  (if x.sign then 2 ^ (f.expBits + f.fracBits) else 0) + x.exp * 2 ^ f.fracBits + x.frac

/-- A NaN. -/
def FloatFormat.isNan (f : FloatFormat) (x : Fields) : Bool := x.exp == f.emax && x.frac != 0

/-- A signalling NaN: the most significant fraction bit is 0 (R1069). -/
def FloatFormat.isSnan (f : FloatFormat) (x : Fields) : Bool := f.isNan x && decide (x.frac < 2 ^ (f.fracBits - 1))

/-- An infinity. -/
def FloatFormat.isInf (f : FloatFormat) (x : Fields) : Bool := x.exp == f.emax && x.frac == 0

/-- A zero of either sign. -/
def Fields.isZero (x : Fields) : Bool := x.exp == 0 && x.frac == 0

/-- A subnormal number. -/
def Fields.isSubnormal (x : Fields) : Bool := x.exp == 0 && x.frac != 0

/-- A zero. -/
def Fields.zero (sign : Bool) : Fields := ⟨sign, 0, 0⟩

/-- An infinity. -/
def FloatFormat.inf (f : FloatFormat) (sign : Bool) : Fields := ⟨sign, f.emax, 0⟩

/-- The greatest finite number. -/
def FloatFormat.largest (f : FloatFormat) (sign : Bool) : Fields := ⟨sign, f.emax - 1, 2 ^ f.fracBits - 1⟩

/-- The NaN that an invalid operation without a NaN operand gives (R1069). -/
def FloatFormat.defaultNan (f : FloatFormat) : Fields := ⟨false, f.emax, 2 ^ f.fracBits - 1⟩

/-- A NaN with its quiet bit set. -/
def FloatFormat.quiet (f : FloatFormat) (x : Fields) : Fields := { x with frac := x.frac ||| 2 ^ (f.fracBits - 1) }

/-- A subnormal number becomes a zero of its sign (R1133). -/
def Fields.flush (x : Fields) : Fields := if x.isSubnormal then .zero x.sign else x

/-- The significand of a finite number. -/
def FloatFormat.significand (f : FloatFormat) (x : Fields) : Nat := if x.exp = 0 then x.frac else x.frac + 2 ^ f.fracBits

/-- The exponent field that the significand is scaled by. -/
def Fields.scale (x : Fields) : Nat := max x.exp 1

/-! ## Outcomes of an operation -/

/-- Rounding direction and mode (R1061). -/
structure FpMode where
  rnd : BitVec 2
  nonstandard : Bool
  deriving DecidableEq, Repr

/-- What an operation gives: a case that hardware leaves to software, or a value with the IEEE exceptions
nv of uf dz nx, bits 4 to 0. -/
inductive FpResult (α : Type) where
  | unfinished
  | value (x : α) (exceptions : BitVec 5)
  deriving DecidableEq, Repr

/-- The value under a function. -/
def FpResult.map {α β : Type} (g : α → β) : FpResult α → FpResult β
  | .unfinished => .unfinished
  | .value x e => .value (g x) e

/-- The result with inexact signalled: an operand was flushed (R1133). -/
def FpResult.inexact {α : Type} : FpResult α → FpResult α
  | .unfinished => .unfinished
  | .value x e => .value x (e ||| 1)

/-- An invalid operation. -/
def FloatFormat.invalid (f : FloatFormat) : FpResult Fields := .value f.defaultNan 16

/-- The gross underflow zero result (R1066). -/
def grossUnderflow (sign : Bool) : FpResult Fields := .value (.zero sign) 5

/-- The overflow result (R1066, R1067). -/
def FloatFormat.overflow (f : FloatFormat) (rnd : BitVec 2) (sign : Bool) : FpResult Fields :=
  let toInf := match rnd with
    | 0 => true
    | 1 => false
    | 2 => !sign
    | _ => sign
  .value (if toInf then f.inf sign else f.largest sign) 9

/-- The NaN result of a two-operand operation (R1069). -/
def FloatFormat.nanResult (f : FloatFormat) (a b : Fields) : FpResult Fields :=
  if f.isSnan b then .value (f.quiet b) 16
  else if f.isSnan a then .value (f.quiet a) 16
  else if f.isNan b then .value b 0
  else .value a 0

/-! ## Rounding -/

/-- A number rounded with no bound on its exponent: the significand with its leading bit, the biased exponent after and
before rounding, and whether rounding changed the value. -/
structure Rounded where
  significand : Nat
  ef : Int
  unrounded : Int
  inexact : Bool
  deriving DecidableEq, Repr

/-- Round `m * 2 ^ e`, `m` not 0. -/
def FloatFormat.round (f : FloatFormat) (rnd : BitVec 2) (sign : Bool) (m : Nat) (e : Int) : Rounded :=
  let len := Nat.log2 m + 1
  let shift := len - (f.fracBits + 1)
  let grow := (f.fracBits + 1) - len
  let kept := m / 2 ^ shift * 2 ^ grow
  let rest := m % 2 ^ shift
  let twice := 2 * rest
  let up := match rnd with
    | 0 => decide (2 ^ shift < twice) || (twice == 2 ^ shift && kept % 2 == 1)
    | 1 => false
    | 2 => !sign && rest != 0
    | _ => sign && rest != 0
  let q := if up then kept + 1 else kept
  let carry := q == 2 ^ (f.fracBits + 1)
  let before : Int := e + len - 1 + f.bias
  ⟨if carry then 2 ^ f.fracBits else q, if carry then before + 1 else before, before, rest != 0⟩

/-- A rounded number as a result: `tiny` is what a result below the smallest normal number gives. -/
def FloatFormat.deliver (f : FloatFormat) (rnd : BitVec 2) (sign : Bool) (r : Rounded) (tiny : FpResult Fields) :
    FpResult Fields :=
  if r.unrounded < 1 then tiny
  else if (f.emax : Int) ≤ r.ef then f.overflow rnd sign
  else .value ⟨sign, r.ef.toNat, r.significand - 2 ^ f.fracBits⟩ (if r.inexact then 1 else 0)

/-- The unfinished cases of a subnormal product or quotient (TABLE B-11, TABLE B-12): `er` is the unnormalized exponent. -/
def FloatFormat.underflow (f : FloatFormat) (mode : FpMode) (sign : Bool) (er : Int) : FpResult Fields :=
  if !mode.nonstandard && (decide (f.eguf < er) || (!sign && mode.rnd == 2) || (sign && mode.rnd == 3)) then .unfinished
  else grossUnderflow sign

/-- The tiny result of a multiplication, division or narrowing (TABLE B-12, decision D73). -/
def FloatFormat.tiny (f : FloatFormat) (mode : FpMode) (sign : Bool) (er : Int) (r : Rounded) : FpResult Fields :=
  if 1 ≤ r.ef then .value ⟨sign, r.ef.toNat, r.significand - 2 ^ f.fracBits⟩ (if r.inexact then 1 else 0)
  else f.underflow mode sign er

/-! ## Addition -/

/-- A finite number as a signed multiple of the smallest subnormal number. -/
def FloatFormat.units (f : FloatFormat) (x : Fields) : Int :=
  let m := f.significand x * 2 ^ (x.scale - 1)
  if x.sign then -(m : Int) else m

/-- The sum of two finite numbers. -/
def FloatFormat.addFinite (f : FloatFormat) (mode : FpMode) (a b : Fields) : FpResult Fields :=
  let sum := f.units a + f.units b
  if sum = 0 then .value (.zero (if a.sign == b.sign then a.sign else mode.rnd == 3)) 0
  else
    let sign := decide (sum < 0)
    f.deliver mode.rnd sign (f.round mode.rnd sign sum.natAbs (1 - f.bias - f.fracBits))
      (if mode.nonstandard then grossUnderflow sign else .unfinished)

/-- FADD (R1070, R1110, R1112, TABLE B-11). -/
def FloatFormat.add (f : FloatFormat) (mode : FpMode) (a b : Fields) : FpResult Fields :=
  if f.isNan a || f.isNan b then f.nanResult a b
  else if f.isInf a && f.isInf b then if a.sign == b.sign then .value a 0 else f.invalid
  else if f.isInf a then .value a 0
  else if f.isInf b then .value b 0
  else if a.isSubnormal || b.isSubnormal then
    if mode.nonstandard then (f.addFinite mode a.flush b.flush).inexact else .unfinished
  else f.addFinite mode a b

/-- FSUB (R1072): a NaN keeps its sign. -/
def FloatFormat.sub (f : FloatFormat) (mode : FpMode) (a b : Fields) : FpResult Fields :=
  f.add mode a (if f.isNan b then b else { b with sign := !b.sign })

/-! ## Multiplication -/

/-- The product of two finite nonzero numbers, in the format `g`, with the given tiny result. -/
def FloatFormat.mulFinite (f g : FloatFormat) (mode : FpMode) (a b : Fields) (er : Int) : FpResult Fields :=
  let sign := a.sign != b.sign
  let r := g.round mode.rnd sign (f.significand a * f.significand b)
    ((a.scale : Int) + b.scale - 2 * f.bias - 2 * f.fracBits)
  g.deliver mode.rnd sign r (g.tiny mode sign er r)

/-- The unnormalized exponent of a product (R1131). -/
def FloatFormat.mulEr (f : FloatFormat) (a b : Fields) : Int := (a.exp : Int) + b.exp - f.bias

/-- What a product is when it has a subnormal operand and neither a NaN nor a zero operand, in nonstandard mode
(TABLE B-11). -/
def FloatFormat.mulFlushed (f g : FloatFormat) (a b : Fields) : FpResult Fields :=
  if f.isInf a || f.isInf b then g.invalid else .value (.zero (a.sign != b.sign)) 1

/-- FMUL (R1074, R1110 to R1112, TABLE B-11, TABLE B-12). -/
def FloatFormat.mul (f : FloatFormat) (mode : FpMode) (a b : Fields) : FpResult Fields :=
  let sign := a.sign != b.sign
  if f.isNan a || f.isNan b then f.nanResult a b
  else if a.isZero || b.isZero then if f.isInf a || f.isInf b then f.invalid else .value (.zero sign) 0
  else if mode.nonstandard && (a.isSubnormal || b.isSubnormal) then f.mulFlushed f a b
  else if f.isInf a || f.isInf b then .value (f.inf sign) 0
  else if a.isSubnormal || b.isSubnormal then f.underflow mode sign (f.mulEr a b)
  else f.mulFinite f mode a b (f.mulEr a b)

/-- FdTOs on a NaN, and its widening inverse (R1090, R1091): the fraction fields are aligned at their high ends. -/
def convertNan (f g : FloatFormat) (x : Fields) : Fields :=
  g.quiet ⟨x.sign, g.emax, x.frac * 2 ^ (g.fracBits - f.fracBits) / 2 ^ (f.fracBits - g.fracBits)⟩

/-- FsMULd (R1076): the product of two single-precision numbers is exact in double precision. -/
def mulWide (mode : FpMode) (a b : Fields) : FpResult Fields :=
  let f := FloatFormat.single
  let g := FloatFormat.double
  let sign := a.sign != b.sign
  if f.isNan a || f.isNan b then (f.nanResult a b).map (convertNan f g)
  else if a.isZero || b.isZero then if f.isInf a || f.isInf b then g.invalid else .value (.zero sign) 0
  else if mode.nonstandard && (a.isSubnormal || b.isSubnormal) then f.mulFlushed g a b
  else if f.isInf a || f.isInf b then .value (g.inf sign) 0
  else if a.isSubnormal || b.isSubnormal then .unfinished
  else f.mulFinite g mode a b 0

/-! ## Division -/

/-- The quotient of two finite nonzero numbers, rounded. The integer quotient has far more bits than any significand, and
its lowest bit says whether anything follows. -/
def FloatFormat.quotient (f : FloatFormat) (rnd : BitVec 2) (a b : Fields) : Rounded :=
  let n := f.significand a * 2 ^ 120
  let d := f.significand b
  f.round rnd (a.sign != b.sign) (2 * (n / d) + (if n % d = 0 then 0 else 1)) ((a.scale : Int) - b.scale - 121)

/-- The unnormalized exponent of a quotient (R1131). -/
def FloatFormat.divEr (f : FloatFormat) (a b : Fields) : Int := (a.exp : Int) - b.exp + f.bias - 1

/-- A quotient with a subnormal operand and no NaN, in nonstandard mode (TABLE B-11). -/
def FloatFormat.divFlushed (f : FloatFormat) (a b : Fields) : FpResult Fields :=
  let sign := a.sign != b.sign
  if f.isInf a then .value (f.inf sign) 0
  else if f.isInf b then .value (.zero sign) 0
  else if a.flush.isZero && b.flush.isZero then f.invalid
  else if b.flush.isZero then .value (f.inf sign) 2
  else .value (.zero sign) 1

/-- A quotient with a subnormal operand and no other special one, in standard mode (TABLE B-11). -/
def FloatFormat.divSubnormal (f : FloatFormat) (mode : FpMode) (a b : Fields) : FpResult Fields :=
  let sign := a.sign != b.sign
  if (f.emax : Int) < (f.quotient mode.rnd a b).ef then f.overflow mode.rnd sign
  else f.underflow mode sign (f.divEr a b)

/-- FDIV (R1077, R1110 to R1113, TABLE B-11, TABLE B-12). -/
def FloatFormat.div (f : FloatFormat) (mode : FpMode) (a b : Fields) : FpResult Fields :=
  let sign := a.sign != b.sign
  let r := f.quotient mode.rnd a b
  if f.isNan a || f.isNan b then f.nanResult a b
  else if mode.nonstandard && (a.isSubnormal || b.isSubnormal) then f.divFlushed a b
  else if f.isInf a then if f.isInf b then f.invalid else .value (f.inf sign) 0
  else if f.isInf b then .value (.zero sign) 0
  else if a.isZero then if b.isZero then f.invalid else .value (.zero sign) 0
  else if b.isZero then .value (f.inf sign) 2
  else if a.isSubnormal || b.isSubnormal then f.divSubnormal mode a b
  else f.deliver mode.rnd sign r (f.tiny mode sign (f.divEr a b) r)

/-! ## Square root -/

/-- The integer square root of a number below `2 ^ 192`, from its highest bit down. -/
def intSqrt (n : Nat) : Nat :=
  (List.range 96).foldl (fun r i =>
    let t := r + 2 ^ (95 - i)
    if t * t ≤ n then t else r) 0

/-- The square root of a positive normal number. -/
def FloatFormat.sqrtFinite (f : FloatFormat) (rnd : BitVec 2) (x : Fields) : FpResult Fields :=
  let e : Int := (x.scale : Int) - f.bias - f.fracBits
  let odd := e % 2
  let n := f.significand x * 2 ^ odd.toNat * 2 ^ 128
  let root := intSqrt n
  let r := f.round rnd false (2 * root + (if root * root = n then 0 else 1)) ((e - odd) / 2 - 65)
  f.deliver rnd false r .unfinished

/-- FSQRT (R1079, R1111, TABLE B-11). -/
def FloatFormat.sqrt (f : FloatFormat) (mode : FpMode) (x : Fields) : FpResult Fields :=
  if f.isNan x then f.nanResult x x
  else if x.isZero then .value x 0
  else if x.isSubnormal then
    if mode.nonstandard then .value x.flush 1 else if x.sign then f.invalid else .unfinished
  else if x.sign then f.invalid
  else if f.isInf x then .value x 0
  else f.sqrtFinite mode.rnd x

/-! ## Conversions -/

/-- An integer as a floating-point number (R1092 to R1095). -/
def FloatFormat.ofInt (f : FloatFormat) (mode : FpMode) (i : Int) : FpResult Fields :=
  if i = 0 then .value (.zero false) 0
  else
    let sign := decide (i < 0)
    f.deliver mode.rnd sign (f.round mode.rnd sign i.natAbs 0) .unfinished

/-- A number as a signed integer of `n` bits, truncated (R1098). -/
def FloatFormat.toInt (f : FloatFormat) (mode : FpMode) (n : Nat) (x : Fields) : FpResult Int :=
  let top : Int := 2 ^ (n - 1)
  let bad : FpResult Int := .value (if x.sign then -top else top - 1) 16
  if f.isNan x || f.isInf x then bad
  else if x.isSubnormal then if mode.nonstandard then .value 0 1 else .unfinished
  else
    let up := x.scale - (f.bias + f.fracBits)
    let down := (f.bias + f.fracBits) - x.scale
    let m := f.significand x * 2 ^ up
    let t : Int := if x.sign then -((m / 2 ^ down : Nat) : Int) else (m / 2 ^ down : Nat)
    if t < -top ∨ top ≤ t then bad else .value t (if m % 2 ^ down = 0 then 0 else 1)

/-- FsTOd (R1090). -/
def widen (mode : FpMode) (x : Fields) : FpResult Fields :=
  let f := FloatFormat.single
  let g := FloatFormat.double
  if f.isNan x then .value (convertNan f g x) (if f.isSnan x then 16 else 0)
  else if f.isInf x then .value (g.inf x.sign) 0
  else if x.isZero then .value x 0
  else if x.isSubnormal then if mode.nonstandard then .value x.flush 1 else .unfinished
  else .value ⟨x.sign, x.exp + g.bias - f.bias, x.frac * 2 ^ (g.fracBits - f.fracBits)⟩ 0

/-- FdTOs (R1091, TABLE B-11, TABLE B-12). -/
def narrow (mode : FpMode) (x : Fields) : FpResult Fields :=
  let f := FloatFormat.double
  let g := FloatFormat.single
  let er : Int := (x.exp : Int) - f.bias + g.bias
  let r := g.round mode.rnd x.sign (f.significand x) ((x.scale : Int) - f.bias - f.fracBits)
  if f.isNan x then .value (convertNan f g x) (if f.isSnan x then 16 else 0)
  else if f.isInf x then .value (g.inf x.sign) 0
  else if x.isZero then .value x 0
  else if x.isSubnormal then
    if mode.nonstandard then .value x.flush 1
    else if (!x.sign && mode.rnd == 2) || (x.sign && mode.rnd == 3) then .unfinished
    else grossUnderflow x.sign
  else g.deliver mode.rnd x.sign r (g.tiny mode x.sign er r)

/-! ## Comparison -/

/-- A number that is no NaN, by a signed integer that orders as it does; both zeros are 0 (R1100). -/
def FloatFormat.order (f : FloatFormat) (x : Fields) : Int :=
  let m := x.exp * 2 ^ f.fracBits + x.frac
  if x.sign then -(m : Int) else m

/-- The condition code of a comparison; `signalling` is the form that any NaN makes invalid (R1100, R1102). -/
def FloatFormat.compare (f : FloatFormat) (signalling : Bool) (a b : Fields) : FpResult (BitVec 2) :=
  if f.isNan a || f.isNan b then .value 3 (if signalling || f.isSnan a || f.isSnan b then 16 else 0)
  else if f.order a = f.order b then .value 0 0
  else if f.order a < f.order b then .value 1 0
  else .value 2 0

end Sys2Proof.Machine
end

