-- ==== Sys2Proof/Machine/Float.lean ====
section
/-! DEFINITION. Machine/Float.lean: the floating-point operate instructions and their effect on FSR and FPRS
(spec/44_float.md). -/

namespace Sys2Proof.Machine

/-! ## Shared operations -/

/-- The rounding direction and mode in force (R1061). -/
def State.fpMode (s : State) : FpMode :=
  ⟨if s.gsr.im then s.gsr.irnd else s.fsr.rd, s.fsr.ns && !s.gsr.im⟩

/-- The one bit of `cexc` that an enabled exception reports (R1066). -/
def reportedException (e tem : BitVec 5) : BitVec 5 :=
  if bitAt e 4 then 16
  else if bitAt e 1 then 2
  else if bitAt e 3 then (if bitAt tem 3 then 8 else 1)
  else if bitAt e 2 then (if bitAt tem 2 then 4 else 1)
  else 1

/-- FSR has other `ftt`, `cexc` and `aexc` fields. -/
def State.setExceptions (s : State) (ftt : BitVec 3) (cexc aexc : BitVec 5) : State :=
  { s with fsr := { s.fsr with ftt := ftt, cexc := cexc, aexc := aexc } }

/-- The end of an FPop (R1064): its traps, or its flags and its result. -/
def State.fpop {α : Type} (s : State) (r : FpResult α) (write : State → α → State) : Res Unit :=
  if !s.fpEnabled then .trap 0x020 s
  else match r with
    | .unfinished => .trap 0x022 (s.setExceptions 2 s.fsr.cexc s.fsr.aexc)
    | .value v e =>
      if e &&& s.fsr.tem != 0 then .trap 0x021 (s.setExceptions 1 (reportedException e s.fsr.tem) s.fsr.aexc)
      else .ok () (write (s.setExceptions 0 e (s.fsr.aexc ||| e)) v).advance

/-- The fields of a single-precision register. -/
def State.fs (s : State) (r : Reg) : Fields := FloatFormat.single.unpack (s.f32 r).toNat

/-- The fields of a double-precision register. -/
def State.fd (s : State) (r : Reg) : Fields := FloatFormat.double.unpack (s.f64 r).toNat

/-- A single-precision result. -/
def State.putS (s : State) (rd : Reg) (x : Fields) : State := s.setF32 rd (BitVec.ofNat 32 (FloatFormat.single.pack x))

/-- A double-precision result. -/
def State.putD (s : State) (rd : Reg) (x : Fields) : State := s.setF64 rd (BitVec.ofNat 64 (FloatFormat.double.pack x))

/-- A single-precision operation. -/
def State.fpS (s : State) (rd : Reg) (r : FpResult Fields) : Res Unit := s.fpop r (fun t x => t.putS rd x)

/-- A double-precision operation. -/
def State.fpD (s : State) (rd : Reg) (r : FpResult Fields) : Res Unit := s.fpop r (fun t x => t.putD rd x)

/-- A bit operation on a single-precision register: an FPop without exceptions (R1082). -/
def State.fpMoveS (s : State) (rd : Reg) (v : Word32) : Res Unit := s.fpop (.value v 0) (fun t x => t.setF32 rd x)

/-- A bit operation on a double-precision register. -/
def State.fpMoveD (s : State) (rd : Reg) (v : Word) : Res Unit := s.fpop (.value v 0) (fun t x => t.setF64 rd x)

/-- An FPop that moves nothing. -/
def State.fpNone (s : State) : Res Unit := s.fpop (.value () 0) (fun t _ => t)

/-- One of fcc0 to fcc3 has another value. -/
def State.setFcc (s : State) (n : BitVec 2) (v : BitVec 2) : State :=
  match n with
  | 0 => { s with fsr := { s.fsr with fcc0 := v } }
  | 1 => { s with fsr := { s.fsr with fcc1 := v } }
  | 2 => { s with fsr := { s.fsr with fcc2 := v } }
  | _ => { s with fsr := { s.fsr with fcc3 := v } }

/-- A comparison. -/
def State.fpCompare (s : State) (n : BitVec 2) (r : FpResult (BitVec 2)) : Res Unit :=
  s.fpop r (fun t c => t.setFcc n c)

/-! ## Arithmetic -/

/-- FADDs, R1070. -/
def execFadds (rd rs1 rs2 : Reg) (s : State) : Host.Outcome State Fault Refusal :=
  (s.fpS rd (FloatFormat.single.add s.fpMode (s.fs rs1) (s.fs rs2))).outcome

/-- FADDd, R1071. -/
def execFaddd (rd rs1 rs2 : Reg) (s : State) : Host.Outcome State Fault Refusal :=
  (s.fpD rd (FloatFormat.double.add s.fpMode (s.fd rs1) (s.fd rs2))).outcome

/-- FSUBs, R1072. -/
def execFsubs (rd rs1 rs2 : Reg) (s : State) : Host.Outcome State Fault Refusal :=
  (s.fpS rd (FloatFormat.single.sub s.fpMode (s.fs rs1) (s.fs rs2))).outcome

/-- FSUBd, R1073. -/
def execFsubd (rd rs1 rs2 : Reg) (s : State) : Host.Outcome State Fault Refusal :=
  (s.fpD rd (FloatFormat.double.sub s.fpMode (s.fd rs1) (s.fd rs2))).outcome

/-- FMULs, R1074. -/
def execFmuls (rd rs1 rs2 : Reg) (s : State) : Host.Outcome State Fault Refusal :=
  (s.fpS rd (FloatFormat.single.mul s.fpMode (s.fs rs1) (s.fs rs2))).outcome

/-- FMULd, R1075. -/
def execFmuld (rd rs1 rs2 : Reg) (s : State) : Host.Outcome State Fault Refusal :=
  (s.fpD rd (FloatFormat.double.mul s.fpMode (s.fd rs1) (s.fd rs2))).outcome

/-- FDIVs, R1077. -/
def execFdivs (rd rs1 rs2 : Reg) (s : State) : Host.Outcome State Fault Refusal :=
  (s.fpS rd (FloatFormat.single.div s.fpMode (s.fs rs1) (s.fs rs2))).outcome

/-- FDIVd, R1078. -/
def execFdivd (rd rs1 rs2 : Reg) (s : State) : Host.Outcome State Fault Refusal :=
  (s.fpD rd (FloatFormat.double.div s.fpMode (s.fd rs1) (s.fd rs2))).outcome

/-- FsMULd, R1076. -/
def execFsmuld (rd rs1 rs2 : Reg) (s : State) : Host.Outcome State Fault Refusal :=
  (s.fpD rd (mulWide s.fpMode (s.fs rs1) (s.fs rs2))).outcome

/-- FSQRTs, R1079. -/
def execFsqrts (rd rs2 : Reg) (s : State) : Host.Outcome State Fault Refusal :=
  (s.fpS rd (FloatFormat.single.sqrt s.fpMode (s.fs rs2))).outcome

/-- FSQRTd, R1080. -/
def execFsqrtd (rd rs2 : Reg) (s : State) : Host.Outcome State Fault Refusal :=
  (s.fpD rd (FloatFormat.double.sqrt s.fpMode (s.fd rs2))).outcome

/-! ## Moves -/

/-- FMOVs, R1082. -/
def execFmovs (rd rs2 : Reg) (s : State) : Host.Outcome State Fault Refusal :=
  (s.fpMoveS rd (s.f32 rs2)).outcome

/-- FMOVd, R1083. -/
def execFmovd (rd rs2 : Reg) (s : State) : Host.Outcome State Fault Refusal :=
  (s.fpMoveD rd (s.f64 rs2)).outcome

/-- FNEGs, R1084. -/
def execFnegs (rd rs2 : Reg) (s : State) : Host.Outcome State Fault Refusal :=
  (s.fpMoveS rd (s.f32 rs2 ^^^ 0x80000000)).outcome

/-- FNEGd, R1085. -/
def execFnegd (rd rs2 : Reg) (s : State) : Host.Outcome State Fault Refusal :=
  (s.fpMoveD rd (s.f64 rs2 ^^^ 0x8000000000000000)).outcome

/-- FABSs, R1086. -/
def execFabss (rd rs2 : Reg) (s : State) : Host.Outcome State Fault Refusal :=
  (s.fpMoveS rd (s.f32 rs2 &&& 0x7FFFFFFF)).outcome

/-- FABSd, R1087. -/
def execFabsd (rd rs2 : Reg) (s : State) : Host.Outcome State Fault Refusal :=
  (s.fpMoveD rd (s.f64 rs2 &&& 0x7FFFFFFFFFFFFFFF)).outcome

/-! ## Conversions -/

/-- FsTOd, R1090. -/
def execFstod (rd rs2 : Reg) (s : State) : Host.Outcome State Fault Refusal :=
  (s.fpD rd (widen s.fpMode (s.fs rs2))).outcome

/-- FdTOs, R1091. -/
def execFdtos (rd rs2 : Reg) (s : State) : Host.Outcome State Fault Refusal :=
  (s.fpS rd (narrow s.fpMode (s.fd rs2))).outcome

/-- FiTOs, R1092. -/
def execFitos (rd rs2 : Reg) (s : State) : Host.Outcome State Fault Refusal :=
  (s.fpS rd (FloatFormat.single.ofInt s.fpMode (s.f32 rs2).toInt)).outcome

/-- FiTOd, R1093. -/
def execFitod (rd rs2 : Reg) (s : State) : Host.Outcome State Fault Refusal :=
  (s.fpD rd (FloatFormat.double.ofInt s.fpMode (s.f32 rs2).toInt)).outcome

/-- FxTOs, R1094. -/
def execFxtos (rd rs2 : Reg) (s : State) : Host.Outcome State Fault Refusal :=
  (s.fpS rd (FloatFormat.single.ofInt s.fpMode (s.f64 rs2).toInt)).outcome

/-- FxTOd, R1095. -/
def execFxtod (rd rs2 : Reg) (s : State) : Host.Outcome State Fault Refusal :=
  (s.fpD rd (FloatFormat.double.ofInt s.fpMode (s.f64 rs2).toInt)).outcome

/-- FsTOi, R1096. -/
def execFstoi (rd rs2 : Reg) (s : State) : Host.Outcome State Fault Refusal :=
  (s.fpop (FloatFormat.single.toInt s.fpMode 32 (s.fs rs2)) (fun t i => t.setF32 rd (BitVec.ofInt 32 i))).outcome

/-- FdTOi, R1097. -/
def execFdtoi (rd rs2 : Reg) (s : State) : Host.Outcome State Fault Refusal :=
  (s.fpop (FloatFormat.double.toInt s.fpMode 32 (s.fd rs2)) (fun t i => t.setF32 rd (BitVec.ofInt 32 i))).outcome

/-- FsTOx, R1098. -/
def execFstox (rd rs2 : Reg) (s : State) : Host.Outcome State Fault Refusal :=
  (s.fpop (FloatFormat.single.toInt s.fpMode 64 (s.fs rs2)) (fun t i => t.setF64 rd (BitVec.ofInt 64 i))).outcome

/-- FdTOx, R1099. -/
def execFdtox (rd rs2 : Reg) (s : State) : Host.Outcome State Fault Refusal :=
  (s.fpop (FloatFormat.double.toInt s.fpMode 64 (s.fd rs2)) (fun t i => t.setF64 rd (BitVec.ofInt 64 i))).outcome

/-! ## Comparisons and conditional moves -/

/-- FCMPS, R1100. -/
def execFcmps (fcc : BitVec 2) (rs1 rs2 : Reg) (s : State) : Host.Outcome State Fault Refusal :=
  (s.fpCompare fcc (FloatFormat.single.compare false (s.fs rs1) (s.fs rs2))).outcome

/-- FCMPD, R1101. -/
def execFcmpd (fcc : BitVec 2) (rs1 rs2 : Reg) (s : State) : Host.Outcome State Fault Refusal :=
  (s.fpCompare fcc (FloatFormat.double.compare false (s.fd rs1) (s.fd rs2))).outcome

/-- FCMPES, R1102. -/
def execFcmpes (fcc : BitVec 2) (rs1 rs2 : Reg) (s : State) : Host.Outcome State Fault Refusal :=
  (s.fpCompare fcc (FloatFormat.single.compare true (s.fs rs1) (s.fs rs2))).outcome

/-- FCMPED, R1103. -/
def execFcmped (fcc : BitVec 2) (rs1 rs2 : Reg) (s : State) : Host.Outcome State Fault Refusal :=
  (s.fpCompare fcc (FloatFormat.double.compare true (s.fd rs1) (s.fd rs2))).outcome

/-- FMOVscc, R1105. -/
def execFmovscc (rd : Reg) (c : CondSel) (rs2 : Reg) (s : State) : Host.Outcome State Fault Refusal :=
  (if CondSel.holds c s then s.fpMoveS rd (s.f32 rs2) else s.fpNone).outcome

/-- FMOVdcc, R1105. -/
def execFmovdcc (rd : Reg) (c : CondSel) (rs2 : Reg) (s : State) : Host.Outcome State Fault Refusal :=
  (if CondSel.holds c s then s.fpMoveD rd (s.f64 rs2) else s.fpNone).outcome

/-- FMOVRs, R1107. -/
def execFmovrs (rd rs1 : Reg) (rcond : RCond) (rs2 : Reg) (s : State) : Host.Outcome State Fault Refusal :=
  (if RCond.holds rcond (s.reg rs1) then s.fpMoveS rd (s.f32 rs2) else s.fpNone).outcome

/-- FMOVRd, R1107. -/
def execFmovrd (rd rs1 : Reg) (rcond : RCond) (rs2 : Reg) (s : State) : Host.Outcome State Fault Refusal :=
  (if RCond.holds rcond (s.reg rs1) then s.fpMoveD rd (s.f64 rs2) else s.fpNone).outcome

/-! ## Quad precision, R1150: illegal instructions -/

/-- FMOVQ, R1150. -/
def execFmovq (_rd _rs1 _rs2 : Reg) (s : State) : Host.Outcome State Fault Refusal :=
  .next (s.takeTrap 0x010)

/-- FNEGQ, R1150. -/
def execFnegq (_rd _rs1 _rs2 : Reg) (s : State) : Host.Outcome State Fault Refusal :=
  .next (s.takeTrap 0x010)

/-- FABSQ, R1150. -/
def execFabsq (_rd _rs1 _rs2 : Reg) (s : State) : Host.Outcome State Fault Refusal :=
  .next (s.takeTrap 0x010)

/-- FSQRTQ, R1150. -/
def execFsqrtq (_rd _rs1 _rs2 : Reg) (s : State) : Host.Outcome State Fault Refusal :=
  .next (s.takeTrap 0x010)

/-- FADDQ, R1150. -/
def execFaddq (_rd _rs1 _rs2 : Reg) (s : State) : Host.Outcome State Fault Refusal :=
  .next (s.takeTrap 0x010)

/-- FSUBQ, R1150. -/
def execFsubq (_rd _rs1 _rs2 : Reg) (s : State) : Host.Outcome State Fault Refusal :=
  .next (s.takeTrap 0x010)

/-- FMULQ, R1150. -/
def execFmulq (_rd _rs1 _rs2 : Reg) (s : State) : Host.Outcome State Fault Refusal :=
  .next (s.takeTrap 0x010)

/-- FDIVQ, R1150. -/
def execFdivq (_rd _rs1 _rs2 : Reg) (s : State) : Host.Outcome State Fault Refusal :=
  .next (s.takeTrap 0x010)

/-- FDMULQ, R1150. -/
def execFdmulq (_rd _rs1 _rs2 : Reg) (s : State) : Host.Outcome State Fault Refusal :=
  .next (s.takeTrap 0x010)

/-- FQTOX, R1150. -/
def execFqtox (_rd _rs1 _rs2 : Reg) (s : State) : Host.Outcome State Fault Refusal :=
  .next (s.takeTrap 0x010)

/-- FXTOQ, R1150. -/
def execFxtoq (_rd _rs1 _rs2 : Reg) (s : State) : Host.Outcome State Fault Refusal :=
  .next (s.takeTrap 0x010)

/-- FQTOS, R1150. -/
def execFqtos (_rd _rs1 _rs2 : Reg) (s : State) : Host.Outcome State Fault Refusal :=
  .next (s.takeTrap 0x010)

/-- FQTOD, R1150. -/
def execFqtod (_rd _rs1 _rs2 : Reg) (s : State) : Host.Outcome State Fault Refusal :=
  .next (s.takeTrap 0x010)

/-- FITOQ, R1150. -/
def execFitoq (_rd _rs1 _rs2 : Reg) (s : State) : Host.Outcome State Fault Refusal :=
  .next (s.takeTrap 0x010)

/-- FSTOQ, R1150. -/
def execFstoq (_rd _rs1 _rs2 : Reg) (s : State) : Host.Outcome State Fault Refusal :=
  .next (s.takeTrap 0x010)

/-- FDTOQ, R1150. -/
def execFdtoq (_rd _rs1 _rs2 : Reg) (s : State) : Host.Outcome State Fault Refusal :=
  .next (s.takeTrap 0x010)

/-- FQTOI, R1150. -/
def execFqtoi (_rd _rs1 _rs2 : Reg) (s : State) : Host.Outcome State Fault Refusal :=
  .next (s.takeTrap 0x010)

/-- FCMPQ, R1150. -/
def execFcmpq (_rd _rs1 _rs2 : Reg) (s : State) : Host.Outcome State Fault Refusal :=
  .next (s.takeTrap 0x010)

/-- FCMPEQ, R1150. -/
def execFcmpeq (_rd _rs1 _rs2 : Reg) (s : State) : Host.Outcome State Fault Refusal :=
  .next (s.takeTrap 0x010)

/-- FMOVqcc, R1150. -/
def execFmovqcc (_rd : Reg) (_cond : BitVec 4) (_opfCc : BitVec 3) (_rs2 : Reg) (s : State) :
    Host.Outcome State Fault Refusal :=
  .next (s.takeTrap 0x010)

/-- FMOVRq, R1150. -/
def execFmovrq (_rd _rs1 : Reg) (_rcond : BitVec 3) (_rs2 : Reg) (s : State) :
    Host.Outcome State Fault Refusal :=
  .next (s.takeTrap 0x010)

/-- IMPDEP2, R1150. -/
def execImpdep2 (_rd : Reg) (_rest : BitVec 19) (s : State) : Host.Outcome State Fault Refusal :=
  .next (s.takeTrap 0x010)

end Sys2Proof.Machine
end

