-- ==== Sys2Proof/Machine/LoadStore.lean ====
section
/-! DEFINITION. Machine/LoadStore.lean: integer loads, stores and atomics, and the prefetches
(spec/42_load_store.md sections 2 to 4, 6, 8 and 9). -/

namespace Sys2Proof.Machine

/-! ## Shared operations -/

/-- An access at an address that is not a multiple of its size traps, with the address in D-SFAR (R873). -/
def State.align {α : Type} (s : State) (ea : Word) (n : Nat) (k : Res α) : Res α :=
  if (ea.extractLsb' 0 6).toNat % n = 0 then k else .trap 0x034 (s.setDsfar ea)

/-- The low `n` bits of a word, sign-extended. -/
def sextLow (n : Nat) (v : Word) : Word := (v.setWidth n).signExtend 64

/-- An integer load of `n` bytes (R875 to R887). -/
def State.loadInt (s : State) (rd : Reg) (asi : Option (BitVec 8)) (ea : Word) (n : Nat) (ext : Word → Word) : Res Unit :=
  s.align ea n ((s.memRead ⟨.load, asi, ea, n⟩).bind fun v s1 => s1.finish rd (ext v))

/-- A doubleword load, which may name a register ASI (R881, R888). -/
def State.loadExt (s : State) (rd : Reg) (asi : Option (BitVec 8)) (ea : Word) : Res Unit :=
  s.align ea 8 ((s.read64 ⟨.loadX, asi, ea, 8⟩).bind fun v s1 => s1.finish rd v)

/-- An integer store of `n` bytes (R892 to R898). -/
def State.storeInt (s : State) (rd : Reg) (asi : Option (BitVec 8)) (ea : Word) (n : Nat) : Res Unit :=
  s.align ea n ((s.memWrite ⟨.store, asi, ea, n⟩ (s.reg rd)).bind fun _ s1 => .ok () s1.advance)

/-- A doubleword store, which may name a register ASI (R895, R899). -/
def State.storeExt (s : State) (rd : Reg) (asi : Option (BitVec 8)) (ea : Word) : Res Unit :=
  s.align ea 8 ((s.write64 ⟨.storeX, asi, ea, 8⟩ (s.reg rd)).bind fun _ s1 => .ok () s1.advance)

/-- The two words of a doubleword, the one at the lower address first, each in the byte order of the access by itself
(R900, decision D63). -/
def splitPair (little : Bool) (raw : Word) : Word × Word :=
  (orderWord little 4 (raw.extractLsb' 32 32 |>.setWidth 64), orderWord little 4 (raw.extractLsb' 0 32 |>.setWidth 64))

/-- The doubleword, as its bytes lie in memory, of two words (R902). -/
def joinPair (little : Bool) (a b : Word) : Word :=
  (orderWord little 4 a).setWidth 32 ++ (orderWord little 4 b).setWidth 32

/-- The register after an even one. -/
def oddReg (rd : Reg) : Reg := rd ||| 1

/-- A twin-word load (R900): an odd `rd` is illegal. -/
def State.loadPair (s : State) (rd : Reg) (asi : Option (BitVec 8)) (ea : Word) : Res Unit :=
  if bitAt rd 0 then .trap 0x010 s
  else s.align ea 8 ((s.access ⟨.loadTwin, asi, ea, 8⟩).bind fun l s1 =>
    ((s1.settled l 8).loadCached ea { l with little := false } 8).bind fun raw s2 =>
      (s2.setReg rd (splitPair l.little raw).1).finish (oddReg rd) (splitPair l.little raw).2)

/-- A twin-word store (R902). -/
def State.storePair (s : State) (rd : Reg) (asi : Option (BitVec 8)) (ea : Word) : Res Unit :=
  let r : DataReq := ⟨.storeTwin, asi, ea, 8⟩
  if bitAt rd 0 then .trap 0x010 s
  else s.align ea 8 ((s.access r).bind fun l s1 =>
    (s1.storeData r { l with little := false } 8 (joinPair l.little (s.reg rd) (s.reg (oddReg rd)))).bind
      fun _ s2 => .ok () s2.advance)

/-- A twin-extended-word load (R920). -/
def State.loadQuad (s : State) (rd : Reg) (asi : BitVec 8) (ea : Word) : Res Unit :=
  if bitAt rd 0 then .trap 0x010 s
  else s.align ea 16 ((s.memReadTwin ⟨.loadQuad, some asi, ea, 16⟩).bind fun v s1 =>
    (s1.setReg rd v.1).finish (oddReg rd) v.2)

/-- The ASI makes LDTWA an LDTXA (R901). -/
def isTwinAsi (a : BitVec 8) : Bool := asiKind a == .twinLoad || asiKind a == .twinInit

/-- An atomic load-store (R921 to R927). -/
def State.atomicInt (s : State) (rd : Reg) (asi : Option (BitVec 8)) (ea : Word) (n : Nat)
    (update : Word → Option Word) : Res Unit :=
  s.align ea n ((s.memAtomic ⟨.atomic, asi, ea, n⟩ update).bind fun old s1 => s1.finish rd old)

/-- The store part of a compare-and-swap on the low `n` bytes (R926). -/
def casUpdate (n : Nat) (compare new old : Word) : Option Word :=
  if old = lowBytes n compare then some new else none

/-- The function codes 5 to 15 of a prefetch are illegal (R945). -/
def prefetchIllegal (fcn : BitVec 5) : Bool := decide (5 ≤ fcn) && decide (fcn ≤ 15)

/-! ## Loads -/

/-- LDSB, R875. -/
def execLdsb (rd rs1 : Reg) (op2 : RegImm) (s : State) : Host.Outcome State Fault Refusal :=
  (s.loadInt rd none (s.ea rs1 op2) 1 (sextLow 8)).outcome

/-- LDSH, R876. -/
def execLdsh (rd rs1 : Reg) (op2 : RegImm) (s : State) : Host.Outcome State Fault Refusal :=
  (s.loadInt rd none (s.ea rs1 op2) 2 (sextLow 16)).outcome

/-- LDSW, R877. -/
def execLdsw (rd rs1 : Reg) (op2 : RegImm) (s : State) : Host.Outcome State Fault Refusal :=
  (s.loadInt rd none (s.ea rs1 op2) 4 (sextLow 32)).outcome

/-- LDUB, R878. -/
def execLdub (rd rs1 : Reg) (op2 : RegImm) (s : State) : Host.Outcome State Fault Refusal :=
  (s.loadInt rd none (s.ea rs1 op2) 1 id).outcome

/-- LDUH, R879. -/
def execLduh (rd rs1 : Reg) (op2 : RegImm) (s : State) : Host.Outcome State Fault Refusal :=
  (s.loadInt rd none (s.ea rs1 op2) 2 id).outcome

/-- LDUW, R880. -/
def execLduw (rd rs1 : Reg) (op2 : RegImm) (s : State) : Host.Outcome State Fault Refusal :=
  (s.loadInt rd none (s.ea rs1 op2) 4 id).outcome

/-- LDX, R881. -/
def execLdx (rd rs1 : Reg) (op2 : RegImm) (s : State) : Host.Outcome State Fault Refusal :=
  (s.loadExt rd none (s.ea rs1 op2)).outcome

/-- LDTW, R900. -/
def execLdtw (rd rs1 : Reg) (op2 : RegImm) (s : State) : Host.Outcome State Fault Refusal :=
  (s.loadPair rd none (s.ea rs1 op2)).outcome

/-- LDSBA, R882. -/
def execLdsba (rd rs1 : Reg) (addr : AltAddr) (s : State) : Host.Outcome State Fault Refusal :=
  (s.loadInt rd (some (AltAddr.asi addr s)) (s.eaAlt rs1 addr) 1 (sextLow 8)).outcome

/-- LDSHA, R883. -/
def execLdsha (rd rs1 : Reg) (addr : AltAddr) (s : State) : Host.Outcome State Fault Refusal :=
  (s.loadInt rd (some (AltAddr.asi addr s)) (s.eaAlt rs1 addr) 2 (sextLow 16)).outcome

/-- LDSWA, R884. -/
def execLdswa (rd rs1 : Reg) (addr : AltAddr) (s : State) : Host.Outcome State Fault Refusal :=
  (s.loadInt rd (some (AltAddr.asi addr s)) (s.eaAlt rs1 addr) 4 (sextLow 32)).outcome

/-- LDUBA, R885. -/
def execLduba (rd rs1 : Reg) (addr : AltAddr) (s : State) : Host.Outcome State Fault Refusal :=
  (s.loadInt rd (some (AltAddr.asi addr s)) (s.eaAlt rs1 addr) 1 id).outcome

/-- LDUHA, R886. -/
def execLduha (rd rs1 : Reg) (addr : AltAddr) (s : State) : Host.Outcome State Fault Refusal :=
  (s.loadInt rd (some (AltAddr.asi addr s)) (s.eaAlt rs1 addr) 2 id).outcome

/-- LDUWA, R887. -/
def execLduwa (rd rs1 : Reg) (addr : AltAddr) (s : State) : Host.Outcome State Fault Refusal :=
  (s.loadInt rd (some (AltAddr.asi addr s)) (s.eaAlt rs1 addr) 4 id).outcome

/-- LDXA, R888. -/
def execLdxa (rd rs1 : Reg) (addr : AltAddr) (s : State) : Host.Outcome State Fault Refusal :=
  (s.loadExt rd (some (AltAddr.asi addr s)) (s.eaAlt rs1 addr)).outcome

/-- LDTWA, R901; with a twin ASI it is LDTXA. -/
def execLdtwa (rd rs1 : Reg) (addr : AltAddr) (s : State) : Host.Outcome State Fault Refusal :=
  (if isTwinAsi (AltAddr.asi addr s) then s.loadQuad rd (AltAddr.asi addr s) (s.eaAlt rs1 addr) else s.loadPair rd (some (AltAddr.asi addr s)) (s.eaAlt rs1 addr)).outcome

/-- LDTXA, R920. -/
def execLdtxa (rd rs1 : Reg) (asi : BitVec 8) (rs2 : Reg) (s : State) : Host.Outcome State Fault Refusal :=
  (s.loadQuad rd asi (s.ea rs1 (.reg rs2))).outcome

/-! ## Stores -/

/-- STB, R892. -/
def execStb (rd rs1 : Reg) (op2 : RegImm) (s : State) : Host.Outcome State Fault Refusal :=
  (s.storeInt rd none (s.ea rs1 op2) 1).outcome

/-- STH, R893. -/
def execSth (rd rs1 : Reg) (op2 : RegImm) (s : State) : Host.Outcome State Fault Refusal :=
  (s.storeInt rd none (s.ea rs1 op2) 2).outcome

/-- STW, R894. -/
def execStw (rd rs1 : Reg) (op2 : RegImm) (s : State) : Host.Outcome State Fault Refusal :=
  (s.storeInt rd none (s.ea rs1 op2) 4).outcome

/-- STX, R895. -/
def execStx (rd rs1 : Reg) (op2 : RegImm) (s : State) : Host.Outcome State Fault Refusal :=
  (s.storeExt rd none (s.ea rs1 op2)).outcome

/-- STTW, R902. -/
def execSttw (rd rs1 : Reg) (op2 : RegImm) (s : State) : Host.Outcome State Fault Refusal :=
  (s.storePair rd none (s.ea rs1 op2)).outcome

/-- STBA, R896. -/
def execStba (rd rs1 : Reg) (addr : AltAddr) (s : State) : Host.Outcome State Fault Refusal :=
  (s.storeInt rd (some (AltAddr.asi addr s)) (s.eaAlt rs1 addr) 1).outcome

/-- STHA, R897. -/
def execStha (rd rs1 : Reg) (addr : AltAddr) (s : State) : Host.Outcome State Fault Refusal :=
  (s.storeInt rd (some (AltAddr.asi addr s)) (s.eaAlt rs1 addr) 2).outcome

/-- STWA, R898. -/
def execStwa (rd rs1 : Reg) (addr : AltAddr) (s : State) : Host.Outcome State Fault Refusal :=
  (s.storeInt rd (some (AltAddr.asi addr s)) (s.eaAlt rs1 addr) 4).outcome

/-- STXA, R899. -/
def execStxa (rd rs1 : Reg) (addr : AltAddr) (s : State) : Host.Outcome State Fault Refusal :=
  (s.storeExt rd (some (AltAddr.asi addr s)) (s.eaAlt rs1 addr)).outcome

/-- STTWA, R903. -/
def execSttwa (rd rs1 : Reg) (addr : AltAddr) (s : State) : Host.Outcome State Fault Refusal :=
  (s.storePair rd (some (AltAddr.asi addr s)) (s.eaAlt rs1 addr)).outcome

/-! ## Atomics -/

/-- LDSTUB, R922. -/
def execLdstub (rd rs1 : Reg) (op2 : RegImm) (s : State) : Host.Outcome State Fault Refusal :=
  (s.atomicInt rd none (s.ea rs1 op2) 1 (fun _ => some 0xFF)).outcome

/-- LDSTUBA, R923. -/
def execLdstuba (rd rs1 : Reg) (addr : AltAddr) (s : State) : Host.Outcome State Fault Refusal :=
  (s.atomicInt rd (some (AltAddr.asi addr s)) (s.eaAlt rs1 addr) 1 (fun _ => some 0xFF)).outcome

/-- SWAP, R924. -/
def execSwap (rd rs1 : Reg) (op2 : RegImm) (s : State) : Host.Outcome State Fault Refusal :=
  (s.atomicInt rd none (s.ea rs1 op2) 4 (fun _ => some (s.reg rd))).outcome

/-- SWAPA, R925. -/
def execSwapa (rd rs1 : Reg) (addr : AltAddr) (s : State) : Host.Outcome State Fault Refusal :=
  (s.atomicInt rd (some (AltAddr.asi addr s)) (s.eaAlt rs1 addr) 4 (fun _ => some (s.reg rd))).outcome

/-- CASA, R926: the address is `r[rs1]` alone. -/
def execCasa (rd rs1 : Reg) (asi : CasAsi) (rs2 : Reg) (s : State) : Host.Outcome State Fault Refusal :=
  (s.atomicInt rd (some (CasAsi.asi asi s)) (maskAddr s.pstate.am (s.reg rs1)) 4 (casUpdate 4 (s.reg rs2) (s.reg rd))).outcome

/-- CASXA, R927: the address is `r[rs1]` alone. -/
def execCasxa (rd rs1 : Reg) (asi : CasAsi) (rs2 : Reg) (s : State) : Host.Outcome State Fault Refusal :=
  (s.atomicInt rd (some (CasAsi.asi asi s)) (maskAddr s.pstate.am (s.reg rs1)) 8 (casUpdate 8 (s.reg rs2) (s.reg rd))).outcome

/-! ## Prefetches -/

/-- The function codes that prefetch a line (TABLE 11-2). -/
def prefetchWeak (fcn : BitVec 5) : Bool := decide (fcn < 4) || (decide (0x10 ≤ fcn) && decide (fcn < 0x18))

/-- A prefetch of one of those codes, or of one that does nothing (R945). -/
def State.prefetchAt (s : State) (fcn : BitVec 5) (asi : Option (BitVec 8)) (ea : Word) : Res Unit :=
  if prefetchWeak fcn then (s.prefetch ⟨.load, asi, ea, 1⟩).bind fun _ s1 => .ok () s1.advance else .ok () s.advance

/-- PREFETCH, R945. In hyperprivileged mode function code 24 invalidates a line of the L2 cache, which changes no value;
its address must carry the key of TABLE 19-41 (spec/66_diag_debug.md R2060). -/
def execPrefetch (fcn : BitVec 5) (rs1 : Reg) (op2 : RegImm) (s : State) : Host.Outcome State Fault Refusal :=
  if prefetchIllegal fcn then .next (s.takeTrap 0x010)
  else if fcn == 24 && s.level == .hyper && (s.ea rs1 op2).extractLsb' 37 3 != 3 then
    .refused (.undefinedAccess "PREFETCH, function 24")
  else (s.prefetchAt fcn none (s.ea rs1 op2)).outcome

/-- PREFETCHA, R946: it raises no other exception of its own, whatever its ASI. -/
def execPrefetcha (fcn : BitVec 5) (rs1 : Reg) (addr : AltAddr) (s : State) : Host.Outcome State Fault Refusal :=
  if prefetchIllegal fcn then .next (s.takeTrap 0x010)
  else (s.prefetchAt fcn (some (AltAddr.asi addr s)) (s.eaAlt rs1 addr)).outcome

end Sys2Proof.Machine
end

