-- ==== Sys2Proof/Machine/FloatMemory.lean ====
section
/-! DEFINITION. Machine/FloatMemory.lean: floating-point loads and stores, with the block, short and partial forms of
their alternate opcodes (spec/42_load_store.md sections 5 and 7; spec/45_vis.md R1280 to R1286). -/

namespace Sys2Proof.Machine

/-! ## Shared operations -/

/-- Every instruction of this file needs the floating-point unit (spec/44_float.md R1062). -/
def State.needsFp {α : Type} (s : State) (k : Res α) : Res α := if s.fpEnabled then k else .trap 0x020 s

/-- The alignment of a doubleword floating-point access (R873): `tt` is its own trap for a word-aligned address. -/
def State.alignD {α : Type} (s : State) (ea : Word) (tt : BitVec 9) (k : Res α) : Res α :=
  if ea.extractLsb' 0 3 == 0 then k
  else .trap (if ea.extractLsb' 0 3 == 4 then tt else 0x034) (s.setDsfar ea)

/-- LDF and LDFA (R905, R907). -/
def State.loadF (s : State) (rd : Reg) (asi : Option (BitVec 8)) (ea : Word) : Res Unit :=
  s.needsFp (s.align ea 4 ((s.memRead ⟨.loadF, asi, ea, 4⟩).bind fun v s1 =>
    .ok () (s1.setF32 rd (v.setWidth 32)).advance))

/-- LDDF, and LDDFA with an ordinary or a register ASI (R906, R908, R961). -/
def State.loadD (s : State) (rd : Reg) (asi : Option (BitVec 8)) (ea : Word) : Res Unit :=
  s.needsFp (s.alignD ea 0x035 ((s.read64 ⟨.loadD, asi, ea, 8⟩).bind fun v s1 => .ok () (s1.setF64 rd v).advance))

/-- STF and STFA (R909, R911). -/
def State.storeF (s : State) (rd : Reg) (asi : Option (BitVec 8)) (ea : Word) : Res Unit :=
  s.needsFp (s.align ea 4 ((s.memWrite ⟨.storeF, asi, ea, 4⟩ ((s.f32 rd).setWidth 64)).bind fun _ s1 =>
    .ok () s1.advance))

/-- STDF, and STDFA with an ordinary or a register ASI (R910, R912, R961). Of STDFA with a block-initializing ASI at an address that
is 4 modulo 8, R873 and spec/20_memory.md R523 give STDF_mem_address_not_aligned, while the words that R911 quotes are
mem_address_not_aligned: the former is taken (log entry 67, DESIGN CHOICE). -/
def State.storeD (s : State) (rd : Reg) (asi : Option (BitVec 8)) (ea : Word) : Res Unit :=
  s.needsFp (s.alignD ea 0x036 ((s.write64 ⟨.storeD, asi, ea, 8⟩ (s.f64 rd)).bind fun _ s1 => .ok () s1.advance))

/-- Eight registers from the pair `d` on. -/
def State.setPairs (s : State) (d : BitVec 5) (vs : List Word) : State :=
  match vs with
  | [] => s
  | v :: rest => (s.setPair d v).setPairs (d + 1) rest

/-- The first register of a block is one of every eight (R930, decision D70). -/
def blockAligned (rd : Reg) : Bool := (doublePair rd).extractLsb' 0 3 == 0

/-- The halves of FRF entries that `k` registers from the pair `d` on are in. -/
def pairSlots (d : BitVec 5) (k : Nat) : List CheckSlot :=
  (List.range k).flatMap (fun i => [.float ((d + BitVec.ofNat 5 i) ++ 0#1), .float ((d + BitVec.ofNat 5 i) ++ 1#1)])

/-- Registers from the pair `d` on are written by a block load that does not complete: with their check bits
(spec/62_errors_core.md R1640), and with FPRS as it was (spec/10_state.md R69). -/
def State.setPairsOnly (s : State) (d : BitVec 5) (vs : List Word) : State :=
  let t : State := { s.setPairs d vs with fprs := s.fprs }
  if s.checksClean then t else s.storeChecks t (pairSlots d vs.length)

/-- LDBLOCKF (R930, R932). Bad data in memory ends it: the registers before it are written, and the trap is taken (R933). -/
def State.loadBlock (s : State) (rd : Reg) (asi : BitVec 8) (ea : Word) : Res Unit :=
  if !blockAligned rd then .trap 0x010 s
  else s.needsFp (s.align ea 64 ((s.memReadBlock ⟨.blockLoad, some asi, ea, 64⟩).bind fun got s1 =>
    match got.2 with
    | none => .ok () (s1.setPairs (doublePair rd) got.1).advance
    | some errtype =>
      .trap 0x032 ((s1.setPairsOnly (doublePair rd) got.1).setDsfsr errtype).setDsfarUndefined))

/-- The contents of eight registers from the pair `d` on. -/
def State.pairs (s : State) (d : BitVec 5) : List Word :=
  (List.range 8).map (fun k => s.pair (d + BitVec.ofNat 5 k))

/-- STBLOCKF (R930, R935). -/
def State.storeBlock (s : State) (rd : Reg) (asi : BitVec 8) (ea : Word) : Res Unit :=
  if !blockAligned rd then .trap 0x010 s
  else s.needsFp (s.align ea 64 ((s.memWriteBlock ⟨.blockStore, some asi, ea, 64⟩ (s.pairs (doublePair rd))).bind
    fun _ s1 => .ok () s1.advance))

/-- The size of a short access (spec/45_vis.md R1285). -/
def shortSize (asi : BitVec 8) : Nat := if bitAt asi 1 then 2 else 1

/-- LDSHORTF (R1285). -/
def State.loadShort (s : State) (rd : Reg) (asi : BitVec 8) (ea : Word) : Res Unit :=
  s.needsFp (s.align ea (shortSize asi) ((s.memRead ⟨.shortLoad, some asi, ea, shortSize asi⟩).bind fun v s1 =>
    .ok () (s1.setF64 rd v).advance))

/-- STSHORTF (R1286). -/
def State.storeShort (s : State) (rd : Reg) (asi : BitVec 8) (ea : Word) : Res Unit :=
  s.needsFp (s.align ea (shortSize asi) ((s.memWrite ⟨.shortStore, some asi, ea, shortSize asi⟩ (s.f64 rd)).bind
    fun _ s1 => .ok () s1.advance))

/-- The number of bytes of an element of a partial store (R1280). -/
def partialElement (asi : BitVec 8) : Nat :=
  match (asi.extractLsb' 1 2).toNat with
  | 0 => 1
  | 1 => 2
  | _ => 4

/-- The eight bytes of a partial store, in the order of memory, with their enables (R1280, R1281). -/
def partialBytes (element : Nat) (d mask : Word) (little : Bool) : List (Byte × Bool) :=
  (List.range 8).map (fun j =>
    let k := if little then j else 7 - j
    (d.extractLsb' (8 * k) 8, bitAt mask (k / element)))

/-- STPARTIALF (R1280). -/
def State.storePartial (s : State) (rd : Reg) (asi : BitVec 8) (ea mask : Word) : Res Unit :=
  s.needsFp (s.align ea 8 ((s.memWritePartial ⟨.partialStore, some asi, ea, 8⟩
    (partialBytes (partialElement asi) (s.f64 rd) mask)).bind fun _ s1 => .ok () s1.advance))

/-- FSR as a register (spec/10_state.md R82). -/
def Fsr.word (f : Fsr) : Word :=
  0#26 ++ f.fcc3 ++ f.fcc2 ++ f.fcc1 ++ f.rd ++ 0#2 ++ f.tem ++ boolBit f.ns ++ 0#2 ++ 0#3 ++ f.ftt ++ 0#1 ++ 0#1 ++
    f.fcc0 ++ f.aexc ++ f.cexc

/-- FSR after LDFSR: the fields of the low half, but not `ftt` (R914). -/
def Fsr.loadLow (f : Fsr) (v : Word) : Fsr :=
  { f with
    rd := v.extractLsb' 30 2, tem := v.extractLsb' 23 5, ns := bitAt v 22, fcc0 := v.extractLsb' 10 2,
    aexc := v.extractLsb' 5 5, cexc := v.extractLsb' 0 5 }

/-- FSR after LDXFSR (R915). -/
def Fsr.loadAll (f : Fsr) (v : Word) : Fsr :=
  { f.loadLow v with fcc3 := v.extractLsb' 36 2, fcc2 := v.extractLsb' 34 2, fcc1 := v.extractLsb' 32 2 }

/-- FSR has another value. -/
def State.setFsr (s : State) (f : Fsr) : State := { s with fsr := f }

/-- A load of FSR. -/
def State.loadFsr (s : State) (ea : Word) (op : OpClass) (n : Nat) (f : Fsr → Word → Fsr) : Res Unit :=
  s.needsFp (s.align ea n ((s.memRead ⟨op, none, ea, n⟩).bind fun v s1 => .ok () (s1.setFsr (f s1.fsr v)).advance))

/-- A store of FSR clears `ftt` (R916, R917). -/
def State.storeFsr (s : State) (ea : Word) (op : OpClass) (n : Nat) : Res Unit :=
  s.needsFp (s.align ea n ((s.memWrite ⟨op, none, ea, n⟩ s.fsr.word).bind fun _ s1 =>
    .ok () (s1.setFsr { s1.fsr with ftt := 0 }).advance))

/-! ## Loads and stores -/

/-- LDF, R905. -/
def execLdf (rd rs1 : Reg) (op2 : RegImm) (s : State) : Host.Outcome State Fault Refusal :=
  (s.loadF rd none (s.ea rs1 op2)).outcome

/-- LDDF, R906. -/
def execLddf (rd rs1 : Reg) (op2 : RegImm) (s : State) : Host.Outcome State Fault Refusal :=
  (s.loadD rd none (s.ea rs1 op2)).outcome

/-- STF, R909. -/
def execStf (rd rs1 : Reg) (op2 : RegImm) (s : State) : Host.Outcome State Fault Refusal :=
  (s.storeF rd none (s.ea rs1 op2)).outcome

/-- STDF, R910. -/
def execStdf (rd rs1 : Reg) (op2 : RegImm) (s : State) : Host.Outcome State Fault Refusal :=
  (s.storeD rd none (s.ea rs1 op2)).outcome

/-- LDFA, R907. -/
def execLdfa (rd rs1 : Reg) (addr : AltAddr) (s : State) : Host.Outcome State Fault Refusal :=
  (s.loadF rd (some (AltAddr.asi addr s)) (s.eaAlt rs1 addr)).outcome

/-- STFA, R911. -/
def execStfa (rd rs1 : Reg) (addr : AltAddr) (s : State) : Host.Outcome State Fault Refusal :=
  (s.storeF rd (some (AltAddr.asi addr s)) (s.eaAlt rs1 addr)).outcome

/-- LDDFA, R908: a block or a short ASI in the ASI register makes it LDBLOCKF or a short load. -/
def execLddfa (rd rs1 : Reg) (addr : AltAddr) (s : State) : Host.Outcome State Fault Refusal :=
  let asi := AltAddr.asi addr s
  let ea := s.eaAlt rs1 addr
  (match asiKind asi with
    | .block => s.loadBlock rd asi ea
    | .short => s.loadShort rd asi ea
    | _ => s.loadD rd (some asi) ea).outcome

/-- STDFA, R912: a block or a short ASI in the ASI register makes it STBLOCKF or a short store. -/
def execStdfa (rd rs1 : Reg) (addr : AltAddr) (s : State) : Host.Outcome State Fault Refusal :=
  let asi := AltAddr.asi addr s
  let ea := s.eaAlt rs1 addr
  (match asiKind asi with
    | .block => s.storeBlock rd asi ea
    | .short => s.storeShort rd asi ea
    | _ => s.storeD rd (some asi) ea).outcome

/-- LDBLOCKF, R930. -/
def execLdblockf (rd rs1 : Reg) (asi : BitVec 8) (rs2 : Reg) (s : State) : Host.Outcome State Fault Refusal :=
  (s.loadBlock rd asi (s.ea rs1 (.reg rs2))).outcome

/-- STBLOCKF, R930. -/
def execStblockf (rd rs1 : Reg) (asi : BitVec 8) (rs2 : Reg) (s : State) : Host.Outcome State Fault Refusal :=
  (s.storeBlock rd asi (s.ea rs1 (.reg rs2))).outcome

/-- LDSHORTF, spec/45_vis.md R1285. -/
def execLdshortf (rd rs1 : Reg) (asi : BitVec 8) (rs2 : Reg) (s : State) : Host.Outcome State Fault Refusal :=
  (s.loadShort rd asi (s.ea rs1 (.reg rs2))).outcome

/-- STSHORTF, spec/45_vis.md R1286. -/
def execStshortf (rd rs1 : Reg) (asi : BitVec 8) (rs2 : Reg) (s : State) : Host.Outcome State Fault Refusal :=
  (s.storeShort rd asi (s.ea rs1 (.reg rs2))).outcome

/-- STPARTIALF, spec/45_vis.md R1280: the address is `r[rs1]` and the mask `r[rs2]`. -/
def execStpartialf (rd rs1 : Reg) (asi : BitVec 8) (rs2 : Reg) (s : State) : Host.Outcome State Fault Refusal :=
  (s.storePartial rd asi (maskAddr s.pstate.am (s.reg rs1)) (s.reg rs2)).outcome

/-! ## FSR -/

/-- LDFSR, R914. -/
def execLdfsr (rs1 : Reg) (op2 : RegImm) (s : State) : Host.Outcome State Fault Refusal :=
  (s.loadFsr (s.ea rs1 op2) .loadF 4 Fsr.loadLow).outcome

/-- LDXFSR, R915. -/
def execLdxfsr (rs1 : Reg) (op2 : RegImm) (s : State) : Host.Outcome State Fault Refusal :=
  (s.loadFsr (s.ea rs1 op2) .loadD 8 Fsr.loadAll).outcome

/-- STFSR, R916. -/
def execStfsr (rs1 : Reg) (op2 : RegImm) (s : State) : Host.Outcome State Fault Refusal :=
  (s.storeFsr (s.ea rs1 op2) .storeF 4).outcome

/-- STXFSR, R917. -/
def execStxfsr (rs1 : Reg) (op2 : RegImm) (s : State) : Host.Outcome State Fault Refusal :=
  (s.storeFsr (s.ea rs1 op2) .storeD 8).outcome

/-! ## Quad accesses, R913: illegal instructions -/

/-- LDQF, R913. -/
def execLdqf (_rd _rs1 : Reg) (_op2 : RegImm) (s : State) : Host.Outcome State Fault Refusal :=
  .next (s.takeTrap 0x010)

/-- STQF, R913. -/
def execStqf (_rd _rs1 : Reg) (_op2 : RegImm) (s : State) : Host.Outcome State Fault Refusal :=
  .next (s.takeTrap 0x010)

/-- LDQFA, R913. -/
def execLdqfa (_rd _rs1 : Reg) (_addr : AltAddr) (s : State) : Host.Outcome State Fault Refusal :=
  .next (s.takeTrap 0x010)

/-- STQFA, R913. -/
def execStqfa (_rd _rs1 : Reg) (_addr : AltAddr) (s : State) : Host.Outcome State Fault Refusal :=
  .next (s.takeTrap 0x010)

end Sys2Proof.Machine
end

