-- ==== Sys2Proof/Machine/Integer.lean ====
section
/-! DEFINITION. Machine/Integer.lean: integer arithmetic, logic, shifts, multiplication, division and conditional moves
(spec/40_integer.md). -/

namespace Sys2Proof.Machine

/-! ## Shared operations -/

/-- An instruction that writes a function of its two operands. -/
def State.alu (s : State) (rd rs1 : Reg) (op2 : RegImm) (f : Word → Word → Word) : Res Unit :=
  s.finish rd (f (s.reg rs1) (RegImm.value op2 s))

/-- The same, with condition codes computed from the operands and the result. -/
def State.aluCc (s : State) (rd rs1 : Reg) (op2 : RegImm) (f : Word → Word → Word)
    (cc : Word → Word → Word → BitVec 8) : Res Unit :=
  let a := s.reg rs1
  let b := RegImm.value op2 s
  s.finishCc rd (f a b) (cc a b (f a b))

/-- A product: `r[rd]` takes 64 bits and Y the upper half (R740). -/
def State.multiply (s : State) (rd : Reg) (p : Word) (ccr : BitVec 8) : Res Unit :=
  (s.setY (p.extractLsb' 32 32)).finishCc rd p ccr

/-- The low half of a word, zero-extended. -/
def low32 (v : Word) : Word := (v.setWidth 32).setWidth 64

/-- The low half of a word, sign-extended. -/
def slow32 (v : Word) : Word := (v.setWidth 32).signExtend 64

/-- The unsigned quotient of `Y :: a` with its clamp, and whether it overflowed (R749). -/
def udivResult (y : BitVec 32) (a b : Word) : Word × Bool :=
  let q := (y ++ a.setWidth 32 : Word) / low32 b
  if q.toNat > 0xFFFFFFFF then (0xFFFFFFFF, true) else (q, false)

/-- The signed quotient of `Y :: a` with its clamps (R751): computed exactly, so that no quotient wraps. -/
def sdivResult (y : BitVec 32) (a b : Word) : Word × Bool :=
  let q := (y ++ a.setWidth 32 : Word).toInt.tdiv (slow32 b).toInt
  if q > 0x7FFFFFFF then (0x7FFFFFFF, true)
  else if q < -0x80000000 then (0xFFFFFFFF80000000, true)
  else (BitVec.ofInt 64 q, false)

/-- A 32-bit division, which traps on a zero divisor (R749, R753). -/
def State.divide (s : State) (rd rs1 : Reg) (op2 : RegImm) (f : BitVec 32 → Word → Word → Word × Bool)
    (cc : Word × Bool → BitVec 8) : Res Unit :=
  let b := RegImm.value op2 s
  let r := f s.y (s.reg rs1) b
  firstTrap s [(b.setWidth 32 == 0#32, 0x028)] (s.finishCc rd r.1 (cc r))

/-- The multiply step (R746). -/
def State.mulStep (s : State) (rd rs1 : Reg) (op2 : RegImm) : Res Unit :=
  let a := s.reg rs1
  let b := RegImm.value op2 s
  let icc := s.icc .icc
  let op1 : BitVec 32 := boolBit (bitAt icc 3 != bitAt icc 1) ++ a.extractLsb' 1 31
  let addend : BitVec 32 := if bitAt s.y 0 then b.setWidth 32 else 0
  let sum : BitVec 33 := op1.setWidth 33 + addend.setWidth 33
  let res : BitVec 32 := sum.setWidth 32
  let v := bitAt op1 31 == bitAt addend 31 && bitAt res 31 != bitAt op1 31
  let value : Word := sum.setWidth 64
  let ccr := nzvc false (value == 0) false false ++ nzvc (bitAt res 31) (res == 0) v (bitAt sum 32)
  (s.setY (a.extractLsb' 0 1 ++ s.y.extractLsb' 1 31)).finishCc rd value ccr

/-- A tagged operation that traps on a tag overflow (R756, R758). -/
def State.tagged (s : State) (rd : Reg) (res : Word) (ccr : BitVec 8) : Res Unit :=
  firstTrap s [(bitAt ccr 1, 0x023)] (s.finishCc rd res ccr)

/-- The number of one bits. -/
def popcount (v : Word) : Nat := (List.range 64).foldl (fun acc i => if bitAt v i then acc + 1 else acc) 0

/-! ## Add and subtract, logic -/

/-- ADD, R702. -/
def execAdd (rd rs1 : Reg) (op2 : RegImm) (s : State) : Host.Outcome State Fault Refusal :=
  (s.alu rd rs1 op2 (fun a b => a + b)).outcome

/-- ADDC, R704. -/
def execAddc (rd rs1 : Reg) (op2 : RegImm) (s : State) : Host.Outcome State Fault Refusal :=
  (s.alu rd rs1 op2 (fun a b => a + b + carryIn s.ccr)).outcome

/-- SUB, R706. -/
def execSub (rd rs1 : Reg) (op2 : RegImm) (s : State) : Host.Outcome State Fault Refusal :=
  (s.alu rd rs1 op2 (fun a b => a - b)).outcome

/-- SUBC, R708. -/
def execSubc (rd rs1 : Reg) (op2 : RegImm) (s : State) : Host.Outcome State Fault Refusal :=
  (s.alu rd rs1 op2 (fun a b => a - b - carryIn s.ccr)).outcome

/-- AND, R710. -/
def execAndI (rd rs1 : Reg) (op2 : RegImm) (s : State) : Host.Outcome State Fault Refusal :=
  (s.alu rd rs1 op2 (fun a b => a &&& b)).outcome

/-- ANDN, R712. -/
def execAndn (rd rs1 : Reg) (op2 : RegImm) (s : State) : Host.Outcome State Fault Refusal :=
  (s.alu rd rs1 op2 (fun a b => a &&& ~~~b)).outcome

/-- OR, R714. -/
def execOrI (rd rs1 : Reg) (op2 : RegImm) (s : State) : Host.Outcome State Fault Refusal :=
  (s.alu rd rs1 op2 (fun a b => a ||| b)).outcome

/-- ORN, R716. -/
def execOrn (rd rs1 : Reg) (op2 : RegImm) (s : State) : Host.Outcome State Fault Refusal :=
  (s.alu rd rs1 op2 (fun a b => a ||| ~~~b)).outcome

/-- XOR, R718. -/
def execXorI (rd rs1 : Reg) (op2 : RegImm) (s : State) : Host.Outcome State Fault Refusal :=
  (s.alu rd rs1 op2 (fun a b => a ^^^ b)).outcome

/-- XNOR, R720. -/
def execXnor (rd rs1 : Reg) (op2 : RegImm) (s : State) : Host.Outcome State Fault Refusal :=
  (s.alu rd rs1 op2 (fun a b => ~~~(a ^^^ b))).outcome

/-- MULX, R741. -/
def execMulx (rd rs1 : Reg) (op2 : RegImm) (s : State) : Host.Outcome State Fault Refusal :=
  (s.alu rd rs1 op2 (fun a b => a * b)).outcome

/-- ADDcc, R703. -/
def execAddcc (rd rs1 : Reg) (op2 : RegImm) (s : State) : Host.Outcome State Fault Refusal :=
  (s.aluCc rd rs1 op2 (fun a b => a + b) addCc).outcome

/-- ADDCcc, R705. -/
def execAddccc (rd rs1 : Reg) (op2 : RegImm) (s : State) : Host.Outcome State Fault Refusal :=
  (s.aluCc rd rs1 op2 (fun a b => a + b + carryIn s.ccr) addCc).outcome

/-- SUBcc, R707. -/
def execSubcc (rd rs1 : Reg) (op2 : RegImm) (s : State) : Host.Outcome State Fault Refusal :=
  (s.aluCc rd rs1 op2 (fun a b => a - b) subCc).outcome

/-- SUBCcc, R709. -/
def execSubccc (rd rs1 : Reg) (op2 : RegImm) (s : State) : Host.Outcome State Fault Refusal :=
  (s.aluCc rd rs1 op2 (fun a b => a - b - carryIn s.ccr) subCc).outcome

/-- ANDcc, R711. -/
def execAndcc (rd rs1 : Reg) (op2 : RegImm) (s : State) : Host.Outcome State Fault Refusal :=
  (s.aluCc rd rs1 op2 (fun a b => a &&& b) (fun _ _ r => logicCc r)).outcome

/-- ANDNcc, R713. -/
def execAndncc (rd rs1 : Reg) (op2 : RegImm) (s : State) : Host.Outcome State Fault Refusal :=
  (s.aluCc rd rs1 op2 (fun a b => a &&& ~~~b) (fun _ _ r => logicCc r)).outcome

/-- ORcc, R715. -/
def execOrcc (rd rs1 : Reg) (op2 : RegImm) (s : State) : Host.Outcome State Fault Refusal :=
  (s.aluCc rd rs1 op2 (fun a b => a ||| b) (fun _ _ r => logicCc r)).outcome

/-- ORNcc, R717. -/
def execOrncc (rd rs1 : Reg) (op2 : RegImm) (s : State) : Host.Outcome State Fault Refusal :=
  (s.aluCc rd rs1 op2 (fun a b => a ||| ~~~b) (fun _ _ r => logicCc r)).outcome

/-- XORcc, R719. -/
def execXorcc (rd rs1 : Reg) (op2 : RegImm) (s : State) : Host.Outcome State Fault Refusal :=
  (s.aluCc rd rs1 op2 (fun a b => a ^^^ b) (fun _ _ r => logicCc r)).outcome

/-- XNORcc, R721. -/
def execXnorcc (rd rs1 : Reg) (op2 : RegImm) (s : State) : Host.Outcome State Fault Refusal :=
  (s.aluCc rd rs1 op2 (fun a b => ~~~(a ^^^ b)) (fun _ _ r => logicCc r)).outcome

/-! ## Shifts -/

/-- SLL, R725. -/
def execSll (rd rs1 : Reg) (cnt : Shift32) (s : State) : Host.Outcome State Fault Refusal :=
  (s.finish rd (s.reg rs1 <<< Shift32.count cnt s)).outcome

/-- SLLX, R726. -/
def execSllx (rd rs1 : Reg) (cnt : Shift64) (s : State) : Host.Outcome State Fault Refusal :=
  (s.finish rd (s.reg rs1 <<< Shift64.count cnt s)).outcome

/-- SRL, R727. -/
def execSrl (rd rs1 : Reg) (cnt : Shift32) (s : State) : Host.Outcome State Fault Refusal :=
  (s.finish rd (((s.reg rs1).setWidth 32 >>> Shift32.count cnt s).setWidth 64)).outcome

/-- SRLX, R728. -/
def execSrlx (rd rs1 : Reg) (cnt : Shift64) (s : State) : Host.Outcome State Fault Refusal :=
  (s.finish rd (s.reg rs1 >>> Shift64.count cnt s)).outcome

/-- SRA, R729. -/
def execSra (rd rs1 : Reg) (cnt : Shift32) (s : State) : Host.Outcome State Fault Refusal :=
  (s.finish rd ((((s.reg rs1).setWidth 32).sshiftRight (Shift32.count cnt s)).signExtend 64)).outcome

/-- SRAX, R730. -/
def execSrax (rd rs1 : Reg) (cnt : Shift64) (s : State) : Host.Outcome State Fault Refusal :=
  (s.finish rd ((s.reg rs1).sshiftRight (Shift64.count cnt s))).outcome

/-! ## SETHI, NOP, POPC -/

/-- SETHI, R732. -/
def execSethi (rd : Reg) (imm22 : BitVec 22) (s : State) : Host.Outcome State Fault Refusal :=
  (s.finish rd ((imm22 ++ 0#10 : Word32).setWidth 64)).outcome

/-- NOP, R733. -/
def execNop (s : State) : Host.Outcome State Fault Refusal := .next s.advance

/-- POPC, R735. -/
def execPopc (rd : Reg) (op2 : RegImm) (s : State) : Host.Outcome State Fault Refusal :=
  (s.finish rd (BitVec.ofNat 64 (popcount (RegImm.value op2 s)))).outcome

/-! ## Multiplication and division -/

/-- UMUL, R742. -/
def execUmul (rd rs1 : Reg) (op2 : RegImm) (s : State) : Host.Outcome State Fault Refusal :=
  let p := low32 (s.reg rs1) * low32 (RegImm.value op2 s)
  (s.multiply rd p s.ccr).outcome

/-- UMULcc, R743. -/
def execUmulcc (rd rs1 : Reg) (op2 : RegImm) (s : State) : Host.Outcome State Fault Refusal :=
  let p := low32 (s.reg rs1) * low32 (RegImm.value op2 s)
  (s.multiply rd p (logicCc p)).outcome

/-- SMUL, R744. -/
def execSmul (rd rs1 : Reg) (op2 : RegImm) (s : State) : Host.Outcome State Fault Refusal :=
  let p := slow32 (s.reg rs1) * slow32 (RegImm.value op2 s)
  (s.multiply rd p s.ccr).outcome

/-- SMULcc, R745. -/
def execSmulcc (rd rs1 : Reg) (op2 : RegImm) (s : State) : Host.Outcome State Fault Refusal :=
  let p := slow32 (s.reg rs1) * slow32 (RegImm.value op2 s)
  (s.multiply rd p (logicCc p)).outcome

/-- MULScc, R746. -/
def execMulscc (rd rs1 : Reg) (op2 : RegImm) (s : State) : Host.Outcome State Fault Refusal :=
  (s.mulStep rd rs1 op2).outcome

/-- UDIVX, R747. -/
def execUdivx (rd rs1 : Reg) (op2 : RegImm) (s : State) : Host.Outcome State Fault Refusal :=
  let b := RegImm.value op2 s
  (firstTrap s [(b == 0, 0x028)] (s.finish rd (s.reg rs1 / b))).outcome

/-- SDIVX, R748. -/
def execSdivx (rd rs1 : Reg) (op2 : RegImm) (s : State) : Host.Outcome State Fault Refusal :=
  let b := RegImm.value op2 s
  (firstTrap s [(b == 0, 0x028)] (s.finish rd ((s.reg rs1).sdiv b))).outcome

/-- UDIV, R749. -/
def execUdiv (rd rs1 : Reg) (op2 : RegImm) (s : State) : Host.Outcome State Fault Refusal :=
  (s.divide rd rs1 op2 udivResult (fun _ => s.ccr)).outcome

/-- UDIVcc, R750. -/
def execUdivcc (rd rs1 : Reg) (op2 : RegImm) (s : State) : Host.Outcome State Fault Refusal :=
  (s.divide rd rs1 op2 udivResult (fun r => divCc r.1 r.2)).outcome

/-- SDIV, R751. -/
def execSdiv (rd rs1 : Reg) (op2 : RegImm) (s : State) : Host.Outcome State Fault Refusal :=
  (s.divide rd rs1 op2 sdivResult (fun _ => s.ccr)).outcome

/-- SDIVcc, R752. -/
def execSdivcc (rd rs1 : Reg) (op2 : RegImm) (s : State) : Host.Outcome State Fault Refusal :=
  (s.divide rd rs1 op2 sdivResult (fun r => divCc r.1 r.2)).outcome

/-! ## Tagged arithmetic -/

/-- TADDcc, R755. -/
def execTaddcc (rd rs1 : Reg) (op2 : RegImm) (s : State) : Host.Outcome State Fault Refusal :=
  (s.aluCc rd rs1 op2 (fun a b => a + b) (fun a b r => tagCc a b (addCc a b r))).outcome

/-- TSUBcc, R757. -/
def execTsubcc (rd rs1 : Reg) (op2 : RegImm) (s : State) : Host.Outcome State Fault Refusal :=
  (s.aluCc rd rs1 op2 (fun a b => a - b) (fun a b r => tagCc a b (subCc a b r))).outcome

/-- TADDccTV, R756. -/
def execTaddcctv (rd rs1 : Reg) (op2 : RegImm) (s : State) : Host.Outcome State Fault Refusal :=
  let a := s.reg rs1
  let b := RegImm.value op2 s
  (s.tagged rd (a + b) (tagCc a b (addCc a b (a + b)))).outcome

/-- TSUBccTV, R758. -/
def execTsubcctv (rd rs1 : Reg) (op2 : RegImm) (s : State) : Host.Outcome State Fault Refusal :=
  let a := s.reg rs1
  let b := RegImm.value op2 s
  (s.tagged rd (a - b) (tagCc a b (subCc a b (a - b)))).outcome

/-! ## Conditional moves -/

/-- MOVcc, R760. -/
def execMovcc (rd : Reg) (c : CondSel) (op2 : RegImm11) (s : State) : Host.Outcome State Fault Refusal :=
  (firstTrap s [(CondSel.isFp c && !s.fpEnabled, 0x020)]
    (if CondSel.holds c s then s.finish rd (RegImm11.value op2 s) else .ok () s.advance)).outcome

/-- MOVr, R761. -/
def execMovr (rd rs1 : Reg) (rcond : RCond) (op2 : RegImm10) (s : State) : Host.Outcome State Fault Refusal :=
  (if RCond.holds rcond (s.reg rs1) then s.finish rd (RegImm10.value op2 s) else .ok () s.advance : Res Unit).outcome

end Sys2Proof.Machine
end

