-- ==== Sys2Proof/Machine/Privileged.lean ====
section
/-! DEFINITION. Machine/Privileged.lean: RDPR, WRPR, RDHPR, WRHPR and the halt pseudo-instruction
(spec/43_state_access.md sections 3 and 4). -/

namespace Sys2Proof.Machine

/-! ## Shared operations -/

/-- The check of every RDPR and WRPR (R1010). -/
def State.privCheck (s : State) : List (Bool × BitVec 9) := [(s.isUser, 0x011)]

/-- The check of the trap registers, which do not exist at TL = 0 (R1011). -/
def State.trapRegCheck (s : State) : List (Bool × BitVec 9) := [(s.isUser, 0x011), (s.tl == 0, 0x010)]

/-- The check of every RDHPR and WRHPR (R1030). -/
def State.hyperCheck (s : State) : List (Bool × BitVec 9) := [(!s.isHyper, 0x010)]

/-- The trap stack element of the current level has another value. -/
def State.setFrame (s : State) (t : TrapFrame) : State := { s with traps := fileSet s.traps s.tl t }

/-- PSTATE has another value. When `am` goes from 1 to 0 with NPC in the address hole, the fetch that follows may or may
not see that (spec/20_memory.md R506 item 5, decision D61): NPC then keeps only its 48 bits. The target of a transfer whose
delay instruction this is, is always seen (item 4). -/
def State.setPstate (s : State) (p : PState) : State :=
  let hidden := s.pstate.am && !p.am && outOfRange s.npc && s.npc == s.pc + 4 && !s.drawBit .holeDetected
  let npc := if hidden then sext48 (s.npc.setWidth 48) else s.npc
  let s' := if s.pstate.am && !p.am then s.drawn else s
  { s' with pstate := p, npc := npc }

/-- TL as WRPR writes it (R1013). -/
def tlWritten (v : Word) (hyper : Bool) : BitVec 3 :=
  let n : BitVec 3 := v.setWidth 3
  let top := if hyper then maxTl else maxPtl
  if n < top then n else top

/-- GL as WRPR writes it (R1014). -/
def glWritten (v : Word) (hyper : Bool) : BitVec 2 :=
  let n : BitVec 4 := v.setWidth 4
  let top : BitVec 4 := if hyper then 3 else 2
  (if n < top then n else top).setWidth 2

/-- A conditioned wait ends at once: what keeps a strand from halting (spec/61_interrupts_cmt.md R1532). -/
def State.wakeNow (s : State) : Bool :=
  bitAt s.tim.softint 16 || bitAt s.tim.softint 0 || s.tim.hsp || s.intr.receive != 0 || s.err.desr.f ||
    s.err.dfesr.sba || s.err.dfesr.sbdio || s.xirPending || s.dbg.overlapMode

/-! ## RDPR, R1011 -/

/-- RDPR %tpc, R1011. -/
def execRdprTpc (rd : Reg) (s : State) : Host.Outcome State Fault Refusal :=
  (s.readReg rd s.trapRegCheck (tpcWord s.frame.tpc)).outcome

/-- RDPR %tnpc, R1011. -/
def execRdprTnpc (rd : Reg) (s : State) : Host.Outcome State Fault Refusal :=
  (s.readReg rd s.trapRegCheck (tpcWord s.frame.tnpc)).outcome

/-- RDPR %tstate, R1011. -/
def execRdprTstate (rd : Reg) (s : State) : Host.Outcome State Fault Refusal :=
  (s.readReg rd s.trapRegCheck s.frame.tstate).outcome

/-- RDPR %tt, R1011. -/
def execRdprTt (rd : Reg) (s : State) : Host.Outcome State Fault Refusal :=
  (s.readReg rd s.trapRegCheck (s.frame.tt.setWidth 64)).outcome

/-- RDPR %tick, R1016: the npt test does not apply. -/
def execRdprTick (rd : Reg) (s : State) : Host.Outcome State Fault Refusal :=
  (s.readReg rd s.privCheck s.tickWord).outcome

/-- RDPR %tba, R1011. -/
def execRdprTba (rd : Reg) (s : State) : Host.Outcome State Fault Refusal :=
  (s.readReg rd s.privCheck (tbaWord s.tba)).outcome

/-- RDPR %pstate, R1011. -/
def execRdprPstate (rd : Reg) (s : State) : Host.Outcome State Fault Refusal :=
  (s.readReg rd s.privCheck (s.pstate.bits.setWidth 64)).outcome

/-- RDPR %tl, R1011. -/
def execRdprTl (rd : Reg) (s : State) : Host.Outcome State Fault Refusal :=
  (s.readReg rd s.privCheck (s.tl.setWidth 64)).outcome

/-- RDPR %pil, R1011. -/
def execRdprPil (rd : Reg) (s : State) : Host.Outcome State Fault Refusal :=
  (s.readReg rd s.privCheck (s.pil.setWidth 64)).outcome

/-- RDPR %cwp, R1011. -/
def execRdprCwp (rd : Reg) (s : State) : Host.Outcome State Fault Refusal :=
  (s.readReg rd s.privCheck (s.win.cwp.setWidth 64)).outcome

/-- RDPR %cansave, R1011. -/
def execRdprCansave (rd : Reg) (s : State) : Host.Outcome State Fault Refusal :=
  (s.readReg rd s.privCheck (s.win.cansave.setWidth 64)).outcome

/-- RDPR %canrestore, R1011. -/
def execRdprCanrestore (rd : Reg) (s : State) : Host.Outcome State Fault Refusal :=
  (s.readReg rd s.privCheck (s.win.canrestore.setWidth 64)).outcome

/-- RDPR %cleanwin, R1011. -/
def execRdprCleanwin (rd : Reg) (s : State) : Host.Outcome State Fault Refusal :=
  (s.readReg rd s.privCheck (s.win.cleanwin.setWidth 64)).outcome

/-- RDPR %otherwin, R1011. -/
def execRdprOtherwin (rd : Reg) (s : State) : Host.Outcome State Fault Refusal :=
  (s.readReg rd s.privCheck (s.win.otherwin.setWidth 64)).outcome

/-- RDPR %wstate, R1011. -/
def execRdprWstate (rd : Reg) (s : State) : Host.Outcome State Fault Refusal :=
  (s.readReg rd s.privCheck (s.win.wstate.setWidth 64)).outcome

/-- RDPR %gl, R1011. -/
def execRdprGl (rd : Reg) (s : State) : Host.Outcome State Fault Refusal :=
  (s.readReg rd s.privCheck (s.gl.setWidth 64)).outcome

/-! ## WRPR, R1011 -/

/-- WRPR %tpc, R1011. Bits 63:48 of the value are discarded (spec/10_state.md R102): the address that it leaves is not in the
hole. -/
def execWrprTpc (rs1 : Reg) (op2 : RegImm) (s : State) : Host.Outcome State Fault Refusal :=
  let v := s.writeValue rs1 op2
  (s.writeReg s.trapRegCheck (s.setFrame { s.frame with tpc := v.extractLsb' 2 46, tpcHole := false })).outcome

/-- WRPR %tnpc, R1011, as WRPR %tpc. -/
def execWrprTnpc (rs1 : Reg) (op2 : RegImm) (s : State) : Host.Outcome State Fault Refusal :=
  let v := s.writeValue rs1 op2
  (s.writeReg s.trapRegCheck (s.setFrame { s.frame with tnpc := v.extractLsb' 2 46, tnpcHole := false })).outcome

/-- WRPR %tstate, R1011. -/
def execWrprTstate (rs1 : Reg) (op2 : RegImm) (s : State) : Host.Outcome State Fault Refusal :=
  let v := s.writeValue rs1 op2
  (s.writeReg s.trapRegCheck (s.setFrame (s.frame.withTstate v))).outcome

/-- WRPR %tt, R1011. -/
def execWrprTt (rs1 : Reg) (op2 : RegImm) (s : State) : Host.Outcome State Fault Refusal :=
  let v := s.writeValue rs1 op2
  (s.writeReg s.trapRegCheck (s.setFrame { s.frame with tt := v.setWidth 9 })).outcome

/-- WRPR %tick, R1011. -/
def execWrprTick (rs1 : Reg) (op2 : RegImm) (s : State) : Host.Outcome State Fault Refusal :=
  let v := s.writeValue rs1 op2
  (s.writeReg [(s.isPriv, 0x010), (s.isUser, 0x011)] (s.setTick v)).outcome

/-- WRPR %tba, R1011. -/
def execWrprTba (rs1 : Reg) (op2 : RegImm) (s : State) : Host.Outcome State Fault Refusal :=
  let v := s.writeValue rs1 op2
  (s.writeReg s.privCheck { s with tba := v.extractLsb' 15 33 }).outcome

/-- WRPR %pstate, R1012. -/
def execWrprPstate (rs1 : Reg) (op2 : RegImm) (s : State) : Host.Outcome State Fault Refusal :=
  let v := s.writeValue rs1 op2
  (s.writeReg s.privCheck (s.setPstate (PState.ofBits (v.setWidth 13)))).outcome

/-- WRPR %tl, R1013. -/
def execWrprTl (rs1 : Reg) (op2 : RegImm) (s : State) : Host.Outcome State Fault Refusal :=
  let v := s.writeValue rs1 op2
  (s.writeReg s.privCheck { s with tl := tlWritten v s.isHyper }).outcome

/-- WRPR %pil, R1011. -/
def execWrprPil (rs1 : Reg) (op2 : RegImm) (s : State) : Host.Outcome State Fault Refusal :=
  let v := s.writeValue rs1 op2
  (s.writeReg s.privCheck { s with pil := v.setWidth 4 }).outcome

/-- WRPR %cwp, R1015. -/
def execWrprCwp (rs1 : Reg) (op2 : RegImm) (s : State) : Host.Outcome State Fault Refusal :=
  let v := s.writeValue rs1 op2
  (s.writeReg s.privCheck { s with win := { s.win with cwp := v.setWidth 3 } }).outcome

/-- WRPR %cansave, R1015. -/
def execWrprCansave (rs1 : Reg) (op2 : RegImm) (s : State) : Host.Outcome State Fault Refusal :=
  let v := s.writeValue rs1 op2
  (s.writeReg s.privCheck { s with win := { s.win with cansave := v.setWidth 3 } }).outcome

/-- WRPR %canrestore, R1015. -/
def execWrprCanrestore (rs1 : Reg) (op2 : RegImm) (s : State) : Host.Outcome State Fault Refusal :=
  let v := s.writeValue rs1 op2
  (s.writeReg s.privCheck { s with win := { s.win with canrestore := v.setWidth 3 } }).outcome

/-- WRPR %cleanwin, R1015. -/
def execWrprCleanwin (rs1 : Reg) (op2 : RegImm) (s : State) : Host.Outcome State Fault Refusal :=
  let v := s.writeValue rs1 op2
  (s.writeReg s.privCheck { s with win := { s.win with cleanwin := v.setWidth 3 } }).outcome

/-- WRPR %otherwin, R1015. -/
def execWrprOtherwin (rs1 : Reg) (op2 : RegImm) (s : State) : Host.Outcome State Fault Refusal :=
  let v := s.writeValue rs1 op2
  (s.writeReg s.privCheck { s with win := { s.win with otherwin := v.setWidth 3 } }).outcome

/-- WRPR %wstate, R1011. -/
def execWrprWstate (rs1 : Reg) (op2 : RegImm) (s : State) : Host.Outcome State Fault Refusal :=
  let v := s.writeValue rs1 op2
  (s.writeReg s.privCheck { s with win := { s.win with wstate := v.setWidth 6 } }).outcome

/-- WRPR %gl, R1014. -/
def execWrprGl (rs1 : Reg) (op2 : RegImm) (s : State) : Host.Outcome State Fault Refusal :=
  let v := s.writeValue rs1 op2
  (s.writeReg s.privCheck { s with gl := glWritten v s.isHyper }).outcome

/-! ## RDHPR, R1030 -/

/-- RDHPR %hpstate, R1030. -/
def execRdhprHpstate (rd : Reg) (s : State) : Host.Outcome State Fault Refusal :=
  (s.readReg rd s.hyperCheck s.hpstate.word).outcome

/-- RDHPR %htstate, R1030. -/
def execRdhprHtstate (rd : Reg) (s : State) : Host.Outcome State Fault Refusal :=
  (s.readReg rd [(!s.isHyper, 0x010), (s.tl == 0, 0x010)] s.frame.hpstate.word).outcome

/-- RDHPR %hintp, R1030. -/
def execRdhprHintp (rd : Reg) (s : State) : Host.Outcome State Fault Refusal :=
  (s.readReg rd s.hyperCheck ((boolBit s.tim.hsp).setWidth 64)).outcome

/-- RDHPR %htba, R1030. -/
def execRdhprHtba (rd : Reg) (s : State) : Host.Outcome State Fault Refusal :=
  (s.readReg rd s.hyperCheck (htbaWord s.htba)).outcome

/-- RDHPR %hver, R1030. -/
def execRdhprHver (rd : Reg) (s : State) : Host.Outcome State Fault Refusal :=
  (s.readReg rd s.hyperCheck hverWord).outcome

/-- RDHPR of the halt register, which reads 0, R1040. -/
def execRdhprHalt (rd : Reg) (s : State) : Host.Outcome State Fault Refusal :=
  (s.readReg rd s.hyperCheck 0).outcome

/-- RDHPR %hstick_cmpr, R1030. -/
def execRdhprHstickCmpr (rd : Reg) (s : State) : Host.Outcome State Fault Refusal :=
  (s.readReg rd s.hyperCheck s.tim.hstickCmpr).outcome

/-! ## WRHPR, R1030 -/

/-- WRHPR %hpstate, R1031. -/
def execWrhprHpstate (rs1 : Reg) (op2 : RegImm) (s : State) : Host.Outcome State Fault Refusal :=
  let v := s.writeValue rs1 op2
  (s.writeReg s.hyperCheck { s with hpstate := HPState.ofWord v }).outcome

/-- WRHPR %htstate, R1030. -/
def execWrhprHtstate (rs1 : Reg) (op2 : RegImm) (s : State) : Host.Outcome State Fault Refusal :=
  let v := s.writeValue rs1 op2
  (s.writeReg [(!s.isHyper, 0x010), (s.tl == 0, 0x010)] (s.setFrame { s.frame with hpstate := HPState.ofWord v })).outcome

/-- WRHPR %hintp, R1032. -/
def execWrhprHintp (rs1 : Reg) (op2 : RegImm) (s : State) : Host.Outcome State Fault Refusal :=
  let v := s.writeValue rs1 op2
  (s.writeReg s.hyperCheck { s with tim := { s.tim with hsp := bitAt v 0 } }).outcome

/-- WRHPR %htba, R1032. -/
def execWrhprHtba (rs1 : Reg) (op2 : RegImm) (s : State) : Host.Outcome State Fault Refusal :=
  let v := s.writeValue rs1 op2
  (s.writeReg s.hyperCheck { s with htba := v.extractLsb' 14 34 }).outcome

/-- WRHPR %hver is an illegal instruction in every mode, R1030. -/
def execWrhprHver (_rs1 : Reg) (_op2 : RegImm) (s : State) : Host.Outcome State Fault Refusal :=
  .next (s.takeTrap 0x010)

/-- WRHPR %hstick_cmpr, R1032. The match of a value written inside its own window is posted, though it may or may not be
(spec/43_state_access.md R1003; log entry 9, DESIGN CHOICE). -/
def execWrhprHstickCmpr (rs1 : Reg) (op2 : RegImm) (s : State) : Host.Outcome State Fault Refusal :=
  let v := s.writeValue rs1 op2
  (s.writeReg s.hyperCheck { s with tim := { s.tim with hstickCmpr := v, hstickSeen := false } }).outcome

/-- The halt pseudo-instruction, R1040. -/
def execHalt (_rs1 : Reg) (_op2 : RegImm) (s : State) : Host.Outcome State Fault Refusal :=
  (s.writeReg s.hyperCheck (if s.wakeNow then s else { s with run := .halted })).outcome

end Sys2Proof.Machine
end

