-- ==== Sys2Proof/Machine/Vis.lean ====
section
/-! DEFINITION. Machine/Vis.lean: the VIS 2.0 instructions on registers (spec/45_vis.md). -/

namespace Sys2Proof.Machine

/-! ## Lanes, R1160: numbered from the most significant end -/

/-- Byte `i` of a doubleword. -/
def byteOf (v : Word) (i : Nat) : BitVec 8 := v.extractLsb' (56 - 8 * i) 8

/-- Halfword `i` of a doubleword. -/
def halfOf (v : Word) (i : Nat) : BitVec 16 := v.extractLsb' (48 - 16 * i) 16

/-- Word `i` of a doubleword. -/
def wordOf (v : Word) (i : Nat) : Word32 := v.extractLsb' (32 - 32 * i) 32

/-- Byte `i` of a word. -/
def byteOf32 (v : Word32) (i : Nat) : BitVec 8 := v.extractLsb' (24 - 8 * i) 8

/-- Halfword `i` of a word. -/
def halfOf32 (v : Word32) (i : Nat) : BitVec 16 := v.extractLsb' (16 - 16 * i) 16

/-- A doubleword of eight bytes. -/
def bytes8 (f : Nat → BitVec 8) : Word := f 0 ++ f 1 ++ f 2 ++ f 3 ++ f 4 ++ f 5 ++ f 6 ++ f 7

/-- A doubleword of four halfwords. -/
def halves4 (f : Nat → BitVec 16) : Word := f 0 ++ f 1 ++ f 2 ++ f 3

/-- A doubleword of two words. -/
def words2 (f : Nat → Word32) : Word := f 0 ++ f 1

/-- A word of two halfwords. -/
def halves2 (f : Nat → BitVec 16) : Word32 := f 0 ++ f 1

/-- A word of four bytes. -/
def bytes4 (f : Nat → BitVec 8) : Word32 := f 0 ++ f 1 ++ f 2 ++ f 3

/-! ## Shared operations -/

/-- A result in a double-precision register (R1162, R1163). -/
def State.visD (s : State) (rd : Reg) (v : Word) : Res Unit := s.needsFp (.ok () (s.setF64 rd v).advance)

/-- A result in a single-precision register. -/
def State.visS (s : State) (rd : Reg) (v : Word32) : Res Unit := s.needsFp (.ok () (s.setF32 rd v).advance)

/-- A result in an integer register, of an instruction that needs the floating-point unit. -/
def State.visInt (s : State) (rd : Reg) (v : Word) : Res Unit := s.needsFp (s.finish rd v)

/-- The mask of an edge instruction with `n` elements of `8 / n` bytes (R1170). -/
def edgeMask (n : Nat) (little am : Bool) (a b : Word) : Word :=
  let full : Nat := 2 ^ n - 1
  let i1 := a.toNat % 8 / (8 / n)
  let i2 := b.toNat % 8 / (8 / n)
  let left := if little then full * 2 ^ i1 % 2 ^ n else full / 2 ^ i1
  let right := if little then full / 2 ^ (n - 1 - i2) else full * 2 ^ (n - 1 - i2) % 2 ^ n
  let same := if am then a.extractLsb' 3 29 == b.extractLsb' 3 29 else a.extractLsb' 3 61 == b.extractLsb' 3 61
  BitVec.ofNat 64 (if same then left &&& right else left)

/-- An edge instruction; `cc` is the form that sets the condition codes of SUBcc. It needs no floating-point unit. -/
def State.edge (s : State) (rd rs1 rs2 : Reg) (n : Nat) (little cc : Bool) : Res Unit :=
  let a := s.reg rs1
  let b := s.reg rs2
  s.finishCc rd (edgeMask n little s.pstate.am a b) (if cc then subCc a b (a - b) else s.ccr)

/-- The blocked byte address of ARRAY8 (R1185), for 0 to 5 upper coordinate bits. -/
def arrayAddress (a : Word) (n : Nat) : Word :=
  let x := (a.extractLsb' 11 11).toNat
  let y := (a.extractLsb' 33 11).toNat
  let z := (a.extractLsb' 55 9).toNat
  BitVec.ofNat 64
    (x % 4 + y % 4 * 2 ^ 2 + z % 2 * 2 ^ 4 + x / 4 % 16 * 2 ^ 5 + y / 4 % 16 * 2 ^ 9 + z / 2 % 16 * 2 ^ 13 +
      x / 64 % 2 ^ n * 2 ^ 17 + y / 64 % 2 ^ n * 2 ^ (17 + n) + z / 32 % 16 * 2 ^ (17 + 2 * n))

/-- An ARRAY instruction with elements of `2 ^ k` bytes; outside the defined sizes the result is any value. -/
def State.array (s : State) (rd rs1 rs2 : Reg) (k : Nat) : Res Unit :=
  let n := (s.reg rs2).toNat
  if n ≤ 5 then s.finish rd (arrayAddress (s.reg rs1) n <<< k)
  else s.drawn.finish rd (s.drawWord .arrayResult)

/-- A partitioned comparison: bit `n - 1 - i` of the result is lane `i` (R1200). -/
def compareMask (n : Nat) (holds : Nat → Bool) : Word :=
  (List.range n).foldl (fun acc i => (acc <<< 1) ||| (if holds i then 1 else 0)) 0

/-- A comparison of four signed halfwords. -/
def State.compare16 (s : State) (rd rs1 rs2 : Reg) (p : Int → Int → Bool) : Res Unit :=
  s.visInt rd (compareMask 4 (fun i => p (halfOf (s.f64 rs1) i).toInt (halfOf (s.f64 rs2) i).toInt))

/-- A comparison of two signed words. -/
def State.compare32 (s : State) (rd rs1 rs2 : Reg) (p : Int → Int → Bool) : Res Unit :=
  s.visInt rd (compareMask 2 (fun i => p (wordOf (s.f64 rs1) i).toInt (wordOf (s.f64 rs2) i).toInt))

/-- The upper 16 bits of a 24-bit product, rounded to nearest (R1210). -/
def roundProduct (p : Int) : BitVec 16 := BitVec.ofInt 16 ((p + 0x80) / 256)

/-- A value within bounds (R1160). -/
def clampInt (v lo hi : Int) : Int := if v < lo then lo else if hi < v then hi else v

/-- GSR.mask has another value. -/
def Gsr.withMask (g : Gsr) (v : BitVec 32) : Gsr := { g with mask := v }

/-- GSR.align has another value. -/
def Gsr.withAlign (g : Gsr) (v : BitVec 3) : Gsr := { g with align := v }

/-! ## Edge handling -/

/-- EDGE8, R1171. -/
def execEdge8 (rd rs1 rs2 : Reg) (s : State) : Host.Outcome State Fault Refusal :=
  (s.edge rd rs1 rs2 8 false true).outcome

/-- EDGE8N, R1172. -/
def execEdge8n (rd rs1 rs2 : Reg) (s : State) : Host.Outcome State Fault Refusal :=
  (s.edge rd rs1 rs2 8 false false).outcome

/-- EDGE8L, R1173. -/
def execEdge8l (rd rs1 rs2 : Reg) (s : State) : Host.Outcome State Fault Refusal :=
  (s.edge rd rs1 rs2 8 true true).outcome

/-- EDGE8LN, R1174. -/
def execEdge8ln (rd rs1 rs2 : Reg) (s : State) : Host.Outcome State Fault Refusal :=
  (s.edge rd rs1 rs2 8 true false).outcome

/-- EDGE16, R1175. -/
def execEdge16 (rd rs1 rs2 : Reg) (s : State) : Host.Outcome State Fault Refusal :=
  (s.edge rd rs1 rs2 4 false true).outcome

/-- EDGE16N, R1176. -/
def execEdge16n (rd rs1 rs2 : Reg) (s : State) : Host.Outcome State Fault Refusal :=
  (s.edge rd rs1 rs2 4 false false).outcome

/-- EDGE16L, R1177. -/
def execEdge16l (rd rs1 rs2 : Reg) (s : State) : Host.Outcome State Fault Refusal :=
  (s.edge rd rs1 rs2 4 true true).outcome

/-- EDGE16LN, R1178. -/
def execEdge16ln (rd rs1 rs2 : Reg) (s : State) : Host.Outcome State Fault Refusal :=
  (s.edge rd rs1 rs2 4 true false).outcome

/-- EDGE32, R1179. -/
def execEdge32 (rd rs1 rs2 : Reg) (s : State) : Host.Outcome State Fault Refusal :=
  (s.edge rd rs1 rs2 2 false true).outcome

/-- EDGE32N, R1180. -/
def execEdge32n (rd rs1 rs2 : Reg) (s : State) : Host.Outcome State Fault Refusal :=
  (s.edge rd rs1 rs2 2 false false).outcome

/-- EDGE32L, R1181. -/
def execEdge32l (rd rs1 rs2 : Reg) (s : State) : Host.Outcome State Fault Refusal :=
  (s.edge rd rs1 rs2 2 true true).outcome

/-- EDGE32LN, R1182. -/
def execEdge32ln (rd rs1 rs2 : Reg) (s : State) : Host.Outcome State Fault Refusal :=
  (s.edge rd rs1 rs2 2 true false).outcome

/-! ## Array addressing -/

/-- ARRAY8, R1186. -/
def execArray8 (rd rs1 rs2 : Reg) (s : State) : Host.Outcome State Fault Refusal :=
  (s.array rd rs1 rs2 0).outcome

/-- ARRAY16, R1187. -/
def execArray16 (rd rs1 rs2 : Reg) (s : State) : Host.Outcome State Fault Refusal :=
  (s.array rd rs1 rs2 1).outcome

/-- ARRAY32, R1188. -/
def execArray32 (rd rs1 rs2 : Reg) (s : State) : Host.Outcome State Fault Refusal :=
  (s.array rd rs1 rs2 2).outcome

/-! ## Alignment and byte permutation -/

/-- ALIGNADDRESS, R1190. -/
def execAlignaddress (rd rs1 rs2 : Reg) (s : State) : Host.Outcome State Fault Refusal :=
  let sum := s.reg rs1 + s.reg rs2
  (s.needsFp ((s.setGsr (s.gsr.withAlign (sum.extractLsb' 0 3))).finish rd (sum.extractLsb' 3 61 ++ 0#3))).outcome

/-- ALIGNADDRESSL, R1191. -/
def execAlignaddressLittle (rd rs1 rs2 : Reg) (s : State) : Host.Outcome State Fault Refusal :=
  let sum := s.reg rs1 + s.reg rs2
  (s.needsFp ((s.setGsr (s.gsr.withAlign (-(sum.extractLsb' 0 3)))).finish rd (sum.extractLsb' 3 61 ++ 0#3))).outcome

/-- BMASK, R1192. -/
def execBmask (rd rs1 rs2 : Reg) (s : State) : Host.Outcome State Fault Refusal :=
  let sum := s.reg rs1 + s.reg rs2
  (s.needsFp ((s.setGsr (s.gsr.withMask (sum.setWidth 32))).finish rd sum)).outcome

/-- The byte of sixteen that a selector names (R1193). -/
def shuffleByte (a b : Word) (sel : BitVec 4) : BitVec 8 := if bitAt sel 3 then byteOf b (sel.toNat - 8) else byteOf a sel.toNat

/-- BSHUFFLE, R1193. -/
def execBshuffle (rd rs1 rs2 : Reg) (s : State) : Host.Outcome State Fault Refusal :=
  (s.visD rd (bytes8 (fun i =>
    shuffleByte (s.f64 rs1) (s.f64 rs2) (s.gsr.mask.extractLsb' (28 - 4 * i) 4)))).outcome

/-- FALIGNDATA, R1194. -/
def execFaligndata (rd rs1 rs2 : Reg) (s : State) : Host.Outcome State Fault Refusal :=
  let t : BitVec 128 := s.f64 rs1 ++ s.f64 rs2
  (s.visD rd ((t <<< (8 * s.gsr.align.toNat)).extractLsb' 64 64)).outcome

/-! ## Partitioned comparisons -/

/-- FCMPLE16, R1201. -/
def execFcmple16 (rd rs1 rs2 : Reg) (s : State) : Host.Outcome State Fault Refusal :=
  (s.compare16 rd rs1 rs2 (fun a b => decide (a ≤ b))).outcome

/-- FCMPNE16, R1202. -/
def execFcmpne16 (rd rs1 rs2 : Reg) (s : State) : Host.Outcome State Fault Refusal :=
  (s.compare16 rd rs1 rs2 (fun a b => decide (a ≠ b))).outcome

/-- FCMPLE32, R1203. -/
def execFcmple32 (rd rs1 rs2 : Reg) (s : State) : Host.Outcome State Fault Refusal :=
  (s.compare32 rd rs1 rs2 (fun a b => decide (a ≤ b))).outcome

/-- FCMPNE32, R1204. -/
def execFcmpne32 (rd rs1 rs2 : Reg) (s : State) : Host.Outcome State Fault Refusal :=
  (s.compare32 rd rs1 rs2 (fun a b => decide (a ≠ b))).outcome

/-- FCMPGT16, R1205. -/
def execFcmpgt16 (rd rs1 rs2 : Reg) (s : State) : Host.Outcome State Fault Refusal :=
  (s.compare16 rd rs1 rs2 (fun a b => decide (b < a))).outcome

/-- FCMPEQ16, R1206. -/
def execFcmpeq16 (rd rs1 rs2 : Reg) (s : State) : Host.Outcome State Fault Refusal :=
  (s.compare16 rd rs1 rs2 (fun a b => decide (a = b))).outcome

/-- FCMPGT32, R1207. -/
def execFcmpgt32 (rd rs1 rs2 : Reg) (s : State) : Host.Outcome State Fault Refusal :=
  (s.compare32 rd rs1 rs2 (fun a b => decide (b < a))).outcome

/-- FCMPEQ32, R1208. -/
def execFcmpeq32 (rd rs1 rs2 : Reg) (s : State) : Host.Outcome State Fault Refusal :=
  (s.compare32 rd rs1 rs2 (fun a b => decide (a = b))).outcome

/-! ## Partitioned multiplications -/

/-- FMUL8x16, R1211. -/
def execFmul8x16 (rd rs1 rs2 : Reg) (s : State) : Host.Outcome State Fault Refusal :=
  (s.visD rd (halves4 (fun i =>
    roundProduct (((byteOf32 (s.f32 rs1) i).toNat : Int) * (halfOf (s.f64 rs2) i).toInt)))).outcome

/-- FMUL8x16AU, R1212. -/
def execFmul8x16au (rd rs1 rs2 : Reg) (s : State) : Host.Outcome State Fault Refusal :=
  (s.visD rd (halves4 (fun i =>
    roundProduct (((byteOf32 (s.f32 rs1) i).toNat : Int) * (halfOf32 (s.f32 rs2) 0).toInt)))).outcome

/-- FMUL8x16AL, R1213. -/
def execFmul8x16al (rd rs1 rs2 : Reg) (s : State) : Host.Outcome State Fault Refusal :=
  (s.visD rd (halves4 (fun i =>
    roundProduct (((byteOf32 (s.f32 rs1) i).toNat : Int) * (halfOf32 (s.f32 rs2) 1).toInt)))).outcome

/-- FMUL8SUx16, R1214. -/
def execFmul8sux16 (rd rs1 rs2 : Reg) (s : State) : Host.Outcome State Fault Refusal :=
  (s.visD rd (halves4 (fun i =>
    roundProduct (((halfOf (s.f64 rs1) i).extractLsb' 8 8).toInt * (halfOf (s.f64 rs2) i).toInt)))).outcome

/-- FMUL8ULx16, R1215. -/
def execFmul8ulx16 (rd rs1 rs2 : Reg) (s : State) : Host.Outcome State Fault Refusal :=
  (s.visD rd (halves4 (fun i =>
    BitVec.ofInt 16
      (((((halfOf (s.f64 rs1) i).extractLsb' 0 8).toNat : Int) * (halfOf (s.f64 rs2) i).toInt + 0x8000) / 65536)))).outcome

/-- FMULD8SUx16, R1216. -/
def execFmuld8sux16 (rd rs1 rs2 : Reg) (s : State) : Host.Outcome State Fault Refusal :=
  (s.visD rd (words2 (fun i =>
    BitVec.ofInt 32 (((halfOf32 (s.f32 rs1) i).extractLsb' 8 8).toInt * (halfOf32 (s.f32 rs2) i).toInt * 256)))).outcome

/-- FMULD8ULx16, R1217. -/
def execFmuld8ulx16 (rd rs1 rs2 : Reg) (s : State) : Host.Outcome State Fault Refusal :=
  (s.visD rd (words2 (fun i =>
    BitVec.ofInt 32 ((((halfOf32 (s.f32 rs1) i).extractLsb' 0 8).toNat : Int) * (halfOf32 (s.f32 rs2) i).toInt)))).outcome

/-! ## Pack, expand, merge, distance -/

/-- FPACK16, R1220: bit 4 of the scale is ignored. -/
def execFpack16 (rd rs2 : Reg) (s : State) : Host.Outcome State Fault Refusal :=
  (s.visS rd (bytes4 (fun i =>
    BitVec.ofInt 8 (clampInt ((halfOf (s.f64 rs2) i).toInt * 2 ^ (s.gsr.scale.toNat % 16) / 128) 0 255)))).outcome

/-- FPACK32, R1221. -/
def execFpack32 (rd rs1 rs2 : Reg) (s : State) : Host.Outcome State Fault Refusal :=
  (s.visD rd (words2 (fun i =>
    (wordOf (s.f64 rs1) i).extractLsb' 0 24 ++
      BitVec.ofInt 8 (clampInt ((wordOf (s.f64 rs2) i).toInt * 2 ^ s.gsr.scale.toNat / 8388608) 0 255)))).outcome

/-- FPACKFIX, R1222. -/
def execFpackfix (rd rs2 : Reg) (s : State) : Host.Outcome State Fault Refusal :=
  (s.visS rd (halves2 (fun i =>
    BitVec.ofInt 16 (clampInt ((wordOf (s.f64 rs2) i).toInt * 2 ^ s.gsr.scale.toNat / 65536) (-32768) 32767)))).outcome

/-- FEXPAND, R1223. -/
def execFexpand (rd rs2 : Reg) (s : State) : Host.Outcome State Fault Refusal :=
  (s.visD rd (halves4 (fun i => 0#4 ++ byteOf32 (s.f32 rs2) i ++ 0#4))).outcome

/-- FPMERGE, R1224. -/
def execFpmerge (rd rs1 rs2 : Reg) (s : State) : Host.Outcome State Fault Refusal :=
  (s.visD rd (bytes8 (fun i =>
    if i % 2 = 0 then byteOf32 (s.f32 rs1) (i / 2) else byteOf32 (s.f32 rs2) (i / 2)))).outcome

/-- The distance of two bytes (R1225). -/
def byteDistance (a b : BitVec 8) : Nat := (a.toNat - b.toNat) + (b.toNat - a.toNat)

/-- PDIST, R1225: the destination is also a source. -/
def execPdist (rd rs1 rs2 : Reg) (s : State) : Host.Outcome State Fault Refusal :=
  let sum := (List.range 8).foldl (fun acc i => acc + byteDistance (byteOf (s.f64 rs1) i) (byteOf (s.f64 rs2) i)) 0
  (s.visD rd (s.f64 rd + BitVec.ofNat 64 sum)).outcome

/-! ## Partitioned additions and subtractions -/

/-- FPADD16, R1230. -/
def execFpadd16 (rd rs1 rs2 : Reg) (s : State) : Host.Outcome State Fault Refusal :=
  (s.visD rd (halves4 (fun i => halfOf (s.f64 rs1) i + halfOf (s.f64 rs2) i))).outcome

/-- FPADD16S, R1231. -/
def execFpadd16s (rd rs1 rs2 : Reg) (s : State) : Host.Outcome State Fault Refusal :=
  (s.visS rd (halves2 (fun i => halfOf32 (s.f32 rs1) i + halfOf32 (s.f32 rs2) i))).outcome

/-- FPADD32, R1232. -/
def execFpadd32 (rd rs1 rs2 : Reg) (s : State) : Host.Outcome State Fault Refusal :=
  (s.visD rd (words2 (fun i => wordOf (s.f64 rs1) i + wordOf (s.f64 rs2) i))).outcome

/-- FPADD32S, R1233. -/
def execFpadd32s (rd rs1 rs2 : Reg) (s : State) : Host.Outcome State Fault Refusal :=
  (s.visS rd (s.f32 rs1 + s.f32 rs2)).outcome

/-- FPSUB16, R1234. -/
def execFpsub16 (rd rs1 rs2 : Reg) (s : State) : Host.Outcome State Fault Refusal :=
  (s.visD rd (halves4 (fun i => halfOf (s.f64 rs1) i - halfOf (s.f64 rs2) i))).outcome

/-- FPSUB16S, R1235. -/
def execFpsub16s (rd rs1 rs2 : Reg) (s : State) : Host.Outcome State Fault Refusal :=
  (s.visS rd (halves2 (fun i => halfOf32 (s.f32 rs1) i - halfOf32 (s.f32 rs2) i))).outcome

/-- FPSUB32, R1236. -/
def execFpsub32 (rd rs1 rs2 : Reg) (s : State) : Host.Outcome State Fault Refusal :=
  (s.visD rd (words2 (fun i => wordOf (s.f64 rs1) i - wordOf (s.f64 rs2) i))).outcome

/-- FPSUB32S, R1237. -/
def execFpsub32s (rd rs1 rs2 : Reg) (s : State) : Host.Outcome State Fault Refusal :=
  (s.visS rd (s.f32 rs1 - s.f32 rs2)).outcome

/-! ## Logical operations -/

/-- FZERO, R1241. -/
def execFzero (rd : Reg) (s : State) : Host.Outcome State Fault Refusal :=
  (s.visD rd (0)).outcome

/-- FZEROS, R1242. -/
def execFzeros (rd : Reg) (s : State) : Host.Outcome State Fault Refusal :=
  (s.visS rd (0)).outcome

/-- FNOR, R1243. -/
def execFnor (rd rs1 rs2 : Reg) (s : State) : Host.Outcome State Fault Refusal :=
  (s.visD rd (~~~(s.f64 rs1 ||| s.f64 rs2))).outcome

/-- FNORS, R1244. -/
def execFnors (rd rs1 rs2 : Reg) (s : State) : Host.Outcome State Fault Refusal :=
  (s.visS rd (~~~(s.f32 rs1 ||| s.f32 rs2))).outcome

/-- FANDNOT2, R1245. -/
def execFandnot2 (rd rs1 rs2 : Reg) (s : State) : Host.Outcome State Fault Refusal :=
  (s.visD rd (s.f64 rs1 &&& ~~~(s.f64 rs2))).outcome

/-- FANDNOT2S, R1246. -/
def execFandnot2s (rd rs1 rs2 : Reg) (s : State) : Host.Outcome State Fault Refusal :=
  (s.visS rd (s.f32 rs1 &&& ~~~(s.f32 rs2))).outcome

/-- FNOT2, R1247. -/
def execFnot2 (rd rs2 : Reg) (s : State) : Host.Outcome State Fault Refusal :=
  (s.visD rd (~~~(s.f64 rs2))).outcome

/-- FNOT2S, R1248. -/
def execFnot2s (rd rs2 : Reg) (s : State) : Host.Outcome State Fault Refusal :=
  (s.visS rd (~~~(s.f32 rs2))).outcome

/-- FANDNOT1, R1249. -/
def execFandnot1 (rd rs1 rs2 : Reg) (s : State) : Host.Outcome State Fault Refusal :=
  (s.visD rd (~~~(s.f64 rs1) &&& s.f64 rs2)).outcome

/-- FANDNOT1S, R1250. -/
def execFandnot1s (rd rs1 rs2 : Reg) (s : State) : Host.Outcome State Fault Refusal :=
  (s.visS rd (~~~(s.f32 rs1) &&& s.f32 rs2)).outcome

/-- FNOT1, R1251. -/
def execFnot1 (rd rs1 : Reg) (s : State) : Host.Outcome State Fault Refusal :=
  (s.visD rd (~~~(s.f64 rs1))).outcome

/-- FNOT1S, R1252. -/
def execFnot1s (rd rs1 : Reg) (s : State) : Host.Outcome State Fault Refusal :=
  (s.visS rd (~~~(s.f32 rs1))).outcome

/-- FXOR, R1253. -/
def execFxor (rd rs1 rs2 : Reg) (s : State) : Host.Outcome State Fault Refusal :=
  (s.visD rd (s.f64 rs1 ^^^ s.f64 rs2)).outcome

/-- FXORS, R1254. -/
def execFxors (rd rs1 rs2 : Reg) (s : State) : Host.Outcome State Fault Refusal :=
  (s.visS rd (s.f32 rs1 ^^^ s.f32 rs2)).outcome

/-- FNAND, R1255. -/
def execFnand (rd rs1 rs2 : Reg) (s : State) : Host.Outcome State Fault Refusal :=
  (s.visD rd (~~~(s.f64 rs1 &&& s.f64 rs2))).outcome

/-- FNANDS, R1256. -/
def execFnands (rd rs1 rs2 : Reg) (s : State) : Host.Outcome State Fault Refusal :=
  (s.visS rd (~~~(s.f32 rs1 &&& s.f32 rs2))).outcome

/-- FAND, R1257. -/
def execFand (rd rs1 rs2 : Reg) (s : State) : Host.Outcome State Fault Refusal :=
  (s.visD rd (s.f64 rs1 &&& s.f64 rs2)).outcome

/-- FANDS, R1258. -/
def execFands (rd rs1 rs2 : Reg) (s : State) : Host.Outcome State Fault Refusal :=
  (s.visS rd (s.f32 rs1 &&& s.f32 rs2)).outcome

/-- FXNOR, R1259. -/
def execFxnor (rd rs1 rs2 : Reg) (s : State) : Host.Outcome State Fault Refusal :=
  (s.visD rd (~~~(s.f64 rs1 ^^^ s.f64 rs2))).outcome

/-- FXNORS, R1260. -/
def execFxnors (rd rs1 rs2 : Reg) (s : State) : Host.Outcome State Fault Refusal :=
  (s.visS rd (~~~(s.f32 rs1 ^^^ s.f32 rs2))).outcome

/-- FSRC1, R1261. -/
def execFsrc1 (rd rs1 : Reg) (s : State) : Host.Outcome State Fault Refusal :=
  (s.visD rd (s.f64 rs1)).outcome

/-- FSRC1S, R1262. -/
def execFsrc1s (rd rs1 : Reg) (s : State) : Host.Outcome State Fault Refusal :=
  (s.visS rd (s.f32 rs1)).outcome

/-- FORNOT2, R1263. -/
def execFornot2 (rd rs1 rs2 : Reg) (s : State) : Host.Outcome State Fault Refusal :=
  (s.visD rd (s.f64 rs1 ||| ~~~(s.f64 rs2))).outcome

/-- FORNOT2S, R1264. -/
def execFornot2s (rd rs1 rs2 : Reg) (s : State) : Host.Outcome State Fault Refusal :=
  (s.visS rd (s.f32 rs1 ||| ~~~(s.f32 rs2))).outcome

/-- FSRC2, R1265. -/
def execFsrc2 (rd rs2 : Reg) (s : State) : Host.Outcome State Fault Refusal :=
  (s.visD rd (s.f64 rs2)).outcome

/-- FSRC2S, R1266. -/
def execFsrc2s (rd rs2 : Reg) (s : State) : Host.Outcome State Fault Refusal :=
  (s.visS rd (s.f32 rs2)).outcome

/-- FORNOT1, R1267. -/
def execFornot1 (rd rs1 rs2 : Reg) (s : State) : Host.Outcome State Fault Refusal :=
  (s.visD rd (~~~(s.f64 rs1) ||| s.f64 rs2)).outcome

/-- FORNOT1S, R1268. -/
def execFornot1s (rd rs1 rs2 : Reg) (s : State) : Host.Outcome State Fault Refusal :=
  (s.visS rd (~~~(s.f32 rs1) ||| s.f32 rs2)).outcome

/-- FOR, R1269. -/
def execForD (rd rs1 rs2 : Reg) (s : State) : Host.Outcome State Fault Refusal :=
  (s.visD rd (s.f64 rs1 ||| s.f64 rs2)).outcome

/-- FORS, R1270. -/
def execForS (rd rs1 rs2 : Reg) (s : State) : Host.Outcome State Fault Refusal :=
  (s.visS rd (s.f32 rs1 ||| s.f32 rs2)).outcome

/-- FONE, R1271. -/
def execFone (rd : Reg) (s : State) : Host.Outcome State Fault Refusal :=
  (s.visD rd (BitVec.allOnes 64)).outcome

/-- FONES, R1272. -/
def execFones (rd : Reg) (s : State) : Host.Outcome State Fault Refusal :=
  (s.visS rd (BitVec.allOnes 32)).outcome

/-! ## Interval arithmetic mode -/

/-- SIAM, R1275. -/
def execSiam (mode : BitVec 3) (s : State) : Host.Outcome State Fault Refusal :=
  (s.needsFp (.ok () (s.setGsr { s.gsr with im := bitAt mode 2, irnd := mode.setWidth 2 }).advance)).outcome

end Sys2Proof.Machine
end

