-- ==== Sys2Proof/Machine/Dispatch.lean ====
section
/-! DEFINITION. Machine/Dispatch.lean: one arm for each instruction, each a call of the instruction's own meaning. -/

namespace Sys2Proof.Machine

/-- The meaning of an instruction at the present state, whose PC is the address of the instruction. -/
def exec (i : Instr) (s : State) : Host.Outcome State Fault Refusal :=
  match i with
  | .call disp30 => Sys2Proof.Machine.execCall disp30 s
  | .illtrap rd const22 => Sys2Proof.Machine.execIlltrap rd const22 s
  | .bpcc annul cond cc p disp19 => Sys2Proof.Machine.execBpcc annul cond cc p disp19 s
  | .bicc annul cond disp22 => Sys2Proof.Machine.execBicc annul cond disp22 s
  | .bpr annul rcond p rs1 disp16 => Sys2Proof.Machine.execBpr annul rcond p rs1 disp16 s
  | .nop => Sys2Proof.Machine.execNop s
  | .sethi rd imm22 => Sys2Proof.Machine.execSethi rd imm22 s
  | .fbpfcc annul cond fcc p disp19 => Sys2Proof.Machine.execFbpfcc annul cond fcc p disp19 s
  | .fbfcc annul cond disp22 => Sys2Proof.Machine.execFbfcc annul cond disp22 s
  | .add rd rs1 op2 => Sys2Proof.Machine.execAdd rd rs1 op2 s
  | .andI rd rs1 op2 => Sys2Proof.Machine.execAndI rd rs1 op2 s
  | .orI rd rs1 op2 => Sys2Proof.Machine.execOrI rd rs1 op2 s
  | .xorI rd rs1 op2 => Sys2Proof.Machine.execXorI rd rs1 op2 s
  | .sub rd rs1 op2 => Sys2Proof.Machine.execSub rd rs1 op2 s
  | .andn rd rs1 op2 => Sys2Proof.Machine.execAndn rd rs1 op2 s
  | .orn rd rs1 op2 => Sys2Proof.Machine.execOrn rd rs1 op2 s
  | .xnor rd rs1 op2 => Sys2Proof.Machine.execXnor rd rs1 op2 s
  | .addc rd rs1 op2 => Sys2Proof.Machine.execAddc rd rs1 op2 s
  | .mulx rd rs1 op2 => Sys2Proof.Machine.execMulx rd rs1 op2 s
  | .umul rd rs1 op2 => Sys2Proof.Machine.execUmul rd rs1 op2 s
  | .smul rd rs1 op2 => Sys2Proof.Machine.execSmul rd rs1 op2 s
  | .subc rd rs1 op2 => Sys2Proof.Machine.execSubc rd rs1 op2 s
  | .udivx rd rs1 op2 => Sys2Proof.Machine.execUdivx rd rs1 op2 s
  | .udiv rd rs1 op2 => Sys2Proof.Machine.execUdiv rd rs1 op2 s
  | .sdiv rd rs1 op2 => Sys2Proof.Machine.execSdiv rd rs1 op2 s
  | .addcc rd rs1 op2 => Sys2Proof.Machine.execAddcc rd rs1 op2 s
  | .andcc rd rs1 op2 => Sys2Proof.Machine.execAndcc rd rs1 op2 s
  | .orcc rd rs1 op2 => Sys2Proof.Machine.execOrcc rd rs1 op2 s
  | .xorcc rd rs1 op2 => Sys2Proof.Machine.execXorcc rd rs1 op2 s
  | .subcc rd rs1 op2 => Sys2Proof.Machine.execSubcc rd rs1 op2 s
  | .andncc rd rs1 op2 => Sys2Proof.Machine.execAndncc rd rs1 op2 s
  | .orncc rd rs1 op2 => Sys2Proof.Machine.execOrncc rd rs1 op2 s
  | .xnorcc rd rs1 op2 => Sys2Proof.Machine.execXnorcc rd rs1 op2 s
  | .addccc rd rs1 op2 => Sys2Proof.Machine.execAddccc rd rs1 op2 s
  | .umulcc rd rs1 op2 => Sys2Proof.Machine.execUmulcc rd rs1 op2 s
  | .smulcc rd rs1 op2 => Sys2Proof.Machine.execSmulcc rd rs1 op2 s
  | .subccc rd rs1 op2 => Sys2Proof.Machine.execSubccc rd rs1 op2 s
  | .udivcc rd rs1 op2 => Sys2Proof.Machine.execUdivcc rd rs1 op2 s
  | .sdivcc rd rs1 op2 => Sys2Proof.Machine.execSdivcc rd rs1 op2 s
  | .taddcc rd rs1 op2 => Sys2Proof.Machine.execTaddcc rd rs1 op2 s
  | .tsubcc rd rs1 op2 => Sys2Proof.Machine.execTsubcc rd rs1 op2 s
  | .taddcctv rd rs1 op2 => Sys2Proof.Machine.execTaddcctv rd rs1 op2 s
  | .tsubcctv rd rs1 op2 => Sys2Proof.Machine.execTsubcctv rd rs1 op2 s
  | .mulscc rd rs1 op2 => Sys2Proof.Machine.execMulscc rd rs1 op2 s
  | .sdivx rd rs1 op2 => Sys2Proof.Machine.execSdivx rd rs1 op2 s
  | .sll rd rs1 cnt => Sys2Proof.Machine.execSll rd rs1 cnt s
  | .sllx rd rs1 cnt => Sys2Proof.Machine.execSllx rd rs1 cnt s
  | .srl rd rs1 cnt => Sys2Proof.Machine.execSrl rd rs1 cnt s
  | .srlx rd rs1 cnt => Sys2Proof.Machine.execSrlx rd rs1 cnt s
  | .sra rd rs1 cnt => Sys2Proof.Machine.execSra rd rs1 cnt s
  | .srax rd rs1 cnt => Sys2Proof.Machine.execSrax rd rs1 cnt s
  | .popc rd op2 => Sys2Proof.Machine.execPopc rd op2 s
  | .movcc rd c op2 => Sys2Proof.Machine.execMovcc rd c op2 s
  | .movr rd rs1 rcond op2 => Sys2Proof.Machine.execMovr rd rs1 rcond op2 s
  | .jmpl rd rs1 op2 => Sys2Proof.Machine.execJmpl rd rs1 op2 s
  | .returnI rs1 op2 => Sys2Proof.Machine.execReturnI rs1 op2 s
  | .tcc cond cc rs1 op2 => Sys2Proof.Machine.execTcc cond cc rs1 op2 s
  | .save rd rs1 op2 => Sys2Proof.Machine.execSave rd rs1 op2 s
  | .restore rd rs1 op2 => Sys2Proof.Machine.execRestore rd rs1 op2 s
  | .done => Sys2Proof.Machine.execDone s
  | .retry => Sys2Proof.Machine.execRetry s
  | .saved => Sys2Proof.Machine.execSaved s
  | .restored => Sys2Proof.Machine.execRestored s
  | .allclean => Sys2Proof.Machine.execAllclean s
  | .otherw => Sys2Proof.Machine.execOtherw s
  | .normalw => Sys2Proof.Machine.execNormalw s
  | .invalw => Sys2Proof.Machine.execInvalw s
  | .flushw => Sys2Proof.Machine.execFlushw s
  | .rdY rd => Sys2Proof.Machine.execRdY rd s
  | .rdCcr rd => Sys2Proof.Machine.execRdCcr rd s
  | .rdAsi rd => Sys2Proof.Machine.execRdAsi rd s
  | .rdTick rd => Sys2Proof.Machine.execRdTick rd s
  | .rdPc rd => Sys2Proof.Machine.execRdPc rd s
  | .rdFprs rd => Sys2Proof.Machine.execRdFprs rd s
  | .rdPcr rd => Sys2Proof.Machine.execRdPcr rd s
  | .rdPic rd => Sys2Proof.Machine.execRdPic rd s
  | .rdGsr rd => Sys2Proof.Machine.execRdGsr rd s
  | .rdSoftint rd => Sys2Proof.Machine.execRdSoftint rd s
  | .rdTickCmpr rd => Sys2Proof.Machine.execRdTickCmpr rd s
  | .rdStick rd => Sys2Proof.Machine.execRdStick rd s
  | .rdStickCmpr rd => Sys2Proof.Machine.execRdStickCmpr rd s
  | .stbar => Sys2Proof.Machine.execStbar s
  | .membar cmask mmask => Sys2Proof.Machine.execMembar cmask mmask s
  | .wrY rs1 op2 => Sys2Proof.Machine.execWrY rs1 op2 s
  | .wrCcr rs1 op2 => Sys2Proof.Machine.execWrCcr rs1 op2 s
  | .wrAsi rs1 op2 => Sys2Proof.Machine.execWrAsi rs1 op2 s
  | .wrTick rs1 op2 => Sys2Proof.Machine.execWrTick rs1 op2 s
  | .wrFprs rs1 op2 => Sys2Proof.Machine.execWrFprs rs1 op2 s
  | .wrPcr rs1 op2 => Sys2Proof.Machine.execWrPcr rs1 op2 s
  | .wrPic rs1 op2 => Sys2Proof.Machine.execWrPic rs1 op2 s
  | .wrGsr rs1 op2 => Sys2Proof.Machine.execWrGsr rs1 op2 s
  | .wrSoftintSet rs1 op2 => Sys2Proof.Machine.execWrSoftintSet rs1 op2 s
  | .wrSoftintClr rs1 op2 => Sys2Proof.Machine.execWrSoftintClr rs1 op2 s
  | .wrSoftint rs1 op2 => Sys2Proof.Machine.execWrSoftint rs1 op2 s
  | .wrTickCmpr rs1 op2 => Sys2Proof.Machine.execWrTickCmpr rs1 op2 s
  | .wrStick rs1 op2 => Sys2Proof.Machine.execWrStick rs1 op2 s
  | .wrStickCmpr rs1 op2 => Sys2Proof.Machine.execWrStickCmpr rs1 op2 s
  | .sir simm13 => Sys2Proof.Machine.execSir simm13 s
  | .rdprTpc rd => Sys2Proof.Machine.execRdprTpc rd s
  | .rdprTnpc rd => Sys2Proof.Machine.execRdprTnpc rd s
  | .rdprTstate rd => Sys2Proof.Machine.execRdprTstate rd s
  | .rdprTt rd => Sys2Proof.Machine.execRdprTt rd s
  | .rdprTick rd => Sys2Proof.Machine.execRdprTick rd s
  | .rdprTba rd => Sys2Proof.Machine.execRdprTba rd s
  | .rdprPstate rd => Sys2Proof.Machine.execRdprPstate rd s
  | .rdprTl rd => Sys2Proof.Machine.execRdprTl rd s
  | .rdprPil rd => Sys2Proof.Machine.execRdprPil rd s
  | .rdprCwp rd => Sys2Proof.Machine.execRdprCwp rd s
  | .rdprCansave rd => Sys2Proof.Machine.execRdprCansave rd s
  | .rdprCanrestore rd => Sys2Proof.Machine.execRdprCanrestore rd s
  | .rdprCleanwin rd => Sys2Proof.Machine.execRdprCleanwin rd s
  | .rdprOtherwin rd => Sys2Proof.Machine.execRdprOtherwin rd s
  | .rdprWstate rd => Sys2Proof.Machine.execRdprWstate rd s
  | .rdprGl rd => Sys2Proof.Machine.execRdprGl rd s
  | .wrprTpc rs1 op2 => Sys2Proof.Machine.execWrprTpc rs1 op2 s
  | .wrprTnpc rs1 op2 => Sys2Proof.Machine.execWrprTnpc rs1 op2 s
  | .wrprTstate rs1 op2 => Sys2Proof.Machine.execWrprTstate rs1 op2 s
  | .wrprTt rs1 op2 => Sys2Proof.Machine.execWrprTt rs1 op2 s
  | .wrprTick rs1 op2 => Sys2Proof.Machine.execWrprTick rs1 op2 s
  | .wrprTba rs1 op2 => Sys2Proof.Machine.execWrprTba rs1 op2 s
  | .wrprPstate rs1 op2 => Sys2Proof.Machine.execWrprPstate rs1 op2 s
  | .wrprTl rs1 op2 => Sys2Proof.Machine.execWrprTl rs1 op2 s
  | .wrprPil rs1 op2 => Sys2Proof.Machine.execWrprPil rs1 op2 s
  | .wrprCwp rs1 op2 => Sys2Proof.Machine.execWrprCwp rs1 op2 s
  | .wrprCansave rs1 op2 => Sys2Proof.Machine.execWrprCansave rs1 op2 s
  | .wrprCanrestore rs1 op2 => Sys2Proof.Machine.execWrprCanrestore rs1 op2 s
  | .wrprCleanwin rs1 op2 => Sys2Proof.Machine.execWrprCleanwin rs1 op2 s
  | .wrprOtherwin rs1 op2 => Sys2Proof.Machine.execWrprOtherwin rs1 op2 s
  | .wrprWstate rs1 op2 => Sys2Proof.Machine.execWrprWstate rs1 op2 s
  | .wrprGl rs1 op2 => Sys2Proof.Machine.execWrprGl rs1 op2 s
  | .rdhprHpstate rd => Sys2Proof.Machine.execRdhprHpstate rd s
  | .rdhprHtstate rd => Sys2Proof.Machine.execRdhprHtstate rd s
  | .rdhprHintp rd => Sys2Proof.Machine.execRdhprHintp rd s
  | .rdhprHtba rd => Sys2Proof.Machine.execRdhprHtba rd s
  | .rdhprHver rd => Sys2Proof.Machine.execRdhprHver rd s
  | .rdhprHalt rd => Sys2Proof.Machine.execRdhprHalt rd s
  | .rdhprHstickCmpr rd => Sys2Proof.Machine.execRdhprHstickCmpr rd s
  | .wrhprHpstate rs1 op2 => Sys2Proof.Machine.execWrhprHpstate rs1 op2 s
  | .wrhprHtstate rs1 op2 => Sys2Proof.Machine.execWrhprHtstate rs1 op2 s
  | .wrhprHintp rs1 op2 => Sys2Proof.Machine.execWrhprHintp rs1 op2 s
  | .wrhprHtba rs1 op2 => Sys2Proof.Machine.execWrhprHtba rs1 op2 s
  | .wrhprHver rs1 op2 => Sys2Proof.Machine.execWrhprHver rs1 op2 s
  | .halt rs1 op2 => Sys2Proof.Machine.execHalt rs1 op2 s
  | .wrhprHstickCmpr rs1 op2 => Sys2Proof.Machine.execWrhprHstickCmpr rs1 op2 s
  | .flush rs1 op2 => Sys2Proof.Machine.execFlush rs1 op2 s
  | .impdep2 rd rest => Sys2Proof.Machine.execImpdep2 rd rest s
  | .fmovs rd rs2 => Sys2Proof.Machine.execFmovs rd rs2 s
  | .fmovd rd rs2 => Sys2Proof.Machine.execFmovd rd rs2 s
  | .fnegs rd rs2 => Sys2Proof.Machine.execFnegs rd rs2 s
  | .fnegd rd rs2 => Sys2Proof.Machine.execFnegd rd rs2 s
  | .fabss rd rs2 => Sys2Proof.Machine.execFabss rd rs2 s
  | .fabsd rd rs2 => Sys2Proof.Machine.execFabsd rd rs2 s
  | .fsqrts rd rs2 => Sys2Proof.Machine.execFsqrts rd rs2 s
  | .fsqrtd rd rs2 => Sys2Proof.Machine.execFsqrtd rd rs2 s
  | .fadds rd rs1 rs2 => Sys2Proof.Machine.execFadds rd rs1 rs2 s
  | .faddd rd rs1 rs2 => Sys2Proof.Machine.execFaddd rd rs1 rs2 s
  | .fsubs rd rs1 rs2 => Sys2Proof.Machine.execFsubs rd rs1 rs2 s
  | .fsubd rd rs1 rs2 => Sys2Proof.Machine.execFsubd rd rs1 rs2 s
  | .fmuls rd rs1 rs2 => Sys2Proof.Machine.execFmuls rd rs1 rs2 s
  | .fmuld rd rs1 rs2 => Sys2Proof.Machine.execFmuld rd rs1 rs2 s
  | .fdivs rd rs1 rs2 => Sys2Proof.Machine.execFdivs rd rs1 rs2 s
  | .fdivd rd rs1 rs2 => Sys2Proof.Machine.execFdivd rd rs1 rs2 s
  | .fsmuld rd rs1 rs2 => Sys2Proof.Machine.execFsmuld rd rs1 rs2 s
  | .fstox rd rs2 => Sys2Proof.Machine.execFstox rd rs2 s
  | .fdtox rd rs2 => Sys2Proof.Machine.execFdtox rd rs2 s
  | .fxtos rd rs2 => Sys2Proof.Machine.execFxtos rd rs2 s
  | .fxtod rd rs2 => Sys2Proof.Machine.execFxtod rd rs2 s
  | .fitos rd rs2 => Sys2Proof.Machine.execFitos rd rs2 s
  | .fdtos rd rs2 => Sys2Proof.Machine.execFdtos rd rs2 s
  | .fitod rd rs2 => Sys2Proof.Machine.execFitod rd rs2 s
  | .fstod rd rs2 => Sys2Proof.Machine.execFstod rd rs2 s
  | .fstoi rd rs2 => Sys2Proof.Machine.execFstoi rd rs2 s
  | .fdtoi rd rs2 => Sys2Proof.Machine.execFdtoi rd rs2 s
  | .fmovq rd rs1 rs2 => Sys2Proof.Machine.execFmovq rd rs1 rs2 s
  | .fnegq rd rs1 rs2 => Sys2Proof.Machine.execFnegq rd rs1 rs2 s
  | .fabsq rd rs1 rs2 => Sys2Proof.Machine.execFabsq rd rs1 rs2 s
  | .fsqrtq rd rs1 rs2 => Sys2Proof.Machine.execFsqrtq rd rs1 rs2 s
  | .faddq rd rs1 rs2 => Sys2Proof.Machine.execFaddq rd rs1 rs2 s
  | .fsubq rd rs1 rs2 => Sys2Proof.Machine.execFsubq rd rs1 rs2 s
  | .fmulq rd rs1 rs2 => Sys2Proof.Machine.execFmulq rd rs1 rs2 s
  | .fdivq rd rs1 rs2 => Sys2Proof.Machine.execFdivq rd rs1 rs2 s
  | .fdmulq rd rs1 rs2 => Sys2Proof.Machine.execFdmulq rd rs1 rs2 s
  | .fqtox rd rs1 rs2 => Sys2Proof.Machine.execFqtox rd rs1 rs2 s
  | .fxtoq rd rs1 rs2 => Sys2Proof.Machine.execFxtoq rd rs1 rs2 s
  | .fqtos rd rs1 rs2 => Sys2Proof.Machine.execFqtos rd rs1 rs2 s
  | .fqtod rd rs1 rs2 => Sys2Proof.Machine.execFqtod rd rs1 rs2 s
  | .fitoq rd rs1 rs2 => Sys2Proof.Machine.execFitoq rd rs1 rs2 s
  | .fstoq rd rs1 rs2 => Sys2Proof.Machine.execFstoq rd rs1 rs2 s
  | .fdtoq rd rs1 rs2 => Sys2Proof.Machine.execFdtoq rd rs1 rs2 s
  | .fqtoi rd rs1 rs2 => Sys2Proof.Machine.execFqtoi rd rs1 rs2 s
  | .fcmps fcc rs1 rs2 => Sys2Proof.Machine.execFcmps fcc rs1 rs2 s
  | .fcmpd fcc rs1 rs2 => Sys2Proof.Machine.execFcmpd fcc rs1 rs2 s
  | .fcmpes fcc rs1 rs2 => Sys2Proof.Machine.execFcmpes fcc rs1 rs2 s
  | .fcmped fcc rs1 rs2 => Sys2Proof.Machine.execFcmped fcc rs1 rs2 s
  | .fcmpq rd rs1 rs2 => Sys2Proof.Machine.execFcmpq rd rs1 rs2 s
  | .fcmpeq rd rs1 rs2 => Sys2Proof.Machine.execFcmpeq rd rs1 rs2 s
  | .fmovscc rd c rs2 => Sys2Proof.Machine.execFmovscc rd c rs2 s
  | .fmovdcc rd c rs2 => Sys2Proof.Machine.execFmovdcc rd c rs2 s
  | .fmovqcc rd cond opfCc rs2 => Sys2Proof.Machine.execFmovqcc rd cond opfCc rs2 s
  | .fmovrs rd rs1 rcond rs2 => Sys2Proof.Machine.execFmovrs rd rs1 rcond rs2 s
  | .fmovrd rd rs1 rcond rs2 => Sys2Proof.Machine.execFmovrd rd rs1 rcond rs2 s
  | .fmovrq rd rs1 rcond rs2 => Sys2Proof.Machine.execFmovrq rd rs1 rcond rs2 s
  | .edge8 rd rs1 rs2 => Sys2Proof.Machine.execEdge8 rd rs1 rs2 s
  | .edge8n rd rs1 rs2 => Sys2Proof.Machine.execEdge8n rd rs1 rs2 s
  | .edge8l rd rs1 rs2 => Sys2Proof.Machine.execEdge8l rd rs1 rs2 s
  | .edge8ln rd rs1 rs2 => Sys2Proof.Machine.execEdge8ln rd rs1 rs2 s
  | .edge16 rd rs1 rs2 => Sys2Proof.Machine.execEdge16 rd rs1 rs2 s
  | .edge16n rd rs1 rs2 => Sys2Proof.Machine.execEdge16n rd rs1 rs2 s
  | .edge16l rd rs1 rs2 => Sys2Proof.Machine.execEdge16l rd rs1 rs2 s
  | .edge16ln rd rs1 rs2 => Sys2Proof.Machine.execEdge16ln rd rs1 rs2 s
  | .edge32 rd rs1 rs2 => Sys2Proof.Machine.execEdge32 rd rs1 rs2 s
  | .edge32n rd rs1 rs2 => Sys2Proof.Machine.execEdge32n rd rs1 rs2 s
  | .edge32l rd rs1 rs2 => Sys2Proof.Machine.execEdge32l rd rs1 rs2 s
  | .edge32ln rd rs1 rs2 => Sys2Proof.Machine.execEdge32ln rd rs1 rs2 s
  | .array8 rd rs1 rs2 => Sys2Proof.Machine.execArray8 rd rs1 rs2 s
  | .array16 rd rs1 rs2 => Sys2Proof.Machine.execArray16 rd rs1 rs2 s
  | .array32 rd rs1 rs2 => Sys2Proof.Machine.execArray32 rd rs1 rs2 s
  | .alignaddress rd rs1 rs2 => Sys2Proof.Machine.execAlignaddress rd rs1 rs2 s
  | .bmask rd rs1 rs2 => Sys2Proof.Machine.execBmask rd rs1 rs2 s
  | .alignaddressLittle rd rs1 rs2 => Sys2Proof.Machine.execAlignaddressLittle rd rs1 rs2 s
  | .fcmple16 rd rs1 rs2 => Sys2Proof.Machine.execFcmple16 rd rs1 rs2 s
  | .fcmpne16 rd rs1 rs2 => Sys2Proof.Machine.execFcmpne16 rd rs1 rs2 s
  | .fcmple32 rd rs1 rs2 => Sys2Proof.Machine.execFcmple32 rd rs1 rs2 s
  | .fcmpne32 rd rs1 rs2 => Sys2Proof.Machine.execFcmpne32 rd rs1 rs2 s
  | .fcmpgt16 rd rs1 rs2 => Sys2Proof.Machine.execFcmpgt16 rd rs1 rs2 s
  | .fcmpeq16 rd rs1 rs2 => Sys2Proof.Machine.execFcmpeq16 rd rs1 rs2 s
  | .fcmpgt32 rd rs1 rs2 => Sys2Proof.Machine.execFcmpgt32 rd rs1 rs2 s
  | .fcmpeq32 rd rs1 rs2 => Sys2Proof.Machine.execFcmpeq32 rd rs1 rs2 s
  | .fmul8x16 rd rs1 rs2 => Sys2Proof.Machine.execFmul8x16 rd rs1 rs2 s
  | .fmul8x16au rd rs1 rs2 => Sys2Proof.Machine.execFmul8x16au rd rs1 rs2 s
  | .fmul8x16al rd rs1 rs2 => Sys2Proof.Machine.execFmul8x16al rd rs1 rs2 s
  | .fmul8sux16 rd rs1 rs2 => Sys2Proof.Machine.execFmul8sux16 rd rs1 rs2 s
  | .fmul8ulx16 rd rs1 rs2 => Sys2Proof.Machine.execFmul8ulx16 rd rs1 rs2 s
  | .fmuld8sux16 rd rs1 rs2 => Sys2Proof.Machine.execFmuld8sux16 rd rs1 rs2 s
  | .fmuld8ulx16 rd rs1 rs2 => Sys2Proof.Machine.execFmuld8ulx16 rd rs1 rs2 s
  | .fpack32 rd rs1 rs2 => Sys2Proof.Machine.execFpack32 rd rs1 rs2 s
  | .fpack16 rd rs2 => Sys2Proof.Machine.execFpack16 rd rs2 s
  | .fpackfix rd rs2 => Sys2Proof.Machine.execFpackfix rd rs2 s
  | .pdist rd rs1 rs2 => Sys2Proof.Machine.execPdist rd rs1 rs2 s
  | .faligndata rd rs1 rs2 => Sys2Proof.Machine.execFaligndata rd rs1 rs2 s
  | .fpmerge rd rs1 rs2 => Sys2Proof.Machine.execFpmerge rd rs1 rs2 s
  | .bshuffle rd rs1 rs2 => Sys2Proof.Machine.execBshuffle rd rs1 rs2 s
  | .fexpand rd rs2 => Sys2Proof.Machine.execFexpand rd rs2 s
  | .fpadd16 rd rs1 rs2 => Sys2Proof.Machine.execFpadd16 rd rs1 rs2 s
  | .fpadd16s rd rs1 rs2 => Sys2Proof.Machine.execFpadd16s rd rs1 rs2 s
  | .fpadd32 rd rs1 rs2 => Sys2Proof.Machine.execFpadd32 rd rs1 rs2 s
  | .fpadd32s rd rs1 rs2 => Sys2Proof.Machine.execFpadd32s rd rs1 rs2 s
  | .fpsub16 rd rs1 rs2 => Sys2Proof.Machine.execFpsub16 rd rs1 rs2 s
  | .fpsub16s rd rs1 rs2 => Sys2Proof.Machine.execFpsub16s rd rs1 rs2 s
  | .fpsub32 rd rs1 rs2 => Sys2Proof.Machine.execFpsub32 rd rs1 rs2 s
  | .fpsub32s rd rs1 rs2 => Sys2Proof.Machine.execFpsub32s rd rs1 rs2 s
  | .fzero rd => Sys2Proof.Machine.execFzero rd s
  | .fzeros rd => Sys2Proof.Machine.execFzeros rd s
  | .fnor rd rs1 rs2 => Sys2Proof.Machine.execFnor rd rs1 rs2 s
  | .fnors rd rs1 rs2 => Sys2Proof.Machine.execFnors rd rs1 rs2 s
  | .fandnot2 rd rs1 rs2 => Sys2Proof.Machine.execFandnot2 rd rs1 rs2 s
  | .fandnot2s rd rs1 rs2 => Sys2Proof.Machine.execFandnot2s rd rs1 rs2 s
  | .fnot2 rd rs2 => Sys2Proof.Machine.execFnot2 rd rs2 s
  | .fnot2s rd rs2 => Sys2Proof.Machine.execFnot2s rd rs2 s
  | .fandnot1 rd rs1 rs2 => Sys2Proof.Machine.execFandnot1 rd rs1 rs2 s
  | .fandnot1s rd rs1 rs2 => Sys2Proof.Machine.execFandnot1s rd rs1 rs2 s
  | .fnot1 rd rs1 => Sys2Proof.Machine.execFnot1 rd rs1 s
  | .fnot1s rd rs1 => Sys2Proof.Machine.execFnot1s rd rs1 s
  | .fxor rd rs1 rs2 => Sys2Proof.Machine.execFxor rd rs1 rs2 s
  | .fxors rd rs1 rs2 => Sys2Proof.Machine.execFxors rd rs1 rs2 s
  | .fnand rd rs1 rs2 => Sys2Proof.Machine.execFnand rd rs1 rs2 s
  | .fnands rd rs1 rs2 => Sys2Proof.Machine.execFnands rd rs1 rs2 s
  | .fand rd rs1 rs2 => Sys2Proof.Machine.execFand rd rs1 rs2 s
  | .fands rd rs1 rs2 => Sys2Proof.Machine.execFands rd rs1 rs2 s
  | .fxnor rd rs1 rs2 => Sys2Proof.Machine.execFxnor rd rs1 rs2 s
  | .fxnors rd rs1 rs2 => Sys2Proof.Machine.execFxnors rd rs1 rs2 s
  | .fsrc1 rd rs1 => Sys2Proof.Machine.execFsrc1 rd rs1 s
  | .fsrc1s rd rs1 => Sys2Proof.Machine.execFsrc1s rd rs1 s
  | .fornot2 rd rs1 rs2 => Sys2Proof.Machine.execFornot2 rd rs1 rs2 s
  | .fornot2s rd rs1 rs2 => Sys2Proof.Machine.execFornot2s rd rs1 rs2 s
  | .fsrc2 rd rs2 => Sys2Proof.Machine.execFsrc2 rd rs2 s
  | .fsrc2s rd rs2 => Sys2Proof.Machine.execFsrc2s rd rs2 s
  | .fornot1 rd rs1 rs2 => Sys2Proof.Machine.execFornot1 rd rs1 rs2 s
  | .fornot1s rd rs1 rs2 => Sys2Proof.Machine.execFornot1s rd rs1 rs2 s
  | .forD rd rs1 rs2 => Sys2Proof.Machine.execForD rd rs1 rs2 s
  | .forS rd rs1 rs2 => Sys2Proof.Machine.execForS rd rs1 rs2 s
  | .fone rd => Sys2Proof.Machine.execFone rd s
  | .fones rd => Sys2Proof.Machine.execFones rd s
  | .siam mode => Sys2Proof.Machine.execSiam mode s
  | .lduw rd rs1 op2 => Sys2Proof.Machine.execLduw rd rs1 op2 s
  | .ldub rd rs1 op2 => Sys2Proof.Machine.execLdub rd rs1 op2 s
  | .lduh rd rs1 op2 => Sys2Proof.Machine.execLduh rd rs1 op2 s
  | .ldtw rd rs1 op2 => Sys2Proof.Machine.execLdtw rd rs1 op2 s
  | .stw rd rs1 op2 => Sys2Proof.Machine.execStw rd rs1 op2 s
  | .stb rd rs1 op2 => Sys2Proof.Machine.execStb rd rs1 op2 s
  | .sth rd rs1 op2 => Sys2Proof.Machine.execSth rd rs1 op2 s
  | .sttw rd rs1 op2 => Sys2Proof.Machine.execSttw rd rs1 op2 s
  | .ldsw rd rs1 op2 => Sys2Proof.Machine.execLdsw rd rs1 op2 s
  | .ldsb rd rs1 op2 => Sys2Proof.Machine.execLdsb rd rs1 op2 s
  | .ldsh rd rs1 op2 => Sys2Proof.Machine.execLdsh rd rs1 op2 s
  | .ldx rd rs1 op2 => Sys2Proof.Machine.execLdx rd rs1 op2 s
  | .ldstub rd rs1 op2 => Sys2Proof.Machine.execLdstub rd rs1 op2 s
  | .stx rd rs1 op2 => Sys2Proof.Machine.execStx rd rs1 op2 s
  | .swap rd rs1 op2 => Sys2Proof.Machine.execSwap rd rs1 op2 s
  | .ldf rd rs1 op2 => Sys2Proof.Machine.execLdf rd rs1 op2 s
  | .lddf rd rs1 op2 => Sys2Proof.Machine.execLddf rd rs1 op2 s
  | .stf rd rs1 op2 => Sys2Proof.Machine.execStf rd rs1 op2 s
  | .stdf rd rs1 op2 => Sys2Proof.Machine.execStdf rd rs1 op2 s
  | .lduwa rd rs1 addr => Sys2Proof.Machine.execLduwa rd rs1 addr s
  | .lduba rd rs1 addr => Sys2Proof.Machine.execLduba rd rs1 addr s
  | .lduha rd rs1 addr => Sys2Proof.Machine.execLduha rd rs1 addr s
  | .ldtwa rd rs1 addr => Sys2Proof.Machine.execLdtwa rd rs1 addr s
  | .stwa rd rs1 addr => Sys2Proof.Machine.execStwa rd rs1 addr s
  | .stba rd rs1 addr => Sys2Proof.Machine.execStba rd rs1 addr s
  | .stha rd rs1 addr => Sys2Proof.Machine.execStha rd rs1 addr s
  | .sttwa rd rs1 addr => Sys2Proof.Machine.execSttwa rd rs1 addr s
  | .ldswa rd rs1 addr => Sys2Proof.Machine.execLdswa rd rs1 addr s
  | .ldsba rd rs1 addr => Sys2Proof.Machine.execLdsba rd rs1 addr s
  | .ldsha rd rs1 addr => Sys2Proof.Machine.execLdsha rd rs1 addr s
  | .ldxa rd rs1 addr => Sys2Proof.Machine.execLdxa rd rs1 addr s
  | .ldstuba rd rs1 addr => Sys2Proof.Machine.execLdstuba rd rs1 addr s
  | .stxa rd rs1 addr => Sys2Proof.Machine.execStxa rd rs1 addr s
  | .swapa rd rs1 addr => Sys2Proof.Machine.execSwapa rd rs1 addr s
  | .ldfa rd rs1 addr => Sys2Proof.Machine.execLdfa rd rs1 addr s
  | .lddfa rd rs1 addr => Sys2Proof.Machine.execLddfa rd rs1 addr s
  | .stfa rd rs1 addr => Sys2Proof.Machine.execStfa rd rs1 addr s
  | .stdfa rd rs1 addr => Sys2Proof.Machine.execStdfa rd rs1 addr s
  | .ldtxa rd rs1 asi rs2 => Sys2Proof.Machine.execLdtxa rd rs1 asi rs2 s
  | .ldblockf rd rs1 asi rs2 => Sys2Proof.Machine.execLdblockf rd rs1 asi rs2 s
  | .stblockf rd rs1 asi rs2 => Sys2Proof.Machine.execStblockf rd rs1 asi rs2 s
  | .stpartialf rd rs1 asi rs2 => Sys2Proof.Machine.execStpartialf rd rs1 asi rs2 s
  | .ldshortf rd rs1 asi rs2 => Sys2Proof.Machine.execLdshortf rd rs1 asi rs2 s
  | .stshortf rd rs1 asi rs2 => Sys2Proof.Machine.execStshortf rd rs1 asi rs2 s
  | .ldfsr rs1 op2 => Sys2Proof.Machine.execLdfsr rs1 op2 s
  | .ldxfsr rs1 op2 => Sys2Proof.Machine.execLdxfsr rs1 op2 s
  | .stfsr rs1 op2 => Sys2Proof.Machine.execStfsr rs1 op2 s
  | .stxfsr rs1 op2 => Sys2Proof.Machine.execStxfsr rs1 op2 s
  | .ldqf rd rs1 op2 => Sys2Proof.Machine.execLdqf rd rs1 op2 s
  | .stqf rd rs1 op2 => Sys2Proof.Machine.execStqf rd rs1 op2 s
  | .ldqfa rd rs1 addr => Sys2Proof.Machine.execLdqfa rd rs1 addr s
  | .stqfa rd rs1 addr => Sys2Proof.Machine.execStqfa rd rs1 addr s
  | .prefetch fcn rs1 op2 => Sys2Proof.Machine.execPrefetch fcn rs1 op2 s
  | .prefetcha fcn rs1 addr => Sys2Proof.Machine.execPrefetcha fcn rs1 addr s
  | .casa rd rs1 asi rs2 => Sys2Proof.Machine.execCasa rd rs1 asi rs2 s
  | .casxa rd rs1 asi rs2 => Sys2Proof.Machine.execCasxa rd rs1 asi rs2 s

end Sys2Proof.Machine
end

