-- ==== Sys2Proof/Machine/Protection.lean ====
section
/-! DEFINITION. Machine/Protection.lean: the entries of the protected arrays that an instruction reads and writes, the
internal_processor_error trap of an entry in error, and the check bits that a write stores (spec/62_errors_core.md R1570,
R1579, R1580, R1588 to R1592, R1640; log entries 53 and 54). -/

namespace Sys2Proof.Machine

/-! ## Integer registers that an instruction reads, in the order rs1, rs2, rs3 (R1579) -/

/-- The register of a second operand. -/
def RegImm.reads : RegImm → List Reg
  | .reg r => [r]
  | .imm _ => []

/-- The register of MOVcc's source. -/
def RegImm11.reads : RegImm11 → List Reg
  | .reg r => [r]
  | .imm _ => []

/-- The register of MOVr's source. -/
def RegImm10.reads : RegImm10 → List Reg
  | .reg r => [r]
  | .imm _ => []

/-- The register of a trap number. -/
def TrapNum.reads : TrapNum → List Reg
  | .reg r => [r]
  | .imm _ => []

/-- The register of a shift count. -/
def Shift32.reads : Shift32 → List Reg
  | .reg r => [r]
  | .imm _ => []

/-- The register of a shift count. -/
def Shift64.reads : Shift64 → List Reg
  | .reg r => [r]
  | .imm _ => []

/-- The register of the second address operand of an alternate-space access. -/
def AltAddr.reads : AltAddr → List Reg
  | .immAsi _ r => [r]
  | .asiReg _ => []

/-- The integer registers that an instruction reads in its first pass. -/
def Instr.intReads (i : Instr) : List Reg :=
  match i with
  | .add _ rs1 op2 | .andI _ rs1 op2 | .orI _ rs1 op2 | .xorI _ rs1 op2 | .sub _ rs1 op2 | .andn _ rs1 op2
  | .orn _ rs1 op2 | .xnor _ rs1 op2 | .addc _ rs1 op2 | .mulx _ rs1 op2 | .umul _ rs1 op2 | .smul _ rs1 op2
  | .subc _ rs1 op2 | .udivx _ rs1 op2 | .udiv _ rs1 op2 | .sdiv _ rs1 op2 | .addcc _ rs1 op2 | .andcc _ rs1 op2
  | .orcc _ rs1 op2 | .xorcc _ rs1 op2 | .subcc _ rs1 op2 | .andncc _ rs1 op2 | .orncc _ rs1 op2
  | .xnorcc _ rs1 op2 | .addccc _ rs1 op2 | .umulcc _ rs1 op2 | .smulcc _ rs1 op2 | .subccc _ rs1 op2
  | .udivcc _ rs1 op2 | .sdivcc _ rs1 op2 | .taddcc _ rs1 op2 | .tsubcc _ rs1 op2 | .taddcctv _ rs1 op2
  | .tsubcctv _ rs1 op2 | .mulscc _ rs1 op2 | .sdivx _ rs1 op2 | .jmpl _ rs1 op2 | .returnI rs1 op2
  | .save _ rs1 op2 | .restore _ rs1 op2 | .wrY rs1 op2 | .wrCcr rs1 op2 | .wrAsi rs1 op2 | .wrTick rs1 op2
  | .wrFprs rs1 op2 | .wrPcr rs1 op2 | .wrPic rs1 op2 | .wrGsr rs1 op2 | .wrSoftintSet rs1 op2
  | .wrSoftintClr rs1 op2 | .wrSoftint rs1 op2 | .wrTickCmpr rs1 op2 | .wrStick rs1 op2 | .wrStickCmpr rs1 op2
  | .wrprTpc rs1 op2 | .wrprTnpc rs1 op2 | .wrprTstate rs1 op2 | .wrprTt rs1 op2 | .wrprTick rs1 op2
  | .wrprTba rs1 op2 | .wrprPstate rs1 op2 | .wrprTl rs1 op2 | .wrprPil rs1 op2 | .wrprCwp rs1 op2
  | .wrprCansave rs1 op2 | .wrprCanrestore rs1 op2 | .wrprCleanwin rs1 op2 | .wrprOtherwin rs1 op2
  | .wrprWstate rs1 op2 | .wrprGl rs1 op2 | .wrhprHpstate rs1 op2 | .wrhprHtstate rs1 op2 | .wrhprHintp rs1 op2
  | .wrhprHtba rs1 op2 | .wrhprHver rs1 op2 | .halt rs1 op2 | .wrhprHstickCmpr rs1 op2 | .flush rs1 op2
  | .lduw _ rs1 op2 | .ldub _ rs1 op2 | .lduh _ rs1 op2 | .ldtw _ rs1 op2 | .ldsw _ rs1 op2 | .ldsb _ rs1 op2
  | .ldsh _ rs1 op2 | .ldx _ rs1 op2 | .ldstub _ rs1 op2 | .ldf _ rs1 op2 | .lddf _ rs1 op2 | .stf _ rs1 op2
  | .stdf _ rs1 op2 | .ldfsr rs1 op2 | .ldxfsr rs1 op2 | .stfsr rs1 op2 | .stxfsr rs1 op2 | .prefetch _ rs1 op2 =>
    rs1 :: RegImm.reads op2
  | .stw rd rs1 op2 | .stb rd rs1 op2 | .sth rd rs1 op2 | .stx rd rs1 op2 | .swap rd rs1 op2 =>
    rs1 :: RegImm.reads op2 ++ [rd]
  | .sttw rd rs1 op2 => rs1 :: RegImm.reads op2 ++ [rd, oddReg rd]
  | .sll _ rs1 cnt | .srl _ rs1 cnt | .sra _ rs1 cnt => rs1 :: Shift32.reads cnt
  | .sllx _ rs1 cnt | .srlx _ rs1 cnt | .srax _ rs1 cnt => rs1 :: Shift64.reads cnt
  | .popc _ op2 => RegImm.reads op2
  | .movcc _ _ op2 => RegImm11.reads op2
  | .movr _ rs1 _ op2 => rs1 :: RegImm10.reads op2
  | .tcc _ _ rs1 op2 => rs1 :: TrapNum.reads op2
  | .bpr _ _ _ rs1 _ | .fmovrs _ rs1 _ _ | .fmovrd _ rs1 _ _ => [rs1]
  | .lduwa _ rs1 addr | .lduba _ rs1 addr | .lduha _ rs1 addr | .ldtwa _ rs1 addr | .ldswa _ rs1 addr
  | .ldsba _ rs1 addr | .ldsha _ rs1 addr | .ldxa _ rs1 addr | .ldstuba _ rs1 addr | .ldfa _ rs1 addr
  | .lddfa _ rs1 addr | .stfa _ rs1 addr | .stdfa _ rs1 addr | .prefetcha _ rs1 addr => rs1 :: AltAddr.reads addr
  | .stwa rd rs1 addr | .stba rd rs1 addr | .stha rd rs1 addr | .stxa rd rs1 addr | .swapa rd rs1 addr =>
    rs1 :: AltAddr.reads addr ++ [rd]
  | .sttwa rd rs1 addr => rs1 :: AltAddr.reads addr ++ [rd, oddReg rd]
  | .edge8 _ rs1 rs2 | .edge8n _ rs1 rs2 | .edge8l _ rs1 rs2 | .edge8ln _ rs1 rs2 | .edge16 _ rs1 rs2
  | .edge16n _ rs1 rs2 | .edge16l _ rs1 rs2 | .edge16ln _ rs1 rs2 | .edge32 _ rs1 rs2 | .edge32n _ rs1 rs2
  | .edge32l _ rs1 rs2 | .edge32ln _ rs1 rs2 | .array8 _ rs1 rs2 | .array16 _ rs1 rs2 | .array32 _ rs1 rs2
  | .alignaddress _ rs1 rs2 | .bmask _ rs1 rs2 | .alignaddressLittle _ rs1 rs2 | .ldtxa _ rs1 _ rs2
  | .ldblockf _ rs1 _ rs2 | .stblockf _ rs1 _ rs2 | .stpartialf _ rs1 _ rs2 | .ldshortf _ rs1 _ rs2
  | .stshortf _ rs1 _ rs2 | .casa _ rs1 _ rs2 | .casxa _ rs1 _ rs2 => [rs1, rs2]
  | _ => []

/-- The integer register that an instruction reads in a later pass: the new value of a compare-and-swap. -/
def Instr.intReadsLater (i : Instr) : List Reg :=
  match i with
  | .casa rd .. | .casxa rd .. => [rd]
  | _ => []

/-! ## Floating-point registers that an instruction reads (R1580) -/

/-- A floating-point operand: a single-precision register, or the pair of a double-precision one. -/
inductive FloatOperand where
  | single (r : Reg)
  | double (d : BitVec 5)
  deriving DecidableEq, Repr

/-- The halves of FRF entries that an operand is in. -/
def FloatOperand.halves : FloatOperand → List (BitVec 6)
  | .single r => [0#1 ++ r]
  | .double d => [d ++ 0#1, d ++ 1#1]

/-- The FRF entry of an operand. -/
def FloatOperand.entry : FloatOperand → BitVec 5
  | .single r => 0#1 ++ r.extractLsb' 1 4
  | .double d => d

/-- The eight operands of a block access. -/
def blockOf (rd : Reg) : List FloatOperand := (List.range 8).map (fun k => .double (doublePair rd + BitVec.ofNat 5 k))

/-- The floating-point operands that an instruction reads in its first pass, of a block store the first register. -/
def Instr.floatReads (i : Instr) : List FloatOperand :=
  match i with
  | .faddd _ rs1 rs2 | .fsubd _ rs1 rs2 | .fmuld _ rs1 rs2 | .fdivd _ rs1 rs2 | .fcmpd _ rs1 rs2
  | .fcmped _ rs1 rs2 | .fcmple16 _ rs1 rs2 | .fcmpne16 _ rs1 rs2 | .fcmple32 _ rs1 rs2 | .fcmpne32 _ rs1 rs2
  | .fcmpgt16 _ rs1 rs2 | .fcmpeq16 _ rs1 rs2 | .fcmpgt32 _ rs1 rs2 | .fcmpeq32 _ rs1 rs2 | .fmul8sux16 _ rs1 rs2
  | .fmul8ulx16 _ rs1 rs2 | .fpack32 _ rs1 rs2 | .faligndata _ rs1 rs2 | .bshuffle _ rs1 rs2 | .fpadd16 _ rs1 rs2
  | .fpadd32 _ rs1 rs2 | .fpsub16 _ rs1 rs2 | .fpsub32 _ rs1 rs2 | .fnor _ rs1 rs2 | .fandnot2 _ rs1 rs2
  | .fandnot1 _ rs1 rs2 | .fxor _ rs1 rs2 | .fnand _ rs1 rs2 | .fand _ rs1 rs2 | .fxnor _ rs1 rs2
  | .fornot2 _ rs1 rs2 | .fornot1 _ rs1 rs2 | .forD _ rs1 rs2 => [.double (doublePair rs1), .double (doublePair rs2)]
  | .fadds _ rs1 rs2 | .fsubs _ rs1 rs2 | .fmuls _ rs1 rs2 | .fdivs _ rs1 rs2 | .fsmuld _ rs1 rs2
  | .fcmps _ rs1 rs2 | .fcmpes _ rs1 rs2 | .fmul8x16au _ rs1 rs2 | .fmul8x16al _ rs1 rs2 | .fmuld8sux16 _ rs1 rs2
  | .fmuld8ulx16 _ rs1 rs2 | .fpmerge _ rs1 rs2 | .fpadd16s _ rs1 rs2 | .fpadd32s _ rs1 rs2 | .fpsub16s _ rs1 rs2
  | .fpsub32s _ rs1 rs2 | .fnors _ rs1 rs2 | .fandnot2s _ rs1 rs2 | .fandnot1s _ rs1 rs2 | .fxors _ rs1 rs2
  | .fnands _ rs1 rs2 | .fands _ rs1 rs2 | .fxnors _ rs1 rs2 | .fornot2s _ rs1 rs2 | .fornot1s _ rs1 rs2
  | .forS _ rs1 rs2 => [.single rs1, .single rs2]
  | .fmul8x16 _ rs1 rs2 => [.single rs1, .double (doublePair rs2)]
  | .pdist rd rs1 rs2 => [.double (doublePair rs1), .double (doublePair rs2), .double (doublePair rd)]
  | .fmovd _ rs2 | .fnegd _ rs2 | .fabsd _ rs2 | .fsqrtd _ rs2 | .fdtox _ rs2 | .fxtos _ rs2 | .fxtod _ rs2
  | .fdtos _ rs2 | .fdtoi _ rs2 | .fmovdcc _ _ rs2 | .fmovrd _ _ _ rs2 | .fpack16 _ rs2 | .fpackfix _ rs2
  | .fnot2 _ rs2 | .fsrc2 _ rs2 => [.double (doublePair rs2)]
  | .fmovs _ rs2 | .fnegs _ rs2 | .fabss _ rs2 | .fsqrts _ rs2 | .fstox _ rs2 | .fitos _ rs2 | .fitod _ rs2
  | .fstod _ rs2 | .fstoi _ rs2 | .fmovscc _ _ rs2 | .fmovrs _ _ _ rs2 | .fexpand _ rs2 | .fnot2s _ rs2
  | .fsrc2s _ rs2 => [.single rs2]
  | .fnot1 _ rs1 | .fsrc1 _ rs1 => [.double (doublePair rs1)]
  | .fnot1s _ rs1 | .fsrc1s _ rs1 => [.single rs1]
  | .stf rd _ _ | .stfa rd _ _ => [.single rd]
  | .stdf rd _ _ | .stdfa rd _ _ | .stblockf rd _ _ _ | .stshortf rd _ _ _ => [.double (doublePair rd)]
  | _ => []

/-- The operands that it reads in a later pass: the data of a partial store, the other registers of a block store. -/
def State.floatReadsLater (s : State) (i : Instr) : List FloatOperand :=
  match i with
  | .stpartialf rd .. => [.double (doublePair rd)]
  | .stblockf rd .. => (blockOf rd).drop 1
  | .stdfa rd _ addr => if asiKind (AltAddr.asi addr s) == .block then (blockOf rd).drop 1 else []
  | _ => []

/-! ## Entries of the other arrays (R1588 to R1592) -/

/-- The array entry behind a register ASI: the scratchpad, the queue registers of the trap stack array, the MMU registers of
the MMU register array (spec/66_diag_debug.md R2040, R2045). -/
def asiSlot (asi : BitVec 8) (a : Nat) : Option CheckSlot :=
  match asi.toNat with
  | 0x20 => (scratchpadIndex a).map .scratch
  | 0x4F => (hypScratchpadIndex a).map .scratch
  | 0x25 => (queueIndex a).map (fun i => .trapStack (6 + (i.extractLsb' 2 1).setWidth 3))
  | 0x52 => ((rangeIndex 0x100 a).or (rangeIndex 0x200 a)).map (fun i => .mmu (1#1 ++ i))
  | 0x54 => (tsbConfigIndex a).map (fun p => .mmu (0#1 ++ boolBit p.1 ++ p.2.extractLsb' 1 1))
  | _ => none

/-- The same for an access in its own words. -/
def State.accessSlot (s : State) (rs1 : Reg) (addr : AltAddr) : Option CheckSlot :=
  asiSlot (AltAddr.asi addr s) ((s.eaAlt rs1 addr).setWidth 48).toNat

/-- A store to an entry reads it first, but for the scratchpad (R1588, R1591, R1592). -/
def CheckSlot.storeReads : CheckSlot → Bool
  | .trapStack _ => true
  | .mmu _ => true
  | _ => false

/-- The entry of an array other than the register files that an instruction reads. -/
def State.arrayReads (s : State) (i : Instr) : Option CheckSlot :=
  match i with
  | .rdTickCmpr _ => some (.tick 0)
  | .rdStickCmpr _ => some (.tick 1)
  | .rdhprHstickCmpr _ => some (.tick 2)
  | .rdprTpc _ | .rdprTnpc _ | .rdprTstate _ | .rdprTt _ | .rdhprHtstate _ | .wrprTpc _ _ | .wrprTnpc _ _
  | .wrprTstate _ _ | .wrprTt _ _ | .wrhprHtstate _ _ | .done | .retry =>
    if s.tl == 0 then none else some (.trapStack (s.tl - 1))
  | .ldxa _ rs1 addr | .lddfa _ rs1 addr => s.accessSlot rs1 addr
  | .stxa _ rs1 addr | .stdfa _ rs1 addr => (s.accessSlot rs1 addr).filter CheckSlot.storeReads
  | _ => none

/-- The entry of such an array that it writes. -/
def State.arrayWrites (s : State) (i : Instr) : Option CheckSlot :=
  match i with
  | .wrTickCmpr .. => some (.tick 0)
  | .wrStickCmpr .. => some (.tick 1)
  | .wrhprHstickCmpr .. => some (.tick 2)
  | .wrprTpc _ _ | .wrprTnpc _ _ | .wrprTstate _ _ | .wrprTt _ _ | .wrhprHtstate _ _ =>
    if s.tl == 0 then none else some (.trapStack (s.tl - 1))
  | .stxa _ rs1 addr | .stdfa _ rs1 addr => s.accessSlot rs1 addr
  | _ => none

/-! ## Registers that an instruction writes -/

/-- The integer registers that an instruction writes when it completes. -/
def State.intWrites (s : State) (i : Instr) : List Reg :=
  match i with
  | .sethi rd _ | .add rd _ _ | .andI rd _ _ | .orI rd _ _ | .xorI rd _ _ | .sub rd _ _ | .andn rd _ _
  | .orn rd _ _ | .xnor rd _ _ | .addc rd _ _ | .mulx rd _ _ | .umul rd _ _ | .smul rd _ _ | .subc rd _ _
  | .udivx rd _ _ | .udiv rd _ _ | .sdiv rd _ _ | .addcc rd _ _ | .andcc rd _ _ | .orcc rd _ _ | .xorcc rd _ _
  | .subcc rd _ _ | .andncc rd _ _ | .orncc rd _ _ | .xnorcc rd _ _ | .addccc rd _ _ | .umulcc rd _ _
  | .smulcc rd _ _ | .subccc rd _ _ | .udivcc rd _ _ | .sdivcc rd _ _ | .taddcc rd _ _ | .tsubcc rd _ _
  | .taddcctv rd _ _ | .tsubcctv rd _ _ | .mulscc rd _ _ | .sdivx rd _ _ | .sll rd _ _ | .sllx rd _ _ | .srl rd _ _
  | .srlx rd _ _ | .sra rd _ _ | .srax rd _ _ | .popc rd _ | .jmpl rd _ _ | .save rd _ _ | .restore rd _ _
  | .rdY rd | .rdCcr rd | .rdAsi rd | .rdTick rd | .rdPc rd | .rdFprs rd | .rdPcr rd | .rdPic rd | .rdGsr rd
  | .rdSoftint rd | .rdTickCmpr rd | .rdStick rd | .rdStickCmpr rd | .rdprTpc rd | .rdprTnpc rd | .rdprTstate rd
  | .rdprTt rd | .rdprTick rd | .rdprTba rd | .rdprPstate rd | .rdprTl rd | .rdprPil rd | .rdprCwp rd
  | .rdprCansave rd | .rdprCanrestore rd | .rdprCleanwin rd | .rdprOtherwin rd | .rdprWstate rd | .rdprGl rd
  | .rdhprHpstate rd | .rdhprHtstate rd | .rdhprHintp rd | .rdhprHtba rd | .rdhprHver rd | .rdhprHalt rd
  | .rdhprHstickCmpr rd | .edge8 rd _ _ | .edge8n rd _ _ | .edge8l rd _ _ | .edge8ln rd _ _ | .edge16 rd _ _
  | .edge16n rd _ _ | .edge16l rd _ _ | .edge16ln rd _ _ | .edge32 rd _ _ | .edge32n rd _ _ | .edge32l rd _ _
  | .edge32ln rd _ _ | .array8 rd _ _ | .array16 rd _ _ | .array32 rd _ _ | .alignaddress rd _ _ | .bmask rd _ _
  | .alignaddressLittle rd _ _ | .fcmple16 rd _ _ | .fcmpne16 rd _ _ | .fcmple32 rd _ _ | .fcmpne32 rd _ _
  | .fcmpgt16 rd _ _ | .fcmpeq16 rd _ _ | .fcmpgt32 rd _ _ | .fcmpeq32 rd _ _ | .lduw rd _ _ | .ldub rd _ _
  | .lduh rd _ _ | .ldsw rd _ _ | .ldsb rd _ _ | .ldsh rd _ _ | .ldx rd _ _ | .ldstub rd _ _ | .swap rd _ _
  | .lduwa rd _ _ | .lduba rd _ _ | .lduha rd _ _ | .ldswa rd _ _ | .ldsba rd _ _ | .ldsha rd _ _ | .ldxa rd _ _
  | .ldstuba rd _ _ | .swapa rd _ _ | .casa rd _ _ _ | .casxa rd _ _ _ => [rd]
  | .call _ => [15]
  | .ldtw rd _ _ | .ldtwa rd _ _ | .ldtxa rd _ _ _ => [rd, oddReg rd]
  | .movcc rd c _ => if CondSel.holds c s then [rd] else []
  | .movr rd rs1 rcond _ => if RCond.holds rcond (s.reg rs1) then [rd] else []
  | _ => []

/-- The floating-point registers that it writes. -/
def State.floatWrites (s : State) (i : Instr) : List FloatOperand :=
  match i with
  | .fmovd rd _ | .fnegd rd _ | .fabsd rd _ | .fsqrtd rd _ | .faddd rd _ _ | .fsubd rd _ _ | .fmuld rd _ _
  | .fdivd rd _ _ | .fsmuld rd _ _ | .fstox rd _ | .fdtox rd _ | .fxtod rd _ | .fitod rd _ | .fstod rd _
  | .fmul8x16 rd _ _ | .fmul8x16au rd _ _ | .fmul8x16al rd _ _ | .fmul8sux16 rd _ _ | .fmul8ulx16 rd _ _
  | .fmuld8sux16 rd _ _ | .fmuld8ulx16 rd _ _ | .fpack32 rd _ _ | .pdist rd _ _ | .faligndata rd _ _
  | .fpmerge rd _ _ | .bshuffle rd _ _ | .fexpand rd _ | .fpadd16 rd _ _ | .fpadd32 rd _ _ | .fpsub16 rd _ _
  | .fpsub32 rd _ _ | .fzero rd | .fnor rd _ _ | .fandnot2 rd _ _ | .fnot2 rd _ | .fandnot1 rd _ _ | .fnot1 rd _
  | .fxor rd _ _ | .fnand rd _ _ | .fand rd _ _ | .fxnor rd _ _ | .fsrc1 rd _ | .fornot2 rd _ _ | .fsrc2 rd _
  | .fornot1 rd _ _ | .forD rd _ _ | .fone rd | .lddf rd _ _ | .ldshortf rd _ _ _ => [.double (doublePair rd)]
  | .fmovs rd _ | .fnegs rd _ | .fabss rd _ | .fsqrts rd _ | .fadds rd _ _ | .fsubs rd _ _ | .fmuls rd _ _
  | .fdivs rd _ _ | .fxtos rd _ | .fitos rd _ | .fdtos rd _ | .fstoi rd _ | .fdtoi rd _ | .fpack16 rd _
  | .fpackfix rd _ | .fpadd16s rd _ _ | .fpadd32s rd _ _ | .fpsub16s rd _ _ | .fpsub32s rd _ _ | .fzeros rd
  | .fnors rd _ _ | .fandnot2s rd _ _ | .fnot2s rd _ | .fandnot1s rd _ _ | .fnot1s rd _ | .fxors rd _ _
  | .fnands rd _ _ | .fands rd _ _ | .fxnors rd _ _ | .fsrc1s rd _ | .fornot2s rd _ _ | .fsrc2s rd _
  | .fornot1s rd _ _ | .forS rd _ _ | .fones rd | .ldf rd _ _ | .ldfa rd _ _ => [.single rd]
  | .fmovdcc rd c _ => if CondSel.holds c s then [.double (doublePair rd)] else []
  | .fmovscc rd c _ => if CondSel.holds c s then [.single rd] else []
  | .fmovrd rd rs1 rcond _ => if RCond.holds rcond (s.reg rs1) then [.double (doublePair rd)] else []
  | .fmovrs rd rs1 rcond _ => if RCond.holds rcond (s.reg rs1) then [.single rd] else []
  | .ldblockf rd _ _ _ => blockOf rd
  | .lddfa rd _ addr => if asiKind (AltAddr.asi addr s) == .block then blockOf rd else [.double (doublePair rd)]
  | _ => []

/-! ## The trap of a register in error -/

/-- The trap an outcome has taken. -/
def outcomeTrap (r : Host.Outcome State Fault Refusal) : Option (BitVec 9) :=
  match r with
  | .next t => t.taken
  | _ => none

/-- An outcome has taken a trap whose priority is before the one given. -/
def trapsBefore (r : Host.Outcome State Fault Refusal) (priority : Nat) : Bool :=
  match outcomeTrap r with
  | some tt => decide ((if tt = 0x04F then 16 * 16 else trapPriority tt) < priority)
  | none => false

/-- The number of an integer register in the array: the outs and the ins change places in an odd window (R1610). -/
def irfIndex (cwp : BitVec 3) (r : Reg) : BitVec 5 := if bitAt cwp 0 && bitAt r 3 then r ^^^ 0x10 else r

/-- D-SFSR and D-SFAR of an integer register in error (R1579, format 8 of R1610). -/
def State.recordIrf (s : State) (r : Reg) : State :=
  let m := s.checkOf (.int (s.slot r))
  let info : BitVec 15 := syndrome8 m ++ s.gl ++ irfIndex s.win.cwp r
  (s.setDsfsr (if corrects64 m then 2 else 1)).setDsfarInfo 15 (info.setWidth 48)

/-- A half of an FRF entry that an operand is in is in error. -/
def State.floatBad (s : State) (o : FloatOperand) : Bool := o.halves.any (fun k => s.checkOf (.float k) != 0)

/-- The syndrome of a half; the half that a single-precision operand is not in "may show a stale or incorrect syndrome"
(R1580). -/
def State.halfSyndrome (s : State) (o : FloatOperand) (k : BitVec 6) : BitVec 7 :=
  if o.halves.contains k then syndrome7 (s.checkOf (.float k)) else (s.drawWord .undefinedErrorInfo).extractLsb' 48 7

/-- D-SFSR and D-SFAR of a floating-point register in error (R1580, format 9 of R1610). -/
def State.recordFrf (s : State) (o : FloatOperand) : State :=
  let upper := s.halfSyndrome o (o.entry ++ 0#1)
  let lower := s.halfSyndrome o (o.entry ++ 1#1)
  let even := if Config.evenSyndromeIsUpper then upper else lower
  let odd := if Config.evenSyndromeIsUpper then lower else upper
  let correctable := o.halves.all (fun k => s.checkOf (.float k) == 0 || corrects32 (s.checkOf (.float k)))
  (s.setDsfsr (if correctable then 4 else 3)).setDsfarInfo 20 ((even ++ odd ++ 0#1 ++ o.entry : BitVec 20).setWidth 48)

/-- The first of some operands that is in error, recorded, where the report is enabled: an integer register before a
floating-point one (R1570). -/
def State.registerError (s : State) (ints : List Reg) (floats : List FloatOperand) : Option State :=
  let bad := fun r => s.checkOf (.int (s.slot r)) != 0
  match if s.cerer 52 && s.pscce then ints.find? bad else none with
  | some r => some (s.recordIrf r)
  | none => (if s.cerer 50 && s.pscce then floats.find? s.floatBad else none).map s.recordFrf

/-- D-SFSR and D-SFAR of an entry of another array in error, where the report is enabled (R1588, R1589, R1591, R1592;
formats 10 to 13 of R1610). Both codes of a trap stack entry are the same in error. -/
def State.arrayError (s : State) (c : CheckSlot) : Option State :=
  let m := s.checkOf c
  let one := corrects68 m
  let report := fun (enable : Nat) (errtype : BitVec 4) (n : Nat) (info : BitVec 48) =>
    if s.cerer enable && s.pscce then some ((s.setDsfsr errtype).setDsfarInfo n info) else none
  if m = 0 then none
  else match c with
  | .scratch i => report (if one then 30 else 29) (if one then 10 else 11) 11 ((syndrome8 m ++ i).setWidth 48)
  | .tick i => report (if one then 28 else 27) (if one then 12 else 13) 10 ((syndrome8 m ++ i).setWidth 48)
  | .trapStack i =>
    report (if one then 32 else 31) (if one then 8 else 9) 19 ((syndrome8 m ++ syndrome8 m ++ i).setWidth 48)
  | .mmu i => report 33 7 3 (i.setWidth 48)
  | _ => none

/-- The entry is read by a register access that its ASI and address have to be legal for. -/
def Instr.readsByAsi : Instr → Bool
  | .ldxa .. | .lddfa .. | .stxa .. | .stdfa .. => true
  | _ => false

/-- The trap of an instruction that reads an entry in error, if it is the first exception of the instruction: 8.2, in the
second or a later pass 12.10 (R1556, R1570, spec/60_exceptions.md R1315). R1570 also says that it does not outrank the window
traps, whose priority R1315 has as 9 and 10.1: the numbers are followed (log entry 54, DESIGN CHOICE). A register of an ASI is
read where the access passes its own checks; `r` is what the instruction does without the error. -/
def State.readError? (s : State) (i : Instr) (r : Host.Outcome State Fault Refusal) : Option State :=
  let before := trapsBefore r (8 * 16 + 2)
  let accessed := outcomeTrap r == none || outcomeTrap r == some 0x03B
  match if before then none else s.registerError (Instr.intReads i) (Instr.floatReads i) with
  | some s1 => some s1
  | none =>
    match if !before && (accessed || !Instr.readsByAsi i) then (s.arrayReads i).bind s.arrayError else none with
    | some s1 => some s1
    | none => if trapsBefore r (12 * 16 + 10) then none else s.registerError (Instr.intReadsLater i) (s.floatReadsLater i)

/-! ## What a write stores -/

/-- The step has suppressed a store: a store_error is pending that was not (R1586, R1587). -/
def State.storeSuppressed (s t : State) : Bool := t.storeError && !s.storeError

/-- The entries that an instruction writes when it goes from `s` to `t`; a suppressed store to an array writes none. -/
def State.slotsWritten (s t : State) (i : Instr) : List CheckSlot :=
  (s.intWrites i).map (fun r => .int (t.slot r)) ++ ((s.floatWrites i).flatMap FloatOperand.halves).map .float ++
    (if s.storeSuppressed t then [] else (s.arrayWrites i).toList)

/-- An instruction with the errors of the protected arrays: the trap of an entry in error, or the check bits that its writes
store. -/
def State.protect (s : State) (i : Instr) (r : Host.Outcome State Fault Refusal) : Host.Outcome State Fault Refusal :=
  match s.readError? i r with
  | some s1 => .next (s1.takeTrap 0x029)
  | none =>
    match r with
    | .next t => if t.taken = none ∧ t.run ≠ .hung then .next (s.storeChecks t (s.slotsWritten t i)) else r
    | _ => r

/-- A trap entry writes a whole entry of the trap stack array (R1591). -/
def State.storeTrapChecks (s t : State) : State :=
  if s.checksClean || t.taken == none then t else s.storeChecks t [.trapStack (t.tl - 1)]

end Sys2Proof.Machine
end

