-- ==== Sys2Proof/Machine/Requests.lean ====
section
/-! DEFINITION. Machine/Requests.lean: the requests that a step makes to the L2 banks, which only the address compare registers see
(spec/66_diag_debug.md R2079). -/

namespace Sys2Proof.Machine

/-- A request to an L2 bank: its kind, its address, and whether it is surely made; the others depend on what the L1 caches and the
store buffer hold. -/
structure L2Request where
  kind : L2Kind
  pa : Nat
  sure : Bool
  deriving DecidableEq, Repr

/-- The request as the compare registers see it; the code of its type the manual does not give (R2079). -/
def L2Request.word (q : L2Request) : Word :=
  let addr : BitVec 32 := BitVec.ofNat 32 (q.pa / 4)
  (Config.l2RequestType q.kind ++ 0#2 ++ ownStrand ++ 0#6 ++ addr ++ 0#2 : BitVec 52).setWidth 64

/-! ## Data accesses -/

/-- An access of an instruction with its own ASI. -/
def State.altReq (s : State) (op : OpClass) (rs1 : Reg) (addr : AltAddr) (n : Nat) : DataReq :=
  ⟨op, some (AltAddr.asi addr s), s.eaAlt rs1 addr, n⟩

/-- An access of LDDFA or STDFA, by its ASI (spec/42_load_store.md R908, R912). -/
def State.floatAltReq (s : State) (whole block short : OpClass) (rs1 : Reg) (addr : AltAddr) : DataReq :=
  let asi := AltAddr.asi addr s
  match asiKind asi with
  | .block => s.altReq block rs1 addr 64
  | .short => s.altReq short rs1 addr (shortSize asi)
  | _ => s.altReq whole rs1 addr 8

/-- The data access that an instruction asks for. -/
def Instr.dataReq (i : Instr) (s : State) : Option DataReq :=
  match i with
  | .ldsb _ rs1 op2 | .ldub _ rs1 op2 => some ⟨.load, none, s.ea rs1 op2, 1⟩
  | .ldsh _ rs1 op2 | .lduh _ rs1 op2 => some ⟨.load, none, s.ea rs1 op2, 2⟩
  | .ldsw _ rs1 op2 | .lduw _ rs1 op2 => some ⟨.load, none, s.ea rs1 op2, 4⟩
  | .ldx _ rs1 op2 => some ⟨.loadX, none, s.ea rs1 op2, 8⟩
  | .ldtw _ rs1 op2 => some ⟨.loadTwin, none, s.ea rs1 op2, 8⟩
  | .ldf _ rs1 op2 | .ldfsr rs1 op2 => some ⟨.loadF, none, s.ea rs1 op2, 4⟩
  | .lddf _ rs1 op2 | .ldxfsr rs1 op2 => some ⟨.loadD, none, s.ea rs1 op2, 8⟩
  | .ldsba _ rs1 addr | .lduba _ rs1 addr => some (s.altReq .load rs1 addr 1)
  | .ldsha _ rs1 addr | .lduha _ rs1 addr => some (s.altReq .load rs1 addr 2)
  | .ldswa _ rs1 addr | .lduwa _ rs1 addr => some (s.altReq .load rs1 addr 4)
  | .ldxa _ rs1 addr => some (s.altReq .loadX rs1 addr 8)
  | .ldtwa _ rs1 addr =>
    some (if isTwinAsi (AltAddr.asi addr s) then s.altReq .loadQuad rs1 addr 16 else s.altReq .loadTwin rs1 addr 8)
  | .ldtxa _ rs1 asi rs2 => some ⟨.loadQuad, some asi, s.ea rs1 (.reg rs2), 16⟩
  | .ldfa _ rs1 addr => some (s.altReq .loadF rs1 addr 4)
  | .lddfa _ rs1 addr => some (s.floatAltReq .loadD .blockLoad .shortLoad rs1 addr)
  | .ldblockf _ rs1 asi rs2 => some ⟨.blockLoad, some asi, s.ea rs1 (.reg rs2), 64⟩
  | .ldshortf _ rs1 asi rs2 => some ⟨.shortLoad, some asi, s.ea rs1 (.reg rs2), shortSize asi⟩
  | .stb _ rs1 op2 => some ⟨.store, none, s.ea rs1 op2, 1⟩
  | .sth _ rs1 op2 => some ⟨.store, none, s.ea rs1 op2, 2⟩
  | .stw _ rs1 op2 => some ⟨.store, none, s.ea rs1 op2, 4⟩
  | .stx _ rs1 op2 => some ⟨.storeX, none, s.ea rs1 op2, 8⟩
  | .sttw _ rs1 op2 => some ⟨.storeTwin, none, s.ea rs1 op2, 8⟩
  | .stf _ rs1 op2 | .stfsr rs1 op2 => some ⟨.storeF, none, s.ea rs1 op2, 4⟩
  | .stdf _ rs1 op2 | .stxfsr rs1 op2 => some ⟨.storeD, none, s.ea rs1 op2, 8⟩
  | .stba _ rs1 addr => some (s.altReq .store rs1 addr 1)
  | .stha _ rs1 addr => some (s.altReq .store rs1 addr 2)
  | .stwa _ rs1 addr => some (s.altReq .store rs1 addr 4)
  | .stxa _ rs1 addr => some (s.altReq .storeX rs1 addr 8)
  | .sttwa _ rs1 addr => some (s.altReq .storeTwin rs1 addr 8)
  | .stfa _ rs1 addr => some (s.altReq .storeF rs1 addr 4)
  | .stdfa _ rs1 addr => some (s.floatAltReq .storeD .blockStore .shortStore rs1 addr)
  | .stblockf _ rs1 asi rs2 => some ⟨.blockStore, some asi, s.ea rs1 (.reg rs2), 64⟩
  | .stshortf _ rs1 asi rs2 => some ⟨.shortStore, some asi, s.ea rs1 (.reg rs2), shortSize asi⟩
  | .stpartialf _ rs1 asi _ => some ⟨.partialStore, some asi, maskAddr s.pstate.am (s.reg rs1), 8⟩
  | .ldstub _ rs1 op2 => some ⟨.atomic, none, s.ea rs1 op2, 1⟩
  | .swap _ rs1 op2 => some ⟨.atomic, none, s.ea rs1 op2, 4⟩
  | .ldstuba _ rs1 addr => some (s.altReq .atomic rs1 addr 1)
  | .swapa _ rs1 addr => some (s.altReq .atomic rs1 addr 4)
  | .casa _ rs1 asi _ => some ⟨.atomic, some (CasAsi.asi asi s), maskAddr s.pstate.am (s.reg rs1), 4⟩
  | .casxa _ rs1 asi _ => some ⟨.atomic, some (CasAsi.asi asi s), maskAddr s.pstate.am (s.reg rs1), 8⟩
  | _ => none

/-- The access of a prefetch. -/
def Instr.prefetchReq (i : Instr) (s : State) : Option DataReq :=
  match i with
  | .prefetch fcn rs1 op2 => if prefetchWeak fcn then some ⟨.load, none, s.ea rs1 op2, 1⟩ else none
  | .prefetcha fcn rs1 addr => if prefetchWeak fcn then some (s.altReq .load rs1 addr 1) else none
  | _ => none

/-- The requests of a data access that passes its checks. Atomics "are always performed at the L2 cache" (spec/20_memory.md R536),
and block loads and loads of 16 bytes miss in the L1 cache (spec/42_load_store.md R920, R930), as every load of a strand does that
does not use it, where it does not find its data in the store buffer. A store makes its request in its own step. -/
def DataReq.requests (r : DataReq) (s : State) : List L2Request :=
  if (r.va.extractLsb' 0 6).toNat % r.size ≠ 0 then []
  else match s.access r with
  | .ok l s1 =>
    let found := (s1.rawHit l.pa r.size).isSome
    if isIo l.pa then []
    else match r.op with
    | .atomic => [⟨.atomic, l.pa, true⟩]
    | .blockLoad => (List.range 4).map (fun k => ⟨.load, l.pa + 16 * k, true⟩)
    | .blockStore => (List.range 8).map (fun k => ⟨.blockStore, l.pa + 8 * k, s.checksClean⟩)
    | .partialStore => [⟨.store, l.pa, false⟩]
    | .loadQuad => [⟨.load, l.pa, !found⟩]
    | op =>
      if op.reads then [⟨.load, l.pa, !found && !s.lsu.dc⟩]
      else [⟨if r.storeKind = .init then .initStore else .store, l.pa, s.checksClean⟩]
  | _ => []

/-- The request of a prefetch. -/
def DataReq.prefetchRequests (r : DataReq) (s : State) : List L2Request :=
  match s.access r with
  | .ok l _ => if isIo l.pa then [] else [⟨.prefetch, l.pa, false⟩]
  | _ => []

/-! ## Tablewalks and fetches -/

/-- The requests of the tablewalk for a translation, if it misses in its TLB. -/
def State.walkRequests (s : State) (side : Side) (q : Request) : List L2Request :=
  if q.real || !s.walkEnabled || !(s.tlbMatches side q).isEmpty then []
  else
    let tsbs := ((tlbIndices 2).map (fileGet (s.tsbSet (s.contexts q.ctx).1))).filter (fun c => c.enable)
    let pointers := tsbs.map (fun c => (tsbPointer q.page c).toNat)
    (pointers.filter (fun pa => !isIo pa)).map (fun pa => ⟨.walk, pa, false⟩)

/-- The requests of the tablewalk of a data access. -/
def DataReq.walkRequests (r : DataReq) (s : State) : List L2Request :=
  match s.space r.asi with
  | none => []
  | some sp => if s.route sp = .bypass then [] else s.walkRequests .data (r.request sp (s.route sp))

/-- The requests of the fetch of the next instruction: every fetch of a strand misses that does not use the instruction cache
(spec/20_memory.md R547). -/
def State.fetchRequests (s : State) : List L2Request :=
  let walk := if s.fetchRoute = .bypass then [] else s.walkRequests .inst s.fetchRequest
  match s.fetchPlace with
  | .ok pa _ => walk ++ (if isIo pa.toNat then [] else [⟨.fetch, pa.toNat, !s.lsu.ic⟩])
  | _ => walk

noncomputable section

/-- The requests of the next instruction's own access. -/
def State.dataRequests (s : State) : List L2Request :=
  match s.fetch with
  | .ok w s1 =>
    match decode w with
    | .ok i =>
      match Instr.dataReq i s1, Instr.prefetchReq i s1 with
      | some r, _ => r.walkRequests s1 ++ r.requests s1
      | none, some r => r.prefetchRequests s1
      | none, none => []
    | .error _ => []
  | _ => []

/-! ## The address compare registers, R2079 -/

/-- A request may have been made, or not. -/
def L2Request.unsure (q : L2Request) : L2Request := { q with sure := false }

/-- The requests of a step from `s` to `t`. Of an instruction that has taken a trap those stand that are made before the trap: all
of a data_access_error, and perhaps those of one that a disrupting trap has come in place of, or after (log entry 31, DESIGN
CHOICE). -/
def State.l2Requests (s t : State) : List L2Request :=
  let done := t.taken == none || t.taken == some 0x032
  let perhaps := t.taken == some 0x04F || t.taken == some 0x040 || t.taken == some 0x063
  let fetches := if done || t.taken == some 0x00A then s.fetchRequests else s.fetchRequests.map L2Request.unsure
  fetches ++ (if done then s.dataRequests else if perhaps then s.dataRequests.map L2Request.unsure else [])

/-- A request of this step that an L2 bank's address compare registers match: (request & mask) = compare (R2079). -/
def State.l2Match (s t : State) (b : Nat) : Bool :=
  let free := t.drawWord .l2Requests
  let mask := t.csrGet (csrL2Mask + 64 * b)
  let compare := t.csrGet (csrL2Compare + 64 * b)
  (s.l2Requests t).zipIdx.any (fun q =>
    (q.1.sure || bitAt free q.2) && s.bankOf q.1.pa == b && q.1.word &&& mask == compare)

end

end Sys2Proof.Machine
end

