-- ==== Sys2Proof/Machine/Cycle.lean ====
section
/-! DEFINITION. Machine/Cycle.lean: one step of the strand: time passes, then the pending reset, the pending disrupting trap
or the next instruction is taken, by priority (spec/60_exceptions.md R1315, R1316), and events are counted. -/

namespace Sys2Proof.Machine

/-! ## Time, spec/10_state.md R70 to R75 -/

/-- The periodic comparison of one compare register while the counter goes from `c0` to `c1`: whether the match is posted,
and whether the comparison has now happened in the present window of 128 counts (R74, R75, decision D12). A window that is
left has had its comparison; in the present window it happens now or later (`now`). -/
def compareTick (cmpr : Word) (seen now : Bool) (c0 c1 : BitVec 63) : Bool × Bool :=
  let t : BitVec 56 := cmpr.extractLsb' 7 56
  let w0 : BitVec 56 := c0.extractLsb' 7 56
  let w1 : BitVec 56 := c1.extractLsb' 7 56
  let enabled := !bitAt cmpr 63
  if w0 = w1 then
    let hit := t == w0 && !seen && now
    (hit && enabled, seen || hit)
  else
    let passed := (t == w0 && !seen) || (t != w0 && decide ((t - w0).toNat < (w1 - w0).toNat))
    let here := t == w1 && now
    ((passed || here) && enabled, here)

/-- The counter advances while ASI_CMT_TICK_ENABLE is set and the core is enabled (spec/61_interrupts_cmt.md R1512). -/
def State.ticking (s : State) : Bool := s.cmt.tickEnable && s.cmt.enableStatus &&& ownBit != 0

/-- A compare register is in error and the report of that is enabled: its comparisons are suppressed, as
spec/62_errors_core.md R1589 first says; that with SETER.de clear hardware goes on and may take the match is not followed (log
entry 53, DESIGN CHOICE). -/
def State.compareBad (s : State) (k : BitVec 2) : Bool :=
  let m := s.checkOf (.tick k)
  m != 0 && s.cerer (if corrects68 m then 7 else 6)

/-- How many comparisons of a register happen while the counter goes from `c0` to `c1`: one in each window of 128 counts, in
the first and the last of them perhaps not in this stretch. -/
def State.compareCount (s : State) (k : BitVec 2) (c0 c1 : BitVec 63) : Nat :=
  let windows := (c1.extractLsb' 7 56 - c0.extractLsb' 7 56).toNat
  let free := ((s.drawWord .compareAccess).extractLsb' (8 * k.toNat) 8).toNat
  if windows = 0 then free % 2 else windows - 1 + free % 3

/-- The comparisons of a register in error are recorded, the second of a step as a multiple error (R1589, R1616, R1617;
format 13 of R1610). -/
def State.recordCompare (s : State) (k : BitVec 2) (count : Nat) : State :=
  let m := s.checkOf (.tick k)
  let one := corrects68 m
  let addr : BitVec 11 := (s.drawWord .compareAccess).extractLsb' 60 1 ++ syndrome8 m ++ k
  let note := fun (t : State) => t.recordDesr (if one then 7 else 6) true (if one then 14 else 15) addr
  if m = 0 ∨ count = 0 then s else if count = 1 then note s else note (note s).apart

/-- `n` clocks of the TICK counter, with the three comparisons. -/
def State.tickBy (s : State) (n : BitVec 62) : State :=
  let c1 := s.tim.counter + n.setWidth 63
  let t := compareTick s.tim.tickCmpr s.tim.tickSeen (s.drawBit .tickCompare) s.tim.counter c1
  let st := compareTick s.tim.stickCmpr s.tim.stickSeen (s.drawBit .stickCompare) s.tim.counter c1
  let h := compareTick s.tim.hstickCmpr s.tim.hstickSeen (s.drawBit .hstickCompare) s.tim.counter c1
  let posted : BitVec 17 := boolBit (st.1 && !s.compareBad 1) ++ 0#15 ++ boolBit (t.1 && !s.compareBad 0)
  let s1 : State :=
    { s with
      tim := { s.tim with
        counter := c1, softint := s.tim.softint ||| posted, hsp := s.tim.hsp || (h.1 && !s.compareBad 2),
        tickSeen := t.2, stickSeen := st.2, hstickSeen := h.2 } }
  [(0 : BitVec 2), 1, 2].foldl (fun acc k => acc.recordCompare k (s.compareCount k s.tim.counter c1)) s1

/-- What is left of a count after `n` clocks. -/
def countDown (c : Nat) (n : BitVec 62) : Nat := c - n.toNat

/-- TCU_DEBUG_CONTROL.enable: the low half of the cycle counter is the reset counter (spec/66_diag_debug.md R2087). -/
def State.resetCounting (s : State) : Bool := bitAt (s.csrGet csrDebugControl) 2

/-- The TCU's cycle counter is counting (R2086, R2087). -/
def State.tcuCounting (s : State) : Bool := s.debugWait.isSome || s.resetCounting

/-- The answer of the TCU to a debug event: the clocks stop, or TRIGOUT is pulsed (spec/66_diag_debug.md R2084, decision
D102). -/
def State.answer (s : State) (stop : Bool) : State :=
  if stop then { s with run := .stopped } else { s with trigout := s.trigout + 1 }

/-- The reset counter has reached 0 (R2087): TRIGOUT is pulsed, and for action 1, and for action 3 with nothing left to count in
the upper half of the cycle counter, the clocks stop, for action 3 with a second pulse. -/
def State.resetCountDone (s : State) (action : BitVec 2) (high : BitVec 32) : State :=
  let pulsed := s.answer false
  if action = 1 then pulsed.answer true
  else if action = 3 && high == 0 then (pulsed.answer false).answer true
  else pulsed

/-- `n` clocks of the TCU's cycle counter. While debug events wait, their answer comes when the counter reaches 0; in the mode
of R2087 the low half counts first, and, for action 3, the upper half after it. -/
def State.tcuBy (s : State) (n : BitVec 62) : State :=
  let c := s.csrGet csrCycleCounter
  if s.resetCounting then
    let high : BitVec 32 := c.extractLsb' 32 32
    let low : BitVec 32 := c.extractLsb' 0 32
    let action : BitVec 2 := (s.csrGet csrDebugControl).extractLsb' 0 2
    if low != 0 then
      let low' := BitVec.ofNat 32 (countDown low.toNat n)
      let s1 := s.csrSet csrCycleCounter (high ++ low')
      if low' == 0 then s1.resetCountDone action high else s1
    else if high != 0 && action == 3 then
      let high' := BitVec.ofNat 32 (countDown high.toNat n)
      let s1 := s.csrSet csrCycleCounter (high' ++ low)
      if high' == 0 then (s1.answer false).answer true else s1
    else s
  else match s.debugWait with
  | none => s
  | some (stop, pulses) =>
    let c' := countDown c.toNat n
    let s1 := s.csrSet csrCycleCounter (BitVec.ofNat 64 c')
    if c' = 0 then
      { s1 with debugWait := none, trigout := s1.trigout + pulses, run := if stop then .stopped else s1.run }
    else s1

/-! ## The answer to debug events, spec/66_diag_debug.md R2074, R2078, R2084 to R2087, decision D102 -/

/-- The requests to the TCU of some events, each with the place of its response in a control register: whether it comes from the
SOC, and whether it asks for a stop, hard or, of the core alone, soft, instead of a pulse of TRIGOUT (spec/62_errors_core.md
R1600; R2078). -/
def debugRequests (control : Word) (soc : Bool) (events : List (Bool × Nat)) : List (Bool × Bool) :=
  events.filterMap (fun e =>
    let code : BitVec 2 := control.extractLsb' e.2 2
    if !e.1 || code == 0 || (soc && code == 1) then none else some (soc, code != 3))

/-- One request: the event counter takes it while it is not 0, by 4 from the SOC and by 1 from the core; then the cycle counter
delays the answer, but that to a pulse from the SOC (R2085, R2086). An event counter of 1 to 3 stops at 0 when an event of the SOC
takes 4, which R2085 leaves open. In the mode of R2087 the counters do not serve events, and what becomes of them it does not say:
each is answered at once (log entry 31, DESIGN CHOICE of both). -/
def State.respondOne (s : State) (soc stop : Bool) : State :=
  let count := s.csrGet csrEventCounter
  if s.resetCounting then s.answer stop
  else if count != 0 then s.csrSet csrEventCounter (BitVec.ofNat 64 (count.toNat - (if soc then 4 else 1)))
  else if s.csrGet csrCycleCounter = 0 || (soc && !stop) then s.answer stop
  else
    let waiting := s.debugWait.getD (false, 0)
    { s with debugWait := some (waiting.1 || stop, if stop then waiting.2 else waiting.2 + 1) }

/-- Some requests, one after the other. -/
def State.respond (s : State) (requests : List (Bool × Bool)) : State :=
  requests.foldl (fun acc r => acc.respondOne r.1 r.2) s

/-- The debug events of the core that its registers do not show, with the place of their response in DECR. -/
def DebugEvents.core (e : DebugEvents) : List (Bool × Nat) := [(e.disrupting, 50), (e.deferred, 48), (e.wrap, 46)]

/-- Those of the chip, with the place of their response in SOC_DECR. -/
def DebugEvents.chip (e : DebugEvents) : List (Bool × Nat) := [(e.soc, 20), (e.mcu != 0, 18), (e.l2 != 0, 16)]

/-- The events of the time that has passed before the instruction are answered. -/
def State.answered (s : State) : State :=
  if s.events = .none then s
  else
    { s.respond (debugRequests s.dbg.decr false s.events.core ++ debugRequests (s.csrGet csrSocDecr) true s.events.chip) with
      events := .none }

/-- The status of the other strands follows the running register, each bit after a free delay (spec/61_interrupts_cmt.md
R1518, decision D31). -/
def State.settleStatus (s : State) : State :=
  if s.cmt.lag = 0 then s
  else { s.drawn with cmt := { s.cmt with lag := s.cmt.lag &&& s.drawWord .runningStatus } }

/-- The time that passes in a step, if anything counts it. -/
def State.passTime (s : State) : State :=
  if s.ticking || s.tcuCounting then
    let n := Config.clocks s.oracle
    let s1 := if s.ticking then s.tickBy n else s
    (if s1.tcuCounting then s1.tcuBy n else s1).drawn
  else s

/-- The errors that software injects into the SOC, some of those whose bit is set in each step (spec/64_errors_soc.md R1797). -/
def State.injectSoc (s : State) : State :=
  let injected := s.csrGet csrSocInject
  if injected = 0 then s
  else
    let now := injected &&& s.drawWord .socInjection
    (s.drawn.injectLinks now).socErrors (now &&& socInjectable)

/-- After a warm reset a memory controller realigns its LFSRs and clears its `mask_err` within 4K cycles, at a free time
(spec/66_diag_debug.md R2081, R2094; log entry 63, DESIGN CHOICE). -/
def State.realignLinks (s : State) : State :=
  if s.realign = 0 then s
  else if s.drawBit .linkRealigned then
    let cleared := (List.range 4).foldl
      (fun acc k =>
        let trigger := csrDramDebugTrigger + 0x1000 * k
        if bitAt s.realign k then acc.csrSet trigger (acc.csrGet trigger &&& ~~~0x2) else acc) s.drawn
    { cleared with realign := 0 }
  else s.drawn

/-- The start of a step: no trap is taken yet, and what happens by itself has happened. -/
def State.begin (s : State) : State :=
  let s1 : State := { s.apart with taken := none, events := .none, linkLine := none }
  s1.settleStatus.passTime.drainFlawed.injectSoc.injectMemory.scrubMemory.forwardScrubs.realignLinks.answered

/-! ## The warm reset and the debug reset, spec/70_reset_and_hazards.md R2247, R2248, R2250 -/

/-- The strands that a warm reset enables (spec/61_interrupts_cmt.md R1502). -/
def Cmt.enabledNext (c : Cmt) : Word :=
  if c.enable != 0 then c.enable else (0xFF : Word) <<< (8 * lowestCore coresPresent)

/-- The lowest-numbered strand of a set. -/
def lowestStrand (v : Word) : Word := v &&& (0 - v)

/-- The trap frame of a warm reset: TSTATE without its PSTATE field, and HTSTATE 0 (spec/10_state.md R104). -/
def State.resetFrame (s : State) : TrapFrame :=
  { s.capture 1 with pstate := ⟨false, false, false, false, false, false, false⟩, hpstate := ⟨false, false, false, false⟩ }

/-- RESET_STAT after a warm reset that software asked for (R2235): the shadow copies, and whether the frequency changes. -/
def resetStatNext (old pll : Word) : Word :=
  (old.extractLsb' 1 3 ++ 0#4 ++ old.extractLsb' 4 1 ++ pll.extractLsb' 32 1 ++ 0#3 : BitVec 12).setWidth 64

/-- The busy bits of the mondo table are set after every reset (spec/61_interrupts_cmt.md R1483, R1486): the entries of
MONDO_INT_BUSY are at their reset value. -/
def State.busyMondos (s : State) : State :=
  { s with csr := s.csr.filter (fun c => decide (c.1 < csrMondoBusy) || decide (csrMondoBusy + 0x200 ≤ c.1)) }

/-- What a warm reset does to the registers of the chip: the status registers that are sampled, and the registers that it
returns to their initial values (R2250; the refresh counter is read as a free value already). The link of a memory controller
that is kept up comes up disabled, and its `mask_err` stays until the controller clears it (spec/66_diag_debug.md R2094). INT_MAN, "treated as unknown" after the reset
(spec/61_interrupts_cmt.md R1480), keeps its contents: log entry 64, DESIGN CHOICE. -/
def State.warmChip (s : State) : State :=
  let s1 := s.csrSet csrResetStat (resetStatNext (s.csrGet csrResetStat) (s.csrGet csrPllCtl))
  let s2 := s1.csrSet csrBankEnableStatus (s1.csrGet csrBankEnable)
  let s3 := s2.csrSet csrHashEnStatus (s2.csrGet csrHashEn)
  let s4 := (s3.csrSet csrRngCtl (csrReset csrRngCtl)).busyMondos
  (List.range 4).foldl
    (fun acc k =>
      let trigger := acc.csrGet (csrDramDebugTrigger + 0x1000 * k)
      let noted : State := { acc with realign := if bitAt trigger 1 then acc.realign ||| ((1 : BitVec 4) <<< k) else acc.realign }
      if bitAt trigger 0 then noted.setLink (0x1000 * k) 0 else noted) s4

/-- The warm reset, and the debug reset, which is the same for what this model holds (R2248). The oldest part of the store
buffer is performed and the rest dropped (decision D109). -/
def State.warmReset (s : State) : State :=
  let enabled := s.cmt.enabledNext
  let pc := s.rstv + 0x20
  let s1 := s.warmChip.drawn
  let dropped := (s.drawWord .storeOrder).toNat % (s.undrained.length + 1)
  { s1 with
    checks := (s.storeChecks s [.trapStack 5]).checks
    mem := dropStores s.mem (s.undrained.take dropped)
    undrained := []
    storeError := false
    traps := fileSet s.traps maxTl s.resetFrame
    tl := maxTl
    gl := 3
    pstate := s.pstate.red
    hpstate := .reset
    tim := { s.tim with npt := true }
    lsu := .reset
    pc := pc
    npc := pc + 4
    cmt := { s.cmt with enableStatus := enabled, xirSteering := enabled, running := lowestStrand enabled,
                        lag := 0 }
    run := if enabled &&& ownBit != 0 then .running else .disabled
    chipReset := none
    xirPending := false }

/-! ## Performance counters, spec/10_state.md R88 to R96 -/

/-- The condition of a branch holds. -/
def State.branchTaken (s : State) (i : Instr) : Bool :=
  match i with
  | .bicc _ c _ => ICond.holds c (s.icc .icc)
  | .bpcc _ c cc _ _ => ICond.holds c (s.icc cc)
  | .bpr _ c _ rs1 _ => RCond.holds c (s.reg rs1)
  | .fbfcc _ c _ => FCond.holds c (s.fcc 0)
  | .fbpfcc _ c n _ _ => FCond.holds c (s.fcc n)
  | _ => false

/-- The classes of sub-events of group 2 that an instruction belongs to (R92): completed branch 01, taken branch 02, FGU
arithmetic 04, load 08, store 10, the software count instruction 20, other 40, atomic 80. -/
def State.eventClass (s : State) (i : Instr) : BitVec 8 :=
  match i with
  | .bicc .. | .bpcc .. | .bpr .. | .fbfcc .. | .fbpfcc .. => if s.branchTaken i then 0x03 else 0x01
  | .call .. | .jmpl .. | .returnI .. => if Config.transferIsBranch then 0x03 else 0x40
  | .fmovs .. | .fmovd .. | .fnegs .. | .fnegd .. | .fabss .. | .fabsd .. | .fsqrts .. | .fsqrtd ..
  | .fadds .. | .faddd .. | .fsubs .. | .fsubd .. | .fmuls .. | .fmuld .. | .fdivs .. | .fdivd .. | .fsmuld ..
  | .fstox .. | .fdtox .. | .fxtos .. | .fxtod .. | .fitos .. | .fdtos .. | .fitod .. | .fstod .. | .fstoi .. | .fdtoi ..
  | .fcmps .. | .fcmpd .. | .fcmpes .. | .fcmped .. | .fmovscc .. | .fmovdcc .. | .fmovrs .. | .fmovrd ..
  | .fcmple16 .. | .fcmpne16 .. | .fcmple32 .. | .fcmpne32 .. | .fcmpgt16 .. | .fcmpeq16 .. | .fcmpgt32 .. | .fcmpeq32 ..
  | .fmul8x16 .. | .fmul8x16au .. | .fmul8x16al .. | .fmul8sux16 .. | .fmul8ulx16 .. | .fmuld8sux16 .. | .fmuld8ulx16 ..
  | .fpack32 .. | .fpack16 .. | .fpackfix .. | .pdist .. | .faligndata .. | .fpmerge .. | .bshuffle .. | .fexpand ..
  | .fpadd16 .. | .fpadd16s .. | .fpadd32 .. | .fpadd32s .. | .fpsub16 .. | .fpsub16s .. | .fpsub32 .. | .fpsub32s ..
  | .fzero .. | .fzeros .. | .fnor .. | .fnors .. | .fandnot2 .. | .fandnot2s .. | .fnot2 .. | .fnot2s ..
  | .fandnot1 .. | .fandnot1s .. | .fnot1 .. | .fnot1s .. | .fxor .. | .fxors .. | .fnand .. | .fnands ..
  | .fand .. | .fands .. | .fxnor .. | .fxnors .. | .fsrc1 .. | .fsrc1s .. | .fornot2 .. | .fornot2s ..
  | .fsrc2 .. | .fsrc2s .. | .fornot1 .. | .fornot1s .. | .forD .. | .forS .. | .fone .. | .fones .. | .siam .. => 0x04
  | .lduw .. | .ldub .. | .lduh .. | .ldtw .. | .ldsw .. | .ldsb .. | .ldsh .. | .ldx .. | .ldf .. | .lddf ..
  | .lduwa .. | .lduba .. | .lduha .. | .ldtwa .. | .ldswa .. | .ldsba .. | .ldsha .. | .ldxa .. | .ldfa .. | .lddfa ..
  | .ldtxa .. | .ldblockf .. | .ldshortf .. | .ldfsr .. | .ldxfsr .. => 0x08
  | .stw .. | .stb .. | .sth .. | .sttw .. | .stx .. | .stf .. | .stdf .. | .stwa .. | .stba .. | .stha .. | .sttwa ..
  | .stxa .. | .stfa .. | .stdfa .. | .stblockf .. | .stpartialf .. | .stshortf .. | .stfsr .. | .stxfsr .. => 0x10
  | .ldstub .. | .ldstuba .. | .swap .. | .swapa .. | .casa .. | .casxa .. => 0x98
  | .prefetch .. | .prefetcha .. => if Config.prefetchIsLoad then 0x08 else 0x40
  | .sethi rd imm22 => if rd == 0 && imm22 == 0x3F0 then 0x20 else 0x40
  | _ => 0x40

/-- PCR enables counting in the present mode: `ut`, `st`, `ht` (R88). -/
def State.counting (s : State) : Bool :=
  match s.level with
  | .user => bitAt s.pcr 2
  | .priv => bitAt s.pcr 1
  | .hyper => bitAt s.pcr 3

/-- The event group of one counter: PCR.sl1 or PCR.sl0. -/
def pcrGroup (pcr : Word) (high : Bool) : BitVec 4 := if high then pcr.extractLsb' 27 4 else pcr.extractLsb' 14 4

/-- The sub-event mask of one counter. -/
def pcrMask (pcr : Word) (high : Bool) : BitVec 8 := if high then pcr.extractLsb' 19 8 else pcr.extractLsb' 6 8

/-- How often the event of one counter happens with an instruction of class `cls` (R92, R93, decision D13): group 2 by the
class; one cache miss or none for group 3; a free number for the others, whose events are not the instruction's. -/
def State.eventCount (s : State) (high : Bool) (cls : BitVec 8) : BitVec 32 :=
  let group := pcrGroup s.pcr high
  let mask := pcrMask s.pcr high
  let free := s.drawWord (if high then .eventHigh else .eventLow)
  if !s.counting then 0
  else if group = 2 then (if cls &&& mask != 0 then 1 else 0)
  else if group = 3 then (if mask != 0 && bitAt free 0 then 1 else 0)
  else if group = 0 || mask != 0 then free.setWidth 32
  else 0

/-- The instruction is a SIR, which counts no event of a counter that is in range or whose overflow is set (R96). -/
def isSir : Instr → Bool
  | .sir _ => true
  | _ => false

/-- One of the counters. -/
def picCounter (pic : Word) (high : Bool) : BitVec 32 := if high then pic.extractLsb' 32 32 else pic.extractLsb' 0 32

/-- The counter is within epsilon of its overflow, -16 to -1 (R95). -/
def inEpsilon (c : BitVec 32) : Bool := decide (0xFFFFFFF0 ≤ c)

/-- PCR.ov1 or PCR.ov0. -/
def pcrOverflow (pcr : Word) (high : Bool) : Bool := if high then bitAt pcr 31 else bitAt pcr 18

/-- PCR.toe for one counter. -/
def pcrTrapEnable (pcr : Word) (high : Bool) : Bool := if high then bitAt pcr 5 else bitAt pcr 4

/-- The events that an instruction counts in both counters. -/
def State.instrEvents (s : State) (i : Instr) : BitVec 32 × BitVec 32 :=
  let n := fun high =>
    if isSir i && (inEpsilon (picCounter s.pic high) || pcrOverflow s.pcr high) then 0 else s.eventCount high (s.eventClass i)
  (n true, n false)

/-- `n` events reach or pass the range in which the overflow bit is set (R88). -/
def overflows (c n : BitVec 32) : Bool := n != 0 && decide (0xFFFFFFF0 < c.toNat + n.toNat)

/-- A counter wraps: a debug event (spec/66_diag_debug.md R2074). -/
def wraps (c n : BitVec 32) : Bool := decide (2 ^ 32 ≤ c.toNat + n.toNat)

/-- Counted events: the counters advance, and an overflow is recorded in PCR and in SOFTINT (R94). The next events are others,
whether these are any or none. -/
def State.addEvents (s : State) (n : BitVec 32 × BitVec 32) : State :=
  let h := picCounter s.pic true
  let l := picCounter s.pic false
  let ovh := overflows h n.1
  let ovl := overflows l n.2
  let softint := if ovh || ovl then s.tim.softint ||| 0x8000 else s.tim.softint
  { s.drawn with
    pic := (h + n.1) ++ (l + n.2)
    pcr := s.pcr ||| (if ovh then 0x80000000 else 0) ||| (if ovl then 0x40000 else 0)
    tim := { s.tim with softint := softint }
    events := { s.events with wrap := s.events.wrap || wraps h n.1 || wraps l n.2 } }

/-- The events that a step counts whose instruction does not complete: none of its own, but those of the streams outside group 2,
in the mode they occur in (R92). -/
def State.streamEvents (s : State) : BitVec 32 × BitVec 32 := (s.eventCount true 0, s.eventCount false 0)

/-- A counted event of this instruction, in one counter, traps before it executes: group 2 or 3, the trap enabled for the counter,
and the counter within epsilon (R95). -/
def State.overflowTrap (s : State) (high : Bool) (count : BitVec 32) : Bool :=
  (pcrGroup s.pcr high == 2 || pcrGroup s.pcr high == 3) && pcrTrapEnable s.pcr high && inEpsilon (picCounter s.pic high) &&
    count != 0

/-- One of the counters traps. -/
def State.overflowTraps (s : State) (n : BitVec 32 × BitVec 32) : Bool := s.overflowTrap true n.1 || s.overflowTrap false n.2

/-- What the counters count of an instruction that so traps: its event in the counter that traps, in the other one none (R95). -/
def State.overflowEvents (s : State) (n : BitVec 32 × BitVec 32) : BitVec 32 × BitVec 32 :=
  (if s.overflowTrap true n.1 then n.1 else s.streamEvents.1, if s.overflowTrap false n.2 then n.2 else s.streamEvents.2)

/-- pic_overflow is not masked (spec/60_exceptions.md R1325). -/
def State.guestInterrupts (s : State) : Bool := s.level != .hyper && s.pstate.ie

/-! ## One instruction -/

/-- instruction_breakpoint (spec/66_diag_debug.md R1976). -/
def State.breakpoint (s : State) (w : Word32) : Bool :=
  let m := s.dbg.instMask
  let mask : Word32 :=
    (if bitAt m 38 then 0xC0000000 else 0) ||| (if bitAt m 37 then 0x3E000000 else 0) |||
    (if bitAt m 36 then 0x01F80000 else 0) ||| (if bitAt m 35 then 0x0007C000 else 0) |||
    (if bitAt m 34 then 0x00002000 else 0) ||| (if bitAt m 33 then 0x00001FE0 else 0) |||
    (if bitAt m 32 then 0x0000001F else 0)
  s.hpstate.ibe && m.extractLsb' 32 7 != 0 && w &&& mask == m.setWidth 32 &&& mask

/-- The instruction completes: it has taken no trap, or it is the SIR, whose effect its trap is; an access that is never answered
does not. -/
def completes (i : Instr) (t : State) : Bool := (t.taken == none && t.run != .hung) || (isSir i && t.taken == some 4)

/-- A trap has been taken in place of the instruction. -/
def State.countTrapped (s t : State) : State := if s.counting then t.addEvents s.streamEvents else t

/-- The end of an instruction: the breakpoint, which gives way to illegal_instruction only (R1315), and the counted
events. -/
def State.retire (s : State) (w : Word32) (i : Instr) (r : Host.Outcome State Fault Refusal) :
    Host.Outcome State Fault Refusal :=
  if s.breakpoint w && !trapsBefore r (trapPriority 0x076) then .next (s.countTrapped (s.takeTrap 0x076))
  else match r with
  | .next t =>
    if completes i t then
      let n := s.instrEvents i
      if !s.counting then r
      else if s.overflowTraps n && s.guestInterrupts && decide (s.pil < 15) then
        .next ((s.addEvents (s.overflowEvents n)).takeTrap 0x04F)
      else .next (t.addEvents n)
    else .next (s.countTrapped t)
  | _ => r

noncomputable section

/-- Fetch, decode and execute one instruction, with the errors of the protected arrays where there are any. A word of no
instruction is an illegal instruction (spec/30_encoding.md R680). -/
def State.instruct (s : State) : Host.Outcome State Fault Refusal :=
  match s.fetch with
  | .ok w s1 =>
    match decode w with
    | .ok i => s1.retire w i (if s.checksClean then exec i s1 else s1.protect i (exec i s1))
    | .error _ => .next (s1.countTrapped (s1.takeTrap 0x010))
  | .trap tt s1 => .next (s1.countTrapped (s1.takeTrap tt))
  | .hang s1 => .next { s1 with run := .hung }
  | .refuse r => .refused r
  | .fault f => .fault f

end

/-! ## Disrupting traps, spec/61_interrupts_cmt.md R1450 to R1452, R1471 -/

/-- A trap to hyperprivileged mode is not masked. -/
def State.hyperInterrupts (s : State) : Bool := s.level != .hyper || s.pstate.ie

/-- The pending interrupt level is not masked by PIL. -/
def State.levelPending (s : State) (n : Nat) : Bool :=
  let asked := bitAt s.tim.softint n || (n == 14 && (bitAt s.tim.softint 0 || bitAt s.tim.softint 16))
  asked && decide (s.pil.toNat < n) && s.guestInterrupts

/-- The pointers of an interrupt queue differ (R1471). -/
def State.queueDiffers (s : State) (head : BitVec 3) : Bool :=
  fileGet s.intr.queue head != fileGet s.intr.queue (head + 1)

/-- The disrupting traps in the order of their priorities, each with its condition, its type and its priority. -/
def State.disrupting (s : State) : List (Bool × BitVec 9 × Nat) :=
  let pic := (bitAt s.pcr 5 && bitAt s.pcr 31) || (bitAt s.pcr 4 && bitAt s.pcr 18)
  let desr := s.err.desr.f && s.hyperInterrupts
  [ (pic && s.guestInterrupts && decide (s.pil < 15), 0x04F, 16 * 16),
    (s.tim.hsp && s.hyperInterrupts, 0x05E, 16 * 16 + 1),
    (s.intr.receive != 0 && s.hyperInterrupts, 0x060, 16 * 16 + 3),
    (s.queueDiffers 0 && s.guestInterrupts, 0x07C, 16 * 16 + 6),
    (s.queueDiffers 2 && s.guestInterrupts, 0x07D, 16 * 16 + 7) ] ++
  (List.range 15).map (fun k => (s.levelPending (15 - k), BitVec.ofNat 9 (0x04F - k), (17 + k) * 16)) ++
  [ (desr && s.err.desr.s && bitAt s.err.seter 1, 0x040, 33 * 16 + 1),
    (desr && !s.err.desr.s && bitAt s.err.seter 0, 0x063, 33 * 16 + 2),
    (s.queueDiffers 4 && s.guestInterrupts, 0x07E, 33 * 16 + 3) ]

/-- The disrupting trap that is pending, not masked and first by priority. -/
def State.pending (s : State) : Option (BitVec 9 × Nat) := (s.disrupting.find? (fun c => c.1)).map (fun c => c.2)

/-- A disrupting error trap. -/
def isErrorTrap (tt : BitVec 9) : Bool := tt == 0x040 || tt == 0x063

/-- The disrupting error trap `tt` is taken now, or after one more instruction if that takes no trap and leaves it pending
(spec/62_errors_core.md R1559, spec/60_exceptions.md R1420); `r` is what that instruction does, after which a strand that waits for
an answer takes no trap (spec/64_errors_soc.md R1765). -/
def State.takeError (s : State) (tt : BitVec 9) (r : Host.Outcome State Fault Refusal) : Host.Outcome State Fault Refusal :=
  let now : Host.Outcome State Fault Refusal := .next (s.drawn.takeTrap tt)
  if !s.drawBit .errorSkid then now
  else match r with
  | .next t =>
    if t.run == .hung then r
    else if t.taken == none && (t.pending.map (fun c => c.1)) == some tt then .next (t.drawn.takeTrap tt) else now
  | _ => now

/-- Between the pending disrupting trap and the next instruction, whose own exceptions may come first (R1316, decision
D86). A pic_overflow is so taken at the first boundary at which it is pending and not masked: its skid, which
spec/10_state.md R95 leaves open ("TBD") but for the groups 2 and 3, is none (log entry 10, DESIGN CHOICE). -/
def State.arbitrate (s : State) (r : Host.Outcome State Fault Refusal) : Host.Outcome State Fault Refusal :=
  match s.pending with
  | none => r
  | some (tt, priority) =>
    if trapsBefore r priority then r else if isErrorTrap tt then s.takeError tt r else .next (s.takeTrap tt)

/-! ## Debug events of an instruction -/

/-- The debug events of the core in this step, with the place of their response in DECR: the trap that an event raises has
been taken, or the step has noted the event (spec/62_errors_core.md R1600). -/
def coreEvents (t : State) : List (Bool × Nat) :=
  let took := fun tt => t.taken == some tt
  [ (took 0x076, 62), (took 0x075, 60), (took 0x062, 58), (took 0x061, 56), (took 0x074, 54),
    (took 0x00A || took 0x029 || took 0x071 || took 0x032 || took 0x072, 52) ] ++ t.events.core

noncomputable section

/-- The debug events of the chip in a step from `s` to `t`, with the place of their response in SOC_DECR (R2078 to R2082). -/
def chipEvents (s t : State) : List (Bool × Nat) :=
  t.events.chip ++ (List.range 8).map (fun b => (s.l2Match t b, 2 * b))

/-- The debug events of a step from `s` to `t`, and their responses. -/
def debugEvents (s t : State) : State :=
  let decr := s.dbg.decr
  let soc := s.csrGet csrSocDecr
  if decr = 0 ∧ soc = 0 then t
  else t.drawn.respond (debugRequests decr false (coreEvents t) ++ debugRequests soc true (chipEvents s t))

/-! ## The step -/

/-- A running strand: the externally initiated reset, then a deferred store_error, which a SIR goes before (1.3), then
trap_level_zero, then the rest by priority (R1315, R1326; spec/62_errors_core.md R1621). -/
def State.active (s : State) : Host.Outcome State Fault Refusal :=
  if s.xirPending then .next (s.storeTrapChecks s.takeXir)
  else if s.storeError && !trapsBefore s.instruct (2 * 16 + 1) then .next (s.storeTrapChecks ({ s with storeError := false }.takeTrap 0x007))
  else if s.hpstate.tlz && s.tl == 0 && !s.hpstate.hpriv then .next (s.storeTrapChecks (s.takeTrap 0x05F))
  else match s.arbitrate s.instruct with
  | .next t => .next (debugEvents s (s.storeTrapChecks t))
  | r => r

/-- One step of the machine. Clocks that have stopped end it (spec/66_diag_debug.md R2084); a strand that waits for an answer that
never comes is ended by a chipwide reset only (log entry 62, DESIGN CHOICE). -/
def State.cycle (s : State) : Host.Outcome State Fault Refusal :=
  let s0 := s.begin
  if s.run = .stopped then .next s
  else if s0.run = .stopped then .next s0
  else match s0.chipReset with
  | some _ => .next s0.warmReset
  | none =>
    match s0.run with
    | .stopped => .next s0
    | .disabled => .next s0
    | .parked => .next s0
    | .hung => .next s0
    | .halted => .next (if s0.wakeNow then { s0 with run := .running } else s0)
    | .running => s0.active

end

end Sys2Proof.Machine
end

