-- ==== Sys2Proof/Machine/Step.lean ====
section
/-! DEFINITION. Machine/Step.lean: one step of the machine, and a state whose next fetch gives a word. -/

namespace Sys2Proof.Machine

noncomputable section

/-- One step: Machine/Cycle.lean says what it does. -/
def step (s : State) : Host.Outcome State Fault Refusal := s.cycle

end

/-- The state with an instruction stored where the next step fetches it: after reset, in the boot ROM at the reset vector.
Every instruction of this hardware is one word, so the word's bits above `nbits` are zero. -/
def State.withFetchWord (s : State) (nbits w : Nat) : State := s.placeNext (BitVec.ofNat 32 (w % 2 ^ nbits))

end Sys2Proof.Machine
end

