-- ==== Sys2Proof/Safety.lean ====
section
/-! DEFINITION. Safety.lean: the terms the statements use: what an instruction writes and what it leaves unchanged, when it
traps, when a step is nothing but its instruction, and the invariant that every step keeps. -/

namespace Sys2Proof.Machine

/-! ## What an instruction does -/

/-- Every byte of memory reads in `t` as it reads in `s`. -/
def SameMemory (s t : State) : Prop := ∀ a, t.readByte a = s.readByte a

/-- Memory is `s`'s but for `bytes`, the most significant of the list at the lowest address, from `pa` on. -/
def StoredBytes (s t : State) (pa : Nat) (bytes : List Byte) : Prop :=
  (∀ k (h : k < bytes.length), t.readByte (pa + k) = bytes[k]) ∧
    ∀ a, ¬(pa ≤ a ∧ a < pa + bytes.length) → t.readByte a = s.readByte a

/-- The instruction completes in `s`: the program counters advance (spec/00_scope.md R24), every other field is that of
`b`, and memory is unchanged. -/
def Completes (i : Instr) (s b : State) : Prop :=
  ∃ t, exec i s = .next t ∧ t = { b with pc := s.npc, npc := s.npc + 4 } ∧ SameMemory s t

/-- The integer registers of `t` are those of `b`, but that `r[rd]` holds `v`; `r[0]` holds 0 (spec/10_state.md R52). The
registers of the other windows and global sets are included. -/
structure WroteReg (b t : State) (rd : Reg) (v : Word) : Prop where
  value : t.reg rd = if rd = 0 then 0 else v
  others : ∀ r, r ≠ rd → t.reg r = b.reg r
  elsewhere : ∀ k, k ≠ b.slot rd → t.regs.get k = b.regs.get k

/-- The instruction completes in `s` and writes `v` to `r[rd]`. Every other field is that of `b`, which is `s` with the
other registers that the instruction writes, and memory is unchanged. -/
def Writes (i : Instr) (s b : State) (rd : Reg) (v : Word) : Prop :=
  ∃ t, exec i s = .next t ∧ WroteReg b t rd v ∧ t = { b with regs := t.regs, pc := s.npc, npc := s.npc + 4 } ∧
    SameMemory s t

/-- The single-precision register `rd` of `t` holds `v`; the other registers of the file are those of `b`, and FPRS says
that the lower half was written (spec/10_state.md R69). -/
structure WroteSingle (b t : State) (rd : Reg) (v : Word32) : Prop where
  value : t.f32 rd = v
  others : ∀ k, k ≠ 0#1 ++ rd → fileGet t.fregs k = fileGet b.fregs k
  dirty : t.fprs = b.fprs ||| 1

/-- The double-precision register of the field `rd` of `t` holds `v`; the other registers are those of `b`, and FPRS says
which half of the file was written (R69). -/
structure WroteDouble (b t : State) (rd : Reg) (v : Word) : Prop where
  value : t.f64 rd = v
  others : ∀ k, k.extractLsb' 1 5 ≠ doublePair rd → fileGet t.fregs k = fileGet b.fregs k
  dirty : t.fprs = b.fprs ||| (if bitAt rd 0 then 2 else 1)

/-- The instruction completes in `s` and writes a single-precision register; everything else is that of `b`. -/
def WritesSingle (i : Instr) (s b : State) (rd : Reg) (v : Word32) : Prop :=
  ∃ t, exec i s = .next t ∧ WroteSingle b t rd v ∧
    t = { b with fregs := t.fregs, fprs := t.fprs, pc := s.npc, npc := s.npc + 4 } ∧ SameMemory s t

/-- The instruction completes in `s` and writes a double-precision register; everything else is that of `b`. -/
def WritesDouble (i : Instr) (s b : State) (rd : Reg) (v : Word) : Prop :=
  ∃ t, exec i s = .next t ∧ WroteDouble b t rd v ∧
    t = { b with fregs := t.fregs, fprs := t.fprs, pc := s.npc, npc := s.npc + 4 } ∧ SameMemory s t

/-- The instruction does not complete in `s`: it takes the trap `tt`, with the fault registers that `b` holds. -/
def Traps (i : Instr) (s b : State) (tt : BitVec 9) : Prop := exec i s = .next (b.takeTrap tt)

/-- The instruction completes in `s` with the given program counters; every other field is that of `b`, and memory is
unchanged. -/
def Goes (i : Instr) (s b : State) (pc npc : Word) : Prop :=
  ∃ t, exec i s = .next t ∧ t = { b with pc := pc, npc := npc } ∧ SameMemory s t

/-- The instruction completes in `s`, writes `v` to `r[rd]`, and is a delayed transfer to `target`
(spec/41_control_transfer.md R800); every other field is that of `s`, and memory is unchanged. -/
def LinksTo (i : Instr) (s : State) (rd : Reg) (v target : Word) : Prop :=
  ∃ t, exec i s = .next t ∧ WroteReg s t rd v ∧ t = { s with regs := t.regs, pc := s.npc, npc := target } ∧ SameMemory s t

/-- A taken transfer to `target` raises nothing: PSTATE.tct is 0, and the target is in the address space or is cut to 32
bits (R803, R845). -/
def Reachable (s : State) (target : Word) : Prop :=
  s.pstate.tct = false ∧ (s.pstate.am = true ∨ outOfRange target = false)

/-- `op` and `op3` of the instruction's word (spec/30_encoding.md R621). -/
def HasOp3 (i : Instr) (op : BitVec 2) (op3 : BitVec 6) : Prop := opField (encode i) = op ∧ op3Field (encode i) = op3

/-- `op3` and `opf` of a word of format 3 with `op` = 2. -/
def HasOpf (i : Instr) (op3 : BitVec 6) (opf : BitVec 9) : Prop :=
  HasOp3 i 2 op3 ∧ opfOf (low14Field (encode i)) = opf

/-! ## Data accesses -/

/-- A data access passes every check of spec/20_memory.md R540 and reaches memory that exists and holds no bad data at `l.pa`,
with the L2 banks in one mode (spec/66_diag_debug.md R2050); `s1` is the state with what the translation records. The tablewalk, if
there was one, has left memory alone, as it does where the state keeps its data (`State.KeepsData`). -/
structure Reaches (s : State) (r : DataReq) (l : Located) (s1 : State) : Prop where
  passes : s.access r = .ok l s1
  kept : SameMemory s s1
  memory : isIo l.pa = false
  populated : s1.plainLine l.pa = true
  uniform : s1.l2Uniform = true

/-- No older byte than memory's may be seen by an ordinary load of `n` bytes at `pa`: no block store and no block-initializing
store to them is still in the store buffer (spec/42_load_store.md R931, R940), and the data cache, if the strand uses it, holds no
bad data in the set of the address (spec/62_errors_core.md R1578). -/
def Settled (s : State) (pa n : Nat) : Prop :=
  s.pendingIn pa n (fun p => p.kind.relaxed) = false ∧ (s.lsu.dc = false ∨ s.l1d.any (inSetD pa) = false)

/-- The number that `n` bytes of memory from `pa` on make, the one at the lowest address most significant
(spec/20_memory.md R520). -/
def bigEndianAt (s : State) (pa : Nat) : Nat → Nat
  | 0 => 0
  | n + 1 => 256 * bigEndianAt s pa n + (s.readByte (pa + n)).toNat

/-- The same, the one at the lowest address least significant. -/
def littleEndianAt (s : State) (pa : Nat) : Nat → Nat
  | 0 => 0
  | n + 1 => littleEndianAt s pa n + 256 ^ n * (s.readByte (pa + n)).toNat

/-- What an access of `n` bytes reads, in its byte order. -/
def valueAt (s : State) (l : Located) (n : Nat) : Word :=
  BitVec.ofNat 64 (if l.little then littleEndianAt s l.pa n else bigEndianAt s l.pa n)

/-- The bytes that an access of `n` bytes stores, from the lowest address up: of a big-endian one the most significant
byte first. -/
def storeImage (little : Bool) (n : Nat) (v : Word) : List Byte :=
  if little then (List.range n).map (fun k => v.extractLsb' (8 * k) 8)
  else (List.range n).map (fun k => v.extractLsb' (8 * (n - 1 - k)) 8)

/-- `n` stores enter the store buffer without a look at the errors of those in it: it has room for them among its eight entries
(spec/62_errors_core.md R1581), or no error of the buffer is in question. -/
def HasRoom (s : State) (n : Nat) : Prop := s.undrained.length + n ≤ 8 ∨ s.checksClean = true

/-- Software injects no error into the writes of a memory controller (spec/63_errors_l2_dram.md R1723). -/
abbrev State.InjectsNone (s : State) : Prop := ∀ k, k < 4 → bitAt (s.csrGet (csrDramErrorInject + 0x1000 * k)) 31 = false

/-- A read of the line changes no data in memory: DRAM has nothing else below a copy in the cache, and of no chunk do its check bits
name a data nibble that is not wrong, as those may into which software has injected errors (R1723; spec/67_ecc_jtag.md R2113). -/
def MemLine.Keeps (l : MemLine) : Prop :=
  l.dram = [] ∧ ∀ q n e, qecNibble (fileGet l.syndromes q) = some (n, e) → 32 ≤ n

/-- No read changes data in memory. -/
def State.KeepsData (s : State) : Prop := s.InjectsNone ∧ ∀ c ∈ s.notData, c.2.Keeps

/-- The state once the stores that a store to I/O or over the ASI ring follows have left the buffer, and one more where that is
full, none of them in error (spec/20_memory.md R529; spec/62_errors_core.md R1581). -/
def State.ringed (s : State) : State := { s with undrained := (stayBehind [] s.undrained).take 7 }

/-- The instruction completes in `s` and stores `bytes` at `pa`; everything else but the record of the store in the store
buffer, whose place there may be a free value, is that of `b`. -/
def Stores (i : Instr) (s b : State) (pa : Nat) (bytes : List Byte) : Prop :=
  ∃ t, exec i s = .next t ∧ StoredBytes s t pa bytes ∧
    t = { b with mem := t.mem, undrained := t.undrained, oracle := t.oracle, pc := s.npc, npc := s.npc + 4 }

/-- A store instruction completes in `s`, with no register changed; where its `n` stores have room in the store buffer of `b`, it
does what `does` says. Elsewhere the stores in the buffer leave it first, with their errors (spec/62_errors_core.md R1581). -/
def StoresWithRoom (i : Instr) (s b : State) (n : Nat) (does : Prop) : Prop :=
  (∃ t, exec i s = .next t ∧ t.pc = s.npc ∧ t.npc = s.npc + 4 ∧ t.regs = b.regs ∧ t.fregs = b.fregs) ∧ (HasRoom b n → does)

/-- The instruction does not complete where its address is not a multiple of the size of the access, which traps with the
address in D-SFAR (spec/42_load_store.md R873), or where a check of spec/20_memory.md R540 fails, which raises its trap. -/
def AccessTraps (i : Instr) (s : State) (r : DataReq) : Prop :=
  (r.va.toNat % r.size ≠ 0 → Traps i s (s.setDsfar r.va) 0x034) ∧
    (r.va.toNat % r.size = 0 → ∀ tt b, s.access r = .trap tt b → Traps i s b tt)

/-- The instruction completes in `s` and writes the even register `rd` and the one after it (R900); `r[0]` holds 0.
Everything else is that of `b`, and memory is unchanged. -/
def WritesPair (i : Instr) (s b : State) (rd : Reg) (first second : Word) : Prop :=
  ∃ t, exec i s = .next t ∧ t.reg rd = (if rd = 0 then 0 else first) ∧ t.reg (rd ||| 1) = second ∧
    (∀ r, r ≠ rd → r ≠ rd ||| 1 → t.reg r = b.reg r) ∧
    (∀ k, k ≠ b.slot rd → k ≠ b.slot (rd ||| 1) → t.regs.get k = b.regs.get k) ∧
    t = { b with regs := t.regs, pc := s.npc, npc := s.npc + 4 } ∧ SameMemory s t

/-- The instruction completes in `s`, writes `v` to `r[rd]` and stores `bytes` at `pa`; everything else is that of `b`, whose
store buffer is empty (spec/20_memory.md R529). -/
def LoadsAndStores (i : Instr) (s b : State) (rd : Reg) (v : Word) (pa : Nat) (bytes : List Byte) : Prop :=
  ∃ t, exec i s = .next t ∧ WroteReg b t rd v ∧ StoredBytes b t pa bytes ∧ t.undrained = [] ∧
    t = { b with regs := t.regs, mem := t.mem, pc := s.npc, npc := s.npc + 4 }

/-- The instruction completes in `s` and stores `bytes` at `pa`, the first of a line of 64 bytes; the rest of the line is
left alone or zeroed, and which of the two the free values say (spec/42_load_store.md R940). -/
def StoresInLine (i : Instr) (s b : State) (pa : Nat) (bytes : List Byte) : Prop :=
  ∃ t, exec i s = .next t ∧
    (StoredBytes s t pa bytes ∨ StoredBytes s t pa (bytes ++ List.replicate (64 - bytes.length) 0)) ∧
    t = { b with mem := t.mem, undrained := t.undrained, oracle := t.oracle, pc := s.npc, npc := s.npc + 4 }

/-! ## A step that is nothing but its instruction -/

/-- No reset is asked for, nothing counts, no disrupting trap is pending, no debug function is in use, and no entry of a
protected array or store of the buffer is or may come to be in error: what the strand does next is its next instruction alone. -/
structure Quiet (s : State) : Prop where
  running : s.run = .running
  noChipReset : s.chipReset = none
  noXir : s.xirPending = false
  noTlz : (s.hpstate.tlz && s.tl == 0 && !s.hpstate.hpriv) = false
  noTick : s.ticking = false
  noTcu : s.tcuCounting = false
  noTrap : s.pending = none
  noBreakpoint : s.hpstate.ibe = false
  noCount : bitAt s.pcr 1 = false ∧ bitAt s.pcr 2 = false ∧ bitAt s.pcr 3 = false
  noDebug : s.dbg.decr = 0 ∧ s.csrGet csrSocDecr = 0
  noError : s.checksClean = true
  noStoreError : s.storeError = false
  noInjection : s.csrGet csrSocInject = 0 ∧ s.InjectsNone
  noScrub : (∀ k, k < 4 → bitAt (s.csrGet (csrDramScrub + 0x1000 * k)) 0 = false) ∧ s.unreported = 0
  noLink : s.realign = 0 ∧ s.linkLine = none
  noEvents : s.events = .none ∧ s.err.together = none
  statusSettled : s.cmt.lag = 0

/-! ## The invariant -/

/-- What every step keeps: storage is in its canonical form, the program counters are word-aligned (spec/10_state.md R60),
the trap level exists (R100), reserved bits of registers read 0, FSR.ftt is a value the hardware writes, and a strand that
is not disabled or stopped is one of the enabled ones (spec/61_interrupts_cmt.md R1515). -/
structure State.Sound (s : State) : Prop where
  memory : Memory.wf s.mem = true
  registers : sparseWf csrReset s.csr = true
  checkBits : sparseWf (fun _ => (0 : BitVec 8)) s.checks = true
  badLines : sparseWf (fun _ => MemLine.none) s.notData = true
  badChunks : sparseWf (fun _ => L1Chunk.absent) s.l1d = true ∧ sparseWf (fun _ => L1Chunk.absent) s.l1i = true
  pcAligned : s.pc.extractLsb' 0 2 = 0
  npcAligned : s.npc.extractLsb' 0 2 = 0
  trapLevel : s.tl ≤ maxTl
  pcrReserved : s.pcr.extractLsb' 32 32 = 0
  trapType : s.fsr.ftt ≤ 2
  cererReserved : s.err.cerer &&& ~~~cererMask = 0
  injectReserved : s.err.inject &&& ~~~injectMask = 0
  decrReserved : s.dbg.decr &&& ~~~decrMask = 0
  pwrReserved : s.dbg.pwrMgmt &&& ~~~pwrMask = 0
  runningEnabled : s.cmt.running &&& ~~~s.cmt.enableStatus = 0
  present : s.run = .disabled ∨ s.run = .stopped ∨ s.cmt.enableStatus &&& ownBit ≠ 0

end Sys2Proof.Machine
end

