-- ==== Sys2Proof/Certificates/Slice0/Obligations.lean ====
section
/-! DEFINITION. Certificates/Slice0/Obligations.lean: the statements for the provers, from the numbered rules of spec/, family
by family. OBLIGATIONS.json names each with its rules. -/

section

open Sys2Proof Sys2Proof.Machine

/-! ## Integer instructions, spec/40_integer.md -/

/-- Each of the instructions that write a function of their operands and no condition code: ADD, ADDC, SUB, SUBC, AND, ANDN,
OR, ORN, XOR, XNOR, MULX (R702, R704, R706, R708, R710, R712, R714, R716, R718, R720, R741). -/
def Obligations.PlainArithmeticWritesItsResult : Prop :=
  ∀ (s : State) (rd rs1 : Reg) (o : RegImm),
    let a := s.reg rs1
    let b := RegImm.value o s
    let carry : Word := if bitAt s.ccr 0 then 1 else 0
    (HasOp3 (.add rd rs1 o) 2 0x00 ∧ Writes (.add rd rs1 o) s s rd (a + b)) ∧
    (HasOp3 (.addc rd rs1 o) 2 0x08 ∧ Writes (.addc rd rs1 o) s s rd (a + b + carry)) ∧
    (HasOp3 (.sub rd rs1 o) 2 0x04 ∧ Writes (.sub rd rs1 o) s s rd (a - b)) ∧
    (HasOp3 (.subc rd rs1 o) 2 0x0C ∧ Writes (.subc rd rs1 o) s s rd (a - b - carry)) ∧
    (HasOp3 (.andI rd rs1 o) 2 0x01 ∧ Writes (.andI rd rs1 o) s s rd (a &&& b)) ∧
    (HasOp3 (.andn rd rs1 o) 2 0x05 ∧ Writes (.andn rd rs1 o) s s rd (a &&& ~~~b)) ∧
    (HasOp3 (.orI rd rs1 o) 2 0x02 ∧ Writes (.orI rd rs1 o) s s rd (a ||| b)) ∧
    (HasOp3 (.orn rd rs1 o) 2 0x06 ∧ Writes (.orn rd rs1 o) s s rd (a ||| ~~~b)) ∧
    (HasOp3 (.xorI rd rs1 o) 2 0x03 ∧ Writes (.xorI rd rs1 o) s s rd (a ^^^ b)) ∧
    (HasOp3 (.xnor rd rs1 o) 2 0x07 ∧ Writes (.xnor rd rs1 o) s s rd (~~~(a ^^^ b))) ∧
    (HasOp3 (.mulx rd rs1 o) 2 0x09 ∧ Writes (.mulx rd rs1 o) s s rd (BitVec.ofNat 64 (a.toNat * b.toNat)))

/-- Each of the instructions that also write the condition codes of R701: ADDcc, ADDCcc, SUBcc, SUBCcc, ANDcc, ANDNcc, ORcc,
ORNcc, XORcc, XNORcc (R703, R705, R707, R709, R711, R713, R715, R717, R719, R721). -/
def Obligations.FlagArithmeticWritesResultAndCodes : Prop :=
  ∀ (s : State) (rd rs1 : Reg) (o : RegImm),
    let a := s.reg rs1
    let b := RegImm.value o s
    let carry : Word := if bitAt s.ccr 0 then 1 else 0
    let does := fun (i : Instr) (op3 : BitVec 6) (res : Word) (codes : BitVec 8) =>
      HasOp3 i 2 op3 ∧ Writes i s { s with ccr := codes } rd res
    does (.addcc rd rs1 o) 0x10 (a + b) (addCc a b (a + b)) ∧
    does (.addccc rd rs1 o) 0x18 (a + b + carry) (addCc a b (a + b + carry)) ∧
    does (.subcc rd rs1 o) 0x14 (a - b) (subCc a b (a - b)) ∧
    does (.subccc rd rs1 o) 0x1C (a - b - carry) (subCc a b (a - b - carry)) ∧
    does (.andcc rd rs1 o) 0x11 (a &&& b) (logicCc (a &&& b)) ∧
    does (.andncc rd rs1 o) 0x15 (a &&& ~~~b) (logicCc (a &&& ~~~b)) ∧
    does (.orcc rd rs1 o) 0x12 (a ||| b) (logicCc (a ||| b)) ∧
    does (.orncc rd rs1 o) 0x16 (a ||| ~~~b) (logicCc (a ||| ~~~b)) ∧
    does (.xorcc rd rs1 o) 0x13 (a ^^^ b) (logicCc (a ^^^ b)) ∧
    does (.xnorcc rd rs1 o) 0x17 (~~~(a ^^^ b)) (logicCc (~~~(a ^^^ b)))

/-- What the eight bits of R701 mean. For a sum or a difference `res`, with its carry or borrow in, of the low 32 bits (icc)
and of all 64 (xcc): N is the sign of the result, Z says that it is 0, V that the exact signed result does not fit, and C that
the exact unsigned one does not. After a logical or a multiply operation N and Z say the same of the result, and V and C are 0
(R711, R743, R745); after a division so do they, but that icc.V says that the quotient has been clamped (R750, R752). -/
def Obligations.ConditionCodesMeasureTheExactResult : Prop :=
  ∀ (a b : Word) (cin : Bool),
    let c : Nat := if cin then 1 else 0
    let fits := fun (n : Nat) (x : Int) => decide (-(2 ^ (n - 1) : Int) ≤ x ∧ x < (2 ^ (n - 1) : Int))
    let a32 : Word32 := a.setWidth 32
    let b32 : Word32 := b.setWidth 32
    (let res := a + b + BitVec.ofNat 64 c
     let f := addCc a b res
     bitAt f 3 = decide ((res.setWidth 32).toInt < 0) ∧ bitAt f 2 = decide (res.toNat % 2 ^ 32 = 0) ∧
     bitAt f 1 = !fits 32 (a32.toInt + b32.toInt + c) ∧ bitAt f 0 = decide (2 ^ 32 ≤ a32.toNat + b32.toNat + c) ∧
     bitAt f 7 = decide (res.toInt < 0) ∧ bitAt f 6 = decide (res.toNat = 0) ∧
     bitAt f 5 = !fits 64 (a.toInt + b.toInt + c) ∧ bitAt f 4 = decide (2 ^ 64 ≤ a.toNat + b.toNat + c)) ∧
    (let res := a - b - BitVec.ofNat 64 c
     let f := subCc a b res
     bitAt f 3 = decide ((res.setWidth 32).toInt < 0) ∧ bitAt f 2 = decide (res.toNat % 2 ^ 32 = 0) ∧
     bitAt f 1 = !fits 32 (a32.toInt - b32.toInt - c) ∧ bitAt f 0 = decide (a32.toNat < b32.toNat + c) ∧
     bitAt f 7 = decide (res.toInt < 0) ∧ bitAt f 6 = decide (res.toNat = 0) ∧
     bitAt f 5 = !fits 64 (a.toInt - b.toInt - c) ∧ bitAt f 4 = decide (a.toNat < b.toNat + c)) ∧
    ∀ (res : Word) (ovf : Bool),
      let tells := fun (f : BitVec 8) (v : Bool) =>
        bitAt f 3 = decide ((res.setWidth 32).toInt < 0) ∧ bitAt f 2 = decide (res.toNat % 2 ^ 32 = 0) ∧ bitAt f 1 = v ∧
        bitAt f 0 = false ∧ bitAt f 7 = decide (res.toInt < 0) ∧ bitAt f 6 = decide (res.toNat = 0) ∧
        bitAt f 5 = false ∧ bitAt f 4 = false
      tells (logicCc res) false ∧ tells (divCc res ovf) ovf

/-- The six shifts, by arithmetic: the count is 5 or 6 bits, a left shift multiplies, a logical right shift divides the
unsigned number and an arithmetic one the signed number, rounding down; the 32-bit right shifts take the low half of the
source (R725 to R730). -/
def Obligations.ShiftsMultiplyAndDivide : Prop :=
  ∀ (s : State) (rd rs1 : Reg) (c32 : Shift32) (c64 : Shift64),
    let a := s.reg rs1
    let n := match c32 with
      | .reg r => (s.reg r).toNat % 32
      | .imm v => v.toNat
    let m := match c64 with
      | .reg r => (s.reg r).toNat % 64
      | .imm v => v.toNat
    let does := fun (i : Instr) (op3 : BitVec 6) (x : Bool) (v : Word) =>
      HasOp3 i 2 op3 ∧ bitAt (encode i) 12 = x ∧ Writes i s s rd v
    does (.sll rd rs1 c32) 0x25 false (BitVec.ofNat 64 (a.toNat * 2 ^ n)) ∧
    does (.sllx rd rs1 c64) 0x25 true (BitVec.ofNat 64 (a.toNat * 2 ^ m)) ∧
    does (.srl rd rs1 c32) 0x26 false (BitVec.ofNat 64 (a.toNat % 2 ^ 32 / 2 ^ n)) ∧
    does (.srlx rd rs1 c64) 0x26 true (BitVec.ofNat 64 (a.toNat / 2 ^ m)) ∧
    does (.sra rd rs1 c32) 0x27 false (BitVec.ofInt 64 ((a.setWidth 32).toInt / 2 ^ n)) ∧
    does (.srax rd rs1 c64) 0x27 true (BitVec.ofInt 64 (a.toInt / 2 ^ m))

/-- SETHI, NOP and POPC (R732, R733, R735), with the reserved field of POPC. -/
def Obligations.SethiNopAndPopulationCount : Prop :=
  (∀ (s : State) (rd : Reg) (imm22 : BitVec 22),
    op2Field (encode (.sethi rd imm22)) = 4 ∧ Writes (.sethi rd imm22) s s rd (BitVec.ofNat 64 (imm22.toNat * 2 ^ 10))) ∧
  (∀ s : State, encode .nop = 0x01000000 ∧ Completes .nop s s) ∧
  (∀ (s : State) (rd : Reg) (o : RegImm),
    HasOp3 (.popc rd o) 2 0x2E ∧
    Writes (.popc rd o) s s rd (BitVec.ofNat 64 ((List.range 64).filter (fun i => bitAt (RegImm.value o s) i)).length)) ∧
  ∀ w : Word32, opField w = 2 → op3Field w = 0x2E → rs1Field w ≠ 0 → ∃ e, decode w = .error e

/-- UMUL, UMULcc, SMUL, SMULcc: the exact product of the low halves goes to `rd`, its upper half to Y; the `cc` forms set N
and Z and clear V and C (R742 to R745). -/
def Obligations.ProductsGoToRegisterAndY : Prop :=
  ∀ (s : State) (rd rs1 : Reg) (o : RegImm),
    let a := s.reg rs1
    let b := RegImm.value o s
    let u : Word := BitVec.ofNat 64 ((a.toNat % 2 ^ 32) * (b.toNat % 2 ^ 32))
    let p : Word := BitVec.ofInt 64 ((a.setWidth 32).toInt * (b.setWidth 32).toInt)
    let high := fun (v : Word) => BitVec.ofNat 32 (v.toNat / 2 ^ 32)
    (HasOp3 (.umul rd rs1 o) 2 0x0A ∧ Writes (.umul rd rs1 o) s { s with y := high u } rd u) ∧
    (HasOp3 (.umulcc rd rs1 o) 2 0x1A ∧ Writes (.umulcc rd rs1 o) s { s with y := high u, ccr := logicCc u } rd u) ∧
    (HasOp3 (.smul rd rs1 o) 2 0x0B ∧ Writes (.smul rd rs1 o) s { s with y := high p } rd p) ∧
    (HasOp3 (.smulcc rd rs1 o) 2 0x1B ∧ Writes (.smulcc rd rs1 o) s { s with y := high p, ccr := logicCc p } rd p)

/-- The multiply step (R746): the partial sum of 33 bits, its codes, and the shifted Y. -/
def Obligations.MultiplyStepAddsAndShifts : Prop :=
  ∀ (s : State) (rd rs1 : Reg) (o : RegImm),
    let a := s.reg rs1
    let b := RegImm.value o s
    let op1 : Nat := (if bitAt s.ccr 3 != bitAt s.ccr 1 then 2 ^ 31 else 0) + a.toNat % 2 ^ 32 / 2
    let op2 : Nat := if bitAt s.y 0 then b.toNat % 2 ^ 32 else 0
    let sum := op1 + op2
    let res := sum % 2 ^ 32
    let top := fun n : Nat => decide (2 ^ 31 ≤ n)
    let icc := nzvc (top res) (res == 0) (top op1 == top op2 && top res != top op1) (decide (2 ^ 32 ≤ sum))
    HasOp3 (.mulscc rd rs1 o) 2 0x24 ∧
    Writes (.mulscc rd rs1 o) s
      { s with y := BitVec.ofNat 32 (a.toNat % 2 * 2 ^ 31 + s.y.toNat / 2), ccr := nzvc false (sum == 0) false false ++ icc }
      rd (BitVec.ofNat 64 sum)

/-- The divisions (R747 to R753): the quotient rounds toward 0, and the 32-bit ones divide Y and the low half of the source
and clamp a quotient that does not fit. Without a divisor each takes division_by_zero, trap type 0x28, of priority 15, in
the state before the instruction, and writes neither `rd`, Y nor CCR. -/
def Obligations.DivisionsWriteTheQuotientOrTrap : Prop :=
  ∀ (s : State) (rd rs1 : Reg) (o : RegImm),
    let a := s.reg rs1
    let b := RegImm.value o s
    let uq : Nat := (s.y.toNat * 2 ^ 32 + a.toNat % 2 ^ 32) / (b.toNat % 2 ^ 32)
    let uovf := decide (0xFFFFFFFF < uq)
    let u : Word := if uovf then 0xFFFFFFFF else BitVec.ofNat 64 uq
    let sq : Int := (s.y ++ a.setWidth 32 : Word).toInt.tdiv (b.setWidth 32).toInt
    let sovf := decide (0x7FFFFFFF < sq ∨ sq < -0x80000000)
    let q : Word := if 0x7FFFFFFF < sq then 0x7FFFFFFF else if sq < -0x80000000 then 0xFFFFFFFF80000000 else BitVec.ofInt 64 sq
    (HasOp3 (.udivx rd rs1 o) 2 0x0D ∧ (b ≠ 0 → Writes (.udivx rd rs1 o) s s rd (BitVec.ofNat 64 (a.toNat / b.toNat)))) ∧
    (HasOp3 (.sdivx rd rs1 o) 2 0x2D ∧ (b ≠ 0 → Writes (.sdivx rd rs1 o) s s rd (BitVec.ofInt 64 (a.toInt.tdiv b.toInt)))) ∧
    (HasOp3 (.udiv rd rs1 o) 2 0x0E ∧ (b.toNat % 2 ^ 32 ≠ 0 → Writes (.udiv rd rs1 o) s s rd u)) ∧
    (HasOp3 (.udivcc rd rs1 o) 2 0x1E ∧
      (b.toNat % 2 ^ 32 ≠ 0 → Writes (.udivcc rd rs1 o) s { s with ccr := divCc u uovf } rd u)) ∧
    (HasOp3 (.sdiv rd rs1 o) 2 0x0F ∧ (b.toNat % 2 ^ 32 ≠ 0 → Writes (.sdiv rd rs1 o) s s rd q)) ∧
    (HasOp3 (.sdivcc rd rs1 o) 2 0x1F ∧
      (b.toNat % 2 ^ 32 ≠ 0 → Writes (.sdivcc rd rs1 o) s { s with ccr := divCc q sovf } rd q)) ∧
    (b = 0 → Traps (.udivx rd rs1 o) s s 0x028 ∧ Traps (.sdivx rd rs1 o) s s 0x028) ∧
    (b.toNat % 2 ^ 32 = 0 → Traps (.udiv rd rs1 o) s s 0x028 ∧ Traps (.udivcc rd rs1 o) s s 0x028 ∧
      Traps (.sdiv rd rs1 o) s s 0x028 ∧ Traps (.sdivcc rd rs1 o) s s 0x028) ∧
    trapToPriv 0x028 = true ∧ trapPriority 0x028 = 15 * 16 ∧
    (s.takeTrap 0x028).regs = s.regs ∧ (s.takeTrap 0x028).y = s.y ∧ (s.takeTrap 0x028).ccr = s.ccr

/-- The tagged operations (R755 to R758): icc.v also says that a tag bit of an operand is set, and the `TV` forms trap on it
with nothing written. -/
def Obligations.TaggedArithmeticChecksTags : Prop :=
  ∀ (s : State) (rd rs1 : Reg) (o : RegImm),
    let a := s.reg rs1
    let b := RegImm.value o s
    let tagged := decide (a.toNat % 4 ≠ 0 ∨ b.toNat % 4 ≠ 0)
    let codes := fun (c : BitVec 8) => if tagged then c ||| 2 else c
    let add := codes (addCc a b (a + b))
    let sub := codes (subCc a b (a - b))
    (HasOp3 (.taddcc rd rs1 o) 2 0x20 ∧ Writes (.taddcc rd rs1 o) s { s with ccr := add } rd (a + b)) ∧
    (HasOp3 (.tsubcc rd rs1 o) 2 0x21 ∧ Writes (.tsubcc rd rs1 o) s { s with ccr := sub } rd (a - b)) ∧
    (HasOp3 (.taddcctv rd rs1 o) 2 0x22 ∧
      (bitAt add 1 = false → Writes (.taddcctv rd rs1 o) s { s with ccr := add } rd (a + b)) ∧
      (bitAt add 1 = true → Traps (.taddcctv rd rs1 o) s s 0x023)) ∧
    (HasOp3 (.tsubcctv rd rs1 o) 2 0x23 ∧
      (bitAt sub 1 = false → Writes (.tsubcctv rd rs1 o) s { s with ccr := sub } rd (a - b)) ∧
      (bitAt sub 1 = true → Traps (.tsubcctv rd rs1 o) s s 0x023)) ∧
    trapToPriv 0x023 = true ∧ trapPriority 0x023 = 14 * 16

/-- The conditional moves (R760, R761): the source is written if the condition holds, nothing is if not, and a condition on a
floating-point code needs the floating-point unit either way; the reserved selectors and conditions are no instructions. -/
def Obligations.ConditionalMovesWriteOnTheirCondition : Prop :=
  (∀ (s : State) (rd : Reg) (c : CondSel) (o : RegImm11),
    let src := match o with
      | .reg r => s.reg r
      | .imm v => v.signExtend 64
    let i := Instr.movcc rd c o
    HasOp3 i 2 0x2C ∧
    (CondSel.isFp c = true → s.fpEnabled = false → Traps i s s 0x020) ∧
    (CondSel.isFp c = false ∨ s.fpEnabled = true →
      (CondSel.holds c s = true → Writes i s s rd src) ∧ (CondSel.holds c s = false → Completes i s s))) ∧
  (∀ (s : State) (rd rs1 : Reg) (rc : RCond) (o : RegImm10),
    let src := match o with
      | .reg r => s.reg r
      | .imm v => v.signExtend 64
    let i := Instr.movr rd rs1 rc o
    HasOp3 i 2 0x2F ∧
    (RCond.holds rc (s.reg rs1) = true → Writes i s s rd src) ∧
    (RCond.holds rc (s.reg rs1) = false → Completes i s s)) ∧
  ∀ w : Word32, opField w = 2 →
    (op3Field w = 0x2C → bitAt w 18 = true → bitAt w 11 = true → ∃ e, decode w = .error e) ∧
    (op3Field w = 0x2F → w.extractLsb' 10 2 = 0 → ∃ e, decode w = .error e)

/-- The integer conditions of R627 and the register conditions of R629 as comparisons: after SUBcc of `a` and `b`, the
conditions on xcc compare the 64-bit numbers and those on icc their low halves, signed and unsigned. -/
def Obligations.ConditionsCompareNumbers : Prop :=
  (∀ (a b : Word),
    let codes := subCc a b (a - b)
    let compares := fun (f : BitVec 4) (x y : Int) (m n : Nat) =>
      ICond.holds .a f = true ∧ ICond.holds .n f = false ∧
      ICond.holds .e f = decide (x = y) ∧ ICond.holds .ne f = decide (x ≠ y) ∧
      ICond.holds .l f = decide (x < y) ∧ ICond.holds .ge f = decide (y ≤ x) ∧
      ICond.holds .le f = decide (x ≤ y) ∧ ICond.holds .g f = decide (y < x) ∧
      ICond.holds .cs f = decide (m < n) ∧ ICond.holds .cc f = decide (n ≤ m) ∧
      ICond.holds .leu f = decide (m ≤ n) ∧ ICond.holds .gu f = decide (n < m)
    compares (codes.extractLsb' 4 4) a.toInt b.toInt a.toNat b.toNat ∧
    compares (codes.extractLsb' 0 4) (a.setWidth 32).toInt (b.setWidth 32).toInt (a.toNat % 2 ^ 32) (b.toNat % 2 ^ 32)) ∧
  (∀ f : BitVec 4,
    ICond.holds .neg f = bitAt f 3 ∧ ICond.holds .pos f = !bitAt f 3 ∧ ICond.holds .vs f = bitAt f 1 ∧
    ICond.holds .vc f = !bitAt f 1) ∧
  ∀ v : Word,
    RCond.holds .z v = decide (v.toInt = 0) ∧ RCond.holds .lez v = decide (v.toInt ≤ 0) ∧
    RCond.holds .lz v = decide (v.toInt < 0) ∧ RCond.holds .nz v = decide (v.toInt ≠ 0) ∧
    RCond.holds .gz v = decide (0 < v.toInt) ∧ RCond.holds .gez v = decide (0 ≤ v.toInt)

/-! ## Control transfers and register windows, spec/41_control_transfer.md -/

/-- The five branches on every condition (R801, R805 to R809). Not taken: the delay instruction is next, or skipped where the
annul bit is set. Taken: the delay instruction is next and then the target, or the target at once for the annulling
branch-always. The floating-point branches need the floating-point unit, taken or not. -/
def Obligations.BranchesFollowTheirCondition : Prop :=
  ∀ (s : State) (annul p : Bool) (c : ICond) (cc : ICC) (rc : RCond) (rs1 : Reg) (f : FCond) (n : BitVec 2)
    (d22 : BitVec 22) (d19 : BitVec 19) (d16 : BitVec 16),
    let does := fun (i : Instr) (op2 : BitVec 3) (holds always : Bool) (disp : Int) =>
      let target := s.pc + BitVec.ofInt 64 (4 * disp)
      opField (encode i) = 0 ∧ op2Field (encode i) = op2 ∧
      (holds = false →
        Goes i s s (if annul then s.npc + 4 else s.npc) (if annul then s.npc + 8 else s.npc + 4)) ∧
      (holds = true → Reachable s target →
        Goes i s s (if always && annul then target else s.npc) (if always && annul then target + 4 else target))
    let codes := match cc with
      | .icc => s.ccr.extractLsb' 0 4
      | .xcc => s.ccr.extractLsb' 4 4
    does (.bicc annul c d22) 2 (ICond.holds c (s.ccr.extractLsb' 0 4)) (c == .a) d22.toInt ∧
    does (.bpcc annul c cc p d19) 1 (ICond.holds c codes) (c == .a) d19.toInt ∧
    does (.bpr annul rc p rs1 d16) 3 (RCond.holds rc (s.reg rs1)) false d16.toInt ∧
    (s.fpEnabled = true →
      does (.fbfcc annul f d22) 6 (FCond.holds f s.fsr.fcc0) (f == .a) d22.toInt ∧
      does (.fbpfcc annul f n p d19) 5 (FCond.holds f (s.fcc n)) (f == .a) d19.toInt) ∧
    (s.fpEnabled = false → Traps (.fbfcc annul f d22) s s 0x020 ∧ Traps (.fbpfcc annul f n p d19) s s 0x020) ∧
    ∀ w : Word32, opField w = 0 →
      (op2Field w = 1 → bitAt w 20 = true → ∃ e, decode w = .error e) ∧
      (op2Field w = 3 → (bitAt w 28 = true ∨ w.extractLsb' 25 2 = 0) → ∃ e, decode w = .error e)

/-- What a taken transfer raises instead of executing, in the order of the priorities (R803, R845, R846): a misaligned target
of JMPL or RETURN, then the trap on control transfer, then a target outside the address space; the target is in D-SFAR for the
first and the last. The target of JMPL and of RETURN is the low 32 bits of the sum under PSTATE.am (spec/30_encoding.md R622;
spec/20_memory.md R508). A floating-point branch comes that far where the floating-point unit is enabled (R808, R809). -/
def Obligations.TakenTransfersTrapBeforeTheyExecute : Prop :=
  ∀ (s : State) (annul p : Bool) (c : ICond) (cc : ICC) (rc : RCond) (fc : FCond) (n : BitVec 2) (rs1 rd : Reg) (o : RegImm)
    (d22 : BitVec 22) (d19 : BitVec 19) (d16 : BitVec 16) (d30 : BitVec 30),
    let range : BitVec 9 := if !s.hpstate.hpriv && !s.hpstate.red && !s.lsu.im then 0x02D else 0x02E
    let raises := fun (i : Instr) (target : Word) =>
      (s.pstate.tct = true → Traps i s s 0x074) ∧
      (s.pstate.tct = false → s.pstate.am = false → outOfRange target = true → Traps i s (s.setDsfar target) range)
    let rel := fun (disp : Int) => s.pc + BitVec.ofInt 64 (4 * disp)
    let sum := s.reg rs1 + RegImm.value o s
    let jump : Word := if s.pstate.am then BitVec.ofNat 64 (sum.toNat % 2 ^ 32) else sum
    (ICond.holds c (s.icc .icc) = true → raises (.bicc annul c d22) (rel d22.toInt)) ∧
    (ICond.holds c (s.icc cc) = true → raises (.bpcc annul c cc p d19) (rel d19.toInt)) ∧
    (RCond.holds rc (s.reg rs1) = true → raises (.bpr annul rc p rs1 d16) (rel d16.toInt)) ∧
    (s.fpEnabled = true → FCond.holds fc s.fsr.fcc0 = true → raises (.fbfcc annul fc d22) (rel d22.toInt)) ∧
    (s.fpEnabled = true → FCond.holds fc (s.fcc n) = true → raises (.fbpfcc annul fc n p d19) (rel d19.toInt)) ∧
    raises (.call d30) (rel d30.toInt) ∧
    (jump.toNat % 4 ≠ 0 → Traps (.jmpl rd rs1 o) s (s.setDsfar jump) 0x034) ∧
    (jump.toNat % 4 = 0 → raises (.jmpl rd rs1 o) jump) ∧
    (s.win.canrestore ≠ 0 →
      (jump.toNat % 4 ≠ 0 → Traps (.returnI rs1 o) s (s.setDsfar jump) 0x034) ∧
      (jump.toNat % 4 = 0 → raises (.returnI rs1 o) jump))

/-- CALL and JMPL (R810, R811): the program counter goes to `r[15]` or `r[rd]` in its 48-bit signed format, or cut to 32 bits
under PSTATE.am, and the target follows the delay instruction. -/
def Obligations.CallAndJumpLinkAndTransfer : Prop :=
  ∀ (s : State) (d30 : BitVec 30) (rd rs1 : Reg) (o : RegImm),
    let link : Word := if s.pstate.am then BitVec.ofNat 64 (s.pc.toNat % 2 ^ 32 / 4 * 4)
      else ((s.pc.extractLsb' 2 46 ++ 0#2 : BitVec 48).signExtend 64)
    let target := s.pc + BitVec.ofInt 64 (4 * d30.toInt)
    let jump : Word := if s.pstate.am then BitVec.ofNat 64 ((s.reg rs1 + RegImm.value o s).toNat % 2 ^ 32)
      else s.reg rs1 + RegImm.value o s
    (opField (encode (.call d30)) = 1 ∧ (Reachable s target → LinksTo (.call d30) s 15 link target)) ∧
    (HasOp3 (.jmpl rd rs1 o) 2 0x38 ∧
      (jump.toNat % 4 = 0 → Reachable s jump → LinksTo (.jmpl rd rs1 o) s rd link jump))

/-- SAVE, RESTORE and RETURN with a window to go to (R840, R841, R812): each completes; the operands are of the old window, the
result goes to the new one, the target of RETURN is masked under PSTATE.am (spec/30_encoding.md R622; spec/20_memory.md R508), and
the window registers count modulo 8. The windows overlap (spec/10_state.md R51): the out registers of one
window are the in registers of the next, the globals are those of every window, and two registers of one window are never
the same one. -/
def Obligations.WindowsMoveAndOverlap : Prop :=
  (∀ (s : State) (rd rs1 : Reg) (o : RegImm),
     let v := s.reg rs1 + RegImm.value o s
     let target : Word := if s.pstate.am then BitVec.ofNat 64 (v.toNat % 2 ^ 32) else v
     let next := { s with win := { s.win with
       cwp := s.win.cwp + 1, cansave := s.win.cansave - 1, canrestore := s.win.canrestore + 1 } }
     let previous := { s with win := { s.win with
       cwp := s.win.cwp - 1, cansave := s.win.cansave + 1, canrestore := s.win.canrestore - 1 } }
     (HasOp3 (.save rd rs1 o) 2 0x3C ∧
       (s.win.cansave ≠ 0 → s.win.cleanwin ≠ s.win.canrestore → Writes (.save rd rs1 o) s next rd v)) ∧
     (HasOp3 (.restore rd rs1 o) 2 0x3D ∧ (s.win.canrestore ≠ 0 → Writes (.restore rd rs1 o) s previous rd v)) ∧
     (HasOp3 (.returnI rs1 o) 2 0x39 ∧
       (s.win.canrestore ≠ 0 → target.toNat % 4 = 0 → Reachable s target →
         Goes (.returnI rs1 o) s previous s.npc target))) ∧
  ∀ (s : State),
    let t := { s with win := { s.win with cwp := s.win.cwp + 1 } }
    (∀ k : BitVec 3, t.reg (3#2 ++ k) = s.reg (1#2 ++ k) ∧ t.reg (0#2 ++ k) = s.reg (0#2 ++ k)) ∧
    (∀ r r' : Reg, s.slot r = s.slot r' → r = r') ∧
    (∀ (r r' : Reg), s.slot r = t.slot r' → r.toNat < 16) ∧
    ∀ (r : Reg) (v : Word), (s.setReg r v).reg r = if r = 0 then 0 else v


/-- The window traps (R842, R843, R852): the trap type comes from OTHERWIN and WSTATE, or is clean_window, and the entry moves
CWP to the window to be spilled, filled or cleaned. FLUSHW spills until six windows can be saved, and then does nothing. -/
def Obligations.WindowTrapsSelectVectorAndWindow : Prop :=
  ∀ (s : State) (rd rs1 : Reg) (o : RegImm),
    let normal := BitVec.ofNat 9 (4 * (s.win.wstate.toNat % 8))
    let other := BitVec.ofNat 9 (4 * (s.win.wstate.toNat / 8))
    let spill := if s.win.otherwin = 0 then 0x080 + normal else 0x0A0 + other
    let fill := if s.win.otherwin = 0 then 0x0C0 + normal else 0x0E0 + other
    let enters := fun (tt : BitVec 9) (cwp : BitVec 3) => (s.takeTrap tt).win = { s.win with cwp := cwp }
    (s.win.cansave = 0 → Traps (.save rd rs1 o) s s spill) ∧
    (s.win.cansave ≠ 0 → s.win.cleanwin = s.win.canrestore → Traps (.save rd rs1 o) s s 0x024) ∧
    (s.win.canrestore = 0 → Traps (.restore rd rs1 o) s s fill ∧ Traps (.returnI rs1 o) s s fill) ∧
    HasOp3 .flushw 2 0x2B ∧
    (s.win.cansave = 6 → Completes .flushw s s) ∧
    (s.win.cansave ≠ 6 → Traps .flushw s s spill) ∧
    enters spill (s.win.cwp + s.win.cansave + 2) ∧ enters fill (s.win.cwp - 1) ∧ enters 0x024 (s.win.cwp + 1) ∧
    trapPriority spill = 9 * 16 ∧ trapPriority fill = 9 * 16 ∧ trapToPriv spill = true ∧ trapToPriv fill = true

/-- The privileged window instructions (R850, R851, R853 to R856), which nonprivileged mode may not use. -/
def Obligations.WindowControlInstructions : Prop :=
  ∀ (s : State),
    let w := s.win
    let does := fun (i : Instr) (word : Word32) (w' : Windows) =>
      encode i = word ∧ (s.level ≠ .user → Completes i s { s with win := w' }) ∧ (s.level = .user → Traps i s s 0x011)
    does .saved 0x81880000 (if w.otherwin = 0 then { w with cansave := w.cansave + 1, canrestore := w.canrestore - 1 }
      else { w with cansave := w.cansave + 1, otherwin := w.otherwin - 1 }) ∧
    does .restored 0x83880000
      (if w.otherwin = 0 then
        { w with canrestore := w.canrestore + 1, cansave := w.cansave - 1,
                 cleanwin := BitVec.ofNat 3 (min (w.cleanwin.toNat + 1) 7) }
      else
        { w with canrestore := w.canrestore + 1, otherwin := w.otherwin - 1,
                 cleanwin := BitVec.ofNat 3 (min (w.cleanwin.toNat + 1) 7) }) ∧
    does .allclean 0x85880000 { w with cleanwin := 7 } ∧
    does .otherw 0x87880000 { w with otherwin := w.canrestore, canrestore := 0 } ∧
    does .normalw 0x89880000 { w with canrestore := w.otherwin, otherwin := 0 } ∧
    does .invalw 0x8B880000 { w with cansave := 6, canrestore := 0, otherwin := 0 }

/-- DONE and RETRY (R830 to R832): the program counters, CCR, ASI, CWP and PSTATE come back from the trap stack, HPSTATE only
in hyperprivileged mode, GL is held to MAXPTL unless the return is to hyperprivileged mode, and TL goes down by one. An address
that was in the address hole when it was saved is there again (spec/20_memory.md R506 item 4; spec/66_diag_debug.md R2040): that
its bits 63 to 48, which the trap stack does not hold, are then the complement of bit 47, and else copies of it, is the model's
choice (log entry 20, DESIGN CHOICE). -/
def Obligations.TrapReturnsRestoreTheSavedState : Prop :=
  ∀ (s : State),
    let f := s.frame
    let address := fun (hole : Bool) (v : BitVec 46) =>
      if hole then ((v ++ 0#2 : BitVec 48).signExtend 64 : Word) ^^^ 0xFFFF000000000000 else (v ++ 0#2 : BitVec 48).signExtend 64
    let pc := address f.tpcHole f.tpc
    let npc := address f.tnpcHole f.tnpc
    let hyper := s.hpstate.hpriv
    let b := { s with
      ccr := f.ccr, asi := f.asi, win := { s.win with cwp := f.cwp }, pstate := f.pstate
      hpstate := if hyper then f.hpstate else s.hpstate
      gl := if hyper && f.hpstate.hpriv then f.gl else if f.gl = 3 then 2 else f.gl
      tl := s.tl - 1 }
    encode .done = 0x81F00000 ∧ encode .retry = 0x83F00000 ∧
    (s.level = .user → Traps .done s s 0x011 ∧ Traps .retry s s 0x011) ∧
    (s.level ≠ .user → s.tl = 0 → Traps .done s s 0x010 ∧ Traps .retry s s 0x010) ∧
    (s.level ≠ .user → s.tl ≠ 0 → s.pstate.tct = true → Traps .done s s 0x074 ∧ Traps .retry s s 0x074) ∧
    (s.level ≠ .user → s.tl ≠ 0 → s.pstate.tct = false →
      Goes .done s b npc (npc + 4) ∧ Goes .retry s b pc npc)

/-- Tcc (R815): no trap where the condition fails; else the trap type is 0x100, or 0x180 where bit 7 of the number is set and
the mode is not nonprivileged, plus the low seven bits of the number; its priority is 16.2, and privileged mode can take
types below 0x180. -/
def Obligations.SoftwareTrapsSelectTheirType : Prop :=
  ∀ (s : State) (c : ICond) (cc : ICC) (rs1 : Reg) (o : TrapNum),
    let n := s.reg rs1 + match o with
      | .reg r => s.reg r
      | .imm v => BitVec.ofNat 64 v.toNat
    let tt : BitVec 9 :=
      if s.level = .user ∨ n.toNat / 128 % 2 = 0 then BitVec.ofNat 9 (0x100 + n.toNat % 128)
      else BitVec.ofNat 9 (0x180 + n.toNat % 128)
    let i := Instr.tcc c cc rs1 o
    HasOp3 i 2 0x3A ∧
    (ICond.holds c (s.icc cc) = false → Completes i s s) ∧ (ICond.holds c (s.icc cc) = true → Traps i s s tt) ∧
    trapPriority tt = 16 * 16 + 2 ∧ trapToPriv tt = decide (tt.toNat < 0x180)

/-- The instructions that are always illegal: ILLTRAP, IMPDEP2, the quad-precision operations, loads and stores, and WRHPR of
HVER take illegal_instruction in every mode, with nothing changed before the entry (R816, R1150, R913, R1030). -/
def Obligations.UnimplementedInstructionsAreIllegal : Prop :=
  ∀ (s : State) (rd rs1 rs2 : Reg) (c22 : BitVec 22) (rest : BitVec 19) (cond : BitVec 4) (opfCc rcond : BitVec 3) (o : RegImm)
    (addr : AltAddr),
    ∀ i ∈ [Instr.illtrap rd c22, .impdep2 rd rest, .fmovq rd rs1 rs2, .fnegq rd rs1 rs2, .fabsq rd rs1 rs2,
      .fsqrtq rd rs1 rs2, .faddq rd rs1 rs2, .fsubq rd rs1 rs2, .fmulq rd rs1 rs2, .fdivq rd rs1 rs2, .fdmulq rd rs1 rs2,
      .fqtox rd rs1 rs2, .fxtoq rd rs1 rs2, .fqtos rd rs1 rs2, .fqtod rd rs1 rs2, .fitoq rd rs1 rs2, .fstoq rd rs1 rs2,
      .fdtoq rd rs1 rs2, .fqtoi rd rs1 rs2, .fcmpq rd rs1 rs2, .fcmpeq rd rs1 rs2, .fmovqcc rd cond opfCc rs2,
      .fmovrq rd rs1 rcond rs2, .ldqf rd rs1 o, .stqf rd rs1 o, .ldqfa rd rs1 addr, .stqfa rd rs1 addr, .wrhprHver rs1 o],
      Traps i s s 0x010 ∧ trapPriority 0x010 = 6 * 16 + 1 ∧ trapToPriv 0x010 = false

/-! ## State registers, barriers, reset and halt, spec/43_state_access.md -/

/-- Every RDasr (R995 to R999): the word, who may read, the trap of who may not, and the value; the numbers that have no
register to read are no instructions. -/
def Obligations.StateRegistersAreRead : Prop :=
  (∀ (s : State) (rd : Reg),
    let npt : Nat := if s.tim.npt then 2 ^ 63 else 0
    let link : Word := if s.pstate.am then BitVec.ofNat 64 (s.pc.toNat % 2 ^ 32 / 4 * 4)
      else ((s.pc.extractLsb' 2 46 ++ 0#2 : BitVec 48).signExtend 64)
    let reads := fun (i : Instr) (asr : Nat) (refused : Bool) (tt : BitVec 9) (v : Word) =>
      HasOp3 i 2 0x28 ∧ rs1Field (encode i) = BitVec.ofNat 5 asr ∧ low14Field (encode i) = 0 ∧
      (refused = false → Writes i s s rd v) ∧ (refused = true → Traps i s s tt)
    let user := s.level == .user
    reads (.rdY rd) 0x00 false 0 (BitVec.ofNat 64 s.y.toNat) ∧
    reads (.rdCcr rd) 0x02 false 0 (BitVec.ofNat 64 s.ccr.toNat) ∧
    reads (.rdAsi rd) 0x03 false 0 (BitVec.ofNat 64 s.asi.toNat) ∧
    reads (.rdTick rd) 0x04 (user && s.tim.npt) 0x037 (BitVec.ofNat 64 (npt + s.tim.counter.toNat)) ∧
    reads (.rdPc rd) 0x05 false 0 link ∧
    reads (.rdFprs rd) 0x06 false 0 (BitVec.ofNat 64 s.fprs.toNat) ∧
    reads (.rdPcr rd) 0x10 user 0x011 s.pcr ∧
    reads (.rdPic rd) 0x11 (user && bitAt s.pcr 0) 0x037 s.pic ∧
    reads (.rdGsr rd) 0x13 (!s.fpEnabled) 0x020 s.gsr.word ∧
    reads (.rdSoftint rd) 0x16 user 0x011 (BitVec.ofNat 64 s.tim.softint.toNat) ∧
    reads (.rdTickCmpr rd) 0x17 user 0x011 s.tim.tickCmpr ∧
    reads (.rdStick rd) 0x18 (user && s.tim.npt) 0x037 (BitVec.ofNat 64 (npt + s.tim.counter.toNat / 128 * 128 + 127)) ∧
    reads (.rdStickCmpr rd) 0x19 user 0x011 s.tim.stickCmpr) ∧
  ∀ w : Word32, opField w = 2 → op3Field w = 0x28 →
    rs1Field w ∈ [0x01, 0x07, 0x08, 0x09, 0x0A, 0x0B, 0x0C, 0x0D, 0x0E, 0x12, 0x14, 0x15, 0x1A, 0x1B, 0x1C, 0x1D, 0x1E,
      0x1F] ∨ (rs1Field w = 0x0F ∧ rdField w ≠ 0) → ∃ e, decode w = .error e

/-- Every WRasr but SIR (R991, R1000 to R1005): what is written is the exclusive or of the two operands, cut to the register;
who may write, and the trap of who may not. That a write of a compare register, or of TICK or STICK, makes a match that the
register was waiting for possible again (`tickSeen`, `stickSeen`, `hstickSeen`) is the model's choice: R1003 leaves it open (log
entry 9, DESIGN CHOICE). GSR and PCR, field by field (spec/10_state.md R84, R88): what is written is read
back in the implemented fields; the reserved ones read 0; the overflow bits may be held; and `ht` is written in
hyperprivileged mode only. -/
def Obligations.StateRegistersAndFieldsAreWritten : Prop :=
  ((∀ (s : State) (rs1 : Reg) (o : RegImm),
     let v := s.reg rs1 ^^^ RegImm.value o s
     let writes := fun (i : Instr) (asr : Nat) (refused : Bool) (tt : BitVec 9) (b : State) =>
       HasOp3 i 2 0x30 ∧ rdField (encode i) = BitVec.ofNat 5 asr ∧
       (refused = false → Completes i s b) ∧ (refused = true → Traps i s s tt)
     let user := s.level == .user
     let clock := { s with tim := { s.tim with
       npt := bitAt v 63, counter := BitVec.ofNat 63 v.toNat, tickSeen := false, stickSeen := false, hstickSeen := false } }
     let softint := fun (x : BitVec 17) => { s with tim := { s.tim with softint := x } }
     let v17 := BitVec.ofNat 17 v.toNat
     writes (.wrY rs1 o) 0x00 false 0 { s with y := BitVec.ofNat 32 v.toNat } ∧
     writes (.wrCcr rs1 o) 0x02 false 0 { s with ccr := BitVec.ofNat 8 v.toNat } ∧
     writes (.wrAsi rs1 o) 0x03 false 0 { s with asi := BitVec.ofNat 8 v.toNat } ∧
     writes (.wrTick rs1 o) 0x04 (s.level != .hyper) (if user then 0x011 else 0x010) clock ∧
     writes (.wrFprs rs1 o) 0x06 false 0 { s with fprs := BitVec.ofNat 3 v.toNat } ∧
     writes (.wrPcr rs1 o) 0x10 user 0x011 { s with pcr := pcrWritten s.pcr v (s.level == .hyper) } ∧
     writes (.wrPic rs1 o) 0x11 (user && bitAt s.pcr 0) 0x037 { s with pic := v } ∧
     writes (.wrGsr rs1 o) 0x13 (!s.fpEnabled) 0x020 { s with gsr := Gsr.ofWord v } ∧
     writes (.wrSoftintSet rs1 o) 0x14 user 0x011 (softint (s.tim.softint ||| v17)) ∧
     writes (.wrSoftintClr rs1 o) 0x15 user 0x011 (softint (s.tim.softint &&& ~~~v17)) ∧
     writes (.wrSoftint rs1 o) 0x16 user 0x011 (softint v17) ∧
     writes (.wrTickCmpr rs1 o) 0x17 user 0x011 { s with tim := { s.tim with tickCmpr := v, tickSeen := false } } ∧
     writes (.wrStick rs1 o) 0x18 (s.level != .hyper) 0x010 clock ∧
     writes (.wrStickCmpr rs1 o) 0x19 user 0x011 { s with tim := { s.tim with stickCmpr := v, stickSeen := false } }) ∧
   ∀ w : Word32, opField w = 2 → op3Field w = 0x30 →
     rdField w ∈ [0x01, 0x05, 0x07, 0x08, 0x09, 0x0A, 0x0B, 0x0C, 0x0D, 0x0E, 0x12, 0x1A, 0x1B, 0x1C, 0x1D, 0x1E, 0x1F] →
       ∃ e, decode w = .error e) ∧
  (∀ v : Word,
    (Gsr.ofWord v).word = v &&& 0xFFFFFFFF0E0000FF) ∧
  (∀ g : Gsr, Gsr.ofWord g.word = g ∧ g.word.extractLsb' 32 32 = g.mask ∧ bitAt g.word 27 = g.im ∧
    g.word.extractLsb' 25 2 = g.irnd ∧ g.word.extractLsb' 3 5 = g.scale ∧ g.word.extractLsb' 0 3 = g.align) ∧
  ∀ (old v : Word) (hyper : Bool),
    let new := pcrWritten old v hyper
    (∀ k, k < 32 → k ≠ 31 → k ≠ 18 → k ≠ 3 → bitAt new k = bitAt v k) ∧
    (∀ k, 32 ≤ k → bitAt new k = false) ∧
    bitAt new 31 = (if bitAt v 63 then bitAt old 31 else bitAt v 31) ∧
    bitAt new 18 = (if bitAt v 62 then bitAt old 18 else bitAt v 18) ∧
    bitAt new 3 = (if hyper then bitAt v 3 else bitAt old 3)


/-- Every RDPR (R1010, R1011, R1016): the value of the register, which no nonprivileged program may read; the trap registers
do not exist at TL = 0. -/
def Obligations.PrivilegedRegistersAreRead : Prop :=
  (∀ (s : State) (rd : Reg),
    let f := s.frame
    let address := fun (t : BitVec 46) => ((t ++ 0#2 : BitVec 48).signExtend 64 : Word)
    let weigh := fun (p : PState) =>
      (if p.tct then 2 ^ 12 else 0) + (if p.cle then 2 ^ 9 else 0) + (if p.tle then 2 ^ 8 else 0) +
        (if p.pef then 2 ^ 4 else 0) + (if p.am then 2 ^ 3 else 0) + (if p.priv then 2 ^ 2 else 0) + (if p.ie then 2 else 0)
    let reads := fun (i : Instr) (n : Nat) (trapReg : Bool) (v : Word) =>
      HasOp3 i 2 0x2A ∧ rs1Field (encode i) = BitVec.ofNat 5 n ∧ low14Field (encode i) = 0 ∧
      (s.level = .user → Traps i s s 0x011) ∧
      (s.level ≠ .user → trapReg = true → s.tl = 0 → Traps i s s 0x010) ∧
      (s.level ≠ .user → (trapReg = false ∨ s.tl ≠ 0) → Writes i s s rd v)
    reads (.rdprTpc rd) 0x00 true (address f.tpc) ∧
    reads (.rdprTnpc rd) 0x01 true (address f.tnpc) ∧
    reads (.rdprTstate rd) 0x02 true (BitVec.ofNat 64
      (f.gl.toNat * 2 ^ 40 + f.ccr.toNat * 2 ^ 32 + f.asi.toNat * 2 ^ 24 + weigh f.pstate * 2 ^ 8 + f.cwp.toNat)) ∧
    reads (.rdprTt rd) 0x03 true (BitVec.ofNat 64 f.tt.toNat) ∧
    reads (.rdprTick rd) 0x04 false (BitVec.ofNat 64 ((if s.tim.npt then 2 ^ 63 else 0) + s.tim.counter.toNat)) ∧
    reads (.rdprTba rd) 0x05 false ((s.tba ++ 0#15 : BitVec 48).signExtend 64) ∧
    reads (.rdprPstate rd) 0x06 false (BitVec.ofNat 64 (weigh s.pstate)) ∧
    reads (.rdprTl rd) 0x07 false (BitVec.ofNat 64 s.tl.toNat) ∧
    reads (.rdprPil rd) 0x08 false (BitVec.ofNat 64 s.pil.toNat) ∧
    reads (.rdprCwp rd) 0x09 false (BitVec.ofNat 64 s.win.cwp.toNat) ∧
    reads (.rdprCansave rd) 0x0A false (BitVec.ofNat 64 s.win.cansave.toNat) ∧
    reads (.rdprCanrestore rd) 0x0B false (BitVec.ofNat 64 s.win.canrestore.toNat) ∧
    reads (.rdprCleanwin rd) 0x0C false (BitVec.ofNat 64 s.win.cleanwin.toNat) ∧
    reads (.rdprOtherwin rd) 0x0D false (BitVec.ofNat 64 s.win.otherwin.toNat) ∧
    reads (.rdprWstate rd) 0x0E false (BitVec.ofNat 64 s.win.wstate.toNat) ∧
    reads (.rdprGl rd) 0x10 false (BitVec.ofNat 64 s.gl.toNat)) ∧
  ∀ w : Word32, opField w = 2 → op3Field w = 0x2A → (rs1Field w = 0x0F ∨ 0x10 < rs1Field w) → ∃ e, decode w = .error e

/-- Every WRPR but that of PSTATE (R1010, R1011, R1013 to R1015): TL and GL saturate at what the mode allows, the window
registers keep three bits, and TICK is written in hyperprivileged mode only. That a write of TICK makes a compare match possible
again (`tickSeen`, `stickSeen`, `hstickSeen`) is the model's choice, which R1003 leaves open (log entry 9, DESIGN CHOICE).
That the bits above 47 which a write of TPC or TNPC discards (spec/10_state.md R102) leave no trace in the hidden bit of the address
hole (spec/66_diag_debug.md R2040) is the model's reading (log entry 20, DEDUCED). -/
def Obligations.PrivilegedRegistersAreWritten : Prop :=
  (∀ (s : State) (rs1 : Reg) (o : RegImm),
    let v := s.reg rs1 ^^^ RegImm.value o s
    let f := s.frame
    let hyper := s.level == .hyper
    let frame := fun (g : TrapFrame) => { s with traps := fileSet s.traps s.tl g }
    let win := fun (w : Windows) => { s with win := w }
    let writes := fun (i : Instr) (n : Nat) (trapReg : Bool) (b : State) =>
      HasOp3 i 2 0x32 ∧ rdField (encode i) = BitVec.ofNat 5 n ∧
      (s.level = .user → Traps i s s 0x011) ∧
      (s.level ≠ .user → trapReg = true → s.tl = 0 → Traps i s s 0x010) ∧
      (s.level ≠ .user → (trapReg = false ∨ s.tl ≠ 0) → Completes i s b)
    writes (.wrprTpc rs1 o) 0x00 true (frame { f with tpc := BitVec.ofNat 46 (v.toNat / 4), tpcHole := false }) ∧
    writes (.wrprTnpc rs1 o) 0x01 true (frame { f with tnpc := BitVec.ofNat 46 (v.toNat / 4), tnpcHole := false }) ∧
    writes (.wrprTstate rs1 o) 0x02 true (frame { f with
      gl := v.extractLsb' 40 2, ccr := v.extractLsb' 32 8, asi := v.extractLsb' 24 8, cwp := v.extractLsb' 0 3
      pstate := ⟨bitAt v 20, bitAt v 17, bitAt v 16, bitAt v 12, bitAt v 11, bitAt v 10, bitAt v 9⟩ }) ∧
    writes (.wrprTt rs1 o) 0x03 true (frame { f with tt := BitVec.ofNat 9 v.toNat }) ∧
    (HasOp3 (.wrprTick rs1 o) 2 0x32 ∧ rdField (encode (.wrprTick rs1 o)) = 4 ∧
      (s.level = .user → Traps (.wrprTick rs1 o) s s 0x011) ∧ (s.level = .priv → Traps (.wrprTick rs1 o) s s 0x010) ∧
      (s.level = .hyper → Completes (.wrprTick rs1 o) s { s with tim := { s.tim with
        npt := bitAt v 63, counter := BitVec.ofNat 63 v.toNat, tickSeen := false, stickSeen := false
        hstickSeen := false } })) ∧
    writes (.wrprTba rs1 o) 0x05 false { s with tba := v.extractLsb' 15 33 } ∧
    writes (.wrprTl rs1 o) 0x07 false
      { s with tl := BitVec.ofNat 3 (min (v.toNat % 8) (if hyper then 6 else 2)) } ∧
    writes (.wrprPil rs1 o) 0x08 false { s with pil := BitVec.ofNat 4 v.toNat } ∧
    writes (.wrprCwp rs1 o) 0x09 false (win { s.win with cwp := BitVec.ofNat 3 v.toNat }) ∧
    writes (.wrprCansave rs1 o) 0x0A false (win { s.win with cansave := BitVec.ofNat 3 v.toNat }) ∧
    writes (.wrprCanrestore rs1 o) 0x0B false (win { s.win with canrestore := BitVec.ofNat 3 v.toNat }) ∧
    writes (.wrprCleanwin rs1 o) 0x0C false (win { s.win with cleanwin := BitVec.ofNat 3 v.toNat }) ∧
    writes (.wrprOtherwin rs1 o) 0x0D false (win { s.win with otherwin := BitVec.ofNat 3 v.toNat }) ∧
    writes (.wrprWstate rs1 o) 0x0E false (win { s.win with wstate := BitVec.ofNat 6 v.toNat }) ∧
    writes (.wrprGl rs1 o) 0x10 false
      { s with gl := BitVec.ofNat 2 (min (v.toNat % 16) (if hyper then 3 else 2)) }) ∧
  ∀ w : Word32, opField w = 2 → op3Field w = 0x32 → (rdField w = 0x0F ∨ 0x10 < rdField w) → ∃ e, decode w = .error e

/-- WRPR of PSTATE (R1012): the seven implemented bits. Where it clears PSTATE.am, the model draws a free value that says
whether a sequential NPC in the address hole is still seen (DESIGN CHOICE of log entry 20, spec/20_memory.md R506 item 5): NPC
then keeps its 64 bits or only the lower 48. -/
def Obligations.ProcessorStateIsWritten : Prop :=
  ∀ (s : State) (rs1 : Reg) (o : RegImm),
    let v := s.reg rs1 ^^^ RegImm.value o s
    let p : PState := ⟨bitAt v 12, bitAt v 9, bitAt v 8, bitAt v 4, bitAt v 3, bitAt v 2, bitAt v 1⟩
    let i := Instr.wrprPstate rs1 o
    let cleared := s.pstate.am && !p.am
    HasOp3 i 2 0x32 ∧ rdField (encode i) = 6 ∧
    (s.level = .user → Traps i s s 0x011) ∧
    (s.level ≠ .user → cleared = false → Completes i s { s with pstate := p }) ∧
    (s.level ≠ .user → cleared = true →
      ∃ npc, (npc = s.npc ∨ (outOfRange s.npc = true ∧ npc = (s.npc.extractLsb' 0 48).signExtend 64)) ∧
        Goes i s { s with pstate := p, oracle := s.oracle + 1 } npc (npc + 4))

/-- RDHPR and WRHPR (R1030 to R1032): the registers of hyperprivileged mode; in another mode each is an illegal
instruction, and the other numbers are no instructions. That a write of HSTICK_CMPR makes a match possible again (`hstickSeen`) is
the model's choice, which R1003 leaves open (log entry 9, DESIGN CHOICE). -/
def Obligations.HyperprivilegedRegistersAreReadAndWritten : Prop :=
  (∀ (s : State) (rd rs1 : Reg) (o : RegImm),
    let v := s.reg rs1 ^^^ RegImm.value o s
    let weigh := fun (h : HPState) => BitVec.ofNat 64
      ((if h.ibe then 2 ^ 10 else 0) + (if h.red then 2 ^ 5 else 0) + (if h.hpriv then 2 ^ 2 else 0) + (if h.tlz then 1 else 0))
    let bits : HPState := ⟨bitAt v 10, bitAt v 5, bitAt v 2, bitAt v 0⟩
    let checks := fun (i : Instr) (op3 : BitVec 6) (n : Nat) (trapReg : Bool) (does : Prop) =>
      HasOp3 i 2 op3 ∧ (if op3 = 0x29 then rs1Field (encode i) else rdField (encode i)) = BitVec.ofNat 5 n ∧
      (s.level ≠ .hyper → Traps i s s 0x010) ∧
      (s.level = .hyper → trapReg = true → s.tl = 0 → Traps i s s 0x010) ∧
      (s.level = .hyper → (trapReg = false ∨ s.tl ≠ 0) → does)
    let reads := fun (i : Instr) (n : Nat) (trapReg : Bool) (x : Word) => checks i 0x29 n trapReg (Writes i s s rd x)
    let writes := fun (i : Instr) (n : Nat) (trapReg : Bool) (b : State) => checks i 0x33 n trapReg (Completes i s b)
    reads (.rdhprHpstate rd) 0x00 false (weigh s.hpstate) ∧
    reads (.rdhprHtstate rd) 0x01 true (weigh s.frame.hpstate) ∧
    reads (.rdhprHintp rd) 0x03 false (if s.tim.hsp then 1 else 0) ∧
    reads (.rdhprHtba rd) 0x05 false ((s.htba ++ 0#14 : BitVec 48).signExtend 64) ∧
    reads (.rdhprHver rd) 0x06 false (0x003E002400030607 ||| (Config.hverMask.setWidth 64 <<< 24)) ∧
    reads (.rdhprHalt rd) 0x1E false 0 ∧
    reads (.rdhprHstickCmpr rd) 0x1F false s.tim.hstickCmpr ∧
    writes (.wrhprHpstate rs1 o) 0x00 false { s with hpstate := bits } ∧
    writes (.wrhprHtstate rs1 o) 0x01 true { s with traps := fileSet s.traps s.tl { s.frame with hpstate := bits } } ∧
    writes (.wrhprHintp rs1 o) 0x03 false { s with tim := { s.tim with hsp := bitAt v 0 } } ∧
    writes (.wrhprHtba rs1 o) 0x05 false { s with htba := v.extractLsb' 14 34 } ∧
    writes (.wrhprHstickCmpr rs1 o) 0x1F false { s with tim := { s.tim with hstickCmpr := v, hstickSeen := false } }) ∧
  ∀ w : Word32, opField w = 2 →
    let unused := fun (n : Reg) => n = 2 ∨ n = 4 ∨ (7 ≤ n ∧ n ≤ 0x1D)
    (op3Field w = 0x29 → unused (rs1Field w) → ∃ e, decode w = .error e) ∧
    (op3Field w = 0x33 → unused (rdField w) → ∃ e, decode w = .error e)

/-- SIR and the halt pseudo-instruction (R1045, R1040). SIR in hyperprivileged mode is the software-initiated reset, trap
type 4 at offset 0x80 of the reset vector, in RED_state; the halt stops the strand unless something is there to wake it, or it is in Disable Overlap or Single Step mode. In
another mode each is an illegal instruction. That the errors which wake the strand are those in DESR.f and in the two deferred bits
of DFESR is the model's reading of R1532 (log entry 37, DEDUCED). -/
def Obligations.SoftwareResetAndHalt : Prop :=
  ∀ (s : State) (simm13 : BitVec 13) (rs1 : Reg) (o : RegImm),
    let vector : Word := (if s.cmt.rstVecMask then 0 else 0xFFFFFFFFF0000000) + 0x80
    let sir := Instr.sir simm13
    let halt := Instr.halt rs1 o
    let wakes := bitAt s.tim.softint 16 || bitAt s.tim.softint 0 || s.tim.hsp || s.intr.receive != 0 || s.err.desr.f ||
      s.err.dfesr.sba || s.err.dfesr.sbdio || s.xirPending || s.dbg.overlapMode
    encode sir = 0x9F802000 ||| simm13.setWidth 32 ∧
    HasOp3 halt 2 0x33 ∧ rdField (encode halt) = 0x1E ∧
    (s.level ≠ .hyper → Traps sir s s 0x010 ∧ Traps halt s s 0x010) ∧
    (s.level = .hyper →
      (∃ t, exec sir s = .next t ∧ t.pc = vector ∧ t.npc = vector + 4 ∧ t.tl = BitVec.ofNat 3 (min (s.tl.toNat + 1) 6) ∧
        t.frame.tt = 4 ∧ tpcWord t.frame.tpc = sext48 (savedPc s.pstate.am s.pc ++ 0#2) ∧ t.hpstate.red = true ∧
        t.hpstate.hpriv = true ∧ t.regs = s.regs ∧ t.fregs = s.fregs ∧ t.mmu = s.mmu ∧ SameMemory s t) ∧
      (wakes = true → Completes halt s s) ∧ (wakes = false → Completes halt s { s with run := .halted }))

/-- The barriers (R950, R952, R953): one that orders an earlier store before a later load empties the store buffer, which
changes nothing else where no store in it is in error (spec/62_errors_core.md R1581); the others do nothing. The prefetches
(R945, R946; spec/62_errors_core.md R1566 to R1568; spec/63_errors_l2_dram.md R1714). The function codes 5 to 15 are
illegal, and PREFETCH with function code 24 in hyperprivileged mode must carry its key (spec/66_diag_debug.md R2060). Any
other prefetch writes no register and no TLB: it completes, and at most records errors of the line that it
prefetches, or it takes the trap that reports an error of the data TLB. It changes nothing at all where its function code is
one that does nothing, where its ASI is none that translates or is restricted, where the data TLB holds no entry for its
address, and, in hyperprivileged mode, where the memory at its address exists and holds no bad data. Memory, and what the store
buffer keeps of it, may change only where software has injected errors into DRAM, whose data a correction then spoils
(spec/63_errors_l2_dram.md R1723). That a prefetch may take
the trap of a data TLB error and no other, and what it drops, is the model's choice between R945 and R946 on one side and
spec/21_asi_map.md R564 and spec/62_errors_core.md R1566 to R1568 on the other (log entry 43, DESIGN CHOICE); that function code 24
without its key is left out rests on log entry 29. -/
def Obligations.BarriersDrainAndPrefetchesChangeNoData : Prop :=
  (∀ (s : State) (cmask : BitVec 3) (mmask : BitVec 4) (rs1 : Reg) (o : RegImm),
     let drains := fun (i : Instr) =>
       (∃ t, exec i s = .next t ∧ t.undrained = [] ∧ t.pc = s.npc ∧ t.npc = s.npc + 4 ∧ t.regs = s.regs) ∧
       (s.undrained.all PendingStore.clean = true → Completes i s { s with undrained := [] })
     encode .stbar = 0x8143C000 ∧ Completes .stbar s s ∧
     encode (.membar cmask mmask) = 0x8143E000 ||| (cmask.setWidth 32 <<< 4) ||| mmask.setWidth 32 ∧
     (if bitAt mmask 1 || bitAt cmask 1 || bitAt cmask 2 then drains (.membar cmask mmask)
       else Completes (.membar cmask mmask) s s) ∧
     HasOp3 (.flush rs1 o) 2 0x3B ∧ drains (.flush rs1 o)) ∧
  ∀ (s : State) (rs1 : Reg) (o : RegImm) (addr : AltAddr) (fcn : BitVec 5),
    let cut := fun (a : Word) => if s.pstate.am then BitVec.ofNat 64 (a.toNat % 2 ^ 32) else a
    let ea := cut (s.reg rs1 + RegImm.value o s)
    let ax := cut (s.reg rs1 + AltAddr.value addr s)
    let asi := match addr with
      | .immAsi a _ => a
      | .asiReg _ => s.asi
    let illegal := 5 ≤ fcn.toNat ∧ fcn.toNat ≤ 15
    let key := ea.toNat / 2 ^ 37 % 8 = 3
    let harmless := fun (i : Instr) =>
      (∃ t, exec i s = .next t ∧
        t = { s with notData := t.notData, csr := t.csr, err := t.err, events := t.events, chipReset := t.chipReset,
                     oracle := t.oracle, mem := t.mem, undrained := t.undrained, linkLine := t.linkLine,
                     pc := s.npc, npc := s.npc + 4 } ∧
        t.undrained.map PendingStore.addrs = s.undrained.map PendingStore.addrs ∧
        (s.KeepsData → t.undrained = s.undrained ∧ SameMemory s t)) ∨
      ∃ b, Traps i s b 0x072 ∧ b = { s with err := b.err, mmu := b.mmu }
    let good := fun (va : Word) => isIo (va.toNat % 2 ^ 40) = true ∨ s.plainLine (va.toNat % 2 ^ 40) = true
    let absent := fun (named : Option (BitVec 8)) (va : Word) => ∃ sp, s.space named = some sp ∧ s.route sp ≠ .bypass ∧
      s.tlbMatches .data ((⟨.load, named, va, 1⟩ : DataReq).request sp (s.route sp)) = []
    HasOp3 (.prefetch fcn rs1 o) 3 0x2D ∧ HasOp3 (.prefetcha fcn rs1 addr) 3 0x3D ∧
    (illegal → Traps (.prefetch fcn rs1 o) s s 0x010 ∧ Traps (.prefetcha fcn rs1 addr) s s 0x010) ∧
    (¬illegal → ¬(fcn = 24 ∧ s.level = .hyper ∧ ¬key) →
      harmless (.prefetch fcn rs1 o) ∧
      (fcn = 4 ∨ 24 ≤ fcn.toNat ∨ absent none ea ∨ (s.hpstate.hpriv = true ∧ good ea) →
        Completes (.prefetch fcn rs1 o) s s)) ∧
    (¬illegal →
      harmless (.prefetcha fcn rs1 addr) ∧
      (fcn = 4 ∨ 24 ≤ fcn.toNat ∨ s.space (some asi) = none ∨ s.restricted (some asi) = true ∨ absent (some asi) ax ∨
          (s.hpstate.hpriv = true ∧ asi ∈ ([0x80, 0x81, 0x88, 0x89] : List (BitVec 8)) ∧ good ax) →
        Completes (.prefetcha fcn rs1 addr) s s))

/-! ## Loads, stores and atomics, spec/42_load_store.md -/

/-- What passing the checks of spec/20_memory.md R540 does and does not do: it may use, replace or walk for a TLB entry,
which takes the free values of a walk, sets Tag Access, may find stores still in the store buffer, which it may leave there
or not (log entry 11), and may log an error of the line that holds the TTE, which can
ask for a reset of the chip; every other field of the state is as before. In
particular no check writes a register, or memory where software has injected no errors into DRAM (spec/63_errors_l2_dram.md R1723).
In hyperprivileged mode an implicit access, and one with ASI_PRIMARY, ASI_SECONDARY or their little-endian forms, is not translated: where no PA watchpoint is enabled and no store of the buffer
is in error it passes every check, with no effect at all, and reaches PA{39:0} = VA{39:0} in its own byte order (an atomic
only outside I/O space; spec/12_mmu_translation.md R353). -/
def Obligations.ChecksOfAnAccessChangeNoData : Prop :=
  (∀ (s s1 : State) (r : DataReq) (l : Located), s.access r = .ok l s1 →
    s1 = { s with dtlb := s1.dtlb, mmu := { s.mmu with dtag := s1.mmu.dtag }, oracle := s1.oracle, csr := s1.csr,
                  err := s1.err, undrained := s1.undrained, notData := s1.notData, events := s1.events,
                  chipReset := s1.chipReset, mem := s1.mem, linkLine := s1.linkLine } ∧
    (s1.undrained.map PendingStore.addrs).Sublist (s.undrained.map PendingStore.addrs) ∧
    (s.KeepsData → s1.undrained.Sublist s.undrained ∧ SameMemory s s1)) ∧
  ∀ (s : State) (op : OpClass) (asi : Option (BitVec 8)) (va : Word) (n : Nat),
    s.hpstate.hpriv = true → s.lsu.mode ≠ 2 → s.undrained.all PendingStore.clean = true →
    (op = .load ∨ op = .loadX ∨ op = .loadTwin ∨ op = .loadF ∨ op = .loadD ∨ op = .store ∨ op = .storeX ∨ op = .storeTwin ∨
      op = .storeF ∨ op = .storeD ∨ (op = .atomic ∧ bitAt va 39 = false)) →
    let little : Bool := match asi with
      | none => s.pstate.cle
      | some a => bitAt a 3
    (asi = none ∨ asi = some 0x80 ∨ asi = some 0x81 ∨ asi = some 0x88 ∨ asi = some 0x89) →
    s.access ⟨op, asi, va, n⟩ = .ok ⟨va.toNat % 2 ^ 40, little⟩ s

/-- The integer loads, with an implicit ASI or a named one: the value of the bytes at the address, in the byte order of the
access, sign- or zero-extended to 64 bits (R875 to R881 and, with the ASI of R872, R882 to R888). -/
def Obligations.IntegerLoadsExtendTheirValue : Prop :=
  ∀ (s : State) (rd rs1 : Reg) (o : RegImm) (x : AltAddr),
    let cut := fun (a : Word) => if s.pstate.am then BitVec.ofNat 64 (a.toNat % 2 ^ 32) else a
    let ea := cut (s.reg rs1 + RegImm.value o s)
    let ax := cut (s.reg rs1 + AltAddr.value x s)
    let asi := match x with
      | .immAsi a _ => a
      | .asiReg _ => s.asi
    let signed := fun (n : Nat) (v : Word) => (v.setWidth (8 * n)).signExtend 64
    let unsigned := fun (_ : Nat) (v : Word) => v
    let does := fun (i : Instr) (op3 : BitVec 6) (r : DataReq) (extend : Nat → Word → Word) =>
      HasOp3 i 3 op3 ∧ AccessTraps i s r ∧
      ∀ (l : Located) (s1 : State), r.va.toNat % r.size = 0 → Reaches s r l s1 → Settled s1 l.pa r.size →
        Writes i s s1 rd (extend r.size (valueAt s l r.size))
    does (.ldsb rd rs1 o) 0x09 ⟨.load, none, ea, 1⟩ signed ∧ does (.ldsh rd rs1 o) 0x0A ⟨.load, none, ea, 2⟩ signed ∧
    does (.ldsw rd rs1 o) 0x08 ⟨.load, none, ea, 4⟩ signed ∧ does (.ldub rd rs1 o) 0x01 ⟨.load, none, ea, 1⟩ unsigned ∧
    does (.lduh rd rs1 o) 0x02 ⟨.load, none, ea, 2⟩ unsigned ∧ does (.lduw rd rs1 o) 0x00 ⟨.load, none, ea, 4⟩ unsigned ∧
    does (.ldx rd rs1 o) 0x0B ⟨.loadX, none, ea, 8⟩ unsigned ∧
    does (.ldsba rd rs1 x) 0x19 ⟨.load, some asi, ax, 1⟩ signed ∧
    does (.ldsha rd rs1 x) 0x1A ⟨.load, some asi, ax, 2⟩ signed ∧
    does (.ldswa rd rs1 x) 0x18 ⟨.load, some asi, ax, 4⟩ signed ∧
    does (.lduba rd rs1 x) 0x11 ⟨.load, some asi, ax, 1⟩ unsigned ∧
    does (.lduha rd rs1 x) 0x12 ⟨.load, some asi, ax, 2⟩ unsigned ∧
    does (.lduwa rd rs1 x) 0x10 ⟨.load, some asi, ax, 4⟩ unsigned ∧
    (isRegisterAsi asi = false → does (.ldxa rd rs1 x) 0x1B ⟨.loadX, some asi, ax, 8⟩ unsigned)

/-- The integer stores, with an implicit ASI or a named one (R892 to R899): the low bytes of `r[rd]` at the address, in the
byte order of the access. With a block-initializing ASI at the first word of a line the rest of the line is either left
alone or zeroed, and which of the two is free (R940). A store completes whatever is in the store buffer; here, where it has room
there. -/
def Obligations.IntegerStoresWriteTheirBytes : Prop :=
  ∀ (s : State) (rd rs1 : Reg) (o : RegImm) (x : AltAddr),
    let cut := fun (a : Word) => if s.pstate.am then BitVec.ofNat 64 (a.toNat % 2 ^ 32) else a
    let ea := cut (s.reg rs1 + RegImm.value o s)
    let ax := cut (s.reg rs1 + AltAddr.value x s)
    let asi := match x with
      | .immAsi a _ => a
      | .asiReg _ => s.asi
    let stores := fun (i : Instr) (op3 : BitVec 6) (r : DataReq) =>
      HasOp3 i 3 op3 ∧ AccessTraps i s r ∧
      ∀ (l : Located) (s1 : State), r.va.toNat % r.size = 0 → Reaches s r l s1 →
        StoresWithRoom i s s1 1 (Stores i s s1 l.pa (storeImage l.little r.size (s.reg rd)))
    let alternate := fun (i : Instr) (op3 : BitVec 6) (r : DataReq) =>
      (asiKind asi ≠ .twinInit ∨ ax.toNat % 64 ≠ 0 → stores i op3 r) ∧
      (asiKind asi = .twinInit → HasOp3 i 3 op3 ∧ AccessTraps i s r ∧
        ∀ (l : Located) (s1 : State), ax.toNat % 64 = 0 → Reaches s r l s1 →
          StoresWithRoom i s s1 1 (StoresInLine i s s1 l.pa (storeImage l.little r.size (s.reg rd))))
    stores (.stb rd rs1 o) 0x05 ⟨.store, none, ea, 1⟩ ∧ stores (.sth rd rs1 o) 0x06 ⟨.store, none, ea, 2⟩ ∧
    stores (.stw rd rs1 o) 0x04 ⟨.store, none, ea, 4⟩ ∧ stores (.stx rd rs1 o) 0x0E ⟨.storeX, none, ea, 8⟩ ∧
    alternate (.stba rd rs1 x) 0x15 ⟨.store, some asi, ax, 1⟩ ∧ alternate (.stha rd rs1 x) 0x16 ⟨.store, some asi, ax, 2⟩ ∧
    alternate (.stwa rd rs1 x) 0x14 ⟨.store, some asi, ax, 4⟩ ∧
    (isRegisterAsi asi = false → alternate (.stxa rd rs1 x) 0x1E ⟨.storeX, some asi, ax, 8⟩)

/-- The twin accesses (R900 to R903, R920). A twin-word load or store moves two words, the one at the lower address with the
even register, each in the byte order of the access by itself (decision D63); a twin-extended-word load moves two
doublewords, by its own mnemonic or by LDTWA with such an ASI in the ASI register. An odd `rd` is illegal. -/
def Obligations.TwinAccessesMovePairs : Prop :=
  ∀ (s : State) (rd rs1 rs2 : Reg) (o : RegImm) (x : AltAddr) (twin : BitVec 8),
    let cut := fun (a : Word) => if s.pstate.am then BitVec.ofNat 64 (a.toNat % 2 ^ 32) else a
    let ea := cut (s.reg rs1 + RegImm.value o s)
    let ax := cut (s.reg rs1 + AltAddr.value x s)
    let asi := match x with
      | .immAsi a _ => a
      | .asiReg _ => s.asi
    let at' := fun (l : Located) (k : Nat) => ({ l with pa := l.pa + k } : Located)
    let illegal := fun (i : Instr) => bitAt rd 0 = true → Traps i s s 0x010
    let loads := fun (i : Instr) (op3 : BitVec 6) (r : DataReq) (n : Nat) =>
      HasOp3 i 3 op3 ∧ illegal i ∧ (bitAt rd 0 = false →
        AccessTraps i s r ∧
        ∀ (l : Located) (s1 : State), r.va.toNat % r.size = 0 → Reaches s r l s1 →
          isIo (l.pa + n) = false → s1.plainLine (l.pa + n) = true → Settled s1 l.pa r.size →
          WritesPair i s s1 rd (valueAt s (at' l 0) n) (valueAt s (at' l n) n))
    let image := fun (l : Located) => storeImage l.little 4 (s.reg rd) ++ storeImage l.little 4 (s.reg (rd ||| 1))
    let stores := fun (i : Instr) (op3 : BitVec 6) (r : DataReq) (put : State → Located → Prop) =>
      HasOp3 i 3 op3 ∧ illegal i ∧ (bitAt rd 0 = false →
        AccessTraps i s r ∧ ∀ (l : Located) (s1 : State), r.va.toNat % r.size = 0 → Reaches s r l s1 → put s1 l)
    loads (.ldtw rd rs1 o) 0x03 ⟨.loadTwin, none, ea, 8⟩ 4 ∧
    (isTwinxAsi asi = false → loads (.ldtwa rd rs1 x) 0x13 ⟨.loadTwin, some asi, ax, 8⟩ 4) ∧
    (isTwinxAsi asi = true → loads (.ldtwa rd rs1 x) 0x13 ⟨.loadQuad, some asi, ax, 16⟩ 8) ∧
    loads (.ldtxa rd rs1 twin rs2) 0x13 ⟨.loadQuad, some twin, cut (s.reg rs1 + s.reg rs2), 16⟩ 8 ∧
    stores (.sttw rd rs1 o) 0x07 ⟨.storeTwin, none, ea, 8⟩ (fun s1 l =>
      StoresWithRoom (.sttw rd rs1 o) s s1 1 (Stores (.sttw rd rs1 o) s s1 l.pa (image l))) ∧
    stores (.sttwa rd rs1 x) 0x17 ⟨.storeTwin, some asi, ax, 8⟩ (fun s1 l =>
      StoresWithRoom (.sttwa rd rs1 x) s s1 1
        (if asiKind asi = .twinInit ∧ ax.toNat % 64 = 0 then StoresInLine (.sttwa rd rs1 x) s s1 l.pa (image l)
        else Stores (.sttwa rd rs1 x) s s1 l.pa (image l)))

/-- The atomics (R922 to R927): the store buffer is drained, which changes nothing else where no store in it is in error;
the old value goes to `r[rd]`, and in its place goes the byte FF, the low word of `r[rd]`, or, where the old value equals
the low part of `r[rs2]`, the low part of `r[rd]`. -/
def Obligations.AtomicsExchangeInOneStep : Prop :=
  ∀ (s : State) (rd rs1 rs2 : Reg) (o : RegImm) (x : AltAddr) (c : CasAsi),
    let cut := fun (a : Word) => if s.pstate.am then BitVec.ofNat 64 (a.toNat % 2 ^ 32) else a
    let ea := cut (s.reg rs1 + RegImm.value o s)
    let ax := cut (s.reg rs1 + AltAddr.value x s)
    let asi := match x with
      | .immAsi a _ => a
      | .asiReg _ => s.asi
    let cas := match c with
      | .immAsi a => a
      | .asiReg => s.asi
    let does := fun (i : Instr) (op3 : BitVec 6) (named : Option (BitVec 8)) (va : Word) (n : Nat)
        (stored : Located → Word → List Byte) =>
      HasOp3 i 3 op3 ∧ AccessTraps i s ⟨.atomic, named, va, n⟩ ∧
      ∀ (l : Located) (s1 : State), va.toNat % n = 0 → Reaches s ⟨.atomic, named, va, n⟩ l s1 →
        let b := s1.drain
        b.plainLine l.pa = true →
          LoadsAndStores i s b rd (valueAt b l n) l.pa (stored l (valueAt b l n)) ∧
          (s1.undrained.all PendingStore.clean = true → b = { s1 with undrained := [] })
    let swapped := fun (l : Located) (_ : Word) => storeImage l.little 4 (s.reg rd)
    let compared := fun (n : Nat) (l : Located) (old : Word) =>
      if old.toNat = (s.reg rs2).toNat % 2 ^ (8 * n) then storeImage l.little n (s.reg rd) else []
    does (.ldstub rd rs1 o) 0x0D none ea 1 (fun _ _ => [0xFF]) ∧
    does (.ldstuba rd rs1 x) 0x1D (some asi) ax 1 (fun _ _ => [0xFF]) ∧
    does (.swap rd rs1 o) 0x0F none ea 4 swapped ∧ does (.swapa rd rs1 x) 0x1F (some asi) ax 4 swapped ∧
    does (.casa rd rs1 c rs2) 0x3C (some cas) (cut (s.reg rs1)) 4 (compared 4) ∧
    does (.casxa rd rs1 c rs2) 0x3E (some cas) (cut (s.reg rs1)) 8 (compared 8)

/-- LDXA and STXA of registers behind nontranslating ASIs, with the ASI in the instruction or in %asi, and LDDFA and STDFA, which move
the same registers (R961), in the modes that may use them (spec/21_asi_map.md R561): hyperprivileged mode, and privileged mode below
ASI 0x30. A scratchpad register by its number (R205, R206); the contexts, of which Context 0 stores both (spec/13_mmu_registers.md
R405); the control register of the load-store unit (spec/11_state_asi_regs.md R220) and the watchpoints (R230, R240); the interrupt
queues, whose tails privileged mode only reads (spec/61_interrupts_cmt.md R1470), and INTR_RECEIVE, whose bits a store clears (R1460);
the TSB Config registers, of which a reserved page size traps (spec/13_mmu_registers.md R435), and the ranges and offsets of the
tablewalk (R430, R432); CERER, SETER and DESR, which a load clears (spec/62_errors_core.md R1590, R1595, R1615), so that an error
which comes later is not detected together with earlier ones (R1616); and the CMT registers (spec/61_interrupts_cmt.md R1500 to
R1518). An address that is no register, or not for the direction or the mode, raises DAE_invalid_asi. In a mode that may not use the
ASI the access takes privileged_action. The stores are those of a strand where no error of the store buffer is in question
(spec/62_errors_core.md R1586). Three clauses of CORE_RUNNING and ASI_XIR_STEERING are the model's choice: that the strand's own bit
of CORE_RUNNING_STATUS follows at once, where those of other strands come later (log entry 34, DESIGN CHOICE); that a second change of
CORE_RUNNING before the first is done is refused, whose operation R1515 calls unpredictable (log entry 26, DESIGN CHOICE); and that ASI_XIR_STEERING
keeps every bit written (log entry 59, DESIGN CHOICE). -/
def Obligations.RegisterAsisReadAndWriteRegisters : Prop :=
  ∀ (s : State) (rd rs1 : Reg) (addr : AltAddr) (k : BitVec 3) (j : BitVec 2),
    let sum := s.reg rs1 + AltAddr.value addr s
    let ea := if s.pstate.am then BitVec.ofNat 64 (sum.toNat % 2 ^ 32) else sum
    let asi := match addr with
      | .immAsi a _ => a
      | .asiReg _ => s.asi
    let a := ea.toNat % 2 ^ 48
    let load := Instr.ldxa rd rs1 addr
    let store := Instr.stxa rd rs1 addr
    let u := s.ringed
    let readsTo := fun (b : State) (v : Word) =>
      Writes load s b rd v ∧ (s.fpEnabled = true → WritesDouble (.lddfa rd rs1 addr) s b rd v)
    let reads := readsTo s
    let writes := fun (b : Word → State) => s.checksClean = true →
      Completes store s (b (s.reg rd)) ∧
      (s.fpEnabled = true → Completes (.stdfa rd rs1 addr) s (b (s.f64 rd)))
    let noLoad := Traps load s (s.setDsfar ea) 0x014
    let noStore := Traps store s (s.setDsfar ea) 0x014
    let context := fun (v : Word) => v.extractLsb' 0 13
    let mmu := fun (m : Mmu) => ({ u with mmu := m } : State)
    let err := fun (e : ErrRegs) => ({ u with err := e } : State)
    let cmt := fun (c : Cmt) => ({ u with cmt := c } : State)
    ea.toNat % 8 = 0 →
      (s.level = .user → asi < 0x80 → Traps load s (s.setDsfar ea) 0x037 ∧ Traps store s (s.setDsfar ea) 0x037) ∧
      (s.level = .priv → 0x30 ≤ asi → asi < 0x80 → Traps load s (s.setDsfar ea) 0x037 ∧ Traps store s (s.setDsfar ea) 0x037) ∧
      (s.level = .hyper ∨ (s.level = .priv ∧ asi < 0x30) →
        ((asi = 0x4F ∨ asi = 0x20 ∧ k ≠ 4 ∧ k ≠ 5) → a = 8 * k.toNat →
          reads (fileGet s.scratch k) ∧ writes (fun v => { u with scratch := fileSet s.scratch k v })) ∧
        (asi = 0x21 → a = 0x8 → reads (s.mmu.primary0.setWidth 64) ∧
          writes (fun v => mmu { s.mmu with primary0 := context v, primary1 := context v })) ∧
        (asi = 0x21 → a = 0x108 → reads (s.mmu.primary1.setWidth 64) ∧
          writes (fun v => mmu { s.mmu with primary1 := context v })) ∧
        (asi = 0x21 → a = 0x10 → reads (s.mmu.secondary0.setWidth 64) ∧
          writes (fun v => mmu { s.mmu with secondary0 := context v, secondary1 := context v })) ∧
        (asi = 0x21 → a = 0x110 → reads (s.mmu.secondary1.setWidth 64) ∧
          writes (fun v => mmu { s.mmu with secondary1 := context v })) ∧
        (asi = 0x25 → a = 0x3C0 + 8 * k.toNat →
          reads (BitVec.ofNat 64 ((fileGet s.intr.queue k).toNat * 2 ^ 6)) ∧
          (bitAt k 0 = false ∨ s.level = .hyper →
            writes (fun v => { u with intr := { s.intr with queue := fileSet s.intr.queue k (v.extractLsb' 6 12) } })) ∧
          (bitAt k 0 = true → s.level = .priv → noStore)) ∧
        ((asi = 0x20 ∧ (a = 0x20 ∨ a = 0x28) ∨ asi = 0x21 ∧ a = 0 ∨ asi = 0x25 ∧ a < 0x3C0) → noLoad ∧ noStore)) ∧
      (s.level = .hyper →
        (asi = 0x45 → a = 0 →
          reads ((s.lsu.mode ++ s.lsu.bm ++ boolBit s.lsu.re ++ boolBit s.lsu.we ++ 0#18 ++ boolBit s.lsu.se ++
            boolBit s.lsu.dm ++ boolBit s.lsu.im ++ boolBit s.lsu.dc ++ boolBit s.lsu.ic : BitVec 35).setWidth 64) ∧
          writes (fun v => { u with lsu :=
            { mode := v.extractLsb' 33 2, bm := v.extractLsb' 25 8, re := bitAt v 24, we := bitAt v 23, se := bitAt v 4,
              dm := bitAt v 3, im := bitAt v 2, dc := bitAt v 1, ic := bitAt v 0 } })) ∧
        (asi = 0x58 → a = 0x38 → reads ((s.watch.data ++ 0#3 : BitVec 48).signExtend 64) ∧
          writes (fun v => { u with watch := { s.watch with data := v.extractLsb' 3 45 } })) ∧
        (asi = 0x50 → a = 0x38 →
          reads ((s.watch.inst ++ 0#1 ++ boolBit s.watch.instEnable : BitVec 48).signExtend 64) ∧
          writes (fun v => { u with watch := { s.watch with inst := v.extractLsb' 2 46, instEnable := bitAt v 0 } })) ∧
        (asi = 0x72 → a = 0 → reads s.intr.receive ∧
          writes (fun v => { u with intr := { s.intr with receive := s.intr.receive &&& v } })) ∧
        (asi = 0x54 → ∀ nonzero : Bool, a = (if nonzero then 0x30 else 0x10) + 8 * j.toNat →
          let c := fileGet (if nonzero then s.mmu.tsbNonzero else s.mmu.tsbZero) j
          let code := fun (p : PageSize) => match p with | .k8 => 0 | .k64 => 1 | .m4 => 3 | .m256 => 5
          let put := fun (x : TsbConfig) =>
            if nonzero then mmu { s.mmu with tsbNonzero := fileSet s.mmu.tsbNonzero j x }
            else mmu { s.mmu with tsbZero := fileSet s.mmu.tsbZero j x }
          reads (boolBit c.enable ++ boolBit c.useContext0 ++ boolBit c.useContext1 ++ 0#21 ++ c.base ++ 0#4 ++
            boolBit c.raNotPa ++ BitVec.ofNat 4 (code c.pageSize) ++ c.tsbSize) ∧
          (∀ p : PageSize, s.checksClean = true → (s.reg rd).toNat / 16 % 16 = code p →
            let v := s.reg rd
            Completes store s (put
              { enable := bitAt v 63, useContext0 := bitAt v 62, useContext1 := bitAt v 61, base := v.extractLsb' 13 27,
                raNotPa := bitAt v 8, pageSize := p, tsbSize := v.extractLsb' 0 4 })) ∧
          ((∀ p : PageSize, (s.reg rd).toNat / 16 % 16 ≠ code p) → Traps store s s 0x03B)) ∧
        (asi = 0x52 → a = 0x108 + 8 * j.toNat →
          let r := fileGet s.mmu.realRange j
          reads (boolBit r.enable ++ 0#9 ++ r.high ++ r.low) ∧
          writes (fun v =>
            let new : RealRange := { enable := bitAt v 63, high := v.extractLsb' 27 27, low := v.extractLsb' 0 27 }
            mmu { s.mmu with realRange := fileSet s.mmu.realRange j new })) ∧
        (asi = 0x52 → a = 0x208 + 8 * j.toNat →
          reads (BitVec.ofNat 64 ((fileGet s.mmu.physOffset j).toNat * 2 ^ 13)) ∧
          writes (fun v => mmu { s.mmu with physOffset := fileSet s.mmu.physOffset j (v.extractLsb' 13 27) })) ∧
        (asi = 0x4C → a = 0x10 → reads s.err.cerer ∧
          writes (fun v => err { s.err with cerer := v &&& 0xECF5C1F3F8BFFFFF })) ∧
        (asi = 0x4C → a = 0x18 → reads (0#1 ++ s.err.seter ++ 0#60) ∧
          writes (fun v => err { s.err with seter := v.extractLsb' 60 3 })) ∧
        (asi = 0x4C → a = 0 →
          let d := s.err.desr
          let deferred := s.err.dfesr.sba || s.err.dfesr.sbdio
          let cleared : Desr := { f := false, me := false, s := false, errtype := 0, erraddr := 0 }
          readsTo
            { s with err := { s.err with desr := cleared, together := none, clfesr := if deferred then s.err.clfesr else 0 } }
            (boolBit d.f ++ boolBit d.me ++ boolBit d.s ++ d.errtype ++ 0#45 ++ d.erraddr) ∧ noStore) ∧
        (asi = 0x41 →
          (a = 0x00 → reads coreAvailable ∧ noStore) ∧ (a = 0x10 → reads s.cmt.enableStatus ∧ noStore) ∧
          (a = 0x20 → reads s.cmt.enable ∧ ∃ enabled : Word → Word,
            (∀ v, ∀ c, c < 8 → (enabled v).extractLsb' (8 * c) 8 =
              if v.extractLsb' (8 * c) 8 = 0xFF then coreAvailable.extractLsb' (8 * c) 8 else 0) ∧
            writes (fun v => cmt { s.cmt with enable := enabled v })) ∧
          (a = 0x30 → reads s.cmt.xirSteering ∧ writes (fun v => cmt { s.cmt with xirSteering := v })) ∧
          (a = 0x38 → reads (if s.cmt.tickEnable then 1 else 0) ∧ writes (fun v => cmt { s.cmt with tickEnable := bitAt v 0 })) ∧
          (a = 0x50 → reads s.cmt.running ∧
            (s.cmt.lag = 0 → writes (fun v =>
              let new := if v &&& s.cmt.enableStatus = 0 then ownBit else v &&& s.cmt.enableStatus
              { cmt { s.cmt with running := new, lag := (s.cmt.running ^^^ new) &&& ~~~ownBit } with
                run := if new &&& ownBit = 0 then .parked else s.run })) ∧
            (s.cmt.lag ≠ 0 → exec store s = .refused (.unpredictableStore "CORE_RUNNING"))) ∧
          (a = 0x58 → reads (s.cmt.running ^^^ s.cmt.lag) ∧ noStore)) ∧
        ((asi = 0x4F ∧ 0x40 ≤ a ∨ asi = 0x41 ∧ 0x70 ≤ a ∨ asi = 0x4C ∧ 0x30 ≤ a ∨ asi = 0x72 ∧ a ≠ 0) → noLoad ∧ noStore))

/-- Floating-point loads and stores of a single or a double register (R905 to R912): disabled where PSTATE.pef or FPRS.fef is
0, before the address is looked at; a doubleword at a word-aligned address has its own alignment trap. -/
def Obligations.FloatLoadsAndStoresMoveRegisters : Prop :=
  ∀ (s : State) (rd rs1 : Reg) (o : RegImm) (x : AltAddr),
    let cut := fun (a : Word) => if s.pstate.am then BitVec.ofNat 64 (a.toNat % 2 ^ 32) else a
    let ea := cut (s.reg rs1 + RegImm.value o s)
    let ax := cut (s.reg rs1 + AltAddr.value x s)
    let asi := match x with
      | .immAsi a _ => a
      | .asiReg _ => s.asi
    let checked := fun (i : Instr) (op3 : BitVec 6) =>
      HasOp3 i 3 op3 ∧ ((s.pstate.pef = false ∨ bitAt s.fprs 2 = false) → Traps i s s 0x020)
    let enabled : Prop := s.pstate.pef = true ∧ bitAt s.fprs 2 = true
    let traps4 := fun (i : Instr) (r : DataReq) => enabled → AccessTraps i s r
    let traps8 := fun (i : Instr) (r : DataReq) (tt : BitVec 9) => enabled →
      (r.va.toNat % 8 = 4 → Traps i s (s.setDsfar r.va) tt) ∧
      (r.va.toNat % 4 ≠ 0 → Traps i s (s.setDsfar r.va) 0x034) ∧
      (r.va.toNat % 8 = 0 → ∀ t2 b, s.access r = .trap t2 b → Traps i s b t2)
    let passes := fun (r : DataReq) (k : Located → State → Prop) =>
      ∀ (l : Located) (s1 : State), enabled → r.va.toNat % r.size = 0 → Reaches s r l s1 → k l s1
    let loadS := fun (i : Instr) (op3 : BitVec 6) (r : DataReq) => checked i op3 ∧ traps4 i r ∧
      passes r (fun l s1 => Settled s1 l.pa 4 → WritesSingle i s s1 rd ((valueAt s l 4).setWidth 32))
    let loadD := fun (i : Instr) (op3 : BitVec 6) (r : DataReq) => checked i op3 ∧ traps8 i r 0x035 ∧
      passes r (fun l s1 => Settled s1 l.pa 8 → WritesDouble i s s1 rd (valueAt s l 8))
    let storeS := fun (i : Instr) (op3 : BitVec 6) (r : DataReq) => checked i op3 ∧ traps4 i r ∧
      passes r (fun l s1 => StoresWithRoom i s s1 1 (Stores i s s1 l.pa (storeImage l.little 4 ((s.f32 rd).setWidth 64))))
    let storeD := fun (i : Instr) (op3 : BitVec 6) (r : DataReq) => checked i op3 ∧ traps8 i r 0x036 ∧
      passes r (fun l s1 => StoresWithRoom i s s1 1 (Stores i s s1 l.pa (storeImage l.little 8 (s.f64 rd))))
    let plain := isRegisterAsi asi = false ∧ asiKind asi ≠ .block ∧ asiKind asi ≠ .short
    loadS (.ldf rd rs1 o) 0x20 ⟨.loadF, none, ea, 4⟩ ∧ loadD (.lddf rd rs1 o) 0x23 ⟨.loadD, none, ea, 8⟩ ∧
    storeS (.stf rd rs1 o) 0x24 ⟨.storeF, none, ea, 4⟩ ∧ storeD (.stdf rd rs1 o) 0x27 ⟨.storeD, none, ea, 8⟩ ∧
    loadS (.ldfa rd rs1 x) 0x30 ⟨.loadF, some asi, ax, 4⟩ ∧ storeS (.stfa rd rs1 x) 0x34 ⟨.storeF, some asi, ax, 4⟩ ∧
    (plain → loadD (.lddfa rd rs1 x) 0x33 ⟨.loadD, some asi, ax, 8⟩ ∧
      storeD (.stdfa rd rs1 x) 0x37 ⟨.storeD, some asi, ax, 8⟩)

/-- Loads and stores of FSR (R914 to R917). A load writes the fields of the bits it reads, but never `ftt`; a store gives the
register's image, in the layout of spec/10_state.md R82, and then clears `ftt`. Each first takes the trap of a disabled unit, then
that of an address which is not a multiple of 4, or of 8 (R873), then those of the access. -/
def Obligations.FsrLoadsAndStoresMoveItsFields : Prop :=
  (∀ (s s1 : State) (rs1 : Reg) (o : RegImm) (l : Located),
    let a := s.reg rs1 + RegImm.value o s
    let ea := if s.pstate.am then BitVec.ofNat 64 (a.toNat % 2 ^ 32) else a
    let low := fun (f : Fsr) (v : Word) => { f with rd := v.extractLsb' 30 2, tem := v.extractLsb' 23 5, ns := bitAt v 22,
                                                    fcc0 := v.extractLsb' 10 2, aexc := v.extractLsb' 5 5,
                                                    cexc := v.extractLsb' 0 5 }
    let all := fun (f : Fsr) (v : Word) => { low f v with fcc3 := v.extractLsb' 36 2, fcc2 := v.extractLsb' 34 2,
                                                          fcc1 := v.extractLsb' 32 2 }
    s.fpEnabled = true →
      (ea.toNat % 4 = 0 → Reaches s ⟨.loadF, none, ea, 4⟩ l s1 → Settled s1 l.pa 4 →
        Completes (.ldfsr rs1 o) s { s1 with fsr := low s.fsr (valueAt s l 4) }) ∧
      (ea.toNat % 8 = 0 → Reaches s ⟨.loadD, none, ea, 8⟩ l s1 → Settled s1 l.pa 8 →
        Completes (.ldxfsr rs1 o) s { s1 with fsr := all s.fsr (valueAt s l 8) }) ∧
      (ea.toNat % 4 = 0 → Reaches s ⟨.storeF, none, ea, 4⟩ l s1 →
        StoresWithRoom (.stfsr rs1 o) s s1 1
          (Stores (.stfsr rs1 o) s { s1 with fsr := { s.fsr with ftt := 0 } } l.pa (storeImage l.little 4 s.fsr.word))) ∧
      (ea.toNat % 8 = 0 → Reaches s ⟨.storeD, none, ea, 8⟩ l s1 →
        StoresWithRoom (.stxfsr rs1 o) s s1 1
          (Stores (.stxfsr rs1 o) s { s1 with fsr := { s.fsr with ftt := 0 } } l.pa (storeImage l.little 8 s.fsr.word))) ∧
      AccessTraps (.ldfsr rs1 o) s ⟨.loadF, none, ea, 4⟩ ∧ AccessTraps (.ldxfsr rs1 o) s ⟨.loadD, none, ea, 8⟩ ∧
      AccessTraps (.stfsr rs1 o) s ⟨.storeF, none, ea, 4⟩ ∧ AccessTraps (.stxfsr rs1 o) s ⟨.storeD, none, ea, 8⟩) ∧
  (∀ f : Fsr,
    let w := f.word
    w.extractLsb' 38 26 = 0 ∧ w.extractLsb' 36 2 = f.fcc3 ∧ w.extractLsb' 34 2 = f.fcc2 ∧ w.extractLsb' 32 2 = f.fcc1 ∧
    w.extractLsb' 30 2 = f.rd ∧ w.extractLsb' 28 2 = 0 ∧ w.extractLsb' 23 5 = f.tem ∧ bitAt w 22 = f.ns ∧
    w.extractLsb' 20 2 = 0 ∧ w.extractLsb' 17 3 = 0 ∧ w.extractLsb' 14 3 = f.ftt ∧ w.extractLsb' 12 2 = 0 ∧
    w.extractLsb' 10 2 = f.fcc0 ∧ w.extractLsb' 5 5 = f.aexc ∧ w.extractLsb' 0 5 = f.cexc) ∧
  (∀ (s : State) (rs1 : Reg) (o : RegImm),
    let is := fun (i : Instr) (op3 : BitVec 6) (rd : Reg) => HasOp3 i 3 op3 ∧ rdField (encode i) = rd
    is (.ldfsr rs1 o) 0x21 0 ∧ is (.ldxfsr rs1 o) 0x21 1 ∧ is (.stfsr rs1 o) 0x25 0 ∧ is (.stxfsr rs1 o) 0x25 1 ∧
    (s.fpEnabled = false →
      Traps (.ldfsr rs1 o) s s 0x020 ∧ Traps (.ldxfsr rs1 o) s s 0x020 ∧ Traps (.stfsr rs1 o) s s 0x020 ∧
      Traps (.stxfsr rs1 o) s s 0x020)) ∧
  ∀ w : Word32, opField w = 3 → (op3Field w = 0x21 ∨ op3Field w = 0x25) → 2 ≤ rdField w → ∃ e, decode w = .error e

/-- The block, short and partial forms (R930; spec/45_vis.md R1280, R1285, R1286), by their own mnemonics and, with the ASI
in the ASI register, by LDDFA and STDFA. A block is eight double registers, of which the first is %f0, %f16, %f32 or %f48;
it reads memory, here where no store to it is still in the store buffer. A short access is one or two bytes, zero-extended
or the low ones. A partial store stores the bytes that the mask in `r[rs2]` enables, at the address `r[rs1]`; that it is
little-endian also where the page's `ie` bit alone says so is the model's choice, R1280 and R1281 speaking of the ASI only (log entry
44, DEDUCED). -/
def Obligations.BlockShortAndPartialAccesses : Prop :=
  ∀ (s s1 : State) (rd rs1 rs2 : Reg) (x : AltAddr) (asi : BitVec 8) (l : Located),
    let cut := fun (a : Word) => if s.pstate.am then BitVec.ofNat 64 (a.toNat % 2 ^ 32) else a
    let named := match x with
      | .immAsi a _ => a
      | .asiReg _ => s.asi
    let first := doublePair rd
    let group := fun (p : BitVec 5) => p.extractLsb' 3 2
    let cell := fun (k : Nat) => ({ l with pa := l.pa + 8 * k } : Located)
    let pairOf := fun (k : Nat) => first + BitVec.ofNat 5 k
    let blockLoad := fun (i : Instr) (a : BitVec 8) (ea : Word) =>
      (first.extractLsb' 0 3 ≠ 0 → Traps i s s 0x010) ∧
      (first.extractLsb' 0 3 = 0 → s.fpEnabled = false → Traps i s s 0x020) ∧
      (first.extractLsb' 0 3 = 0 → s.fpEnabled = true →
        AccessTraps i s ⟨.blockLoad, some a, ea, 64⟩ ∧
        (ea.toNat % 64 = 0 → Reaches s ⟨.blockLoad, some a, ea, 64⟩ l s1 →
          (∀ k, k < 4 → s1.plainLine (l.pa + 16 * k) = true) → s1.pendingIn l.pa 64 (fun _ => true) = false →
          ∃ t, exec i s = .next t ∧ (∀ k, k < 8 → t.pair (pairOf k) = valueAt s (cell k) 8) ∧
            (∀ p, group p ≠ group first → t.pair p = s.pair p) ∧ t.fprs = s.fprs ||| (if bitAt rd 0 then 2 else 1) ∧
            t = { s1 with fregs := t.fregs, fprs := t.fprs, pc := s.npc, npc := s.npc + 4 } ∧ SameMemory s t))
    let blockStore := fun (i : Instr) (a : BitVec 8) (ea : Word) =>
      (first.extractLsb' 0 3 ≠ 0 → Traps i s s 0x010) ∧
      (first.extractLsb' 0 3 = 0 → s.fpEnabled = false → Traps i s s 0x020) ∧
      (first.extractLsb' 0 3 = 0 → s.fpEnabled = true →
        AccessTraps i s ⟨.blockStore, some a, ea, 64⟩ ∧
        (ea.toNat % 64 = 0 → Reaches s ⟨.blockStore, some a, ea, 64⟩ l s1 →
          StoresWithRoom i s s1 8
            (Stores i s s1 l.pa ((List.range 8).flatMap (fun k => storeImage l.little 8 (s.pair (pairOf k)))))))
    let short := fun (a : BitVec 8) => if bitAt a 1 then 2 else 1
    let shortLoad := fun (i : Instr) (a : BitVec 8) (ea : Word) =>
      (s.fpEnabled = false → Traps i s s 0x020) ∧
      (s.fpEnabled = true → AccessTraps i s ⟨.shortLoad, some a, ea, short a⟩ ∧
        (ea.toNat % short a = 0 → Reaches s ⟨.shortLoad, some a, ea, short a⟩ l s1 → Settled s1 l.pa (short a) →
          WritesDouble i s s1 rd (valueAt s l (short a))))
    let shortStore := fun (i : Instr) (a : BitVec 8) (ea : Word) =>
      (s.fpEnabled = false → Traps i s s 0x020) ∧
      (s.fpEnabled = true → AccessTraps i s ⟨.shortStore, some a, ea, short a⟩ ∧
        (ea.toNat % short a = 0 → Reaches s ⟨.shortStore, some a, ea, short a⟩ l s1 →
          StoresWithRoom i s s1 1 (Stores i s s1 l.pa (storeImage l.little (short a) (s.f64 rd)))))
    let sum := cut (s.reg rs1 + s.reg rs2)
    let alternate := cut (s.reg rs1 + AltAddr.value x s)
    blockLoad (.ldblockf rd rs1 asi rs2) asi sum ∧ blockStore (.stblockf rd rs1 asi rs2) asi sum ∧
    (isBlockAsi named = true → blockLoad (.lddfa rd rs1 x) named alternate ∧
      blockStore (.stdfa rd rs1 x) named alternate) ∧
    shortLoad (.ldshortf rd rs1 asi rs2) asi sum ∧ shortStore (.stshortf rd rs1 asi rs2) asi sum ∧
    (isShortAsi named = true → shortLoad (.lddfa rd rs1 x) named alternate ∧ shortStore (.stdfa rd rs1 x) named alternate) ∧
    (s.fpEnabled = false → Traps (.stpartialf rd rs1 asi rs2) s s 0x020) ∧
    (s.fpEnabled = true →
      let ea := cut (s.reg rs1)
      let element := match (asi.extractLsb' 1 2).toNat with
        | 0 => 1
        | 1 => 2
        | _ => 4
      AccessTraps (.stpartialf rd rs1 asi rs2) s ⟨.partialStore, some asi, ea, 8⟩ ∧
      (ea.toNat % 8 = 0 → Reaches s ⟨.partialStore, some asi, ea, 8⟩ l s1 →
        StoresWithRoom (.stpartialf rd rs1 asi rs2) s s1 1 (∃ t, exec (.stpartialf rd rs1 asi rs2) s = .next t ∧
          (∀ j, j < 8 →
            let k := if l.little then j else 7 - j
            t.readByte (l.pa + j) =
              if bitAt (s.reg rs2) (k / element) then (s.f64 rd).extractLsb' (8 * k) 8 else s.readByte (l.pa + j)) ∧
          (∀ a, ¬(l.pa ≤ a ∧ a < l.pa + 8) → t.readByte a = s.readByte a) ∧
          t = { s1 with mem := t.mem, undrained := t.undrained, oracle := t.oracle, pc := s.npc, npc := s.npc + 4 })))


/-! ## Stores in error and memory with bad data, spec/62_errors_core.md and spec/63_errors_l2_dram.md -/

/-- A load that finds all its bytes in the newest store of the buffer, whose check bits are wrong (R1570, R1582, R1583, R1608,
R1610): where the report of the error is enabled it takes internal_processor_error, with error type 5 for one wrong bit and
6 for two, and the number of the entry in D-SFAR; where it is not, nothing is noticed. A store in error that leaves the
buffer, alone in it (R1584 to R1587, R1616, R1620). An error in its address, where that is detected: memory is as before the
store, DFESR says so with the privilege level and the number of the entry, and store_error is pending. One wrong bit, a
check bit, of the data: memory keeps the store, but its bytes in sublines that are bad and that it does not fill
(spec/63_errors_l2_dram.md R1686), and DESR, where it is empty and no other error comes with this one, records a corrected error of
type 10. Two: memory keeps as much of an ordinary store, DESR records a recoverable error of type 6, and every subline of the store
is marked as NotData in the cache, or, with that disabled, gets signalling ECC in DRAM (R1688). -/
def Obligations.StoreBufferErrorsAreReported : Prop :=
  (∀ (s : State) (op : OpClass) (va : Word) (n j k : Nat) (p : PendingStore) (rest : List PendingStore),
     let pa := va.toNat % 2 ^ 40
     let one := decide (j = k)
     let r : DataReq := ⟨op, none, va, n⟩
     s.hpstate.hpriv = true → s.lsu.mode ≠ 2 →
     (op = .load ∨ op = .loadX ∨ op = .loadTwin ∨ op = .loadF ∨ op = .loadD) → 0 < n →
     s.undrained = p :: rest → (∀ i, i < n → pa + i < p.pa + p.seen ∧ (sparseFind p.old (pa + i)).isSome = true) →
     j < 7 → k < 7 → p.ecc = (1 <<< j) ||| (1 <<< k) →
     (bitAt s.err.cerer (if one then 37 else 36) = true → bitAt s.err.seter 2 = true →
       ∃ u : State, s.access r = .trap 0x029 u ∧
         u = { s with err := { s.err with dsfsr := if one then 5 else 6 },
                      mmu := { s.mmu with dsfar := u.mmu.dsfar, dsfarError := true }, oracle := s.oracle + 1 } ∧
         u.mmu.dsfar.toNat % 8 = p.index.toNat) ∧
     (bitAt s.err.cerer (if one then 37 else 36) = false ∨ bitAt s.err.seter 2 = false →
       s.access r = .ok ⟨pa, s.pstate.cle⟩ s)) ∧
  ∀ (s : State) (p : PendingStore) (j k : Nat), s.undrained = [p] → p.addrs.Nodup → (∀ a ∈ p.addrs, a / 64 = p.pa / 64) →
    let t := s.drain
    let dropped := s.badSublines p.pa &&& ~~~fullSublines p.addrs
    t.undrained = [] ∧ t.regs = s.regs ∧
    (p.camBad = true → bitAt s.err.cerer 23 = true →
      (∀ a, t.readByte a = (sparseFind p.old a).getD (s.readByte a)) ∧ t.storeError = true ∧ t.err.dfesr.sba = true ∧
      (s.err.dfesr.sba = false → s.err.dfesr.sbdio = false →
        t.err.dfesr = { sba := true, sbdio := false, priv := p.level, stbindex := p.index })) ∧
    (p.camBad = false → j < 7 → k < 7 → p.ecc = (1 <<< j) ||| (1 <<< k) →
      t.storeError = s.storeError ∧
      (j = k ∨ p.kind ≠ .block → ∀ a, t.readByte a =
        if bitAt dropped (a % 64 / 4) then (sparseFind p.old a).getD (s.readByte a) else s.readByte a) ∧
      (j = k → bitAt s.err.cerer 10 = true → s.err.desr.f = false → s.err.together = none →
        t.err.desr = { s.err.desr with f := true, s := false, errtype := 10, erraddr := t.err.desr.erraddr } ∧
        t.err.desr.erraddr.toNat % 8 = p.index.toNat) ∧
      (j ≠ k → bitAt s.err.cerer 9 = true → p.kind ≠ .block →
        (s.err.desr.f = false → s.err.together = none →
          t.err.desr = { s.err.desr with f := true, s := true, errtype := 6, erraddr := t.err.desr.erraddr } ∧
          t.err.desr.erraddr.toNat % 8 = p.index.toNat) ∧
        (s.dramExists p.pa = true → ∀ a ∈ p.addrs,
          if s.resident p.pa = false ∧ s.l2Off p.pa = true then t.syndrome p.pa (a % 64 / 16) = 0x8221
          else bitAt (t.marks p.pa) (a % 64 / 4) = true)))


/-- An LDX that reaches bad data (R1711, R1684; spec/67_ecc_jtag.md R2122), where the data cache holds none of it: of memory that
does not exist, which the L2 cache does not hold, or of a 16-byte chunk with a subline that is marked as NotData in the cache. Where
the bank and the core report the error it takes data_access_error, with error type 1 for data from memory and 2 for NotData in the
cache, and leaves the registers and memory alone; the line of memory that does not exist is then in the cache with all its sublines
marked, where that is enabled. Where the report is masked the load completes, with the stored bytes where these are known (R1666), and
else with a free value. An error that memory corrects (R1701, R1702, R1720; here one of a check nibble, in all chunks of a line that
the cache does not hold) leaves the load its value; it is logged with its syndrome, and, where enabled, recorded in DESR as the load's,
if no other error is: the count of corrected errors must not just run out. All this while software injects no errors into DRAM. The
line in the cache may be written back before the access, so that the error type is 1, or only leave it, so that DRAM must hold the
error too (log entry 61, DESIGN CHOICE); failover mode, in which an error that was written back is not detected
(spec/65_mcu_dram.md R1885), is left out there. -/
def Obligations.LoadsOfBadMemoryReportIt : Prop :=
  ∀ (s s1 : State) (rd rs1 : Reg) (o : RegImm) (l : Located),
    let a := s.reg rs1 + RegImm.value o s
    let ea := if s.pstate.am then BitVec.ofNat 64 (a.toNat % 2 ^ 32) else a
    let i := Instr.ldx rd rs1 o
    let reports := s1.nceen l.pa = true ∧ bitAt s1.err.cerer 38 = true ∧ bitAt s1.err.cerer 39 = true ∧
      bitAt s1.err.seter 2 = true
    let masked := s1.nceen l.pa = false ∨ (bitAt s1.err.cerer 38 = false ∧ bitAt s1.err.cerer 39 = false) ∨
      bitAt s1.err.seter 2 = false
    let here := sublines (l.pa / 16 * 16) 16
    let line := s1.line l.pa
    let absent := s1.dramExists l.pa = false ∧ line = MemLine.none
    let marked := line.resident = true ∧ line.marks &&& here ≠ 0 ∧
      (s1.dramExists l.pa = false ∨ (line.dirty = true ∧ s1.failover l.pa = false) ∨
        (line.dirty = false ∧ s1.uncorrected l.pa &&& here ≠ 0))
    let known := s1.dramExists l.pa = true ∧ line.unknown = false ∧ s1.linked l.pa ≠ some true
    let corrected := s1.dramExists l.pa = true ∧ line.resident = false ∧ s1.linked l.pa = none ∧
      (qecNibble (s1.syndrome l.pa 0)).isSome = true ∧ ∀ q, q < 4 → s1.syndrome l.pa q = s1.syndrome l.pa 0
    let status := csrDramErrorStatus + 0x1000 * (s1.bankOf l.pa / 2)
    let counter := csrDramErrorCounter + 0x1000 * (s1.bankOf l.pa / 2)
    ea.toNat % 8 = 0 → s.access ⟨.loadX, none, ea, 8⟩ = .ok l s1 → SameMemory s s1 → isIo l.pa = false → l.pa % 8 = 0 →
      s1.l2Uniform = true → s1.InjectsNone → line.Keeps → Settled s1 l.pa 8 →
      (absent ∨ marked → reports → ∃ b, Traps i s b 0x032 ∧ b.regs = s.regs ∧ SameMemory s b ∧
        (b.err.dsfsr = 1 ∨ (b.err.dsfsr = 2 ∧ marked)) ∧
        (absent → b.err.dsfsr = 1 ∧ (s1.l2Off l.pa = false → b.resident l.pa = true ∧ b.marks l.pa = BitVec.allOnes 16))) ∧
      (absent ∨ marked → masked → ∃ v t, exec i s = .next t ∧ WroteReg s t rd v ∧ t.pc = s.npc ∧ t.npc = s.npc + 4 ∧
        SameMemory s t ∧ (known → v = valueAt s l 8)) ∧
      (corrected → ∃ t, exec i s = .next t ∧ WroteReg s t rd (valueAt s l 8) ∧ t.pc = s.npc ∧
        t.npc = s.npc + 4 ∧ SameMemory s t ∧
        (s1.csrGet status = 0 →
          bitAt (t.csrGet status) 61 = true ∧ (t.csrGet status).setWidth 16 = s1.syndrome l.pa 0) ∧
        (s1.ceen l.pa = true → bitAt s1.err.cerer 40 = true → s1.err.desr.f = false → s1.err.together = none →
          (s1.csrGet counter).setWidth 16 = (0 : BitVec 16) →
          t.err.desr.f = true ∧ t.err.desr.s = true ∧ t.err.desr.errtype = 4))

/-! ## Floating point, spec/44_float.md -/

/-- How every floating-point operation ends (R1062 to R1066): the trap of a disabled unit; the unfinished operation, with only
`ftt` changed; an enabled exception, with the one bit of `cexc` that R1066 chooses; or else the exceptions in `cexc` and
`aexc` and the result in the register. The arithmetic is stated by FloatResultsAreTheRoundedExactValues and
SpecialOperandsGiveTheirTableResults. -/
def Obligations.FloatOperationsEndByTheirExceptions : Prop :=
  ∀ (s : State) (rd rs1 rs2 : Reg),
    let mode : FpMode := ⟨if s.gsr.im then s.gsr.irnd else s.fsr.rd, s.fsr.ns && !s.gsr.im⟩
    let f := FloatFormat.single
    let g := FloatFormat.double
    let s1 := f.unpack (s.f32 rs1).toNat
    let s2 := f.unpack (s.f32 rs2).toNat
    let d1 := g.unpack (s.f64 rs1).toNat
    let d2 := g.unpack (s.f64 rs2).toNat
    let tem := s.fsr.tem
    let chosen := fun (e : BitVec 5) => (if bitAt e 4 then 16 else if bitAt e 1 then 2
      else if bitAt e 3 then (if bitAt tem 3 then 8 else 1) else if bitAt e 2 then (if bitAt tem 2 then 4 else 1)
      else 1 : BitVec 5)
    let fails := fun (i : Instr) (ftt : BitVec 3) (cexc : BitVec 5) (tt : BitVec 9) =>
      Traps i s { s with fsr := { s.fsr with ftt := ftt, cexc := cexc } } tt
    let flagged := fun (e : BitVec 5) =>
      ({ s with fsr := { s.fsr with ftt := 0, cexc := e, aexc := s.fsr.aexc ||| e } } : State)
    let is := fun (i : Instr) (opf : BitVec 9) => HasOpf i 0x34 opf ∧ (s.fpEnabled = false → Traps i s s 0x020)
    let endsS := fun (i : Instr) (opf : BitVec 9) (r : FpResult Word32) => is i opf ∧ (s.fpEnabled = true →
      match r with
      | .unfinished => fails i 2 s.fsr.cexc 0x022
      | .value v e => if e &&& tem ≠ 0 then fails i 1 (chosen e) 0x021 else WritesSingle i s (flagged e) rd v)
    let endsD := fun (i : Instr) (opf : BitVec 9) (r : FpResult Word) => is i opf ∧ (s.fpEnabled = true →
      match r with
      | .unfinished => fails i 2 s.fsr.cexc 0x022
      | .value v e => if e &&& tem ≠ 0 then fails i 1 (chosen e) 0x021 else WritesDouble i s (flagged e) rd v)
    let single := fun (r : FpResult Fields) => r.map (fun x => BitVec.ofNat 32 (f.pack x))
    let double := fun (r : FpResult Fields) => r.map (fun x => BitVec.ofNat 64 (g.pack x))
    endsS (.fadds rd rs1 rs2) 0x041 (single (f.add mode s1 s2)) ∧
    endsD (.faddd rd rs1 rs2) 0x042 (double (g.add mode d1 d2)) ∧
    endsS (.fsubs rd rs1 rs2) 0x045 (single (f.sub mode s1 s2)) ∧
    endsD (.fsubd rd rs1 rs2) 0x046 (double (g.sub mode d1 d2)) ∧
    endsS (.fmuls rd rs1 rs2) 0x049 (single (f.mul mode s1 s2)) ∧
    endsD (.fmuld rd rs1 rs2) 0x04A (double (g.mul mode d1 d2)) ∧
    endsD (.fsmuld rd rs1 rs2) 0x069 (double (mulWide mode s1 s2)) ∧
    endsS (.fdivs rd rs1 rs2) 0x04D (single (f.div mode s1 s2)) ∧
    endsD (.fdivd rd rs1 rs2) 0x04E (double (g.div mode d1 d2)) ∧
    endsS (.fsqrts rd rs2) 0x029 (single (f.sqrt mode s2)) ∧ endsD (.fsqrtd rd rs2) 0x02A (double (g.sqrt mode d2)) ∧
    endsD (.fstod rd rs2) 0x0C9 (double (widen mode s2)) ∧ endsS (.fdtos rd rs2) 0x0C6 (single (narrow mode d2)) ∧
    endsS (.fitos rd rs2) 0x0C4 (single (f.ofInt mode (s.f32 rs2).toInt)) ∧
    endsD (.fitod rd rs2) 0x0C8 (double (g.ofInt mode (s.f32 rs2).toInt)) ∧
    endsS (.fxtos rd rs2) 0x084 (single (f.ofInt mode (s.f64 rs2).toInt)) ∧
    endsD (.fxtod rd rs2) 0x088 (double (g.ofInt mode (s.f64 rs2).toInt)) ∧
    endsS (.fstoi rd rs2) 0x0D1 ((f.toInt mode 32 s2).map (BitVec.ofInt 32)) ∧
    endsS (.fdtoi rd rs2) 0x0D2 ((g.toInt mode 32 d2).map (BitVec.ofInt 32)) ∧
    endsD (.fstox rd rs2) 0x081 ((f.toInt mode 64 s2).map (BitVec.ofInt 64)) ∧
    endsD (.fdtox rd rs2) 0x082 ((g.toInt mode 64 d2).map (BitVec.ofInt 64))

/-- The arithmetic on zeros and normal numbers (R1060, R1061, R1068): a result that signals none of invalid, overflow,
underflow and division by zero is the exact value, rounded once in the direction in force, and inexact says whether rounding
changed it. Values are counted in units of the format's smallest subnormal number, and the exact one is the ratio `n / d`; a
square root is the number whose square is meant, and a conversion to an integer truncates. -/
def Obligations.FloatResultsAreTheRoundedExactValues : Prop :=
  ∀ (f : FloatFormat) (rnd : BitVec 2) (ns : Bool) (a b : Fields) (i : Int), (f = .single ∨ f = .double) →
    let mode : FpMode := ⟨rnd, ns⟩
    let finite := fun (f : FloatFormat) (x : Fields) => x.exp < f.emax ∧ x.frac < 2 ^ f.fracBits
    let ordinary := fun (f : FloatFormat) (x : Fields) => finite f x ∧ (x.exp ≠ 0 ∨ x.frac = 0)
    let value := fun (f : FloatFormat) (x : Fields) =>
      (if x.sign then -1 else 1) * (((if x.exp = 0 then 0 else 2 ^ f.fracBits) + x.frac) * 2 ^ (max x.exp 1 - 1) : Int)
    let one := fun (f : FloatFormat) => f.bias + f.fracBits - 1
    let rounded := fun (f : FloatFormat) (x : Fields) (n d : Int) => ∀ y, finite f y →
      let v := value f x * d
      let w := value f y * d
      (rnd = 0 → (v - n).natAbs ≤ (w - n).natAbs ∧ ((v - n).natAbs = (w - n).natAbs → v = w ∨ x.frac % 2 = 0)) ∧
      (rnd = 1 → v.natAbs ≤ n.natAbs ∧ 0 ≤ v * n ∧ (w.natAbs ≤ n.natAbs → w.natAbs ≤ v.natAbs)) ∧
      (rnd = 2 → n ≤ v ∧ (n ≤ w → v ≤ w)) ∧
      (rnd = 3 → v ≤ n ∧ (w ≤ n → w ≤ v))
    let gives := fun (f : FloatFormat) (r : FpResult Fields) (n d : Int) => ∀ x e, r = .value x e → e &&& 0x1E = 0 →
      finite f x ∧ rounded f x n d ∧ (bitAt e 0 = true ↔ value f x * d ≠ n)
    (ordinary f a → ordinary f b →
      gives f (f.add mode a b) (value f a + value f b) 1 ∧ gives f (f.sub mode a b) (value f a - value f b) 1 ∧
      gives f (f.mul mode a b) (value f a * value f b) (2 ^ one f) ∧
      gives f (f.div mode a b) (value f a * 2 ^ one f * (value f b).sign) (value f b).natAbs) ∧
    (ordinary .single a → ordinary .single b →
      gives .double (mulWide mode a b) (value .single a * value .single b * 2 ^ 776) 1) ∧
    (ordinary .single a → gives .double (widen mode a) (value .single a * 2 ^ 925) 1) ∧
    (ordinary .double a → gives .single (narrow mode a) (value .double a) (2 ^ 925)) ∧
    gives f (f.ofInt mode i) (i * 2 ^ one f) 1 ∧
    (ordinary f a → ∀ x e, f.sqrt mode a = .value x e → e &&& 0x1E = 0 →
      let n := value f a * 2 ^ one f
      let v := value f x
      finite f x ∧ (bitAt e 0 = true ↔ v * v ≠ n) ∧ ∀ y, finite f y → 0 ≤ value f y →
        let w := value f y
        (rnd = 0 → (w < v → (v + w) * (v + w) ≤ 4 * n) ∧ (v < w → 4 * n ≤ (v + w) * (v + w))) ∧
        ((rnd = 1 ∨ rnd = 3) → v * v ≤ n ∧ (w * w ≤ n → w ≤ v)) ∧
        (rnd = 2 → n ≤ v * v ∧ (n ≤ w * w → v ≤ w))) ∧
    (ordinary f a → ∀ bits, bits = 32 ∨ bits = 64 →
      let t := (value f a).tdiv (2 ^ one f)
      let top : Int := 2 ^ (bits - 1)
      f.toInt mode bits a =
        if t < -top ∨ top ≤ t then .value (if a.sign then -top else top - 1) 16
        else .value t (if value f a % 2 ^ one f = 0 then 0 else 1))

/-- NaNs, infinities and zeros (R1069, R1110 to R1113), in standard and in nonstandard mode. A signalling NaN is quieted, with
invalid; rs2's NaN is preferred. Opposite infinities, zero times infinity, zero by zero and infinity by infinity are invalid;
a normal number by zero is a division by zero; a sum of opposite zeros is +0 but when rounding to -infinity. -/
def Obligations.SpecialOperandsGiveTheirTableResults : Prop :=
  ∀ (f : FloatFormat) (mode : FpMode) (a b : Fields), (f = .single ∨ f = .double) →
    let nan := fun (x : Fields) => x.exp = f.emax ∧ x.frac ≠ 0
    let signalling := fun (x : Fields) => nan x ∧ x.frac < 2 ^ (f.fracBits - 1)
    let infinite := fun (x : Fields) => x.exp = f.emax ∧ x.frac = 0
    let zero := fun (x : Fields) => x.exp = 0 ∧ x.frac = 0
    let quiet := fun (x : Fields) => ({ x with frac := x.frac ||| 2 ^ (f.fracBits - 1) } : Fields)
    let inf := fun (sign : Bool) => (⟨sign, f.emax, 0⟩ : Fields)
    let none := fun (sign : Bool) => (⟨sign, 0, 0⟩ : Fields)
    let invalid : FpResult Fields := .value ⟨false, f.emax, 2 ^ f.fracBits - 1⟩ 16
    let sign := a.sign != b.sign
    (∀ op, op = f.add ∨ op = f.sub ∨ op = f.mul ∨ op = f.div →
      (signalling b → op mode a b = .value (quiet b) 16) ∧
      (¬signalling b → signalling a → op mode a b = .value (quiet a) 16) ∧
      (nan b → ¬signalling b → ¬signalling a → op mode a b = .value b 0) ∧
      (¬nan b → nan a → ¬signalling a → op mode a b = .value a 0)) ∧
    (¬nan a → ¬nan b →
      (infinite a → infinite b → f.add mode a b = if a.sign = b.sign then .value a 0 else invalid) ∧
      (infinite a → infinite b → f.sub mode a b = if a.sign = b.sign then invalid else .value a 0) ∧
      (infinite a → ¬infinite b → f.add mode a b = .value a 0 ∧ f.sub mode a b = .value a 0) ∧
      (¬infinite a → infinite b → f.add mode a b = .value b 0 ∧ f.sub mode a b = .value { b with sign := !b.sign } 0) ∧
      (infinite a → zero b → f.mul mode a b = invalid) ∧ (zero a → infinite b → f.mul mode a b = invalid) ∧
      (infinite a → b.exp ≠ 0 → f.mul mode a b = .value (inf sign) 0) ∧
      (a.exp ≠ 0 → infinite b → f.mul mode a b = .value (inf sign) 0) ∧
      (infinite a → infinite b → f.div mode a b = invalid) ∧
      (infinite a → ¬infinite b → f.div mode a b = .value (inf sign) 0) ∧
      (¬infinite a → infinite b → f.div mode a b = .value (none sign) 0) ∧
      (zero a → zero b → f.div mode a b = invalid) ∧
      (a.exp ≠ 0 → a.exp ≠ f.emax → zero b → f.div mode a b = .value (inf sign) 2) ∧
      (zero a → zero b → f.add mode a b = .value (none (if a.sign = b.sign then a.sign else mode.rnd == 3)) 0)) ∧
    (signalling b → f.sqrt mode b = .value (quiet b) 16) ∧ (nan b → ¬signalling b → f.sqrt mode b = .value b 0) ∧
    (infinite b → f.sqrt mode b = if b.sign then invalid else .value b 0) ∧ (zero b → f.sqrt mode b = .value b 0) ∧
    (b.exp ≠ 0 → b.exp ≠ f.emax → b.sign = true → f.sqrt mode b = invalid)

/-- The moves (R1082 to R1087, R1105, R1107): a sign bit at most is changed, of any operand; they signal nothing, and a
conditional move that does not happen still clears `cexc` and `ftt`, which is the model's reading of R1105 and R1107 (log entry 41,
DEDUCED). -/
def Obligations.FloatMovesChangeOnlyTheSign : Prop :=
  ∀ (s : State) (rd rs1 rs2 : Reg) (c : CondSel) (rc : RCond),
    let b : State := { s with fsr := { s.fsr with ftt := 0, cexc := 0 } }
    let x := s.f32 rs2
    let y := s.f64 rs2
    let holds := match c with
      | .int .icc cond => ICond.holds cond (s.ccr.extractLsb' 0 4)
      | .int .xcc cond => ICond.holds cond (s.ccr.extractLsb' 4 4)
      | .fp n cond => FCond.holds cond (s.fcc n)
    let is := fun (i : Instr) (op3 : BitVec 6) (opf : BitVec 9) =>
      HasOpf i op3 opf ∧ rs1Field (encode i) = 0 ∧ (s.fpEnabled = false → Traps i s s 0x020)
    let moves := fun (i : Instr) (when : Bool) (put : Instr → State → Prop) =>
      (s.fpEnabled = false → Traps i s s 0x020) ∧
      (s.fpEnabled = true → if when then put i b else Completes i s b)
    (is (.fmovs rd rs2) 0x34 0x001 ∧ (s.fpEnabled = true → WritesSingle (.fmovs rd rs2) s b rd x)) ∧
    (is (.fmovd rd rs2) 0x34 0x002 ∧ (s.fpEnabled = true → WritesDouble (.fmovd rd rs2) s b rd y)) ∧
    (is (.fnegs rd rs2) 0x34 0x005 ∧ (s.fpEnabled = true → WritesSingle (.fnegs rd rs2) s b rd (x ^^^ 0x80000000))) ∧
    (is (.fnegd rd rs2) 0x34 0x006 ∧ (s.fpEnabled = true → WritesDouble (.fnegd rd rs2) s b rd (y ^^^ 0x8000000000000000))) ∧
    (is (.fabss rd rs2) 0x34 0x009 ∧ (s.fpEnabled = true → WritesSingle (.fabss rd rs2) s b rd (x &&& 0x7FFFFFFF))) ∧
    (is (.fabsd rd rs2) 0x34 0x00A ∧ (s.fpEnabled = true → WritesDouble (.fabsd rd rs2) s b rd (y &&& 0x7FFFFFFFFFFFFFFF))) ∧
    moves (.fmovscc rd c rs2) holds (fun i t => WritesSingle i s t rd x) ∧
    moves (.fmovdcc rd c rs2) holds (fun i t => WritesDouble i s t rd y) ∧
    moves (.fmovrs rd rs1 rc rs2) (RCond.holds rc (s.reg rs1)) (fun i t => WritesSingle i s t rd x) ∧
    moves (.fmovrd rd rs1 rc rs2) (RCond.holds rc (s.reg rs1)) (fun i t => WritesDouble i s t rd y)

/-- The comparisons (R1100 to R1103): 0 equal, 1 less, 2 greater, 3 unordered. Both zeros are equal, an infinity is beyond
every number and subnormal numbers are compared as they are. A signalling NaN is invalid, any NaN for the E forms; an
enabled invalid traps and leaves the condition code. -/
def Obligations.FloatComparisonsOrderNumbers : Prop :=
  ∀ (s : State) (n : BitVec 2) (rs1 rs2 : Reg),
    let fields := fun (f : FloatFormat) (v : Nat) => f.unpack v
    let nan := fun (f : FloatFormat) (x : Fields) => x.exp == f.emax && x.frac != 0
    let quiet := fun (f : FloatFormat) (x : Fields) => decide (2 ^ (f.fracBits - 1) ≤ x.frac)
    let size := fun (f : FloatFormat) (x : Fields) =>
      if x.exp = 0 then x.frac else (x.frac + 2 ^ f.fracBits) * 2 ^ (x.exp - 1)
    let value := fun (f : FloatFormat) (x : Fields) => if x.sign then -(size f x : Int) else size f x
    let code := fun (f : FloatFormat) (x y : Fields) =>
      (if nan f x || nan f y then 3 else if value f x = value f y then 0 else if value f x < value f y then 1
      else 2 : BitVec 2)
    let invalid := fun (f : FloatFormat) (signalling : Bool) (x y : Fields) =>
      (nan f x && (signalling || !quiet f x)) || (nan f y && (signalling || !quiet f y))
    let put := fun (v : BitVec 2) =>
      ({ s.fsr with ftt := 0, fcc0 := if n = 0 then v else s.fsr.fcc0, fcc1 := if n = 1 then v else s.fsr.fcc1,
                    fcc2 := if n = 2 then v else s.fsr.fcc2, fcc3 := if n = 3 then v else s.fsr.fcc3 } : Fsr)
    let compares := fun (i : Instr) (opf : BitVec 9) (f : FloatFormat) (signalling : Bool) (x y : Fields) =>
      HasOpf i 0x35 opf ∧ (s.fpEnabled = false → Traps i s s 0x020) ∧
      (s.fpEnabled = true →
        if invalid f signalling x y then
          if bitAt s.fsr.tem 4 then Traps i s { s with fsr := { s.fsr with ftt := 1, cexc := 16 } } 0x021
          else Completes i s { s with fsr := { put 3 with cexc := 16, aexc := s.fsr.aexc ||| 16 } }
        else Completes i s { s with fsr := { put (code f x y) with cexc := 0 } })
    let f := FloatFormat.single
    let g := FloatFormat.double
    let s1 := fields f (s.f32 rs1).toNat
    let s2 := fields f (s.f32 rs2).toNat
    let d1 := fields g (s.f64 rs1).toNat
    let d2 := fields g (s.f64 rs2).toNat
    compares (.fcmps n rs1 rs2) 0x051 f false s1 s2 ∧ compares (.fcmpd n rs1 rs2) 0x052 g false d1 d2 ∧
    compares (.fcmpes n rs1 rs2) 0x055 f true s1 s2 ∧ compares (.fcmped n rs1 rs2) 0x056 g true d1 d2

/-! ## VIS, spec/45_vis.md -/

/-- The edge and array instructions (R1170 to R1182, R1185 to R1188), which need no floating-point unit. An edge mask has
one bit for each element of a doubleword, from the element that `r[rs1]` addresses up to the last or, in the same
doubleword, to the one that `r[rs2]` addresses; the first element has the highest bit, or the lowest in the little-endian
forms. A blocked address has the bits of the three coordinates in the order of R1185; for a size above 5 the result is free.
-/
def Obligations.EdgesAndArraysComputeMasksAndAddresses : Prop :=
  ∀ (s : State) (rd rs1 rs2 : Reg),
    let a := s.reg rs1
    let b := s.reg rs2
    let same : Bool := if s.pstate.am then a.toNat % 2 ^ 32 / 8 == b.toNat % 2 ^ 32 / 8 else a.toNat / 8 == b.toNat / 8
    let is := fun (i : Instr) (opf : BitVec 9) => HasOpf i 0x36 opf
    let edge := fun (i : Instr) (opf : BitVec 9) (n : Nat) (little cc : Bool) =>
      is i opf ∧ ∃ v : Word,
        v.toNat < 2 ^ n ∧
        (∀ k, k < n → bitAt v (if little then k else n - 1 - k) =
          (decide (a.toNat % 8 / (8 / n) ≤ k) && (!same || decide (k ≤ b.toNat % 8 / (8 / n))))) ∧
        Writes i s { s with ccr := if cc then subCc a b (a - b) else s.ccr } rd v
    let array := fun (i : Instr) (opf : BitVec 9) (k : Nat) =>
      is i opf ∧
      (let n := b.toNat
       let x := a.toNat / 2 ^ 11 % 2 ^ 11
       let y := a.toNat / 2 ^ 33 % 2 ^ 11
       let z := a.toNat / 2 ^ 55
       n ≤ 5 → ∃ v : Nat,
         v % 4 = x % 4 ∧ v / 2 ^ 2 % 4 = y % 4 ∧ v / 2 ^ 4 % 2 = z % 2 ∧ v / 2 ^ 5 % 16 = x / 4 % 16 ∧
         v / 2 ^ 9 % 16 = y / 4 % 16 ∧ v / 2 ^ 13 % 16 = z / 2 % 16 ∧ v / 2 ^ 17 % 2 ^ n = x / 64 % 2 ^ n ∧
         v / 2 ^ (17 + n) % 2 ^ n = y / 64 % 2 ^ n ∧ v / 2 ^ (17 + 2 * n) = z / 32 ∧
         Writes i s s rd (BitVec.ofNat 64 (v * 2 ^ k))) ∧
      (5 < b.toNat → ∃ v, Writes i s { s with oracle := s.oracle + 1 } rd v)
    edge (.edge8 rd rs1 rs2) 0x000 8 false true ∧ edge (.edge8n rd rs1 rs2) 0x001 8 false false ∧
    edge (.edge8l rd rs1 rs2) 0x002 8 true true ∧ edge (.edge8ln rd rs1 rs2) 0x003 8 true false ∧
    edge (.edge16 rd rs1 rs2) 0x004 4 false true ∧ edge (.edge16n rd rs1 rs2) 0x005 4 false false ∧
    edge (.edge16l rd rs1 rs2) 0x006 4 true true ∧ edge (.edge16ln rd rs1 rs2) 0x007 4 true false ∧
    edge (.edge32 rd rs1 rs2) 0x008 2 false true ∧ edge (.edge32n rd rs1 rs2) 0x009 2 false false ∧
    edge (.edge32l rd rs1 rs2) 0x00A 2 true true ∧ edge (.edge32ln rd rs1 rs2) 0x00B 2 true false ∧
    array (.array8 rd rs1 rs2) 0x010 0 ∧ array (.array16 rd rs1 rs2) 0x012 1 ∧ array (.array32 rd rs1 rs2) 0x014 2

/-- The instructions that write fields of GSR, and those that move bytes as it says (R1190 to R1194, R1275): the two address
alignments, BMASK, SIAM, FALIGNDATA and BSHUFFLE, with the trap of a disabled unit. -/
def Obligations.AlignmentAndShuffleMoveBytes : Prop :=
  ∀ (s : State) (rd rs1 rs2 : Reg) (m : BitVec 3),
    let sum := s.reg rs1 + s.reg rs2
    let address := BitVec.ofNat 64 (sum.toNat / 8 * 8)
    let aligned := fun (k : Nat) => ({ s with gsr := { s.gsr with align := BitVec.ofNat 3 k } } : State)
    let source := fun (k : Nat) =>
      if k < 8 then (s.f64 rs1).extractLsb' (8 * (7 - k)) 8 else (s.f64 rs2).extractLsb' (8 * (15 - k)) 8
    let permutes := fun (i : Instr) (from' : Nat → Nat) => ∃ v : Word,
      (∀ k, k < 8 → v.extractLsb' (8 * (7 - k)) 8 = source (from' k)) ∧ WritesDouble i s s rd v
    let is := fun (i : Instr) (opf : BitVec 9) => HasOpf i 0x36 opf ∧ (s.fpEnabled = false → Traps i s s 0x020)
    is (.alignaddress rd rs1 rs2) 0x018 ∧ is (.alignaddressLittle rd rs1 rs2) 0x01A ∧ is (.bmask rd rs1 rs2) 0x019 ∧
    is (.bshuffle rd rs1 rs2) 0x04C ∧ is (.faligndata rd rs1 rs2) 0x048 ∧ is (.siam m) 0x081 ∧
    (s.fpEnabled = true →
      Writes (.alignaddress rd rs1 rs2) s (aligned (sum.toNat % 8)) rd address ∧
      Writes (.alignaddressLittle rd rs1 rs2) s (aligned (8 - sum.toNat % 8)) rd address ∧
      Writes (.bmask rd rs1 rs2) s { s with gsr := { s.gsr with mask := BitVec.ofNat 32 sum.toNat } } rd sum ∧
      permutes (.bshuffle rd rs1 rs2) (fun k => s.gsr.mask.toNat / 16 ^ (7 - k) % 16) ∧
      permutes (.faligndata rd rs1 rs2) (fun k => s.gsr.align.toNat + k) ∧
      Completes (.siam m) s { s with gsr := { s.gsr with im := bitAt m 2, irnd := m.extractLsb' 0 2 } })

/-- The partitioned comparisons and multiplications (R1200 to R1217), lane by lane; the highest bit of a comparison's result
is the most significant lane. -/
def Obligations.PartitionedComparesAndProducts : Prop :=
  ∀ (s : State) (rd rs1 rs2 : Reg),
    let half := fun (r : Reg) (k : Nat) => (s.f64 r).extractLsb' (16 * (3 - k)) 16
    let word := fun (r : Reg) (k : Nat) => (s.f64 r).extractLsb' (32 * (1 - k)) 32
    let half32 := fun (r : Reg) (k : Nat) => (s.f32 r).extractLsb' (16 * (1 - k)) 16
    let byte32 := fun (r : Reg) (k : Nat) => ((s.f32 r).extractLsb' (8 * (3 - k)) 8).toNat
    let upper := fun (h : BitVec 16) => (h.extractLsb' 8 8).toInt
    let lower := fun (h : BitVec 16) => ((h.extractLsb' 0 8).toNat : Int)
    let near := fun (p : Int) => BitVec.ofInt 16 ((p + 128) / 256)
    let is := fun (i : Instr) (opf : BitVec 9) => HasOpf i 0x36 opf ∧ (s.fpEnabled = false → Traps i s s 0x020)
    let compares16 := fun (i : Instr) (opf : BitVec 9) (p : Int → Int → Bool) => is i opf ∧ (s.fpEnabled = true →
      ∃ v : Word, v.toNat < 16 ∧ (∀ k, k < 4 → bitAt v (3 - k) = p (half rs1 k).toInt (half rs2 k).toInt) ∧ Writes i s s rd v)
    let compares32 := fun (i : Instr) (opf : BitVec 9) (p : Int → Int → Bool) => is i opf ∧ (s.fpEnabled = true →
      ∃ v : Word, v.toNat < 4 ∧ (∀ k, k < 2 → bitAt v (1 - k) = p (word rs1 k).toInt (word rs2 k).toInt) ∧ Writes i s s rd v)
    let products16 := fun (i : Instr) (opf : BitVec 9) (p : Nat → BitVec 16) => is i opf ∧ (s.fpEnabled = true →
      ∃ v : Word, (∀ k, k < 4 → v.extractLsb' (16 * (3 - k)) 16 = p k) ∧ WritesDouble i s s rd v)
    let products32 := fun (i : Instr) (opf : BitVec 9) (p : Nat → Int) => is i opf ∧ (s.fpEnabled = true →
      ∃ v : Word, (∀ k, k < 2 → v.extractLsb' (32 * (1 - k)) 32 = BitVec.ofInt 32 (p k)) ∧ WritesDouble i s s rd v)
    compares16 (.fcmple16 rd rs1 rs2) 0x020 (fun x y => decide (x ≤ y)) ∧
    compares16 (.fcmpne16 rd rs1 rs2) 0x022 (fun x y => decide (x ≠ y)) ∧
    compares32 (.fcmple32 rd rs1 rs2) 0x024 (fun x y => decide (x ≤ y)) ∧
    compares32 (.fcmpne32 rd rs1 rs2) 0x026 (fun x y => decide (x ≠ y)) ∧
    compares16 (.fcmpgt16 rd rs1 rs2) 0x028 (fun x y => decide (y < x)) ∧
    compares16 (.fcmpeq16 rd rs1 rs2) 0x02A (fun x y => decide (x = y)) ∧
    compares32 (.fcmpgt32 rd rs1 rs2) 0x02C (fun x y => decide (y < x)) ∧
    compares32 (.fcmpeq32 rd rs1 rs2) 0x02E (fun x y => decide (x = y)) ∧
    products16 (.fmul8x16 rd rs1 rs2) 0x031 (fun k => near (byte32 rs1 k * (half rs2 k).toInt)) ∧
    products16 (.fmul8x16au rd rs1 rs2) 0x033 (fun k => near (byte32 rs1 k * (half32 rs2 0).toInt)) ∧
    products16 (.fmul8x16al rd rs1 rs2) 0x035 (fun k => near (byte32 rs1 k * (half32 rs2 1).toInt)) ∧
    products16 (.fmul8sux16 rd rs1 rs2) 0x036 (fun k => near (upper (half rs1 k) * (half rs2 k).toInt)) ∧
    products16 (.fmul8ulx16 rd rs1 rs2) 0x037
      (fun k => BitVec.ofInt 16 ((lower (half rs1 k) * (half rs2 k).toInt + 32768) / 65536)) ∧
    products32 (.fmuld8sux16 rd rs1 rs2) 0x038 (fun k => upper (half32 rs1 k) * (half32 rs2 k).toInt * 256) ∧
    products32 (.fmuld8ulx16 rd rs1 rs2) 0x039 (fun k => lower (half32 rs1 k) * (half32 rs2 k).toInt)

/-- The packs, FEXPAND, FPMERGE, PDIST and the partitioned sums and differences (R1220 to R1225, R1230 to R1237), lane by
lane. -/
def Obligations.PacksMergesAndPartitionedSums : Prop :=
  ∀ (s : State) (rd rs1 rs2 : Reg),
    let byte := fun (r : Reg) (k : Nat) => ((s.f64 r).extractLsb' (8 * (7 - k)) 8).toNat
    let half := fun (r : Reg) (k : Nat) => (s.f64 r).extractLsb' (16 * (3 - k)) 16
    let word := fun (r : Reg) (k : Nat) => (s.f64 r).extractLsb' (32 * (1 - k)) 32
    let half32 := fun (r : Reg) (k : Nat) => (s.f32 r).extractLsb' (16 * (1 - k)) 16
    let byte32 := fun (r : Reg) (k : Nat) => (s.f32 r).extractLsb' (8 * (3 - k)) 8
    let clamp := fun (x lo hi : Int) => max lo (min x hi)
    let scale := s.gsr.scale.toNat
    let is := fun (i : Instr) (opf : BitVec 9) => HasOpf i 0x36 opf ∧ (s.fpEnabled = false → Traps i s s 0x020)
    let lanesD := fun (i : Instr) (opf : BitVec 9) (n w : Nat) (p : Nat → BitVec w) => is i opf ∧ (s.fpEnabled = true →
      ∃ v : Word, (∀ k, k < n → v.extractLsb' (w * (n - 1 - k)) w = p k) ∧ WritesDouble i s s rd v)
    let lanesS := fun (i : Instr) (opf : BitVec 9) (n w : Nat) (p : Nat → BitVec w) => is i opf ∧ (s.fpEnabled = true →
      ∃ v : Word32, (∀ k, k < n → v.extractLsb' (w * (n - 1 - k)) w = p k) ∧ WritesSingle i s s rd v)
    lanesS (.fpack16 rd rs2) 0x03B 4 8
      (fun k => BitVec.ofInt 8 (clamp ((half rs2 k).toInt * 2 ^ (scale % 16) / 2 ^ 7) 0 255)) ∧
    lanesD (.fpack32 rd rs1 rs2) 0x03A 2 32 (fun k => BitVec.ofNat 32
      ((word rs1 k).toNat * 256 + (clamp ((word rs2 k).toInt * 2 ^ scale / 2 ^ 23) 0 255).toNat)) ∧
    lanesS (.fpackfix rd rs2) 0x03D 2 16
      (fun k => BitVec.ofInt 16 (clamp ((word rs2 k).toInt * 2 ^ scale / 2 ^ 16) (-32768) 32767)) ∧
    lanesD (.fexpand rd rs2) 0x04D 4 16 (fun k => BitVec.ofNat 16 ((byte32 rs2 k).toNat * 16)) ∧
    lanesD (.fpmerge rd rs1 rs2) 0x04B 8 8 (fun k => if k % 2 = 0 then byte32 rs1 (k / 2) else byte32 rs2 (k / 2)) ∧
    (is (.pdist rd rs1 rs2) 0x03E ∧ (s.fpEnabled = true → WritesDouble (.pdist rd rs1 rs2) s s rd
      (s.f64 rd + BitVec.ofNat 64
        ((List.range 8).map (fun k => ((byte rs1 k : Int) - byte rs2 k).natAbs)).sum))) ∧
    lanesD (.fpadd16 rd rs1 rs2) 0x050 4 16 (fun k => half rs1 k + half rs2 k) ∧
    lanesS (.fpadd16s rd rs1 rs2) 0x051 2 16 (fun k => half32 rs1 k + half32 rs2 k) ∧
    lanesD (.fpadd32 rd rs1 rs2) 0x052 2 32 (fun k => word rs1 k + word rs2 k) ∧
    lanesS (.fpadd32s rd rs1 rs2) 0x053 1 32 (fun _ => s.f32 rs1 + s.f32 rs2) ∧
    lanesD (.fpsub16 rd rs1 rs2) 0x054 4 16 (fun k => half rs1 k - half rs2 k) ∧
    lanesS (.fpsub16s rd rs1 rs2) 0x055 2 16 (fun k => half32 rs1 k - half32 rs2 k) ∧
    lanesD (.fpsub32 rd rs1 rs2) 0x056 2 32 (fun k => word rs1 k - word rs2 k) ∧
    lanesS (.fpsub32s rd rs1 rs2) 0x057 1 32 (fun _ => s.f32 rs1 - s.f32 rs2)

/-- The thirty-two logical operations (R1240 to R1272). Each has a number, bits 5 to 1 of its `opf`, and its four bits say the
result for the four values of the source bits: this is the table, with the single forms in bit 0. -/
def Obligations.LogicalOperationsFollowTheirTruthTable : Prop :=
  ∀ (s : State) (rd rs1 rs2 : Reg),
    let does := fun (double single : Instr) (opf : BitVec 9) (p : Bool → Bool → Bool) =>
      HasOpf double 0x36 opf ∧ HasOpf single 0x36 (opf + 1) ∧
      (s.fpEnabled = false → Traps double s s 0x020 ∧ Traps single s s 0x020) ∧
      (s.fpEnabled = true →
        (∃ v : Word, (∀ k, k < 64 → bitAt v k = p (bitAt (s.f64 rs1) k) (bitAt (s.f64 rs2) k)) ∧
          WritesDouble double s s rd v) ∧
        (∃ v : Word32, (∀ k, k < 32 → bitAt v k = p (bitAt (s.f32 rs1) k) (bitAt (s.f32 rs2) k)) ∧
          WritesSingle single s s rd v))
    does (.fzero rd) (.fzeros rd) 0x060 (fun _ _ => false) ∧
    does (.fnor rd rs1 rs2) (.fnors rd rs1 rs2) 0x062 (fun x y => !(x || y)) ∧
    does (.fandnot2 rd rs1 rs2) (.fandnot2s rd rs1 rs2) 0x064 (fun x y => x && !y) ∧
    does (.fnot2 rd rs2) (.fnot2s rd rs2) 0x066 (fun _ y => !y) ∧
    does (.fandnot1 rd rs1 rs2) (.fandnot1s rd rs1 rs2) 0x068 (fun x y => !x && y) ∧
    does (.fnot1 rd rs1) (.fnot1s rd rs1) 0x06A (fun x _ => !x) ∧
    does (.fxor rd rs1 rs2) (.fxors rd rs1 rs2) 0x06C (fun x y => x != y) ∧
    does (.fnand rd rs1 rs2) (.fnands rd rs1 rs2) 0x06E (fun x y => !(x && y)) ∧
    does (.fand rd rs1 rs2) (.fands rd rs1 rs2) 0x070 (fun x y => x && y) ∧
    does (.fxnor rd rs1 rs2) (.fxnors rd rs1 rs2) 0x072 (fun x y => x == y) ∧
    does (.fsrc1 rd rs1) (.fsrc1s rd rs1) 0x074 (fun x _ => x) ∧
    does (.fornot2 rd rs1 rs2) (.fornot2s rd rs1 rs2) 0x076 (fun x y => x || !y) ∧
    does (.fsrc2 rd rs2) (.fsrc2s rd rs2) 0x078 (fun _ y => y) ∧
    does (.fornot1 rd rs1 rs2) (.fornot1s rd rs1 rs2) 0x07A (fun x y => !x || y) ∧
    does (.forD rd rs1 rs2) (.forS rd rs1 rs2) 0x07C (fun x y => x || y) ∧
    does (.fone rd) (.fones rd) 0x07E (fun _ _ => true)

/-! ## Traps, resets and interrupts, spec/60_exceptions.md and spec/61_interrupts_cmt.md -/

/-- Taking a trap, in each of the five ways of R1320, by the level and the mode before it (R1340, R1345, R1346, R1352,
R1360, R1382, R1395; decisions D77 to D79, D84, D85, D87). The next level keeps the program counters, cut to 32 bits where
PSTATE.am is set, and the state registers, with a bit for each program counter that is in the address hole (spec/66_diag_debug.md
R2040); a window trap moves CWP; nothing else changes. That the buffered stores are performed on an entry to RED_state, which R1360
says only to empty the buffer, is the model's choice (log entry 32, DESIGN CHOICE). -/
def Obligations.TrapsSaveTheStateAndGoToTheirVector : Prop :=
  ∀ (s : State) (tt : BitVec 9), s.tl ≤ 6 →
    let t := s.takeTrap tt
    let saved := fun (pc : Word) => (if s.pstate.am then BitVec.ofNat 46 (pc.toNat % 2 ^ 32 / 4) else pc.extractLsb' 2 46)
    let frame : TrapFrame :=
      { tpc := saved s.pc, tnpc := saved s.npc, tpcHole := !s.pstate.am && outOfRange s.pc,
        tnpcHole := !s.pstate.am && outOfRange s.npc, tt := tt, gl := s.gl, ccr := s.ccr, asi := s.asi, pstate := s.pstate,
        cwp := s.win.cwp, hpstate := s.hpstate }
    let cwp := if 0x080 ≤ tt ∧ tt ≤ 0x0BF then s.win.cwp + s.win.cansave + 2
      else if 0x0C0 ≤ tt ∧ tt ≤ 0x0FF then s.win.cwp - 1 else if tt = 0x024 then s.win.cwp + 1 else s.win.cwp
    let toPriv : Prop := tt ∈ ([0x011, 0x020, 0x021, 0x022, 0x023, 0x024, 0x025, 0x026, 0x027, 0x028, 0x074, 0x07C, 0x07D,
      0x07E] : List (BitVec 9)) ∨ (0x041 ≤ tt ∧ tt ≤ 0x04F) ∨ (0x080 ≤ tt ∧ tt ≤ 0x17F)
    let entered := fun (tl : BitVec 3) (gl : Nat) (p : PState) (h : HPState) (pc : Word) =>
      (∀ n, fileGet t.traps n = if n = tl then frame else fileGet s.traps n) ∧
      t = { s with traps := t.traps, tl := tl, gl := BitVec.ofNat 2 (min (s.gl.toNat + 1) gl), win := { s.win with cwp := cwp },
                   pstate := p, hpstate := h, lsu := t.lsu, pc := pc, npc := pc + 4, undrained := t.undrained,
                   taken := some tt }
    let kept := t.lsu = s.lsu ∧ t.undrained = s.undrained
    let off : PState := { s.pstate with tct := false, am := false, pef := true, ie := false }
    let hyper := fun (slot : BitVec 9) =>
      entered (s.tl + 1) 3 { off with priv := false, cle := false } { s.hpstate with hpriv := true, ibe := false }
        ((s.htba ++ slot ++ 0#5 : BitVec 48).signExtend 64) ∧ kept
    let red := fun (tl : BitVec 3) (offset : Word) =>
      entered tl 3 { off with priv := true, cle := false } { ibe := false, red := true, hpriv := true, tlz := false }
        ((if s.cmt.rstVecMask then 0 else 0xFFFFFFFFF0000000) + offset) ∧ t.lsu.word = 0
    (s.tl = 6 → red 6 0x40 ∧ t.undrained = s.undrained) ∧
    (s.tl < 6 → s.tl = 5 ∨ s.hpstate.red = true → red (s.tl + 1) 0xA0 ∧ t.undrained = []) ∧
    (s.tl < 5 → s.hpstate.red = false → s.hpstate.hpriv = true ∨ ¬toPriv → hyper tt) ∧
    (s.tl < 2 → s.hpstate.red = false → s.hpstate.hpriv = false → toPriv →
      entered (s.tl + 1) 2 { off with priv := true, cle := s.pstate.tle } s.hpstate
        ((s.tba ++ (if s.tl = 0 then 0#1 else 1#1) ++ tt ++ 0#5 : BitVec 48).signExtend 64) ∧ kept) ∧
    (2 ≤ s.tl → s.tl < 5 → s.hpstate.red = false → s.hpstate.hpriv = false → toPriv → hyper 2)

/-- What the resets leave (spec/10_state.md R195; R1382, R1385; spec/70_reset_and_hazards.md R2247, R2250; decisions D109,
D100). Power-on: the values of the table's first column. The externally initiated reset, which a running strand takes before
everything else: the trap stack's next level, RED_state and the vector 0x60. The warm reset: level 6, vector 0x20, with the
registers of the program unchanged and memory as the step found it where the store buffer is empty; a store_error that was pending is
gone. That no line of memory holds bad data after power-on is the model's choice (log entry 61, DESIGN CHOICE), and so are the empty
lists of the L1 caches (log entry 68, DESIGN CHOICE), the model's own record of errors that come together (log entry 60, DESIGN
CHOICE), the boundary at which a warm reset is taken and what becomes of the stores in the buffer (log entry 32, DESIGN CHOICE) and the
value of every register to which the table gives none (log entry 5); that INT_MAN begins uninitialized is read from
spec/61_interrupts_cmt.md R1480 (log entry 64, DEDUCED). -/
def Obligations.ResetsLeaveTheStatedValues : Prop :=
  (let z := State.reset
   (∀ r, z.reg r = 0) ∧ (∀ k, fileGet z.fregs k = 0) ∧ z.pc = 0xFFFFFFFFF0000020 ∧ z.npc = 0xFFFFFFFFF0000024 ∧
   z.pstate = { tct := false, cle := false, tle := false, pef := true, am := false, priv := true, ie := false } ∧
   z.hpstate = { ibe := false, red := true, hpriv := true, tlz := false } ∧ z.tba = 0 ∧ z.htba = 0 ∧ z.y = 0 ∧ z.ccr = 0 ∧
   z.asi = 0 ∧ z.pil = 0 ∧ z.win.cwp = 0 ∧ (fileGet z.traps 6).tt = 1 ∧ (fileGet z.traps 6).tnpc = 0 ∧ z.tl = 6 ∧ z.gl = 3 ∧
   z.tim.npt = true ∧ z.tim.counter = 0 ∧ z.win.cansave = 6 ∧ z.win.canrestore = 0 ∧ z.win.otherwin = 0 ∧
   z.win.cleanwin = 7 ∧ z.win.wstate = 0 ∧ z.fsr.word = 0 ∧ z.gsr.word = 0 ∧ z.fprs = 4 ∧ z.pcr = 0 ∧ z.pic = 0 ∧
   z.tim.tickCmpr = 2 ^ 63 ∧ z.tim.stickCmpr = 2 ^ 63 ∧ z.tim.hstickCmpr = 2 ^ 63 ∧ z.tim.hsp = false ∧ z.tim.softint = 0 ∧
   z.undrained = [] ∧ z.storeError = false ∧ z.notData = [] ∧ z.l1d = [] ∧ z.l1i = [] ∧ z.intManSet = 0 ∧
   z.err.together = none ∧ z.unreported = 0 ∧ z.realign = 0 ∧ z.linkLine = none ∧
   (∀ n, fileGet z.scratch n = 0) ∧ z.lsu.word = 0 ∧ z.intr.receive = 0) ∧
  (∀ s : State, s.begin.chipReset = none → s.begin.run = .running → s.begin.xirPending = true →
    let b := s.begin
    let tl := if s.tl < 6 then s.tl + 1 else 6
    let pc := (if s.cmt.rstVecMask then 0 else 0xFFFFFFFFF0000000) + (0x60 : Word)
    ∃ t, step s = .next t ∧ (fileGet t.traps tl).tt = 3 ∧ (∀ n, n ≠ tl → fileGet t.traps n = fileGet s.traps n) ∧
      t = { b with traps := t.traps, tl := tl, gl := t.gl, pstate := t.pstate, hpstate := t.hpstate, lsu := t.lsu, pc := pc,
                   npc := pc + 4, taken := some 3, xirPending := false, checks := t.checks,
                   oracle := t.oracle } ∧
      t.gl.toNat = min (s.gl.toNat + 1) 3 ∧ t.lsu.word = 0 ∧
      t.pstate = { tct := false, cle := false, tle := s.pstate.tle, pef := true, am := false, priv := true, ie := false } ∧
      t.hpstate = { ibe := false, red := true, hpriv := true, tlz := false }) ∧
  ∀ (s : State) (c : ChipReset), s.begin.run ≠ .stopped → s.begin.chipReset = some c →
    let b := s.begin
    let pc := (if s.cmt.rstVecMask then 0 else 0xFFFFFFFFF0000000) + (0x20 : Word)
    ∃ t, step s = .next t ∧ (fileGet t.traps 6).tt = 1 ∧ (∀ n, n ≠ 6 → fileGet t.traps n = fileGet s.traps n) ∧
      t = { b with traps := t.traps, tl := 6, gl := 3, pstate := t.pstate, hpstate := t.hpstate, lsu := t.lsu, pc := pc,
                   npc := pc + 4, tim := { b.tim with npt := true }, cmt := t.cmt, run := t.run, chipReset := none,
                   xirPending := false, undrained := [], storeError := false, mem := t.mem, csr := t.csr, oracle := t.oracle
                   checks := t.checks, realign := t.realign } ∧
      t.pstate = { tct := false, cle := false, tle := s.pstate.tle, pef := true, am := false, priv := true, ie := false } ∧
      t.hpstate = { ibe := false, red := true, hpriv := true, tlz := false } ∧ t.lsu.word = 0 ∧
      (s.cmt.enable ≠ 0 → t.cmt.enableStatus = s.cmt.enable ∧ t.cmt.xirSteering = s.cmt.enable) ∧
      (b.undrained = [] → SameMemory b t)

/-- Disrupting traps (R1450 to R1452; R1325, R1326; spec/10_state.md R74, R75). Hyperprivileged mode with interrupts off takes
none; a pending vector goes to a guest whatever its PSTATE.ie; of the interrupt levels above PIL the highest is taken, level
14 also by a compare match; a trap of the next instruction that has a better priority goes first, trap_level_zero before
everything but XIR and store_error, and store_error before everything but XIR and SIR (R1315; spec/62_errors_core.md R1621). A
disrupting error trap comes at this boundary or at the next one, but not after an access that is never answered
(spec/64_errors_soc.md R1765): R1559 and R1420 speak of a small number of instructions, and one at
most is the model's choice (log entry 38, DESIGN CHOICE); the order between a pending trap and those of the next instruction is read
from R1316 (log entry 38, DEDUCED). A compare register whose
value the counter passes posts its bit, unless it is disabled; this where no entry of a protected array is in error.
`storeTrapChecks` writes the check bits of the trap stack entry, and nothing where no such error is in question
(spec/62_errors_core.md R1591). -/
def Obligations.DisruptingTrapsAreTakenByPriority : Prop :=
  (∀ s : State, s.hpstate.hpriv = true → s.pstate.ie = false → s.pending = none) ∧
  (∀ s : State, s.hpstate.hpriv = false → s.pstate.ie = false → s.tim.hsp = false → s.intr.receive ≠ 0 →
    s.pending = some (0x060, 16 * 16 + 3)) ∧
  (∀ (s : State) (n : Nat), 1 ≤ n → n ≤ 15 → s.hpstate.hpriv = false → s.pstate.ie = true → s.tim.hsp = false →
    s.intr.receive = 0 → bitAt s.pcr 31 = false → bitAt s.pcr 18 = false → s.queueDiffers 0 = false →
    s.queueDiffers 2 = false → s.pil.toNat < n →
    let asked := fun (k : Nat) => bitAt s.tim.softint k || (k == 14 && (bitAt s.tim.softint 0 || bitAt s.tim.softint 16))
    asked n = true → (∀ k, n < k → k ≤ 15 → asked k = false) →
    s.pending = some (BitVec.ofNat 9 (0x40 + n), (32 - n) * 16)) ∧
  (∀ s : State, s.begin.chipReset = none → s.begin.run = .running → s.begin.xirPending = false →
    let b := s.begin
    let outermost := b.hpstate.tlz && b.tl == 0 && !b.hpstate.hpriv
    let steps := fun (t : State) => step s = .next (debugEvents b (b.storeTrapChecks t))
    (b.storeError = true → trapsBefore b.instruct (2 * 16 + 1) = false →
      step s = .next (b.storeTrapChecks ({ b with storeError := false }.takeTrap 0x007))) ∧
    (b.storeError = true → b.hpstate.hpriv = true → ∀ t, b.instruct = .next t → t.taken = some 4 → steps t) ∧
    (b.storeError = false → outermost = true → step s = .next (b.storeTrapChecks (b.takeTrap 0x05F))) ∧
    (b.storeError = false → outermost = false →
      ∀ tt priority, b.pending = some (tt, priority) → trapsBefore b.instruct priority = false →
        (tt ≠ 0x040 → tt ≠ 0x063 → steps (b.takeTrap tt)) ∧
        (tt = 0x040 ∨ tt = 0x063 → steps (b.drawn.takeTrap tt) ∨
          ∃ t, b.instruct = .next t ∧
            ((t.taken = none ∧ steps (t.drawn.takeTrap tt)) ∨ (t.run = .hung ∧ steps t))))) ∧
  ∀ (s : State) (n : BitVec 62),
    let t := s.tickBy n
    let passed := fun (cmpr : Word) =>
      let c := cmpr.toNat % 2 ^ 63 / 2 ^ 7
      s.tim.counter.toNat / 2 ^ 7 < c ∧ c < (s.tim.counter.toNat + n.toNat) / 2 ^ 7
    s.checks = [] → s.tim.counter.toNat + n.toNat < 2 ^ 63 →
      t.tim.counter.toNat = s.tim.counter.toNat + n.toNat ∧
      (passed s.tim.tickCmpr → bitAt s.tim.tickCmpr 63 = false → bitAt t.tim.softint 0 = true) ∧
      (passed s.tim.stickCmpr → bitAt s.tim.stickCmpr 63 = false → bitAt t.tim.softint 16 = true) ∧
      (passed s.tim.hstickCmpr → bitAt s.tim.hstickCmpr 63 = false → t.tim.hsp = true) ∧
      (bitAt s.tim.tickCmpr 63 = true → bitAt t.tim.softint 0 = bitAt s.tim.softint 0) ∧
      (bitAt s.tim.stickCmpr 63 = true → bitAt t.tim.softint 16 = bitAt s.tim.softint 16) ∧
      (bitAt s.tim.hstickCmpr 63 = true → t.tim.hsp = s.tim.hsp) ∧
      (∀ k, 1 ≤ k → k < 16 → bitAt t.tim.softint k = bitAt s.tim.softint k) ∧
      t = { s with tim := t.tim }

/-! ## The MMU, spec/12_mmu_translation.md -/

/-- A page stored through the Data In register of either TLB translates (R311, R313, R390, R391; decision D45): one entry and no
other answers for an address of it that is in the page Tag Access names, whatever the TLB held before, or that no entry
translated before; and it gives the physical page of the store with the address's own offset, and its attributes. A demap of
all pages of the partition then leaves none (R385). This is while software injects no error and no store of the buffer is in error
(spec/62_errors_core.md R1586, R1640).

The hardware tablewalk (R340 to R344; spec/13_mmu_registers.md R438), with one TSB enabled for the context: where the TLB holds no
entry for a virtual address and the TTE at the TSB pointer answers, it is loaded into that TLB and translates the address, by its
physical page or by its real page and the offset of the first range that holds it; an instruction access needs its execute bit.
Where its valid bit is 0 the access traps, and so do a miss with no TSB enabled and a miss of a real address, each with the page in
Tag Access. No store is in the buffer to the TTE. -/
def Obligations.StoredPagesTranslateUntilDemapped : Prop :=
  (∀ (s : State) (side : Side) (dataIn demap : BitVec 8), (side, dataIn, demap) ∈ [(Side.data, 0x5C, 0x5F), (Side.inst, 0x54, 0x57)] →
    s.hpstate.hpriv = true → s.checksClean = true →
    let stores := fun (asi : BitVec 8) (rd rs2 : Reg) (t : State) =>
      exec (.stxa rd 0 (.immAsi asi rs2)) s = .next t ∧
      (if side = .data then t.itlb = s.itlb ∧ t.mmu.itag = s.mmu.itag else t.dtlb = s.dtlb ∧ t.mmu.dtag = s.mmu.dtag) ∧
      t = { s.ringed with dtlb := t.dtlb, itlb := t.itlb, mmu := { s.mmu with itag := t.mmu.itag, dtag := t.mmu.dtag },
                          pc := s.npc, npc := s.npc + 4 }
    (∀ (rd : Reg) (va : Word) (width : Nat),
      let d := s.reg rd
      let q : Request := ⟨va.setWidth 48, false, .nucleus, va.setWidth 48⟩
      let named := (s.tag side).va.toNat
      (s.tag side).context = 0 → bitAt d 63 = true →
      (d.toNat % 16, width) ∈ [(0, 13), (1, 16), (3, 22), (5, 28)] →
      va.toNat % 2 ^ 48 / 2 ^ width = named * 2 ^ 13 / 2 ^ width →
      va.toNat % 2 ^ 48 / 2 ^ 13 = named ∨ s.tlbMatches side q = [] →
      ∃ t u, stores dataIn rd 0 t ∧ t.tag side = s.tag side ∧
        t.lookup side va q =
          .ok (some { pa := BitVec.ofNat 40 (d.toNat % 2 ^ 40 / 2 ^ width * 2 ^ width + va.toNat % 2 ^ width),
                      nfo := bitAt d 62, ie := bitAt d 12, e := bitAt d 11, cp := bitAt d 10, p := bitAt d 8, w := bitAt d 6 })
            u) ∧
    ∀ rd rs2 : Reg, s.reg rs2 = 0x80 →
      ∃ t, stores demap rd rs2 t ∧ ∀ (va : Word) (q : Request), t.lookup side va q = .ok none t) ∧
  ∀ (s : State) (side : Side) (va : Word) (q : Request), s.tlbMatches side q = [] →
    let inst : Bool := decide (side = .inst)
    let context := (s.contexts q.ctx).1
    let traps := fun (tt : BitVec 9) => ∃ u, s.translate side va q = .trap tt u ∧ u.tag side = ⟨q.tagPage, s.tagContext q⟩ ∧
      u.dtlb = s.dtlb ∧ u.itlb = s.itlb ∧ u.regs = s.regs ∧ u.mem = s.mem
    (q.real = true → traps (if inst then 0x03E else 0x03F)) ∧
    (q.real = false → (∀ j, (fileGet s.mmu.tsbZero j).enable = false ∧ (fileGet s.mmu.tsbNonzero j).enable = false) →
      traps (if inst then 0x064 else 0x068)) ∧
    ∀ (i : BitVec 2),
      let set := if context = 0 then s.mmu.tsbZero else s.mmu.tsbNonzero
      let c := fileGet set i
      let n := c.tsbSize.toNat
      let pointer := c.base.toNat / 2 ^ n * 2 ^ n * 2 ^ 13 +
        q.va.toNat / 2 ^ (13 + c.pageSize.shift) % 2 ^ (9 + n) * 16
      let tag : Word := BitVec.ofNat 64 (bigEndianAt s pointer 8)
      let data : Word := BitVec.ofNat 64 (bigEndianAt s (pointer + 8) 8)
      q.real = false → s.checksClean = true → (∀ j, (fileGet set j).enable = decide (j = i)) →
      isIo pointer = false → s.plainLine pointer = true → s.l2Uniform = true → s.pendingIn pointer 16 (fun _ => true) = false →
      (bitAt data 63 = false → traps (if inst then 0x009 else 0x031)) ∧
      ∀ (width : Nat) (page : BitVec 27),
        let real : BitVec 27 := data.extractLsb' 13 27
        let inPage := 2 ^ (width - 13)
        let fits := fun (j : BitVec 2) =>
          let r := fileGet s.mmu.realRange j
          r.enable = true ∧ r.low.toNat ≤ real.toNat / inPage * inPage ∧ real.toNat / inPage * inPage + inPage - 1 ≤ r.high.toNat
        bitAt data 63 = true → (inst = true → bitAt data 7 = true) → tag.extractLsb' 61 3 = 0 → tag.extractLsb' 42 6 = 0 →
        (data.toNat % 16, width) ∈ [(0, 13), (1, 16), (3, 22), (5, 28)] → 13 + c.pageSize.shift ≤ width →
        (context = 0 ∨ c.useContext0 = true ∨ c.useContext1 = true ∨ tag.extractLsb' 48 13 = context) →
        tag.toNat % 2 ^ 42 * 2 ^ 22 / 2 ^ max width 22 = (q.va.signExtend 64).toNat / 2 ^ max width 22 →
        ((c.raNotPa = false ∧ page = real) ∨ (c.raNotPa = true ∧ data.extractLsb' 40 16 = 0 ∧
          ∃ j, fits j ∧ (∀ k, k < j → ¬fits k) ∧ page = real + fileGet s.mmu.physOffset j)) →
        ∃ u, s.translate side va q =
            .ok { pa := BitVec.ofNat 40 (page.toNat / inPage * 2 ^ width + q.va.toNat % 2 ^ width),
                  nfo := bitAt data 62, ie := bitAt data 12, e := bitAt data 11, cp := bitAt data 10, p := bitAt data 8,
                  w := bitAt data 6 } u ∧
          (if inst then u.dtlb = s.dtlb ∧ u.mmu.dtag = s.mmu.dtag else u.itlb = s.itlb ∧ u.mmu.itag = s.mmu.itag) ∧
          u = { s with dtlb := u.dtlb, itlb := u.itlb, mmu := { s.mmu with itag := u.mmu.itag, dtag := u.mmu.dtag },
                       oracle := u.oracle }

/-! ## Fetch, decode and step -/

/-- A step runs the instruction that its word decodes to. In general a running strand fetches, decodes and executes, unless a
reset or a disrupting trap comes first; the step adds to the instruction the passing of time before it, and the breakpoint,
the counted events and the debug events after it, and, where an entry of a protected array or a store of the buffer is or
may come to be in error, the check bits. Where nothing counts, nothing is pending, no debug function is in use and no such
error is in question, the step is the instruction. In hyperprivileged mode the word is the four bytes at PC{39:0}, the most
significant first (spec/20_memory.md R521, R541), and the program counters are then 48 bits, sign-extended
(spec/41_control_transfer.md R800). An ADD whose first source has one or two wrong check bits takes internal_processor_error
instead, where that is enabled: D-SFSR says whether one bit is wrong, and D-SFAR holds the syndrome, GL and the number of
the register, in which the outs and the ins change places in an odd window (spec/62_errors_core.md R1579, R1608, R1610;
spec/67_ecc_jtag.md R2101, R2102). -/
def Obligations.StepsRunTheDecodedInstruction : Prop :=
  (∀ (s s1 : State) (w : Word32) (i : Instr),
    let b := s.begin
    b.chipReset = none → b.run = .running → b.xirPending = false → b.storeError = false → (b.hpstate.tlz && b.tl == 0 && !b.hpstate.hpriv) = false → b.pending = none →
    b.fetch = .ok w s1 → decode w = .ok i →
    i.wellFormed = true ∧
    step s = (match s1.retire w i (if b.checksClean then exec i s1 else s1.protect i (exec i s1)) with
      | .next t => .next (debugEvents b (b.storeTrapChecks t))
      | r => r)) ∧
  (∀ (s s1 t : State) (w : Word32) (i : Instr), Quiet s → s.taken = none → s.fetch = .ok w s1 → decode w = .ok i →
    exec i s1 = .next t → step s = .next t) ∧
  (∀ (s s1 : State) (w : Word32) (e : DecodeError), Quiet s → s.taken = none → s.fetch = .ok w s1 → decode w = .error e →
    step s = .next (s1.takeTrap 0x010)) ∧
  (∀ s : State,
    let pa := (if s.pstate.am then s.pc.toNat % 2 ^ 32 else s.pc.toNat) % 2 ^ 40
    let kept := fun (a : Word) => if s.pstate.am then a else (a.extractLsb' 0 48).signExtend 64
    s.hpstate.hpriv = true → isIo pa = false → s.plainLine pa = true → s.l2Uniform = true →
      s.fetch = .ok (s.readByte pa ++ s.readByte (pa + 1) ++ s.readByte (pa + 2) ++ s.readByte (pa + 3))
        { s with pc := kept s.pc, npc := kept s.npc }) ∧
  ∀ (s : State) (rd rs1 rs2 : Reg) (j k : Nat),
    let m := s.checkOf (.int (s.slot rs1))
    let i : Instr := .add rd rs1 (.reg rs2)
    let n := rs1.toNat
    let index := if s.win.cwp.toNat % 2 = 1 ∧ 8 ≤ n % 16 then (n + 16) % 32 else n
    s.taken = none → bitAt s.err.cerer 52 = true → bitAt s.err.seter 2 = true → j < 8 → k < 8 →
    m = (1 <<< j) ||| (1 <<< k) →
    ∃ u : State, s.protect i (exec i s) = .next (u.takeTrap 0x029) ∧
      u = { s with err := { s.err with dsfsr := if j = k then 2 else 1 },
                   mmu := { s.mmu with dsfar := u.mmu.dsfar, dsfarError := true }, oracle := s.oracle + 1 } ∧
      u.mmu.dsfar.toNat % 2 ^ 15 = ((if j = k then 128 else 0) + m.toNat % 128) * 2 ^ 7 + s.gl.toNat * 2 ^ 5 + index

/-- A word of every format and family, written out in the fields of spec/30_encoding.md, decodes to the instruction it stands
for: CALL, SETHI, BPcc, BPr, FBfcc; ADD, SUBcc, a shift, RDPR, WRPR, JMPL, Tcc; FADDd, FMOVDcc, an edge; LDX, STW with an
immediate, CASA, LDDFA and its block form. -/
def Obligations.WordsDecodeToTheirInstructions : Prop :=
  decode (0b01#2 ++ 0x3FFFFFFF#30) = .ok (.call 0x3FFFFFFF) ∧
  decode (0b00#2 ++ 5#5 ++ 0b100#3 ++ 0x12345#22) = .ok (.sethi 5 0x12345) ∧
  decode (0b00#2 ++ 1#1 ++ 9#4 ++ 0b001#3 ++ 0b10#2 ++ 1#1 ++ 0x7FFFE#19) = .ok (.bpcc true .ne .xcc true 0x7FFFE) ∧
  decode (0b00#2 ++ 0#1 ++ 0#1 ++ 3#3 ++ 0b011#3 ++ 2#2 ++ 1#1 ++ 7#5 ++ 5#14) = .ok (.bpr false .lz true 7 0x8005) ∧
  decode (0b00#2 ++ 0#1 ++ 13#4 ++ 0b110#3 ++ 4#22) = .ok (.fbfcc false .le 4) ∧
  decode (0b10#2 ++ 3#5 ++ 0x00#6 ++ 1#5 ++ 0#1 ++ 0#8 ++ 2#5) = .ok (.add 3 1 (.reg 2)) ∧
  decode (0b10#2 ++ 0#5 ++ 0x14#6 ++ 1#5 ++ 1#1 ++ 0x1FFF#13) = .ok (.subcc 0 1 (.imm 0x1FFF)) ∧
  decode (0b10#2 ++ 3#5 ++ 0x27#6 ++ 1#5 ++ 1#1 ++ 1#1 ++ 0#6 ++ 63#6) = .ok (.srax 3 1 (.imm 63)) ∧
  decode (0b10#2 ++ 3#5 ++ 0x2A#6 ++ 6#5 ++ 0#14) = .ok (.rdprPstate 3) ∧
  decode (0b10#2 ++ 7#5 ++ 0x32#6 ++ 1#5 ++ 1#1 ++ 2#13) = .ok (.wrprTl 1 (.imm 2)) ∧
  decode (0b10#2 ++ 15#5 ++ 0x38#6 ++ 4#5 ++ 0#1 ++ 0#8 ++ 9#5) = .ok (.jmpl 15 4 (.reg 9)) ∧
  decode (0b10#2 ++ 0#1 ++ 8#4 ++ 0x3A#6 ++ 0#5 ++ 1#1 ++ 0b10#2 ++ 0#3 ++ 0x6D#8) = .ok (.tcc .a .xcc 0 (.imm 0x6D)) ∧
  decode (0b10#2 ++ 4#5 ++ 0x34#6 ++ 0#5 ++ 0x042#9 ++ 2#5) = .ok (.faddd 4 0 2) ∧
  decode (0b10#2 ++ 4#5 ++ 0x35#6 ++ 0#1 ++ 9#4 ++ 0b110#3 ++ 0x02#6 ++ 2#5) = .ok (.fmovdcc 4 (.int .xcc .ne) 2) ∧
  decode (0b10#2 ++ 3#5 ++ 0x36#6 ++ 1#5 ++ 0x002#9 ++ 2#5) = .ok (.edge8l 3 1 2) ∧
  decode (0b11#2 ++ 3#5 ++ 0x0B#6 ++ 1#5 ++ 0#1 ++ 0#8 ++ 2#5) = .ok (.ldx 3 1 (.reg 2)) ∧
  decode (0b11#2 ++ 3#5 ++ 0x04#6 ++ 1#5 ++ 1#1 ++ 8#13) = .ok (.stw 3 1 (.imm 8)) ∧
  decode (0b11#2 ++ 3#5 ++ 0x3C#6 ++ 1#5 ++ 0#1 ++ 0x80#8 ++ 2#5) = .ok (.casa 3 1 (.immAsi 0x80) 2) ∧
  decode (0b11#2 ++ 2#5 ++ 0x33#6 ++ 1#5 ++ 0#1 ++ 0x80#8 ++ 0#5) = .ok (.lddfa 2 1 (.immAsi 0x80 0)) ∧
  decode (0b11#2 ++ 16#5 ++ 0x33#6 ++ 1#5 ++ 0#1 ++ 0xF0#8 ++ 0#5) = .ok (.ldblockf 16 1 0xF0 0)

/-- Decode and encode agree, for every instruction and every word: the word of a well-formed instruction decodes to it, with
every operand at every value; and a word that decodes at all decodes to a well-formed instruction whose word it is, so that no
bit of a word is dropped and no two words stand for one instruction. -/
def Obligations.DecodeAndEncodeAgree : Prop :=
  (∀ i : Instr, i.wellFormed = true → decode (encode i) = .ok i) ∧
  ∀ (w : Word32) (i : Instr), decode w = .ok i → i.wellFormed = true ∧ encode i = w

/-! ## Every step -/

/-- The invariant `State.Sound` holds after power-on reset. -/
def Obligations.ResetStateIsSound : Prop := State.reset.Sound

/-- Every step keeps the invariant `State.Sound`, from every state that has it: storage stays canonical, the program counters
stay word-aligned (spec/10_state.md R60), the trap level stays one that exists (R100), the reserved bits of PCR, CERER,
ERROR_INJECT, DECR and SPARC_PWR_MGMT stay 0, FSR.ftt stays one of the values the hardware writes (R1064), and a strand
that executes is an enabled one. -/
def Obligations.EveryStepKeepsTheStateSound : Prop :=
  ∀ s t : State, s.Sound → step s = .next t → t.Sound

/-- What no instruction of a nonprivileged program changes unless it traps: the privileged and hyperprivileged registers, the
trap stack, the timers, the performance control register, the scratchpads, the contexts and translation registers, the
instruction TLB, the watchpoints and the debug and CMT registers; nor does it stop the strand, but where an access is never answered
(spec/64_errors_soc.md R1765) (spec/43_state_access.md R991, R1010, R1030;
spec/21_asi_map.md R561). -/
def Obligations.NonprivilegedInstructionsKeepPrivilegedState : Prop :=
  ∀ (s t : State) (i : Instr), s.hpstate.hpriv = false → s.pstate.priv = false → s.taken = none →
    exec i s = .next t → t.taken = none →
    t.pstate = s.pstate ∧ t.hpstate = s.hpstate ∧ t.tl = s.tl ∧ t.gl = s.gl ∧ t.pil = s.pil ∧ t.tba = s.tba ∧
    t.htba = s.htba ∧ t.traps = s.traps ∧ t.tim = s.tim ∧ t.pcr = s.pcr ∧ t.scratch = s.scratch ∧ t.lsu = s.lsu ∧
    t.watch = s.watch ∧ t.itlb = s.itlb ∧ t.mmu = { s.mmu with dtag := t.mmu.dtag } ∧ t.cmt = s.cmt ∧ t.dbg = s.dbg ∧
    (t.run = s.run ∨ t.run = .hung) ∧ t.win.cleanwin = s.win.cleanwin ∧ t.win.wstate = s.win.wstate

/-- Only a trap or a reset enters hyperprivileged mode: a step from a lower mode that ends in it has taken a trap, where no
warm reset is asked for. -/
def Obligations.OnlyTrapsEnterHyperprivilegedMode : Prop :=
  ∀ s t : State, s.hpstate.hpriv = false → s.begin.chipReset = none → step s = .next t → t.hpstate.hpriv = true → t.taken ≠ none

end
end

