-- ==== Sys2Proof/Laws/State.lean ====
section
/-! SUPPORT. Laws/State.lean: what each update of the state does to each field, and to what is read through the fields:
one lemma for each, so that no later proof unfolds an update. -/

namespace Sys2Proof.Machine

section
variable (s : State)

/-! ## setReg -/

@[simp] theorem State.setReg_regs (rd : Reg) (v : Word) : (s.setReg rd v).regs = s.regs.set (s.slot rd) v := rfl
@[simp] theorem State.setReg_pc (rd : Reg) (v : Word) : (s.setReg rd v).pc = s.pc := rfl
@[simp] theorem State.setReg_npc (rd : Reg) (v : Word) : (s.setReg rd v).npc = s.npc := rfl
@[simp] theorem State.setReg_win (rd : Reg) (v : Word) : (s.setReg rd v).win = s.win := rfl
@[simp] theorem State.setReg_gl (rd : Reg) (v : Word) : (s.setReg rd v).gl = s.gl := rfl
@[simp] theorem State.setReg_ccr (rd : Reg) (v : Word) : (s.setReg rd v).ccr = s.ccr := rfl
@[simp] theorem State.setReg_y (rd : Reg) (v : Word) : (s.setReg rd v).y = s.y := rfl
@[simp] theorem State.setReg_asi (rd : Reg) (v : Word) : (s.setReg rd v).asi = s.asi := rfl
@[simp] theorem State.setReg_fprs (rd : Reg) (v : Word) : (s.setReg rd v).fprs = s.fprs := rfl
@[simp] theorem State.setReg_fregs (rd : Reg) (v : Word) : (s.setReg rd v).fregs = s.fregs := rfl
@[simp] theorem State.setReg_fsr (rd : Reg) (v : Word) : (s.setReg rd v).fsr = s.fsr := rfl
@[simp] theorem State.setReg_gsr (rd : Reg) (v : Word) : (s.setReg rd v).gsr = s.gsr := rfl
@[simp] theorem State.setReg_pcr (rd : Reg) (v : Word) : (s.setReg rd v).pcr = s.pcr := rfl
@[simp] theorem State.setReg_pic (rd : Reg) (v : Word) : (s.setReg rd v).pic = s.pic := rfl
@[simp] theorem State.setReg_pstate (rd : Reg) (v : Word) : (s.setReg rd v).pstate = s.pstate := rfl
@[simp] theorem State.setReg_hpstate (rd : Reg) (v : Word) : (s.setReg rd v).hpstate = s.hpstate := rfl
@[simp] theorem State.setReg_tl (rd : Reg) (v : Word) : (s.setReg rd v).tl = s.tl := rfl
@[simp] theorem State.setReg_pil (rd : Reg) (v : Word) : (s.setReg rd v).pil = s.pil := rfl
@[simp] theorem State.setReg_tba (rd : Reg) (v : Word) : (s.setReg rd v).tba = s.tba := rfl
@[simp] theorem State.setReg_htba (rd : Reg) (v : Word) : (s.setReg rd v).htba = s.htba := rfl
@[simp] theorem State.setReg_traps (rd : Reg) (v : Word) : (s.setReg rd v).traps = s.traps := rfl
@[simp] theorem State.setReg_tim (rd : Reg) (v : Word) : (s.setReg rd v).tim = s.tim := rfl
@[simp] theorem State.setReg_scratch (rd : Reg) (v : Word) : (s.setReg rd v).scratch = s.scratch := rfl
@[simp] theorem State.setReg_lsu (rd : Reg) (v : Word) : (s.setReg rd v).lsu = s.lsu := rfl
@[simp] theorem State.setReg_watch (rd : Reg) (v : Word) : (s.setReg rd v).watch = s.watch := rfl
@[simp] theorem State.setReg_mmu (rd : Reg) (v : Word) : (s.setReg rd v).mmu = s.mmu := rfl
@[simp] theorem State.setReg_itlb (rd : Reg) (v : Word) : (s.setReg rd v).itlb = s.itlb := rfl
@[simp] theorem State.setReg_dtlb (rd : Reg) (v : Word) : (s.setReg rd v).dtlb = s.dtlb := rfl
@[simp] theorem State.setReg_err (rd : Reg) (v : Word) : (s.setReg rd v).err = s.err := rfl
@[simp] theorem State.setReg_dbg (rd : Reg) (v : Word) : (s.setReg rd v).dbg = s.dbg := rfl
@[simp] theorem State.setReg_intr (rd : Reg) (v : Word) : (s.setReg rd v).intr = s.intr := rfl
@[simp] theorem State.setReg_cmt (rd : Reg) (v : Word) : (s.setReg rd v).cmt = s.cmt := rfl
@[simp] theorem State.setReg_run (rd : Reg) (v : Word) : (s.setReg rd v).run = s.run := rfl
@[simp] theorem State.setReg_chipReset (rd : Reg) (v : Word) : (s.setReg rd v).chipReset = s.chipReset := rfl
@[simp] theorem State.setReg_xirPending (rd : Reg) (v : Word) : (s.setReg rd v).xirPending = s.xirPending := rfl
@[simp] theorem State.setReg_debugWait (rd : Reg) (v : Word) : (s.setReg rd v).debugWait = s.debugWait := rfl
@[simp] theorem State.setReg_trigout (rd : Reg) (v : Word) : (s.setReg rd v).trigout = s.trigout := rfl
@[simp] theorem State.setReg_checks (rd : Reg) (v : Word) : (s.setReg rd v).checks = s.checks := rfl
@[simp] theorem State.setReg_csr (rd : Reg) (v : Word) : (s.setReg rd v).csr = s.csr := rfl
@[simp] theorem State.setReg_rom (rd : Reg) (v : Word) : (s.setReg rd v).rom = s.rom := rfl
@[simp] theorem State.setReg_mem (rd : Reg) (v : Word) : (s.setReg rd v).mem = s.mem := rfl
@[simp] theorem State.setReg_undrained (rd : Reg) (v : Word) : (s.setReg rd v).undrained = s.undrained := rfl
@[simp] theorem State.setReg_storeError (rd : Reg) (v : Word) : (s.setReg rd v).storeError = s.storeError := rfl
@[simp] theorem State.setReg_notData (rd : Reg) (v : Word) : (s.setReg rd v).notData = s.notData := rfl
@[simp] theorem State.setReg_l1d (rd : Reg) (v : Word) : (s.setReg rd v).l1d = s.l1d := rfl
@[simp] theorem State.setReg_l1i (rd : Reg) (v : Word) : (s.setReg rd v).l1i = s.l1i := rfl
@[simp] theorem State.setReg_intManSet (rd : Reg) (v : Word) : (s.setReg rd v).intManSet = s.intManSet := rfl
@[simp] theorem State.setReg_unreported (rd : Reg) (v : Word) : (s.setReg rd v).unreported = s.unreported := rfl
@[simp] theorem State.setReg_realign (rd : Reg) (v : Word) : (s.setReg rd v).realign = s.realign := rfl
@[simp] theorem State.setReg_linkLine (rd : Reg) (v : Word) : (s.setReg rd v).linkLine = s.linkLine := rfl
@[simp] theorem State.setReg_events (rd : Reg) (v : Word) : (s.setReg rd v).events = s.events := rfl
@[simp] theorem State.setReg_oracle (rd : Reg) (v : Word) : (s.setReg rd v).oracle = s.oracle := rfl
@[simp] theorem State.setReg_taken (rd : Reg) (v : Word) : (s.setReg rd v).taken = s.taken := rfl

/-! ## setF32 -/

@[simp] theorem State.setF32_regs (rd : Reg) (v : Word32) : (s.setF32 rd v).regs = s.regs := rfl
@[simp] theorem State.setF32_pc (rd : Reg) (v : Word32) : (s.setF32 rd v).pc = s.pc := rfl
@[simp] theorem State.setF32_npc (rd : Reg) (v : Word32) : (s.setF32 rd v).npc = s.npc := rfl
@[simp] theorem State.setF32_win (rd : Reg) (v : Word32) : (s.setF32 rd v).win = s.win := rfl
@[simp] theorem State.setF32_gl (rd : Reg) (v : Word32) : (s.setF32 rd v).gl = s.gl := rfl
@[simp] theorem State.setF32_ccr (rd : Reg) (v : Word32) : (s.setF32 rd v).ccr = s.ccr := rfl
@[simp] theorem State.setF32_y (rd : Reg) (v : Word32) : (s.setF32 rd v).y = s.y := rfl
@[simp] theorem State.setF32_asi (rd : Reg) (v : Word32) : (s.setF32 rd v).asi = s.asi := rfl
@[simp] theorem State.setF32_fprs (rd : Reg) (v : Word32) : (s.setF32 rd v).fprs = dirty s.fprs false := rfl
@[simp] theorem State.setF32_fregs (rd : Reg) (v : Word32) :
    (s.setF32 rd v).fregs =
      fileSet s.fregs (0#1 ++ rd) v := rfl
@[simp] theorem State.setF32_fsr (rd : Reg) (v : Word32) : (s.setF32 rd v).fsr = s.fsr := rfl
@[simp] theorem State.setF32_gsr (rd : Reg) (v : Word32) : (s.setF32 rd v).gsr = s.gsr := rfl
@[simp] theorem State.setF32_pcr (rd : Reg) (v : Word32) : (s.setF32 rd v).pcr = s.pcr := rfl
@[simp] theorem State.setF32_pic (rd : Reg) (v : Word32) : (s.setF32 rd v).pic = s.pic := rfl
@[simp] theorem State.setF32_pstate (rd : Reg) (v : Word32) : (s.setF32 rd v).pstate = s.pstate := rfl
@[simp] theorem State.setF32_hpstate (rd : Reg) (v : Word32) : (s.setF32 rd v).hpstate = s.hpstate := rfl
@[simp] theorem State.setF32_tl (rd : Reg) (v : Word32) : (s.setF32 rd v).tl = s.tl := rfl
@[simp] theorem State.setF32_pil (rd : Reg) (v : Word32) : (s.setF32 rd v).pil = s.pil := rfl
@[simp] theorem State.setF32_tba (rd : Reg) (v : Word32) : (s.setF32 rd v).tba = s.tba := rfl
@[simp] theorem State.setF32_htba (rd : Reg) (v : Word32) : (s.setF32 rd v).htba = s.htba := rfl
@[simp] theorem State.setF32_traps (rd : Reg) (v : Word32) : (s.setF32 rd v).traps = s.traps := rfl
@[simp] theorem State.setF32_tim (rd : Reg) (v : Word32) : (s.setF32 rd v).tim = s.tim := rfl
@[simp] theorem State.setF32_scratch (rd : Reg) (v : Word32) : (s.setF32 rd v).scratch = s.scratch := rfl
@[simp] theorem State.setF32_lsu (rd : Reg) (v : Word32) : (s.setF32 rd v).lsu = s.lsu := rfl
@[simp] theorem State.setF32_watch (rd : Reg) (v : Word32) : (s.setF32 rd v).watch = s.watch := rfl
@[simp] theorem State.setF32_mmu (rd : Reg) (v : Word32) : (s.setF32 rd v).mmu = s.mmu := rfl
@[simp] theorem State.setF32_itlb (rd : Reg) (v : Word32) : (s.setF32 rd v).itlb = s.itlb := rfl
@[simp] theorem State.setF32_dtlb (rd : Reg) (v : Word32) : (s.setF32 rd v).dtlb = s.dtlb := rfl
@[simp] theorem State.setF32_err (rd : Reg) (v : Word32) : (s.setF32 rd v).err = s.err := rfl
@[simp] theorem State.setF32_dbg (rd : Reg) (v : Word32) : (s.setF32 rd v).dbg = s.dbg := rfl
@[simp] theorem State.setF32_intr (rd : Reg) (v : Word32) : (s.setF32 rd v).intr = s.intr := rfl
@[simp] theorem State.setF32_cmt (rd : Reg) (v : Word32) : (s.setF32 rd v).cmt = s.cmt := rfl
@[simp] theorem State.setF32_run (rd : Reg) (v : Word32) : (s.setF32 rd v).run = s.run := rfl
@[simp] theorem State.setF32_chipReset (rd : Reg) (v : Word32) : (s.setF32 rd v).chipReset = s.chipReset := rfl
@[simp] theorem State.setF32_xirPending (rd : Reg) (v : Word32) : (s.setF32 rd v).xirPending = s.xirPending := rfl
@[simp] theorem State.setF32_debugWait (rd : Reg) (v : Word32) : (s.setF32 rd v).debugWait = s.debugWait := rfl
@[simp] theorem State.setF32_trigout (rd : Reg) (v : Word32) : (s.setF32 rd v).trigout = s.trigout := rfl
@[simp] theorem State.setF32_checks (rd : Reg) (v : Word32) : (s.setF32 rd v).checks = s.checks := rfl
@[simp] theorem State.setF32_csr (rd : Reg) (v : Word32) : (s.setF32 rd v).csr = s.csr := rfl
@[simp] theorem State.setF32_rom (rd : Reg) (v : Word32) : (s.setF32 rd v).rom = s.rom := rfl
@[simp] theorem State.setF32_mem (rd : Reg) (v : Word32) : (s.setF32 rd v).mem = s.mem := rfl
@[simp] theorem State.setF32_undrained (rd : Reg) (v : Word32) : (s.setF32 rd v).undrained = s.undrained := rfl
@[simp] theorem State.setF32_storeError (rd : Reg) (v : Word32) : (s.setF32 rd v).storeError = s.storeError := rfl
@[simp] theorem State.setF32_notData (rd : Reg) (v : Word32) : (s.setF32 rd v).notData = s.notData := rfl
@[simp] theorem State.setF32_l1d (rd : Reg) (v : Word32) : (s.setF32 rd v).l1d = s.l1d := rfl
@[simp] theorem State.setF32_l1i (rd : Reg) (v : Word32) : (s.setF32 rd v).l1i = s.l1i := rfl
@[simp] theorem State.setF32_intManSet (rd : Reg) (v : Word32) : (s.setF32 rd v).intManSet = s.intManSet := rfl
@[simp] theorem State.setF32_unreported (rd : Reg) (v : Word32) : (s.setF32 rd v).unreported = s.unreported := rfl
@[simp] theorem State.setF32_realign (rd : Reg) (v : Word32) : (s.setF32 rd v).realign = s.realign := rfl
@[simp] theorem State.setF32_linkLine (rd : Reg) (v : Word32) : (s.setF32 rd v).linkLine = s.linkLine := rfl
@[simp] theorem State.setF32_events (rd : Reg) (v : Word32) : (s.setF32 rd v).events = s.events := rfl
@[simp] theorem State.setF32_oracle (rd : Reg) (v : Word32) : (s.setF32 rd v).oracle = s.oracle := rfl
@[simp] theorem State.setF32_taken (rd : Reg) (v : Word32) : (s.setF32 rd v).taken = s.taken := rfl

/-! ## setPair -/

@[simp] theorem State.setPair_regs (d : BitVec 5) (v : Word) : (s.setPair d v).regs = s.regs := rfl
@[simp] theorem State.setPair_pc (d : BitVec 5) (v : Word) : (s.setPair d v).pc = s.pc := rfl
@[simp] theorem State.setPair_npc (d : BitVec 5) (v : Word) : (s.setPair d v).npc = s.npc := rfl
@[simp] theorem State.setPair_win (d : BitVec 5) (v : Word) : (s.setPair d v).win = s.win := rfl
@[simp] theorem State.setPair_gl (d : BitVec 5) (v : Word) : (s.setPair d v).gl = s.gl := rfl
@[simp] theorem State.setPair_ccr (d : BitVec 5) (v : Word) : (s.setPair d v).ccr = s.ccr := rfl
@[simp] theorem State.setPair_y (d : BitVec 5) (v : Word) : (s.setPair d v).y = s.y := rfl
@[simp] theorem State.setPair_asi (d : BitVec 5) (v : Word) : (s.setPair d v).asi = s.asi := rfl
@[simp] theorem State.setPair_fprs (d : BitVec 5) (v : Word) : (s.setPair d v).fprs = dirty s.fprs (bitAt d 4) := rfl
@[simp] theorem State.setPair_fregs (d : BitVec 5) (v : Word) :
    (s.setPair d v).fregs =
      fileSet (fileSet s.fregs (d ++ 0#1) (v.extractLsb' 32 32)) (d ++ 1#1) (v.extractLsb' 0 32) := rfl
@[simp] theorem State.setPair_fsr (d : BitVec 5) (v : Word) : (s.setPair d v).fsr = s.fsr := rfl
@[simp] theorem State.setPair_gsr (d : BitVec 5) (v : Word) : (s.setPair d v).gsr = s.gsr := rfl
@[simp] theorem State.setPair_pcr (d : BitVec 5) (v : Word) : (s.setPair d v).pcr = s.pcr := rfl
@[simp] theorem State.setPair_pic (d : BitVec 5) (v : Word) : (s.setPair d v).pic = s.pic := rfl
@[simp] theorem State.setPair_pstate (d : BitVec 5) (v : Word) : (s.setPair d v).pstate = s.pstate := rfl
@[simp] theorem State.setPair_hpstate (d : BitVec 5) (v : Word) : (s.setPair d v).hpstate = s.hpstate := rfl
@[simp] theorem State.setPair_tl (d : BitVec 5) (v : Word) : (s.setPair d v).tl = s.tl := rfl
@[simp] theorem State.setPair_pil (d : BitVec 5) (v : Word) : (s.setPair d v).pil = s.pil := rfl
@[simp] theorem State.setPair_tba (d : BitVec 5) (v : Word) : (s.setPair d v).tba = s.tba := rfl
@[simp] theorem State.setPair_htba (d : BitVec 5) (v : Word) : (s.setPair d v).htba = s.htba := rfl
@[simp] theorem State.setPair_traps (d : BitVec 5) (v : Word) : (s.setPair d v).traps = s.traps := rfl
@[simp] theorem State.setPair_tim (d : BitVec 5) (v : Word) : (s.setPair d v).tim = s.tim := rfl
@[simp] theorem State.setPair_scratch (d : BitVec 5) (v : Word) : (s.setPair d v).scratch = s.scratch := rfl
@[simp] theorem State.setPair_lsu (d : BitVec 5) (v : Word) : (s.setPair d v).lsu = s.lsu := rfl
@[simp] theorem State.setPair_watch (d : BitVec 5) (v : Word) : (s.setPair d v).watch = s.watch := rfl
@[simp] theorem State.setPair_mmu (d : BitVec 5) (v : Word) : (s.setPair d v).mmu = s.mmu := rfl
@[simp] theorem State.setPair_itlb (d : BitVec 5) (v : Word) : (s.setPair d v).itlb = s.itlb := rfl
@[simp] theorem State.setPair_dtlb (d : BitVec 5) (v : Word) : (s.setPair d v).dtlb = s.dtlb := rfl
@[simp] theorem State.setPair_err (d : BitVec 5) (v : Word) : (s.setPair d v).err = s.err := rfl
@[simp] theorem State.setPair_dbg (d : BitVec 5) (v : Word) : (s.setPair d v).dbg = s.dbg := rfl
@[simp] theorem State.setPair_intr (d : BitVec 5) (v : Word) : (s.setPair d v).intr = s.intr := rfl
@[simp] theorem State.setPair_cmt (d : BitVec 5) (v : Word) : (s.setPair d v).cmt = s.cmt := rfl
@[simp] theorem State.setPair_run (d : BitVec 5) (v : Word) : (s.setPair d v).run = s.run := rfl
@[simp] theorem State.setPair_chipReset (d : BitVec 5) (v : Word) : (s.setPair d v).chipReset = s.chipReset := rfl
@[simp] theorem State.setPair_xirPending (d : BitVec 5) (v : Word) : (s.setPair d v).xirPending = s.xirPending := rfl
@[simp] theorem State.setPair_debugWait (d : BitVec 5) (v : Word) : (s.setPair d v).debugWait = s.debugWait := rfl
@[simp] theorem State.setPair_trigout (d : BitVec 5) (v : Word) : (s.setPair d v).trigout = s.trigout := rfl
@[simp] theorem State.setPair_checks (d : BitVec 5) (v : Word) : (s.setPair d v).checks = s.checks := rfl
@[simp] theorem State.setPair_csr (d : BitVec 5) (v : Word) : (s.setPair d v).csr = s.csr := rfl
@[simp] theorem State.setPair_rom (d : BitVec 5) (v : Word) : (s.setPair d v).rom = s.rom := rfl
@[simp] theorem State.setPair_mem (d : BitVec 5) (v : Word) : (s.setPair d v).mem = s.mem := rfl
@[simp] theorem State.setPair_undrained (d : BitVec 5) (v : Word) : (s.setPair d v).undrained = s.undrained := rfl
@[simp] theorem State.setPair_storeError (d : BitVec 5) (v : Word) : (s.setPair d v).storeError = s.storeError := rfl
@[simp] theorem State.setPair_notData (d : BitVec 5) (v : Word) : (s.setPair d v).notData = s.notData := rfl
@[simp] theorem State.setPair_l1d (d : BitVec 5) (v : Word) : (s.setPair d v).l1d = s.l1d := rfl
@[simp] theorem State.setPair_l1i (d : BitVec 5) (v : Word) : (s.setPair d v).l1i = s.l1i := rfl
@[simp] theorem State.setPair_intManSet (d : BitVec 5) (v : Word) : (s.setPair d v).intManSet = s.intManSet := rfl
@[simp] theorem State.setPair_unreported (d : BitVec 5) (v : Word) : (s.setPair d v).unreported = s.unreported := rfl
@[simp] theorem State.setPair_realign (d : BitVec 5) (v : Word) : (s.setPair d v).realign = s.realign := rfl
@[simp] theorem State.setPair_linkLine (d : BitVec 5) (v : Word) : (s.setPair d v).linkLine = s.linkLine := rfl
@[simp] theorem State.setPair_events (d : BitVec 5) (v : Word) : (s.setPair d v).events = s.events := rfl
@[simp] theorem State.setPair_oracle (d : BitVec 5) (v : Word) : (s.setPair d v).oracle = s.oracle := rfl
@[simp] theorem State.setPair_taken (d : BitVec 5) (v : Word) : (s.setPair d v).taken = s.taken := rfl

/-! ## advance -/

@[simp] theorem State.advance_regs : s.advance.regs = s.regs := rfl
@[simp] theorem State.advance_pc : s.advance.pc = s.npc := rfl
@[simp] theorem State.advance_npc : s.advance.npc = s.npc + 4 := rfl
@[simp] theorem State.advance_win : s.advance.win = s.win := rfl
@[simp] theorem State.advance_gl : s.advance.gl = s.gl := rfl
@[simp] theorem State.advance_ccr : s.advance.ccr = s.ccr := rfl
@[simp] theorem State.advance_y : s.advance.y = s.y := rfl
@[simp] theorem State.advance_asi : s.advance.asi = s.asi := rfl
@[simp] theorem State.advance_fprs : s.advance.fprs = s.fprs := rfl
@[simp] theorem State.advance_fregs : s.advance.fregs = s.fregs := rfl
@[simp] theorem State.advance_fsr : s.advance.fsr = s.fsr := rfl
@[simp] theorem State.advance_gsr : s.advance.gsr = s.gsr := rfl
@[simp] theorem State.advance_pcr : s.advance.pcr = s.pcr := rfl
@[simp] theorem State.advance_pic : s.advance.pic = s.pic := rfl
@[simp] theorem State.advance_pstate : s.advance.pstate = s.pstate := rfl
@[simp] theorem State.advance_hpstate : s.advance.hpstate = s.hpstate := rfl
@[simp] theorem State.advance_tl : s.advance.tl = s.tl := rfl
@[simp] theorem State.advance_pil : s.advance.pil = s.pil := rfl
@[simp] theorem State.advance_tba : s.advance.tba = s.tba := rfl
@[simp] theorem State.advance_htba : s.advance.htba = s.htba := rfl
@[simp] theorem State.advance_traps : s.advance.traps = s.traps := rfl
@[simp] theorem State.advance_tim : s.advance.tim = s.tim := rfl
@[simp] theorem State.advance_scratch : s.advance.scratch = s.scratch := rfl
@[simp] theorem State.advance_lsu : s.advance.lsu = s.lsu := rfl
@[simp] theorem State.advance_watch : s.advance.watch = s.watch := rfl
@[simp] theorem State.advance_mmu : s.advance.mmu = s.mmu := rfl
@[simp] theorem State.advance_itlb : s.advance.itlb = s.itlb := rfl
@[simp] theorem State.advance_dtlb : s.advance.dtlb = s.dtlb := rfl
@[simp] theorem State.advance_err : s.advance.err = s.err := rfl
@[simp] theorem State.advance_dbg : s.advance.dbg = s.dbg := rfl
@[simp] theorem State.advance_intr : s.advance.intr = s.intr := rfl
@[simp] theorem State.advance_cmt : s.advance.cmt = s.cmt := rfl
@[simp] theorem State.advance_run : s.advance.run = s.run := rfl
@[simp] theorem State.advance_chipReset : s.advance.chipReset = s.chipReset := rfl
@[simp] theorem State.advance_xirPending : s.advance.xirPending = s.xirPending := rfl
@[simp] theorem State.advance_debugWait : s.advance.debugWait = s.debugWait := rfl
@[simp] theorem State.advance_trigout : s.advance.trigout = s.trigout := rfl
@[simp] theorem State.advance_checks : s.advance.checks = s.checks := rfl
@[simp] theorem State.advance_csr : s.advance.csr = s.csr := rfl
@[simp] theorem State.advance_rom : s.advance.rom = s.rom := rfl
@[simp] theorem State.advance_mem : s.advance.mem = s.mem := rfl
@[simp] theorem State.advance_undrained : s.advance.undrained = s.undrained := rfl
@[simp] theorem State.advance_storeError : s.advance.storeError = s.storeError := rfl
@[simp] theorem State.advance_notData : s.advance.notData = s.notData := rfl
@[simp] theorem State.advance_l1d : s.advance.l1d = s.l1d := rfl
@[simp] theorem State.advance_l1i : s.advance.l1i = s.l1i := rfl
@[simp] theorem State.advance_intManSet : s.advance.intManSet = s.intManSet := rfl
@[simp] theorem State.advance_unreported : s.advance.unreported = s.unreported := rfl
@[simp] theorem State.advance_realign : s.advance.realign = s.realign := rfl
@[simp] theorem State.advance_linkLine : s.advance.linkLine = s.linkLine := rfl
@[simp] theorem State.advance_events : s.advance.events = s.events := rfl
@[simp] theorem State.advance_oracle : s.advance.oracle = s.oracle := rfl
@[simp] theorem State.advance_taken : s.advance.taken = s.taken := rfl

/-! ## delayTo -/

@[simp] theorem State.delayTo_regs (a : Word) : (s.delayTo a).regs = s.regs := rfl
@[simp] theorem State.delayTo_pc (a : Word) : (s.delayTo a).pc = s.npc := rfl
@[simp] theorem State.delayTo_npc (a : Word) : (s.delayTo a).npc = a := rfl
@[simp] theorem State.delayTo_win (a : Word) : (s.delayTo a).win = s.win := rfl
@[simp] theorem State.delayTo_gl (a : Word) : (s.delayTo a).gl = s.gl := rfl
@[simp] theorem State.delayTo_ccr (a : Word) : (s.delayTo a).ccr = s.ccr := rfl
@[simp] theorem State.delayTo_y (a : Word) : (s.delayTo a).y = s.y := rfl
@[simp] theorem State.delayTo_asi (a : Word) : (s.delayTo a).asi = s.asi := rfl
@[simp] theorem State.delayTo_fprs (a : Word) : (s.delayTo a).fprs = s.fprs := rfl
@[simp] theorem State.delayTo_fregs (a : Word) : (s.delayTo a).fregs = s.fregs := rfl
@[simp] theorem State.delayTo_fsr (a : Word) : (s.delayTo a).fsr = s.fsr := rfl
@[simp] theorem State.delayTo_gsr (a : Word) : (s.delayTo a).gsr = s.gsr := rfl
@[simp] theorem State.delayTo_pcr (a : Word) : (s.delayTo a).pcr = s.pcr := rfl
@[simp] theorem State.delayTo_pic (a : Word) : (s.delayTo a).pic = s.pic := rfl
@[simp] theorem State.delayTo_pstate (a : Word) : (s.delayTo a).pstate = s.pstate := rfl
@[simp] theorem State.delayTo_hpstate (a : Word) : (s.delayTo a).hpstate = s.hpstate := rfl
@[simp] theorem State.delayTo_tl (a : Word) : (s.delayTo a).tl = s.tl := rfl
@[simp] theorem State.delayTo_pil (a : Word) : (s.delayTo a).pil = s.pil := rfl
@[simp] theorem State.delayTo_tba (a : Word) : (s.delayTo a).tba = s.tba := rfl
@[simp] theorem State.delayTo_htba (a : Word) : (s.delayTo a).htba = s.htba := rfl
@[simp] theorem State.delayTo_traps (a : Word) : (s.delayTo a).traps = s.traps := rfl
@[simp] theorem State.delayTo_tim (a : Word) : (s.delayTo a).tim = s.tim := rfl
@[simp] theorem State.delayTo_scratch (a : Word) : (s.delayTo a).scratch = s.scratch := rfl
@[simp] theorem State.delayTo_lsu (a : Word) : (s.delayTo a).lsu = s.lsu := rfl
@[simp] theorem State.delayTo_watch (a : Word) : (s.delayTo a).watch = s.watch := rfl
@[simp] theorem State.delayTo_mmu (a : Word) : (s.delayTo a).mmu = s.mmu := rfl
@[simp] theorem State.delayTo_itlb (a : Word) : (s.delayTo a).itlb = s.itlb := rfl
@[simp] theorem State.delayTo_dtlb (a : Word) : (s.delayTo a).dtlb = s.dtlb := rfl
@[simp] theorem State.delayTo_err (a : Word) : (s.delayTo a).err = s.err := rfl
@[simp] theorem State.delayTo_dbg (a : Word) : (s.delayTo a).dbg = s.dbg := rfl
@[simp] theorem State.delayTo_intr (a : Word) : (s.delayTo a).intr = s.intr := rfl
@[simp] theorem State.delayTo_cmt (a : Word) : (s.delayTo a).cmt = s.cmt := rfl
@[simp] theorem State.delayTo_run (a : Word) : (s.delayTo a).run = s.run := rfl
@[simp] theorem State.delayTo_chipReset (a : Word) : (s.delayTo a).chipReset = s.chipReset := rfl
@[simp] theorem State.delayTo_xirPending (a : Word) : (s.delayTo a).xirPending = s.xirPending := rfl
@[simp] theorem State.delayTo_debugWait (a : Word) : (s.delayTo a).debugWait = s.debugWait := rfl
@[simp] theorem State.delayTo_trigout (a : Word) : (s.delayTo a).trigout = s.trigout := rfl
@[simp] theorem State.delayTo_checks (a : Word) : (s.delayTo a).checks = s.checks := rfl
@[simp] theorem State.delayTo_csr (a : Word) : (s.delayTo a).csr = s.csr := rfl
@[simp] theorem State.delayTo_rom (a : Word) : (s.delayTo a).rom = s.rom := rfl
@[simp] theorem State.delayTo_mem (a : Word) : (s.delayTo a).mem = s.mem := rfl
@[simp] theorem State.delayTo_undrained (a : Word) : (s.delayTo a).undrained = s.undrained := rfl
@[simp] theorem State.delayTo_storeError (a : Word) : (s.delayTo a).storeError = s.storeError := rfl
@[simp] theorem State.delayTo_notData (a : Word) : (s.delayTo a).notData = s.notData := rfl
@[simp] theorem State.delayTo_l1d (a : Word) : (s.delayTo a).l1d = s.l1d := rfl
@[simp] theorem State.delayTo_l1i (a : Word) : (s.delayTo a).l1i = s.l1i := rfl
@[simp] theorem State.delayTo_intManSet (a : Word) : (s.delayTo a).intManSet = s.intManSet := rfl
@[simp] theorem State.delayTo_unreported (a : Word) : (s.delayTo a).unreported = s.unreported := rfl
@[simp] theorem State.delayTo_realign (a : Word) : (s.delayTo a).realign = s.realign := rfl
@[simp] theorem State.delayTo_linkLine (a : Word) : (s.delayTo a).linkLine = s.linkLine := rfl
@[simp] theorem State.delayTo_events (a : Word) : (s.delayTo a).events = s.events := rfl
@[simp] theorem State.delayTo_oracle (a : Word) : (s.delayTo a).oracle = s.oracle := rfl
@[simp] theorem State.delayTo_taken (a : Word) : (s.delayTo a).taken = s.taken := rfl

/-! ## jumpTo -/

@[simp] theorem State.jumpTo_regs (a : Word) : (s.jumpTo a).regs = s.regs := rfl
@[simp] theorem State.jumpTo_pc (a : Word) : (s.jumpTo a).pc = a := rfl
@[simp] theorem State.jumpTo_npc (a : Word) : (s.jumpTo a).npc = a + 4 := rfl
@[simp] theorem State.jumpTo_win (a : Word) : (s.jumpTo a).win = s.win := rfl
@[simp] theorem State.jumpTo_gl (a : Word) : (s.jumpTo a).gl = s.gl := rfl
@[simp] theorem State.jumpTo_ccr (a : Word) : (s.jumpTo a).ccr = s.ccr := rfl
@[simp] theorem State.jumpTo_y (a : Word) : (s.jumpTo a).y = s.y := rfl
@[simp] theorem State.jumpTo_asi (a : Word) : (s.jumpTo a).asi = s.asi := rfl
@[simp] theorem State.jumpTo_fprs (a : Word) : (s.jumpTo a).fprs = s.fprs := rfl
@[simp] theorem State.jumpTo_fregs (a : Word) : (s.jumpTo a).fregs = s.fregs := rfl
@[simp] theorem State.jumpTo_fsr (a : Word) : (s.jumpTo a).fsr = s.fsr := rfl
@[simp] theorem State.jumpTo_gsr (a : Word) : (s.jumpTo a).gsr = s.gsr := rfl
@[simp] theorem State.jumpTo_pcr (a : Word) : (s.jumpTo a).pcr = s.pcr := rfl
@[simp] theorem State.jumpTo_pic (a : Word) : (s.jumpTo a).pic = s.pic := rfl
@[simp] theorem State.jumpTo_pstate (a : Word) : (s.jumpTo a).pstate = s.pstate := rfl
@[simp] theorem State.jumpTo_hpstate (a : Word) : (s.jumpTo a).hpstate = s.hpstate := rfl
@[simp] theorem State.jumpTo_tl (a : Word) : (s.jumpTo a).tl = s.tl := rfl
@[simp] theorem State.jumpTo_pil (a : Word) : (s.jumpTo a).pil = s.pil := rfl
@[simp] theorem State.jumpTo_tba (a : Word) : (s.jumpTo a).tba = s.tba := rfl
@[simp] theorem State.jumpTo_htba (a : Word) : (s.jumpTo a).htba = s.htba := rfl
@[simp] theorem State.jumpTo_traps (a : Word) : (s.jumpTo a).traps = s.traps := rfl
@[simp] theorem State.jumpTo_tim (a : Word) : (s.jumpTo a).tim = s.tim := rfl
@[simp] theorem State.jumpTo_scratch (a : Word) : (s.jumpTo a).scratch = s.scratch := rfl
@[simp] theorem State.jumpTo_lsu (a : Word) : (s.jumpTo a).lsu = s.lsu := rfl
@[simp] theorem State.jumpTo_watch (a : Word) : (s.jumpTo a).watch = s.watch := rfl
@[simp] theorem State.jumpTo_mmu (a : Word) : (s.jumpTo a).mmu = s.mmu := rfl
@[simp] theorem State.jumpTo_itlb (a : Word) : (s.jumpTo a).itlb = s.itlb := rfl
@[simp] theorem State.jumpTo_dtlb (a : Word) : (s.jumpTo a).dtlb = s.dtlb := rfl
@[simp] theorem State.jumpTo_err (a : Word) : (s.jumpTo a).err = s.err := rfl
@[simp] theorem State.jumpTo_dbg (a : Word) : (s.jumpTo a).dbg = s.dbg := rfl
@[simp] theorem State.jumpTo_intr (a : Word) : (s.jumpTo a).intr = s.intr := rfl
@[simp] theorem State.jumpTo_cmt (a : Word) : (s.jumpTo a).cmt = s.cmt := rfl
@[simp] theorem State.jumpTo_run (a : Word) : (s.jumpTo a).run = s.run := rfl
@[simp] theorem State.jumpTo_chipReset (a : Word) : (s.jumpTo a).chipReset = s.chipReset := rfl
@[simp] theorem State.jumpTo_xirPending (a : Word) : (s.jumpTo a).xirPending = s.xirPending := rfl
@[simp] theorem State.jumpTo_debugWait (a : Word) : (s.jumpTo a).debugWait = s.debugWait := rfl
@[simp] theorem State.jumpTo_trigout (a : Word) : (s.jumpTo a).trigout = s.trigout := rfl
@[simp] theorem State.jumpTo_checks (a : Word) : (s.jumpTo a).checks = s.checks := rfl
@[simp] theorem State.jumpTo_csr (a : Word) : (s.jumpTo a).csr = s.csr := rfl
@[simp] theorem State.jumpTo_rom (a : Word) : (s.jumpTo a).rom = s.rom := rfl
@[simp] theorem State.jumpTo_mem (a : Word) : (s.jumpTo a).mem = s.mem := rfl
@[simp] theorem State.jumpTo_undrained (a : Word) : (s.jumpTo a).undrained = s.undrained := rfl
@[simp] theorem State.jumpTo_storeError (a : Word) : (s.jumpTo a).storeError = s.storeError := rfl
@[simp] theorem State.jumpTo_notData (a : Word) : (s.jumpTo a).notData = s.notData := rfl
@[simp] theorem State.jumpTo_l1d (a : Word) : (s.jumpTo a).l1d = s.l1d := rfl
@[simp] theorem State.jumpTo_l1i (a : Word) : (s.jumpTo a).l1i = s.l1i := rfl
@[simp] theorem State.jumpTo_intManSet (a : Word) : (s.jumpTo a).intManSet = s.intManSet := rfl
@[simp] theorem State.jumpTo_unreported (a : Word) : (s.jumpTo a).unreported = s.unreported := rfl
@[simp] theorem State.jumpTo_realign (a : Word) : (s.jumpTo a).realign = s.realign := rfl
@[simp] theorem State.jumpTo_linkLine (a : Word) : (s.jumpTo a).linkLine = s.linkLine := rfl
@[simp] theorem State.jumpTo_events (a : Word) : (s.jumpTo a).events = s.events := rfl
@[simp] theorem State.jumpTo_oracle (a : Word) : (s.jumpTo a).oracle = s.oracle := rfl
@[simp] theorem State.jumpTo_taken (a : Word) : (s.jumpTo a).taken = s.taken := rfl

/-! ## skip -/

@[simp] theorem State.skip_regs : s.skip.regs = s.regs := rfl
@[simp] theorem State.skip_pc : s.skip.pc = s.npc + 4 := rfl
@[simp] theorem State.skip_npc : s.skip.npc = s.npc + 8 := rfl
@[simp] theorem State.skip_win : s.skip.win = s.win := rfl
@[simp] theorem State.skip_gl : s.skip.gl = s.gl := rfl
@[simp] theorem State.skip_ccr : s.skip.ccr = s.ccr := rfl
@[simp] theorem State.skip_y : s.skip.y = s.y := rfl
@[simp] theorem State.skip_asi : s.skip.asi = s.asi := rfl
@[simp] theorem State.skip_fprs : s.skip.fprs = s.fprs := rfl
@[simp] theorem State.skip_fregs : s.skip.fregs = s.fregs := rfl
@[simp] theorem State.skip_fsr : s.skip.fsr = s.fsr := rfl
@[simp] theorem State.skip_gsr : s.skip.gsr = s.gsr := rfl
@[simp] theorem State.skip_pcr : s.skip.pcr = s.pcr := rfl
@[simp] theorem State.skip_pic : s.skip.pic = s.pic := rfl
@[simp] theorem State.skip_pstate : s.skip.pstate = s.pstate := rfl
@[simp] theorem State.skip_hpstate : s.skip.hpstate = s.hpstate := rfl
@[simp] theorem State.skip_tl : s.skip.tl = s.tl := rfl
@[simp] theorem State.skip_pil : s.skip.pil = s.pil := rfl
@[simp] theorem State.skip_tba : s.skip.tba = s.tba := rfl
@[simp] theorem State.skip_htba : s.skip.htba = s.htba := rfl
@[simp] theorem State.skip_traps : s.skip.traps = s.traps := rfl
@[simp] theorem State.skip_tim : s.skip.tim = s.tim := rfl
@[simp] theorem State.skip_scratch : s.skip.scratch = s.scratch := rfl
@[simp] theorem State.skip_lsu : s.skip.lsu = s.lsu := rfl
@[simp] theorem State.skip_watch : s.skip.watch = s.watch := rfl
@[simp] theorem State.skip_mmu : s.skip.mmu = s.mmu := rfl
@[simp] theorem State.skip_itlb : s.skip.itlb = s.itlb := rfl
@[simp] theorem State.skip_dtlb : s.skip.dtlb = s.dtlb := rfl
@[simp] theorem State.skip_err : s.skip.err = s.err := rfl
@[simp] theorem State.skip_dbg : s.skip.dbg = s.dbg := rfl
@[simp] theorem State.skip_intr : s.skip.intr = s.intr := rfl
@[simp] theorem State.skip_cmt : s.skip.cmt = s.cmt := rfl
@[simp] theorem State.skip_run : s.skip.run = s.run := rfl
@[simp] theorem State.skip_chipReset : s.skip.chipReset = s.chipReset := rfl
@[simp] theorem State.skip_xirPending : s.skip.xirPending = s.xirPending := rfl
@[simp] theorem State.skip_debugWait : s.skip.debugWait = s.debugWait := rfl
@[simp] theorem State.skip_trigout : s.skip.trigout = s.trigout := rfl
@[simp] theorem State.skip_checks : s.skip.checks = s.checks := rfl
@[simp] theorem State.skip_csr : s.skip.csr = s.csr := rfl
@[simp] theorem State.skip_rom : s.skip.rom = s.rom := rfl
@[simp] theorem State.skip_mem : s.skip.mem = s.mem := rfl
@[simp] theorem State.skip_undrained : s.skip.undrained = s.undrained := rfl
@[simp] theorem State.skip_storeError : s.skip.storeError = s.storeError := rfl
@[simp] theorem State.skip_notData : s.skip.notData = s.notData := rfl
@[simp] theorem State.skip_l1d : s.skip.l1d = s.l1d := rfl
@[simp] theorem State.skip_l1i : s.skip.l1i = s.l1i := rfl
@[simp] theorem State.skip_intManSet : s.skip.intManSet = s.intManSet := rfl
@[simp] theorem State.skip_unreported : s.skip.unreported = s.unreported := rfl
@[simp] theorem State.skip_realign : s.skip.realign = s.realign := rfl
@[simp] theorem State.skip_linkLine : s.skip.linkLine = s.linkLine := rfl
@[simp] theorem State.skip_events : s.skip.events = s.events := rfl
@[simp] theorem State.skip_oracle : s.skip.oracle = s.oracle := rfl
@[simp] theorem State.skip_taken : s.skip.taken = s.taken := rfl

/-! ## drawn -/

@[simp] theorem State.drawn_regs : s.drawn.regs = s.regs := rfl
@[simp] theorem State.drawn_pc : s.drawn.pc = s.pc := rfl
@[simp] theorem State.drawn_npc : s.drawn.npc = s.npc := rfl
@[simp] theorem State.drawn_win : s.drawn.win = s.win := rfl
@[simp] theorem State.drawn_gl : s.drawn.gl = s.gl := rfl
@[simp] theorem State.drawn_ccr : s.drawn.ccr = s.ccr := rfl
@[simp] theorem State.drawn_y : s.drawn.y = s.y := rfl
@[simp] theorem State.drawn_asi : s.drawn.asi = s.asi := rfl
@[simp] theorem State.drawn_fprs : s.drawn.fprs = s.fprs := rfl
@[simp] theorem State.drawn_fregs : s.drawn.fregs = s.fregs := rfl
@[simp] theorem State.drawn_fsr : s.drawn.fsr = s.fsr := rfl
@[simp] theorem State.drawn_gsr : s.drawn.gsr = s.gsr := rfl
@[simp] theorem State.drawn_pcr : s.drawn.pcr = s.pcr := rfl
@[simp] theorem State.drawn_pic : s.drawn.pic = s.pic := rfl
@[simp] theorem State.drawn_pstate : s.drawn.pstate = s.pstate := rfl
@[simp] theorem State.drawn_hpstate : s.drawn.hpstate = s.hpstate := rfl
@[simp] theorem State.drawn_tl : s.drawn.tl = s.tl := rfl
@[simp] theorem State.drawn_pil : s.drawn.pil = s.pil := rfl
@[simp] theorem State.drawn_tba : s.drawn.tba = s.tba := rfl
@[simp] theorem State.drawn_htba : s.drawn.htba = s.htba := rfl
@[simp] theorem State.drawn_traps : s.drawn.traps = s.traps := rfl
@[simp] theorem State.drawn_tim : s.drawn.tim = s.tim := rfl
@[simp] theorem State.drawn_scratch : s.drawn.scratch = s.scratch := rfl
@[simp] theorem State.drawn_lsu : s.drawn.lsu = s.lsu := rfl
@[simp] theorem State.drawn_watch : s.drawn.watch = s.watch := rfl
@[simp] theorem State.drawn_mmu : s.drawn.mmu = s.mmu := rfl
@[simp] theorem State.drawn_itlb : s.drawn.itlb = s.itlb := rfl
@[simp] theorem State.drawn_dtlb : s.drawn.dtlb = s.dtlb := rfl
@[simp] theorem State.drawn_err : s.drawn.err = s.err := rfl
@[simp] theorem State.drawn_dbg : s.drawn.dbg = s.dbg := rfl
@[simp] theorem State.drawn_intr : s.drawn.intr = s.intr := rfl
@[simp] theorem State.drawn_cmt : s.drawn.cmt = s.cmt := rfl
@[simp] theorem State.drawn_run : s.drawn.run = s.run := rfl
@[simp] theorem State.drawn_chipReset : s.drawn.chipReset = s.chipReset := rfl
@[simp] theorem State.drawn_xirPending : s.drawn.xirPending = s.xirPending := rfl
@[simp] theorem State.drawn_debugWait : s.drawn.debugWait = s.debugWait := rfl
@[simp] theorem State.drawn_trigout : s.drawn.trigout = s.trigout := rfl
@[simp] theorem State.drawn_checks : s.drawn.checks = s.checks := rfl
@[simp] theorem State.drawn_csr : s.drawn.csr = s.csr := rfl
@[simp] theorem State.drawn_rom : s.drawn.rom = s.rom := rfl
@[simp] theorem State.drawn_mem : s.drawn.mem = s.mem := rfl
@[simp] theorem State.drawn_undrained : s.drawn.undrained = s.undrained := rfl
@[simp] theorem State.drawn_storeError : s.drawn.storeError = s.storeError := rfl
@[simp] theorem State.drawn_notData : s.drawn.notData = s.notData := rfl
@[simp] theorem State.drawn_l1d : s.drawn.l1d = s.l1d := rfl
@[simp] theorem State.drawn_l1i : s.drawn.l1i = s.l1i := rfl
@[simp] theorem State.drawn_intManSet : s.drawn.intManSet = s.intManSet := rfl
@[simp] theorem State.drawn_unreported : s.drawn.unreported = s.unreported := rfl
@[simp] theorem State.drawn_realign : s.drawn.realign = s.realign := rfl
@[simp] theorem State.drawn_linkLine : s.drawn.linkLine = s.linkLine := rfl
@[simp] theorem State.drawn_events : s.drawn.events = s.events := rfl
@[simp] theorem State.drawn_oracle : s.drawn.oracle = s.oracle + 1 := rfl
@[simp] theorem State.drawn_taken : s.drawn.taken = s.taken := rfl

/-! ## setCcr -/

@[simp] theorem State.setCcr_regs (v : BitVec 8) : (s.setCcr v).regs = s.regs := rfl
@[simp] theorem State.setCcr_pc (v : BitVec 8) : (s.setCcr v).pc = s.pc := rfl
@[simp] theorem State.setCcr_npc (v : BitVec 8) : (s.setCcr v).npc = s.npc := rfl
@[simp] theorem State.setCcr_win (v : BitVec 8) : (s.setCcr v).win = s.win := rfl
@[simp] theorem State.setCcr_gl (v : BitVec 8) : (s.setCcr v).gl = s.gl := rfl
@[simp] theorem State.setCcr_ccr (v : BitVec 8) : (s.setCcr v).ccr = v := rfl
@[simp] theorem State.setCcr_y (v : BitVec 8) : (s.setCcr v).y = s.y := rfl
@[simp] theorem State.setCcr_asi (v : BitVec 8) : (s.setCcr v).asi = s.asi := rfl
@[simp] theorem State.setCcr_fprs (v : BitVec 8) : (s.setCcr v).fprs = s.fprs := rfl
@[simp] theorem State.setCcr_fregs (v : BitVec 8) : (s.setCcr v).fregs = s.fregs := rfl
@[simp] theorem State.setCcr_fsr (v : BitVec 8) : (s.setCcr v).fsr = s.fsr := rfl
@[simp] theorem State.setCcr_gsr (v : BitVec 8) : (s.setCcr v).gsr = s.gsr := rfl
@[simp] theorem State.setCcr_pcr (v : BitVec 8) : (s.setCcr v).pcr = s.pcr := rfl
@[simp] theorem State.setCcr_pic (v : BitVec 8) : (s.setCcr v).pic = s.pic := rfl
@[simp] theorem State.setCcr_pstate (v : BitVec 8) : (s.setCcr v).pstate = s.pstate := rfl
@[simp] theorem State.setCcr_hpstate (v : BitVec 8) : (s.setCcr v).hpstate = s.hpstate := rfl
@[simp] theorem State.setCcr_tl (v : BitVec 8) : (s.setCcr v).tl = s.tl := rfl
@[simp] theorem State.setCcr_pil (v : BitVec 8) : (s.setCcr v).pil = s.pil := rfl
@[simp] theorem State.setCcr_tba (v : BitVec 8) : (s.setCcr v).tba = s.tba := rfl
@[simp] theorem State.setCcr_htba (v : BitVec 8) : (s.setCcr v).htba = s.htba := rfl
@[simp] theorem State.setCcr_traps (v : BitVec 8) : (s.setCcr v).traps = s.traps := rfl
@[simp] theorem State.setCcr_tim (v : BitVec 8) : (s.setCcr v).tim = s.tim := rfl
@[simp] theorem State.setCcr_scratch (v : BitVec 8) : (s.setCcr v).scratch = s.scratch := rfl
@[simp] theorem State.setCcr_lsu (v : BitVec 8) : (s.setCcr v).lsu = s.lsu := rfl
@[simp] theorem State.setCcr_watch (v : BitVec 8) : (s.setCcr v).watch = s.watch := rfl
@[simp] theorem State.setCcr_mmu (v : BitVec 8) : (s.setCcr v).mmu = s.mmu := rfl
@[simp] theorem State.setCcr_itlb (v : BitVec 8) : (s.setCcr v).itlb = s.itlb := rfl
@[simp] theorem State.setCcr_dtlb (v : BitVec 8) : (s.setCcr v).dtlb = s.dtlb := rfl
@[simp] theorem State.setCcr_err (v : BitVec 8) : (s.setCcr v).err = s.err := rfl
@[simp] theorem State.setCcr_dbg (v : BitVec 8) : (s.setCcr v).dbg = s.dbg := rfl
@[simp] theorem State.setCcr_intr (v : BitVec 8) : (s.setCcr v).intr = s.intr := rfl
@[simp] theorem State.setCcr_cmt (v : BitVec 8) : (s.setCcr v).cmt = s.cmt := rfl
@[simp] theorem State.setCcr_run (v : BitVec 8) : (s.setCcr v).run = s.run := rfl
@[simp] theorem State.setCcr_chipReset (v : BitVec 8) : (s.setCcr v).chipReset = s.chipReset := rfl
@[simp] theorem State.setCcr_xirPending (v : BitVec 8) : (s.setCcr v).xirPending = s.xirPending := rfl
@[simp] theorem State.setCcr_debugWait (v : BitVec 8) : (s.setCcr v).debugWait = s.debugWait := rfl
@[simp] theorem State.setCcr_trigout (v : BitVec 8) : (s.setCcr v).trigout = s.trigout := rfl
@[simp] theorem State.setCcr_checks (v : BitVec 8) : (s.setCcr v).checks = s.checks := rfl
@[simp] theorem State.setCcr_csr (v : BitVec 8) : (s.setCcr v).csr = s.csr := rfl
@[simp] theorem State.setCcr_rom (v : BitVec 8) : (s.setCcr v).rom = s.rom := rfl
@[simp] theorem State.setCcr_mem (v : BitVec 8) : (s.setCcr v).mem = s.mem := rfl
@[simp] theorem State.setCcr_undrained (v : BitVec 8) : (s.setCcr v).undrained = s.undrained := rfl
@[simp] theorem State.setCcr_storeError (v : BitVec 8) : (s.setCcr v).storeError = s.storeError := rfl
@[simp] theorem State.setCcr_notData (v : BitVec 8) : (s.setCcr v).notData = s.notData := rfl
@[simp] theorem State.setCcr_l1d (v : BitVec 8) : (s.setCcr v).l1d = s.l1d := rfl
@[simp] theorem State.setCcr_l1i (v : BitVec 8) : (s.setCcr v).l1i = s.l1i := rfl
@[simp] theorem State.setCcr_intManSet (v : BitVec 8) : (s.setCcr v).intManSet = s.intManSet := rfl
@[simp] theorem State.setCcr_unreported (v : BitVec 8) : (s.setCcr v).unreported = s.unreported := rfl
@[simp] theorem State.setCcr_realign (v : BitVec 8) : (s.setCcr v).realign = s.realign := rfl
@[simp] theorem State.setCcr_linkLine (v : BitVec 8) : (s.setCcr v).linkLine = s.linkLine := rfl
@[simp] theorem State.setCcr_events (v : BitVec 8) : (s.setCcr v).events = s.events := rfl
@[simp] theorem State.setCcr_oracle (v : BitVec 8) : (s.setCcr v).oracle = s.oracle := rfl
@[simp] theorem State.setCcr_taken (v : BitVec 8) : (s.setCcr v).taken = s.taken := rfl

/-! ## setY -/

@[simp] theorem State.setY_regs (v : BitVec 32) : (s.setY v).regs = s.regs := rfl
@[simp] theorem State.setY_pc (v : BitVec 32) : (s.setY v).pc = s.pc := rfl
@[simp] theorem State.setY_npc (v : BitVec 32) : (s.setY v).npc = s.npc := rfl
@[simp] theorem State.setY_win (v : BitVec 32) : (s.setY v).win = s.win := rfl
@[simp] theorem State.setY_gl (v : BitVec 32) : (s.setY v).gl = s.gl := rfl
@[simp] theorem State.setY_ccr (v : BitVec 32) : (s.setY v).ccr = s.ccr := rfl
@[simp] theorem State.setY_y (v : BitVec 32) : (s.setY v).y = v := rfl
@[simp] theorem State.setY_asi (v : BitVec 32) : (s.setY v).asi = s.asi := rfl
@[simp] theorem State.setY_fprs (v : BitVec 32) : (s.setY v).fprs = s.fprs := rfl
@[simp] theorem State.setY_fregs (v : BitVec 32) : (s.setY v).fregs = s.fregs := rfl
@[simp] theorem State.setY_fsr (v : BitVec 32) : (s.setY v).fsr = s.fsr := rfl
@[simp] theorem State.setY_gsr (v : BitVec 32) : (s.setY v).gsr = s.gsr := rfl
@[simp] theorem State.setY_pcr (v : BitVec 32) : (s.setY v).pcr = s.pcr := rfl
@[simp] theorem State.setY_pic (v : BitVec 32) : (s.setY v).pic = s.pic := rfl
@[simp] theorem State.setY_pstate (v : BitVec 32) : (s.setY v).pstate = s.pstate := rfl
@[simp] theorem State.setY_hpstate (v : BitVec 32) : (s.setY v).hpstate = s.hpstate := rfl
@[simp] theorem State.setY_tl (v : BitVec 32) : (s.setY v).tl = s.tl := rfl
@[simp] theorem State.setY_pil (v : BitVec 32) : (s.setY v).pil = s.pil := rfl
@[simp] theorem State.setY_tba (v : BitVec 32) : (s.setY v).tba = s.tba := rfl
@[simp] theorem State.setY_htba (v : BitVec 32) : (s.setY v).htba = s.htba := rfl
@[simp] theorem State.setY_traps (v : BitVec 32) : (s.setY v).traps = s.traps := rfl
@[simp] theorem State.setY_tim (v : BitVec 32) : (s.setY v).tim = s.tim := rfl
@[simp] theorem State.setY_scratch (v : BitVec 32) : (s.setY v).scratch = s.scratch := rfl
@[simp] theorem State.setY_lsu (v : BitVec 32) : (s.setY v).lsu = s.lsu := rfl
@[simp] theorem State.setY_watch (v : BitVec 32) : (s.setY v).watch = s.watch := rfl
@[simp] theorem State.setY_mmu (v : BitVec 32) : (s.setY v).mmu = s.mmu := rfl
@[simp] theorem State.setY_itlb (v : BitVec 32) : (s.setY v).itlb = s.itlb := rfl
@[simp] theorem State.setY_dtlb (v : BitVec 32) : (s.setY v).dtlb = s.dtlb := rfl
@[simp] theorem State.setY_err (v : BitVec 32) : (s.setY v).err = s.err := rfl
@[simp] theorem State.setY_dbg (v : BitVec 32) : (s.setY v).dbg = s.dbg := rfl
@[simp] theorem State.setY_intr (v : BitVec 32) : (s.setY v).intr = s.intr := rfl
@[simp] theorem State.setY_cmt (v : BitVec 32) : (s.setY v).cmt = s.cmt := rfl
@[simp] theorem State.setY_run (v : BitVec 32) : (s.setY v).run = s.run := rfl
@[simp] theorem State.setY_chipReset (v : BitVec 32) : (s.setY v).chipReset = s.chipReset := rfl
@[simp] theorem State.setY_xirPending (v : BitVec 32) : (s.setY v).xirPending = s.xirPending := rfl
@[simp] theorem State.setY_debugWait (v : BitVec 32) : (s.setY v).debugWait = s.debugWait := rfl
@[simp] theorem State.setY_trigout (v : BitVec 32) : (s.setY v).trigout = s.trigout := rfl
@[simp] theorem State.setY_checks (v : BitVec 32) : (s.setY v).checks = s.checks := rfl
@[simp] theorem State.setY_csr (v : BitVec 32) : (s.setY v).csr = s.csr := rfl
@[simp] theorem State.setY_rom (v : BitVec 32) : (s.setY v).rom = s.rom := rfl
@[simp] theorem State.setY_mem (v : BitVec 32) : (s.setY v).mem = s.mem := rfl
@[simp] theorem State.setY_undrained (v : BitVec 32) : (s.setY v).undrained = s.undrained := rfl
@[simp] theorem State.setY_storeError (v : BitVec 32) : (s.setY v).storeError = s.storeError := rfl
@[simp] theorem State.setY_notData (v : BitVec 32) : (s.setY v).notData = s.notData := rfl
@[simp] theorem State.setY_l1d (v : BitVec 32) : (s.setY v).l1d = s.l1d := rfl
@[simp] theorem State.setY_l1i (v : BitVec 32) : (s.setY v).l1i = s.l1i := rfl
@[simp] theorem State.setY_intManSet (v : BitVec 32) : (s.setY v).intManSet = s.intManSet := rfl
@[simp] theorem State.setY_unreported (v : BitVec 32) : (s.setY v).unreported = s.unreported := rfl
@[simp] theorem State.setY_realign (v : BitVec 32) : (s.setY v).realign = s.realign := rfl
@[simp] theorem State.setY_linkLine (v : BitVec 32) : (s.setY v).linkLine = s.linkLine := rfl
@[simp] theorem State.setY_events (v : BitVec 32) : (s.setY v).events = s.events := rfl
@[simp] theorem State.setY_oracle (v : BitVec 32) : (s.setY v).oracle = s.oracle := rfl
@[simp] theorem State.setY_taken (v : BitVec 32) : (s.setY v).taken = s.taken := rfl

/-! ## setWin -/

@[simp] theorem State.setWin_regs (w : Windows) : (s.setWin w).regs = s.regs := rfl
@[simp] theorem State.setWin_pc (w : Windows) : (s.setWin w).pc = s.pc := rfl
@[simp] theorem State.setWin_npc (w : Windows) : (s.setWin w).npc = s.npc := rfl
@[simp] theorem State.setWin_win (w : Windows) : (s.setWin w).win = w := rfl
@[simp] theorem State.setWin_gl (w : Windows) : (s.setWin w).gl = s.gl := rfl
@[simp] theorem State.setWin_ccr (w : Windows) : (s.setWin w).ccr = s.ccr := rfl
@[simp] theorem State.setWin_y (w : Windows) : (s.setWin w).y = s.y := rfl
@[simp] theorem State.setWin_asi (w : Windows) : (s.setWin w).asi = s.asi := rfl
@[simp] theorem State.setWin_fprs (w : Windows) : (s.setWin w).fprs = s.fprs := rfl
@[simp] theorem State.setWin_fregs (w : Windows) : (s.setWin w).fregs = s.fregs := rfl
@[simp] theorem State.setWin_fsr (w : Windows) : (s.setWin w).fsr = s.fsr := rfl
@[simp] theorem State.setWin_gsr (w : Windows) : (s.setWin w).gsr = s.gsr := rfl
@[simp] theorem State.setWin_pcr (w : Windows) : (s.setWin w).pcr = s.pcr := rfl
@[simp] theorem State.setWin_pic (w : Windows) : (s.setWin w).pic = s.pic := rfl
@[simp] theorem State.setWin_pstate (w : Windows) : (s.setWin w).pstate = s.pstate := rfl
@[simp] theorem State.setWin_hpstate (w : Windows) : (s.setWin w).hpstate = s.hpstate := rfl
@[simp] theorem State.setWin_tl (w : Windows) : (s.setWin w).tl = s.tl := rfl
@[simp] theorem State.setWin_pil (w : Windows) : (s.setWin w).pil = s.pil := rfl
@[simp] theorem State.setWin_tba (w : Windows) : (s.setWin w).tba = s.tba := rfl
@[simp] theorem State.setWin_htba (w : Windows) : (s.setWin w).htba = s.htba := rfl
@[simp] theorem State.setWin_traps (w : Windows) : (s.setWin w).traps = s.traps := rfl
@[simp] theorem State.setWin_tim (w : Windows) : (s.setWin w).tim = s.tim := rfl
@[simp] theorem State.setWin_scratch (w : Windows) : (s.setWin w).scratch = s.scratch := rfl
@[simp] theorem State.setWin_lsu (w : Windows) : (s.setWin w).lsu = s.lsu := rfl
@[simp] theorem State.setWin_watch (w : Windows) : (s.setWin w).watch = s.watch := rfl
@[simp] theorem State.setWin_mmu (w : Windows) : (s.setWin w).mmu = s.mmu := rfl
@[simp] theorem State.setWin_itlb (w : Windows) : (s.setWin w).itlb = s.itlb := rfl
@[simp] theorem State.setWin_dtlb (w : Windows) : (s.setWin w).dtlb = s.dtlb := rfl
@[simp] theorem State.setWin_err (w : Windows) : (s.setWin w).err = s.err := rfl
@[simp] theorem State.setWin_dbg (w : Windows) : (s.setWin w).dbg = s.dbg := rfl
@[simp] theorem State.setWin_intr (w : Windows) : (s.setWin w).intr = s.intr := rfl
@[simp] theorem State.setWin_cmt (w : Windows) : (s.setWin w).cmt = s.cmt := rfl
@[simp] theorem State.setWin_run (w : Windows) : (s.setWin w).run = s.run := rfl
@[simp] theorem State.setWin_chipReset (w : Windows) : (s.setWin w).chipReset = s.chipReset := rfl
@[simp] theorem State.setWin_xirPending (w : Windows) : (s.setWin w).xirPending = s.xirPending := rfl
@[simp] theorem State.setWin_debugWait (w : Windows) : (s.setWin w).debugWait = s.debugWait := rfl
@[simp] theorem State.setWin_trigout (w : Windows) : (s.setWin w).trigout = s.trigout := rfl
@[simp] theorem State.setWin_checks (w : Windows) : (s.setWin w).checks = s.checks := rfl
@[simp] theorem State.setWin_csr (w : Windows) : (s.setWin w).csr = s.csr := rfl
@[simp] theorem State.setWin_rom (w : Windows) : (s.setWin w).rom = s.rom := rfl
@[simp] theorem State.setWin_mem (w : Windows) : (s.setWin w).mem = s.mem := rfl
@[simp] theorem State.setWin_undrained (w : Windows) : (s.setWin w).undrained = s.undrained := rfl
@[simp] theorem State.setWin_storeError (w : Windows) : (s.setWin w).storeError = s.storeError := rfl
@[simp] theorem State.setWin_notData (w : Windows) : (s.setWin w).notData = s.notData := rfl
@[simp] theorem State.setWin_l1d (w : Windows) : (s.setWin w).l1d = s.l1d := rfl
@[simp] theorem State.setWin_l1i (w : Windows) : (s.setWin w).l1i = s.l1i := rfl
@[simp] theorem State.setWin_intManSet (w : Windows) : (s.setWin w).intManSet = s.intManSet := rfl
@[simp] theorem State.setWin_unreported (w : Windows) : (s.setWin w).unreported = s.unreported := rfl
@[simp] theorem State.setWin_realign (w : Windows) : (s.setWin w).realign = s.realign := rfl
@[simp] theorem State.setWin_linkLine (w : Windows) : (s.setWin w).linkLine = s.linkLine := rfl
@[simp] theorem State.setWin_events (w : Windows) : (s.setWin w).events = s.events := rfl
@[simp] theorem State.setWin_oracle (w : Windows) : (s.setWin w).oracle = s.oracle := rfl
@[simp] theorem State.setWin_taken (w : Windows) : (s.setWin w).taken = s.taken := rfl

/-! ## setGsr -/

@[simp] theorem State.setGsr_regs (g : Gsr) : (s.setGsr g).regs = s.regs := rfl
@[simp] theorem State.setGsr_pc (g : Gsr) : (s.setGsr g).pc = s.pc := rfl
@[simp] theorem State.setGsr_npc (g : Gsr) : (s.setGsr g).npc = s.npc := rfl
@[simp] theorem State.setGsr_win (g : Gsr) : (s.setGsr g).win = s.win := rfl
@[simp] theorem State.setGsr_gl (g : Gsr) : (s.setGsr g).gl = s.gl := rfl
@[simp] theorem State.setGsr_ccr (g : Gsr) : (s.setGsr g).ccr = s.ccr := rfl
@[simp] theorem State.setGsr_y (g : Gsr) : (s.setGsr g).y = s.y := rfl
@[simp] theorem State.setGsr_asi (g : Gsr) : (s.setGsr g).asi = s.asi := rfl
@[simp] theorem State.setGsr_fprs (g : Gsr) : (s.setGsr g).fprs = s.fprs := rfl
@[simp] theorem State.setGsr_fregs (g : Gsr) : (s.setGsr g).fregs = s.fregs := rfl
@[simp] theorem State.setGsr_fsr (g : Gsr) : (s.setGsr g).fsr = s.fsr := rfl
@[simp] theorem State.setGsr_gsr (g : Gsr) : (s.setGsr g).gsr = g := rfl
@[simp] theorem State.setGsr_pcr (g : Gsr) : (s.setGsr g).pcr = s.pcr := rfl
@[simp] theorem State.setGsr_pic (g : Gsr) : (s.setGsr g).pic = s.pic := rfl
@[simp] theorem State.setGsr_pstate (g : Gsr) : (s.setGsr g).pstate = s.pstate := rfl
@[simp] theorem State.setGsr_hpstate (g : Gsr) : (s.setGsr g).hpstate = s.hpstate := rfl
@[simp] theorem State.setGsr_tl (g : Gsr) : (s.setGsr g).tl = s.tl := rfl
@[simp] theorem State.setGsr_pil (g : Gsr) : (s.setGsr g).pil = s.pil := rfl
@[simp] theorem State.setGsr_tba (g : Gsr) : (s.setGsr g).tba = s.tba := rfl
@[simp] theorem State.setGsr_htba (g : Gsr) : (s.setGsr g).htba = s.htba := rfl
@[simp] theorem State.setGsr_traps (g : Gsr) : (s.setGsr g).traps = s.traps := rfl
@[simp] theorem State.setGsr_tim (g : Gsr) : (s.setGsr g).tim = s.tim := rfl
@[simp] theorem State.setGsr_scratch (g : Gsr) : (s.setGsr g).scratch = s.scratch := rfl
@[simp] theorem State.setGsr_lsu (g : Gsr) : (s.setGsr g).lsu = s.lsu := rfl
@[simp] theorem State.setGsr_watch (g : Gsr) : (s.setGsr g).watch = s.watch := rfl
@[simp] theorem State.setGsr_mmu (g : Gsr) : (s.setGsr g).mmu = s.mmu := rfl
@[simp] theorem State.setGsr_itlb (g : Gsr) : (s.setGsr g).itlb = s.itlb := rfl
@[simp] theorem State.setGsr_dtlb (g : Gsr) : (s.setGsr g).dtlb = s.dtlb := rfl
@[simp] theorem State.setGsr_err (g : Gsr) : (s.setGsr g).err = s.err := rfl
@[simp] theorem State.setGsr_dbg (g : Gsr) : (s.setGsr g).dbg = s.dbg := rfl
@[simp] theorem State.setGsr_intr (g : Gsr) : (s.setGsr g).intr = s.intr := rfl
@[simp] theorem State.setGsr_cmt (g : Gsr) : (s.setGsr g).cmt = s.cmt := rfl
@[simp] theorem State.setGsr_run (g : Gsr) : (s.setGsr g).run = s.run := rfl
@[simp] theorem State.setGsr_chipReset (g : Gsr) : (s.setGsr g).chipReset = s.chipReset := rfl
@[simp] theorem State.setGsr_xirPending (g : Gsr) : (s.setGsr g).xirPending = s.xirPending := rfl
@[simp] theorem State.setGsr_debugWait (g : Gsr) : (s.setGsr g).debugWait = s.debugWait := rfl
@[simp] theorem State.setGsr_trigout (g : Gsr) : (s.setGsr g).trigout = s.trigout := rfl
@[simp] theorem State.setGsr_checks (g : Gsr) : (s.setGsr g).checks = s.checks := rfl
@[simp] theorem State.setGsr_csr (g : Gsr) : (s.setGsr g).csr = s.csr := rfl
@[simp] theorem State.setGsr_rom (g : Gsr) : (s.setGsr g).rom = s.rom := rfl
@[simp] theorem State.setGsr_mem (g : Gsr) : (s.setGsr g).mem = s.mem := rfl
@[simp] theorem State.setGsr_undrained (g : Gsr) : (s.setGsr g).undrained = s.undrained := rfl
@[simp] theorem State.setGsr_storeError (g : Gsr) : (s.setGsr g).storeError = s.storeError := rfl
@[simp] theorem State.setGsr_notData (g : Gsr) : (s.setGsr g).notData = s.notData := rfl
@[simp] theorem State.setGsr_l1d (g : Gsr) : (s.setGsr g).l1d = s.l1d := rfl
@[simp] theorem State.setGsr_l1i (g : Gsr) : (s.setGsr g).l1i = s.l1i := rfl
@[simp] theorem State.setGsr_intManSet (g : Gsr) : (s.setGsr g).intManSet = s.intManSet := rfl
@[simp] theorem State.setGsr_unreported (g : Gsr) : (s.setGsr g).unreported = s.unreported := rfl
@[simp] theorem State.setGsr_realign (g : Gsr) : (s.setGsr g).realign = s.realign := rfl
@[simp] theorem State.setGsr_linkLine (g : Gsr) : (s.setGsr g).linkLine = s.linkLine := rfl
@[simp] theorem State.setGsr_events (g : Gsr) : (s.setGsr g).events = s.events := rfl
@[simp] theorem State.setGsr_oracle (g : Gsr) : (s.setGsr g).oracle = s.oracle := rfl
@[simp] theorem State.setGsr_taken (g : Gsr) : (s.setGsr g).taken = s.taken := rfl

/-! ## setFsr -/

@[simp] theorem State.setFsr_regs (f : Fsr) : (s.setFsr f).regs = s.regs := rfl
@[simp] theorem State.setFsr_pc (f : Fsr) : (s.setFsr f).pc = s.pc := rfl
@[simp] theorem State.setFsr_npc (f : Fsr) : (s.setFsr f).npc = s.npc := rfl
@[simp] theorem State.setFsr_win (f : Fsr) : (s.setFsr f).win = s.win := rfl
@[simp] theorem State.setFsr_gl (f : Fsr) : (s.setFsr f).gl = s.gl := rfl
@[simp] theorem State.setFsr_ccr (f : Fsr) : (s.setFsr f).ccr = s.ccr := rfl
@[simp] theorem State.setFsr_y (f : Fsr) : (s.setFsr f).y = s.y := rfl
@[simp] theorem State.setFsr_asi (f : Fsr) : (s.setFsr f).asi = s.asi := rfl
@[simp] theorem State.setFsr_fprs (f : Fsr) : (s.setFsr f).fprs = s.fprs := rfl
@[simp] theorem State.setFsr_fregs (f : Fsr) : (s.setFsr f).fregs = s.fregs := rfl
@[simp] theorem State.setFsr_fsr (f : Fsr) : (s.setFsr f).fsr = f := rfl
@[simp] theorem State.setFsr_gsr (f : Fsr) : (s.setFsr f).gsr = s.gsr := rfl
@[simp] theorem State.setFsr_pcr (f : Fsr) : (s.setFsr f).pcr = s.pcr := rfl
@[simp] theorem State.setFsr_pic (f : Fsr) : (s.setFsr f).pic = s.pic := rfl
@[simp] theorem State.setFsr_pstate (f : Fsr) : (s.setFsr f).pstate = s.pstate := rfl
@[simp] theorem State.setFsr_hpstate (f : Fsr) : (s.setFsr f).hpstate = s.hpstate := rfl
@[simp] theorem State.setFsr_tl (f : Fsr) : (s.setFsr f).tl = s.tl := rfl
@[simp] theorem State.setFsr_pil (f : Fsr) : (s.setFsr f).pil = s.pil := rfl
@[simp] theorem State.setFsr_tba (f : Fsr) : (s.setFsr f).tba = s.tba := rfl
@[simp] theorem State.setFsr_htba (f : Fsr) : (s.setFsr f).htba = s.htba := rfl
@[simp] theorem State.setFsr_traps (f : Fsr) : (s.setFsr f).traps = s.traps := rfl
@[simp] theorem State.setFsr_tim (f : Fsr) : (s.setFsr f).tim = s.tim := rfl
@[simp] theorem State.setFsr_scratch (f : Fsr) : (s.setFsr f).scratch = s.scratch := rfl
@[simp] theorem State.setFsr_lsu (f : Fsr) : (s.setFsr f).lsu = s.lsu := rfl
@[simp] theorem State.setFsr_watch (f : Fsr) : (s.setFsr f).watch = s.watch := rfl
@[simp] theorem State.setFsr_mmu (f : Fsr) : (s.setFsr f).mmu = s.mmu := rfl
@[simp] theorem State.setFsr_itlb (f : Fsr) : (s.setFsr f).itlb = s.itlb := rfl
@[simp] theorem State.setFsr_dtlb (f : Fsr) : (s.setFsr f).dtlb = s.dtlb := rfl
@[simp] theorem State.setFsr_err (f : Fsr) : (s.setFsr f).err = s.err := rfl
@[simp] theorem State.setFsr_dbg (f : Fsr) : (s.setFsr f).dbg = s.dbg := rfl
@[simp] theorem State.setFsr_intr (f : Fsr) : (s.setFsr f).intr = s.intr := rfl
@[simp] theorem State.setFsr_cmt (f : Fsr) : (s.setFsr f).cmt = s.cmt := rfl
@[simp] theorem State.setFsr_run (f : Fsr) : (s.setFsr f).run = s.run := rfl
@[simp] theorem State.setFsr_chipReset (f : Fsr) : (s.setFsr f).chipReset = s.chipReset := rfl
@[simp] theorem State.setFsr_xirPending (f : Fsr) : (s.setFsr f).xirPending = s.xirPending := rfl
@[simp] theorem State.setFsr_debugWait (f : Fsr) : (s.setFsr f).debugWait = s.debugWait := rfl
@[simp] theorem State.setFsr_trigout (f : Fsr) : (s.setFsr f).trigout = s.trigout := rfl
@[simp] theorem State.setFsr_checks (f : Fsr) : (s.setFsr f).checks = s.checks := rfl
@[simp] theorem State.setFsr_csr (f : Fsr) : (s.setFsr f).csr = s.csr := rfl
@[simp] theorem State.setFsr_rom (f : Fsr) : (s.setFsr f).rom = s.rom := rfl
@[simp] theorem State.setFsr_mem (f : Fsr) : (s.setFsr f).mem = s.mem := rfl
@[simp] theorem State.setFsr_undrained (f : Fsr) : (s.setFsr f).undrained = s.undrained := rfl
@[simp] theorem State.setFsr_storeError (f : Fsr) : (s.setFsr f).storeError = s.storeError := rfl
@[simp] theorem State.setFsr_notData (f : Fsr) : (s.setFsr f).notData = s.notData := rfl
@[simp] theorem State.setFsr_l1d (f : Fsr) : (s.setFsr f).l1d = s.l1d := rfl
@[simp] theorem State.setFsr_l1i (f : Fsr) : (s.setFsr f).l1i = s.l1i := rfl
@[simp] theorem State.setFsr_intManSet (f : Fsr) : (s.setFsr f).intManSet = s.intManSet := rfl
@[simp] theorem State.setFsr_unreported (f : Fsr) : (s.setFsr f).unreported = s.unreported := rfl
@[simp] theorem State.setFsr_realign (f : Fsr) : (s.setFsr f).realign = s.realign := rfl
@[simp] theorem State.setFsr_linkLine (f : Fsr) : (s.setFsr f).linkLine = s.linkLine := rfl
@[simp] theorem State.setFsr_events (f : Fsr) : (s.setFsr f).events = s.events := rfl
@[simp] theorem State.setFsr_oracle (f : Fsr) : (s.setFsr f).oracle = s.oracle := rfl
@[simp] theorem State.setFsr_taken (f : Fsr) : (s.setFsr f).taken = s.taken := rfl

/-! ## setExceptions -/

@[simp] theorem State.setExceptions_regs (ftt : BitVec 3) (cexc aexc : BitVec 5) :
    (s.setExceptions ftt cexc aexc).regs =
      s.regs := rfl
@[simp] theorem State.setExceptions_pc (ftt : BitVec 3) (cexc aexc : BitVec 5) :
    (s.setExceptions ftt cexc aexc).pc =
      s.pc := rfl
@[simp] theorem State.setExceptions_npc (ftt : BitVec 3) (cexc aexc : BitVec 5) :
    (s.setExceptions ftt cexc aexc).npc =
      s.npc := rfl
@[simp] theorem State.setExceptions_win (ftt : BitVec 3) (cexc aexc : BitVec 5) :
    (s.setExceptions ftt cexc aexc).win =
      s.win := rfl
@[simp] theorem State.setExceptions_gl (ftt : BitVec 3) (cexc aexc : BitVec 5) :
    (s.setExceptions ftt cexc aexc).gl =
      s.gl := rfl
@[simp] theorem State.setExceptions_ccr (ftt : BitVec 3) (cexc aexc : BitVec 5) :
    (s.setExceptions ftt cexc aexc).ccr =
      s.ccr := rfl
@[simp] theorem State.setExceptions_y (ftt : BitVec 3) (cexc aexc : BitVec 5) :
    (s.setExceptions ftt cexc aexc).y =
      s.y := rfl
@[simp] theorem State.setExceptions_asi (ftt : BitVec 3) (cexc aexc : BitVec 5) :
    (s.setExceptions ftt cexc aexc).asi =
      s.asi := rfl
@[simp] theorem State.setExceptions_fprs (ftt : BitVec 3) (cexc aexc : BitVec 5) :
    (s.setExceptions ftt cexc aexc).fprs =
      s.fprs := rfl
@[simp] theorem State.setExceptions_fregs (ftt : BitVec 3) (cexc aexc : BitVec 5) :
    (s.setExceptions ftt cexc aexc).fregs =
      s.fregs := rfl
@[simp] theorem State.setExceptions_fsr (ftt : BitVec 3) (cexc aexc : BitVec 5) :
    (s.setExceptions ftt cexc aexc).fsr =
      { s.fsr with ftt := ftt, cexc := cexc, aexc := aexc } := rfl
@[simp] theorem State.setExceptions_gsr (ftt : BitVec 3) (cexc aexc : BitVec 5) :
    (s.setExceptions ftt cexc aexc).gsr =
      s.gsr := rfl
@[simp] theorem State.setExceptions_pcr (ftt : BitVec 3) (cexc aexc : BitVec 5) :
    (s.setExceptions ftt cexc aexc).pcr =
      s.pcr := rfl
@[simp] theorem State.setExceptions_pic (ftt : BitVec 3) (cexc aexc : BitVec 5) :
    (s.setExceptions ftt cexc aexc).pic =
      s.pic := rfl
@[simp] theorem State.setExceptions_pstate (ftt : BitVec 3) (cexc aexc : BitVec 5) :
    (s.setExceptions ftt cexc aexc).pstate =
      s.pstate := rfl
@[simp] theorem State.setExceptions_hpstate (ftt : BitVec 3) (cexc aexc : BitVec 5) :
    (s.setExceptions ftt cexc aexc).hpstate =
      s.hpstate := rfl
@[simp] theorem State.setExceptions_tl (ftt : BitVec 3) (cexc aexc : BitVec 5) :
    (s.setExceptions ftt cexc aexc).tl =
      s.tl := rfl
@[simp] theorem State.setExceptions_pil (ftt : BitVec 3) (cexc aexc : BitVec 5) :
    (s.setExceptions ftt cexc aexc).pil =
      s.pil := rfl
@[simp] theorem State.setExceptions_tba (ftt : BitVec 3) (cexc aexc : BitVec 5) :
    (s.setExceptions ftt cexc aexc).tba =
      s.tba := rfl
@[simp] theorem State.setExceptions_htba (ftt : BitVec 3) (cexc aexc : BitVec 5) :
    (s.setExceptions ftt cexc aexc).htba =
      s.htba := rfl
@[simp] theorem State.setExceptions_traps (ftt : BitVec 3) (cexc aexc : BitVec 5) :
    (s.setExceptions ftt cexc aexc).traps =
      s.traps := rfl
@[simp] theorem State.setExceptions_tim (ftt : BitVec 3) (cexc aexc : BitVec 5) :
    (s.setExceptions ftt cexc aexc).tim =
      s.tim := rfl
@[simp] theorem State.setExceptions_scratch (ftt : BitVec 3) (cexc aexc : BitVec 5) :
    (s.setExceptions ftt cexc aexc).scratch =
      s.scratch := rfl
@[simp] theorem State.setExceptions_lsu (ftt : BitVec 3) (cexc aexc : BitVec 5) :
    (s.setExceptions ftt cexc aexc).lsu =
      s.lsu := rfl
@[simp] theorem State.setExceptions_watch (ftt : BitVec 3) (cexc aexc : BitVec 5) :
    (s.setExceptions ftt cexc aexc).watch =
      s.watch := rfl
@[simp] theorem State.setExceptions_mmu (ftt : BitVec 3) (cexc aexc : BitVec 5) :
    (s.setExceptions ftt cexc aexc).mmu =
      s.mmu := rfl
@[simp] theorem State.setExceptions_itlb (ftt : BitVec 3) (cexc aexc : BitVec 5) :
    (s.setExceptions ftt cexc aexc).itlb =
      s.itlb := rfl
@[simp] theorem State.setExceptions_dtlb (ftt : BitVec 3) (cexc aexc : BitVec 5) :
    (s.setExceptions ftt cexc aexc).dtlb =
      s.dtlb := rfl
@[simp] theorem State.setExceptions_err (ftt : BitVec 3) (cexc aexc : BitVec 5) :
    (s.setExceptions ftt cexc aexc).err =
      s.err := rfl
@[simp] theorem State.setExceptions_dbg (ftt : BitVec 3) (cexc aexc : BitVec 5) :
    (s.setExceptions ftt cexc aexc).dbg =
      s.dbg := rfl
@[simp] theorem State.setExceptions_intr (ftt : BitVec 3) (cexc aexc : BitVec 5) :
    (s.setExceptions ftt cexc aexc).intr =
      s.intr := rfl
@[simp] theorem State.setExceptions_cmt (ftt : BitVec 3) (cexc aexc : BitVec 5) :
    (s.setExceptions ftt cexc aexc).cmt =
      s.cmt := rfl
@[simp] theorem State.setExceptions_run (ftt : BitVec 3) (cexc aexc : BitVec 5) :
    (s.setExceptions ftt cexc aexc).run =
      s.run := rfl
@[simp] theorem State.setExceptions_chipReset (ftt : BitVec 3) (cexc aexc : BitVec 5) :
    (s.setExceptions ftt cexc aexc).chipReset =
      s.chipReset := rfl
@[simp] theorem State.setExceptions_xirPending (ftt : BitVec 3) (cexc aexc : BitVec 5) :
    (s.setExceptions ftt cexc aexc).xirPending =
      s.xirPending := rfl
@[simp] theorem State.setExceptions_debugWait (ftt : BitVec 3) (cexc aexc : BitVec 5) :
    (s.setExceptions ftt cexc aexc).debugWait =
      s.debugWait := rfl
@[simp] theorem State.setExceptions_trigout (ftt : BitVec 3) (cexc aexc : BitVec 5) :
    (s.setExceptions ftt cexc aexc).trigout =
      s.trigout := rfl
@[simp] theorem State.setExceptions_checks (ftt : BitVec 3) (cexc aexc : BitVec 5) :
    (s.setExceptions ftt cexc aexc).checks =
      s.checks := rfl
@[simp] theorem State.setExceptions_csr (ftt : BitVec 3) (cexc aexc : BitVec 5) :
    (s.setExceptions ftt cexc aexc).csr =
      s.csr := rfl
@[simp] theorem State.setExceptions_rom (ftt : BitVec 3) (cexc aexc : BitVec 5) :
    (s.setExceptions ftt cexc aexc).rom =
      s.rom := rfl
@[simp] theorem State.setExceptions_mem (ftt : BitVec 3) (cexc aexc : BitVec 5) :
    (s.setExceptions ftt cexc aexc).mem =
      s.mem := rfl
@[simp] theorem State.setExceptions_undrained (ftt : BitVec 3) (cexc aexc : BitVec 5) :
    (s.setExceptions ftt cexc aexc).undrained =
      s.undrained := rfl
@[simp] theorem State.setExceptions_storeError (ftt : BitVec 3) (cexc aexc : BitVec 5) :
    (s.setExceptions ftt cexc aexc).storeError =
      s.storeError := rfl
@[simp] theorem State.setExceptions_notData (ftt : BitVec 3) (cexc aexc : BitVec 5) :
    (s.setExceptions ftt cexc aexc).notData =
      s.notData := rfl
@[simp] theorem State.setExceptions_l1d (ftt : BitVec 3) (cexc aexc : BitVec 5) :
    (s.setExceptions ftt cexc aexc).l1d =
      s.l1d := rfl
@[simp] theorem State.setExceptions_l1i (ftt : BitVec 3) (cexc aexc : BitVec 5) :
    (s.setExceptions ftt cexc aexc).l1i =
      s.l1i := rfl
@[simp] theorem State.setExceptions_intManSet (ftt : BitVec 3) (cexc aexc : BitVec 5) :
    (s.setExceptions ftt cexc aexc).intManSet =
      s.intManSet := rfl
@[simp] theorem State.setExceptions_unreported (ftt : BitVec 3) (cexc aexc : BitVec 5) :
    (s.setExceptions ftt cexc aexc).unreported =
      s.unreported := rfl
@[simp] theorem State.setExceptions_realign (ftt : BitVec 3) (cexc aexc : BitVec 5) :
    (s.setExceptions ftt cexc aexc).realign =
      s.realign := rfl
@[simp] theorem State.setExceptions_linkLine (ftt : BitVec 3) (cexc aexc : BitVec 5) :
    (s.setExceptions ftt cexc aexc).linkLine =
      s.linkLine := rfl
@[simp] theorem State.setExceptions_events (ftt : BitVec 3) (cexc aexc : BitVec 5) :
    (s.setExceptions ftt cexc aexc).events =
      s.events := rfl
@[simp] theorem State.setExceptions_oracle (ftt : BitVec 3) (cexc aexc : BitVec 5) :
    (s.setExceptions ftt cexc aexc).oracle =
      s.oracle := rfl
@[simp] theorem State.setExceptions_taken (ftt : BitVec 3) (cexc aexc : BitVec 5) :
    (s.setExceptions ftt cexc aexc).taken =
      s.taken := rfl

/-! ## setDsfar -/

@[simp] theorem State.setDsfar_regs (a : Word) : (s.setDsfar a).regs = s.regs := rfl
@[simp] theorem State.setDsfar_pc (a : Word) : (s.setDsfar a).pc = s.pc := rfl
@[simp] theorem State.setDsfar_npc (a : Word) : (s.setDsfar a).npc = s.npc := rfl
@[simp] theorem State.setDsfar_win (a : Word) : (s.setDsfar a).win = s.win := rfl
@[simp] theorem State.setDsfar_gl (a : Word) : (s.setDsfar a).gl = s.gl := rfl
@[simp] theorem State.setDsfar_ccr (a : Word) : (s.setDsfar a).ccr = s.ccr := rfl
@[simp] theorem State.setDsfar_y (a : Word) : (s.setDsfar a).y = s.y := rfl
@[simp] theorem State.setDsfar_asi (a : Word) : (s.setDsfar a).asi = s.asi := rfl
@[simp] theorem State.setDsfar_fprs (a : Word) : (s.setDsfar a).fprs = s.fprs := rfl
@[simp] theorem State.setDsfar_fregs (a : Word) : (s.setDsfar a).fregs = s.fregs := rfl
@[simp] theorem State.setDsfar_fsr (a : Word) : (s.setDsfar a).fsr = s.fsr := rfl
@[simp] theorem State.setDsfar_gsr (a : Word) : (s.setDsfar a).gsr = s.gsr := rfl
@[simp] theorem State.setDsfar_pcr (a : Word) : (s.setDsfar a).pcr = s.pcr := rfl
@[simp] theorem State.setDsfar_pic (a : Word) : (s.setDsfar a).pic = s.pic := rfl
@[simp] theorem State.setDsfar_pstate (a : Word) : (s.setDsfar a).pstate = s.pstate := rfl
@[simp] theorem State.setDsfar_hpstate (a : Word) : (s.setDsfar a).hpstate = s.hpstate := rfl
@[simp] theorem State.setDsfar_tl (a : Word) : (s.setDsfar a).tl = s.tl := rfl
@[simp] theorem State.setDsfar_pil (a : Word) : (s.setDsfar a).pil = s.pil := rfl
@[simp] theorem State.setDsfar_tba (a : Word) : (s.setDsfar a).tba = s.tba := rfl
@[simp] theorem State.setDsfar_htba (a : Word) : (s.setDsfar a).htba = s.htba := rfl
@[simp] theorem State.setDsfar_traps (a : Word) : (s.setDsfar a).traps = s.traps := rfl
@[simp] theorem State.setDsfar_tim (a : Word) : (s.setDsfar a).tim = s.tim := rfl
@[simp] theorem State.setDsfar_scratch (a : Word) : (s.setDsfar a).scratch = s.scratch := rfl
@[simp] theorem State.setDsfar_lsu (a : Word) : (s.setDsfar a).lsu = s.lsu := rfl
@[simp] theorem State.setDsfar_watch (a : Word) : (s.setDsfar a).watch = s.watch := rfl
@[simp] theorem State.setDsfar_mmu (a : Word) :
    (s.setDsfar a).mmu =
      { s.mmu with dsfar := a.setWidth 48, dsfarError := false } := rfl
@[simp] theorem State.setDsfar_itlb (a : Word) : (s.setDsfar a).itlb = s.itlb := rfl
@[simp] theorem State.setDsfar_dtlb (a : Word) : (s.setDsfar a).dtlb = s.dtlb := rfl
@[simp] theorem State.setDsfar_err (a : Word) : (s.setDsfar a).err = s.err := rfl
@[simp] theorem State.setDsfar_dbg (a : Word) : (s.setDsfar a).dbg = s.dbg := rfl
@[simp] theorem State.setDsfar_intr (a : Word) : (s.setDsfar a).intr = s.intr := rfl
@[simp] theorem State.setDsfar_cmt (a : Word) : (s.setDsfar a).cmt = s.cmt := rfl
@[simp] theorem State.setDsfar_run (a : Word) : (s.setDsfar a).run = s.run := rfl
@[simp] theorem State.setDsfar_chipReset (a : Word) : (s.setDsfar a).chipReset = s.chipReset := rfl
@[simp] theorem State.setDsfar_xirPending (a : Word) : (s.setDsfar a).xirPending = s.xirPending := rfl
@[simp] theorem State.setDsfar_debugWait (a : Word) : (s.setDsfar a).debugWait = s.debugWait := rfl
@[simp] theorem State.setDsfar_trigout (a : Word) : (s.setDsfar a).trigout = s.trigout := rfl
@[simp] theorem State.setDsfar_checks (a : Word) : (s.setDsfar a).checks = s.checks := rfl
@[simp] theorem State.setDsfar_csr (a : Word) : (s.setDsfar a).csr = s.csr := rfl
@[simp] theorem State.setDsfar_rom (a : Word) : (s.setDsfar a).rom = s.rom := rfl
@[simp] theorem State.setDsfar_mem (a : Word) : (s.setDsfar a).mem = s.mem := rfl
@[simp] theorem State.setDsfar_undrained (a : Word) : (s.setDsfar a).undrained = s.undrained := rfl
@[simp] theorem State.setDsfar_storeError (a : Word) : (s.setDsfar a).storeError = s.storeError := rfl
@[simp] theorem State.setDsfar_notData (a : Word) : (s.setDsfar a).notData = s.notData := rfl
@[simp] theorem State.setDsfar_l1d (a : Word) : (s.setDsfar a).l1d = s.l1d := rfl
@[simp] theorem State.setDsfar_l1i (a : Word) : (s.setDsfar a).l1i = s.l1i := rfl
@[simp] theorem State.setDsfar_intManSet (a : Word) : (s.setDsfar a).intManSet = s.intManSet := rfl
@[simp] theorem State.setDsfar_unreported (a : Word) : (s.setDsfar a).unreported = s.unreported := rfl
@[simp] theorem State.setDsfar_realign (a : Word) : (s.setDsfar a).realign = s.realign := rfl
@[simp] theorem State.setDsfar_linkLine (a : Word) : (s.setDsfar a).linkLine = s.linkLine := rfl
@[simp] theorem State.setDsfar_events (a : Word) : (s.setDsfar a).events = s.events := rfl
@[simp] theorem State.setDsfar_oracle (a : Word) : (s.setDsfar a).oracle = s.oracle := rfl
@[simp] theorem State.setDsfar_taken (a : Word) : (s.setDsfar a).taken = s.taken := rfl

/-! ## setFrame -/

@[simp] theorem State.setFrame_regs (t : TrapFrame) : (s.setFrame t).regs = s.regs := rfl
@[simp] theorem State.setFrame_pc (t : TrapFrame) : (s.setFrame t).pc = s.pc := rfl
@[simp] theorem State.setFrame_npc (t : TrapFrame) : (s.setFrame t).npc = s.npc := rfl
@[simp] theorem State.setFrame_win (t : TrapFrame) : (s.setFrame t).win = s.win := rfl
@[simp] theorem State.setFrame_gl (t : TrapFrame) : (s.setFrame t).gl = s.gl := rfl
@[simp] theorem State.setFrame_ccr (t : TrapFrame) : (s.setFrame t).ccr = s.ccr := rfl
@[simp] theorem State.setFrame_y (t : TrapFrame) : (s.setFrame t).y = s.y := rfl
@[simp] theorem State.setFrame_asi (t : TrapFrame) : (s.setFrame t).asi = s.asi := rfl
@[simp] theorem State.setFrame_fprs (t : TrapFrame) : (s.setFrame t).fprs = s.fprs := rfl
@[simp] theorem State.setFrame_fregs (t : TrapFrame) : (s.setFrame t).fregs = s.fregs := rfl
@[simp] theorem State.setFrame_fsr (t : TrapFrame) : (s.setFrame t).fsr = s.fsr := rfl
@[simp] theorem State.setFrame_gsr (t : TrapFrame) : (s.setFrame t).gsr = s.gsr := rfl
@[simp] theorem State.setFrame_pcr (t : TrapFrame) : (s.setFrame t).pcr = s.pcr := rfl
@[simp] theorem State.setFrame_pic (t : TrapFrame) : (s.setFrame t).pic = s.pic := rfl
@[simp] theorem State.setFrame_pstate (t : TrapFrame) : (s.setFrame t).pstate = s.pstate := rfl
@[simp] theorem State.setFrame_hpstate (t : TrapFrame) : (s.setFrame t).hpstate = s.hpstate := rfl
@[simp] theorem State.setFrame_tl (t : TrapFrame) : (s.setFrame t).tl = s.tl := rfl
@[simp] theorem State.setFrame_pil (t : TrapFrame) : (s.setFrame t).pil = s.pil := rfl
@[simp] theorem State.setFrame_tba (t : TrapFrame) : (s.setFrame t).tba = s.tba := rfl
@[simp] theorem State.setFrame_htba (t : TrapFrame) : (s.setFrame t).htba = s.htba := rfl
@[simp] theorem State.setFrame_traps (t : TrapFrame) : (s.setFrame t).traps = fileSet s.traps s.tl t := rfl
@[simp] theorem State.setFrame_tim (t : TrapFrame) : (s.setFrame t).tim = s.tim := rfl
@[simp] theorem State.setFrame_scratch (t : TrapFrame) : (s.setFrame t).scratch = s.scratch := rfl
@[simp] theorem State.setFrame_lsu (t : TrapFrame) : (s.setFrame t).lsu = s.lsu := rfl
@[simp] theorem State.setFrame_watch (t : TrapFrame) : (s.setFrame t).watch = s.watch := rfl
@[simp] theorem State.setFrame_mmu (t : TrapFrame) : (s.setFrame t).mmu = s.mmu := rfl
@[simp] theorem State.setFrame_itlb (t : TrapFrame) : (s.setFrame t).itlb = s.itlb := rfl
@[simp] theorem State.setFrame_dtlb (t : TrapFrame) : (s.setFrame t).dtlb = s.dtlb := rfl
@[simp] theorem State.setFrame_err (t : TrapFrame) : (s.setFrame t).err = s.err := rfl
@[simp] theorem State.setFrame_dbg (t : TrapFrame) : (s.setFrame t).dbg = s.dbg := rfl
@[simp] theorem State.setFrame_intr (t : TrapFrame) : (s.setFrame t).intr = s.intr := rfl
@[simp] theorem State.setFrame_cmt (t : TrapFrame) : (s.setFrame t).cmt = s.cmt := rfl
@[simp] theorem State.setFrame_run (t : TrapFrame) : (s.setFrame t).run = s.run := rfl
@[simp] theorem State.setFrame_chipReset (t : TrapFrame) : (s.setFrame t).chipReset = s.chipReset := rfl
@[simp] theorem State.setFrame_xirPending (t : TrapFrame) : (s.setFrame t).xirPending = s.xirPending := rfl
@[simp] theorem State.setFrame_debugWait (t : TrapFrame) : (s.setFrame t).debugWait = s.debugWait := rfl
@[simp] theorem State.setFrame_trigout (t : TrapFrame) : (s.setFrame t).trigout = s.trigout := rfl
@[simp] theorem State.setFrame_checks (t : TrapFrame) : (s.setFrame t).checks = s.checks := rfl
@[simp] theorem State.setFrame_csr (t : TrapFrame) : (s.setFrame t).csr = s.csr := rfl
@[simp] theorem State.setFrame_rom (t : TrapFrame) : (s.setFrame t).rom = s.rom := rfl
@[simp] theorem State.setFrame_mem (t : TrapFrame) : (s.setFrame t).mem = s.mem := rfl
@[simp] theorem State.setFrame_undrained (t : TrapFrame) : (s.setFrame t).undrained = s.undrained := rfl
@[simp] theorem State.setFrame_storeError (t : TrapFrame) : (s.setFrame t).storeError = s.storeError := rfl
@[simp] theorem State.setFrame_notData (t : TrapFrame) : (s.setFrame t).notData = s.notData := rfl
@[simp] theorem State.setFrame_l1d (t : TrapFrame) : (s.setFrame t).l1d = s.l1d := rfl
@[simp] theorem State.setFrame_l1i (t : TrapFrame) : (s.setFrame t).l1i = s.l1i := rfl
@[simp] theorem State.setFrame_intManSet (t : TrapFrame) : (s.setFrame t).intManSet = s.intManSet := rfl
@[simp] theorem State.setFrame_unreported (t : TrapFrame) : (s.setFrame t).unreported = s.unreported := rfl
@[simp] theorem State.setFrame_realign (t : TrapFrame) : (s.setFrame t).realign = s.realign := rfl
@[simp] theorem State.setFrame_linkLine (t : TrapFrame) : (s.setFrame t).linkLine = s.linkLine := rfl
@[simp] theorem State.setFrame_events (t : TrapFrame) : (s.setFrame t).events = s.events := rfl
@[simp] theorem State.setFrame_oracle (t : TrapFrame) : (s.setFrame t).oracle = s.oracle := rfl
@[simp] theorem State.setFrame_taken (t : TrapFrame) : (s.setFrame t).taken = s.taken := rfl

/-! ## setScratch -/

@[simp] theorem State.setScratch_regs (i : BitVec 3) (v : Word) : (s.setScratch i v).regs = s.regs := rfl
@[simp] theorem State.setScratch_pc (i : BitVec 3) (v : Word) : (s.setScratch i v).pc = s.pc := rfl
@[simp] theorem State.setScratch_npc (i : BitVec 3) (v : Word) : (s.setScratch i v).npc = s.npc := rfl
@[simp] theorem State.setScratch_win (i : BitVec 3) (v : Word) : (s.setScratch i v).win = s.win := rfl
@[simp] theorem State.setScratch_gl (i : BitVec 3) (v : Word) : (s.setScratch i v).gl = s.gl := rfl
@[simp] theorem State.setScratch_ccr (i : BitVec 3) (v : Word) : (s.setScratch i v).ccr = s.ccr := rfl
@[simp] theorem State.setScratch_y (i : BitVec 3) (v : Word) : (s.setScratch i v).y = s.y := rfl
@[simp] theorem State.setScratch_asi (i : BitVec 3) (v : Word) : (s.setScratch i v).asi = s.asi := rfl
@[simp] theorem State.setScratch_fprs (i : BitVec 3) (v : Word) : (s.setScratch i v).fprs = s.fprs := rfl
@[simp] theorem State.setScratch_fregs (i : BitVec 3) (v : Word) : (s.setScratch i v).fregs = s.fregs := rfl
@[simp] theorem State.setScratch_fsr (i : BitVec 3) (v : Word) : (s.setScratch i v).fsr = s.fsr := rfl
@[simp] theorem State.setScratch_gsr (i : BitVec 3) (v : Word) : (s.setScratch i v).gsr = s.gsr := rfl
@[simp] theorem State.setScratch_pcr (i : BitVec 3) (v : Word) : (s.setScratch i v).pcr = s.pcr := rfl
@[simp] theorem State.setScratch_pic (i : BitVec 3) (v : Word) : (s.setScratch i v).pic = s.pic := rfl
@[simp] theorem State.setScratch_pstate (i : BitVec 3) (v : Word) : (s.setScratch i v).pstate = s.pstate := rfl
@[simp] theorem State.setScratch_hpstate (i : BitVec 3) (v : Word) : (s.setScratch i v).hpstate = s.hpstate := rfl
@[simp] theorem State.setScratch_tl (i : BitVec 3) (v : Word) : (s.setScratch i v).tl = s.tl := rfl
@[simp] theorem State.setScratch_pil (i : BitVec 3) (v : Word) : (s.setScratch i v).pil = s.pil := rfl
@[simp] theorem State.setScratch_tba (i : BitVec 3) (v : Word) : (s.setScratch i v).tba = s.tba := rfl
@[simp] theorem State.setScratch_htba (i : BitVec 3) (v : Word) : (s.setScratch i v).htba = s.htba := rfl
@[simp] theorem State.setScratch_traps (i : BitVec 3) (v : Word) : (s.setScratch i v).traps = s.traps := rfl
@[simp] theorem State.setScratch_tim (i : BitVec 3) (v : Word) : (s.setScratch i v).tim = s.tim := rfl
@[simp] theorem State.setScratch_scratch (i : BitVec 3) (v : Word) :
    (s.setScratch i v).scratch =
      fileSet s.scratch i v := rfl
@[simp] theorem State.setScratch_lsu (i : BitVec 3) (v : Word) : (s.setScratch i v).lsu = s.lsu := rfl
@[simp] theorem State.setScratch_watch (i : BitVec 3) (v : Word) : (s.setScratch i v).watch = s.watch := rfl
@[simp] theorem State.setScratch_mmu (i : BitVec 3) (v : Word) : (s.setScratch i v).mmu = s.mmu := rfl
@[simp] theorem State.setScratch_itlb (i : BitVec 3) (v : Word) : (s.setScratch i v).itlb = s.itlb := rfl
@[simp] theorem State.setScratch_dtlb (i : BitVec 3) (v : Word) : (s.setScratch i v).dtlb = s.dtlb := rfl
@[simp] theorem State.setScratch_err (i : BitVec 3) (v : Word) : (s.setScratch i v).err = s.err := rfl
@[simp] theorem State.setScratch_dbg (i : BitVec 3) (v : Word) : (s.setScratch i v).dbg = s.dbg := rfl
@[simp] theorem State.setScratch_intr (i : BitVec 3) (v : Word) : (s.setScratch i v).intr = s.intr := rfl
@[simp] theorem State.setScratch_cmt (i : BitVec 3) (v : Word) : (s.setScratch i v).cmt = s.cmt := rfl
@[simp] theorem State.setScratch_run (i : BitVec 3) (v : Word) : (s.setScratch i v).run = s.run := rfl
@[simp] theorem State.setScratch_chipReset (i : BitVec 3) (v : Word) : (s.setScratch i v).chipReset = s.chipReset := rfl
@[simp] theorem State.setScratch_xirPending (i : BitVec 3) (v : Word) :
    (s.setScratch i v).xirPending =
      s.xirPending := rfl
@[simp] theorem State.setScratch_debugWait (i : BitVec 3) (v : Word) : (s.setScratch i v).debugWait = s.debugWait := rfl
@[simp] theorem State.setScratch_trigout (i : BitVec 3) (v : Word) : (s.setScratch i v).trigout = s.trigout := rfl
@[simp] theorem State.setScratch_checks (i : BitVec 3) (v : Word) : (s.setScratch i v).checks = s.checks := rfl
@[simp] theorem State.setScratch_csr (i : BitVec 3) (v : Word) : (s.setScratch i v).csr = s.csr := rfl
@[simp] theorem State.setScratch_rom (i : BitVec 3) (v : Word) : (s.setScratch i v).rom = s.rom := rfl
@[simp] theorem State.setScratch_mem (i : BitVec 3) (v : Word) : (s.setScratch i v).mem = s.mem := rfl
@[simp] theorem State.setScratch_undrained (i : BitVec 3) (v : Word) : (s.setScratch i v).undrained = s.undrained := rfl
@[simp] theorem State.setScratch_storeError (i : BitVec 3) (v : Word) :
    (s.setScratch i v).storeError =
      s.storeError := rfl
@[simp] theorem State.setScratch_notData (i : BitVec 3) (v : Word) : (s.setScratch i v).notData = s.notData := rfl
@[simp] theorem State.setScratch_l1d (i : BitVec 3) (v : Word) : (s.setScratch i v).l1d = s.l1d := rfl
@[simp] theorem State.setScratch_l1i (i : BitVec 3) (v : Word) : (s.setScratch i v).l1i = s.l1i := rfl
@[simp] theorem State.setScratch_intManSet (i : BitVec 3) (v : Word) : (s.setScratch i v).intManSet = s.intManSet := rfl
@[simp] theorem State.setScratch_unreported (i : BitVec 3) (v : Word) : (s.setScratch i v).unreported = s.unreported := rfl
@[simp] theorem State.setScratch_realign (i : BitVec 3) (v : Word) : (s.setScratch i v).realign = s.realign := rfl
@[simp] theorem State.setScratch_linkLine (i : BitVec 3) (v : Word) : (s.setScratch i v).linkLine = s.linkLine := rfl
@[simp] theorem State.setScratch_events (i : BitVec 3) (v : Word) : (s.setScratch i v).events = s.events := rfl
@[simp] theorem State.setScratch_oracle (i : BitVec 3) (v : Word) : (s.setScratch i v).oracle = s.oracle := rfl
@[simp] theorem State.setScratch_taken (i : BitVec 3) (v : Word) : (s.setScratch i v).taken = s.taken := rfl

/-! ## writeBytes -/

@[simp] theorem State.writeBytes_regs (pa : Nat) (bs : List Byte) : (s.writeBytes pa bs).regs = s.regs := rfl
@[simp] theorem State.writeBytes_pc (pa : Nat) (bs : List Byte) : (s.writeBytes pa bs).pc = s.pc := rfl
@[simp] theorem State.writeBytes_npc (pa : Nat) (bs : List Byte) : (s.writeBytes pa bs).npc = s.npc := rfl
@[simp] theorem State.writeBytes_win (pa : Nat) (bs : List Byte) : (s.writeBytes pa bs).win = s.win := rfl
@[simp] theorem State.writeBytes_gl (pa : Nat) (bs : List Byte) : (s.writeBytes pa bs).gl = s.gl := rfl
@[simp] theorem State.writeBytes_ccr (pa : Nat) (bs : List Byte) : (s.writeBytes pa bs).ccr = s.ccr := rfl
@[simp] theorem State.writeBytes_y (pa : Nat) (bs : List Byte) : (s.writeBytes pa bs).y = s.y := rfl
@[simp] theorem State.writeBytes_asi (pa : Nat) (bs : List Byte) : (s.writeBytes pa bs).asi = s.asi := rfl
@[simp] theorem State.writeBytes_fprs (pa : Nat) (bs : List Byte) : (s.writeBytes pa bs).fprs = s.fprs := rfl
@[simp] theorem State.writeBytes_fregs (pa : Nat) (bs : List Byte) : (s.writeBytes pa bs).fregs = s.fregs := rfl
@[simp] theorem State.writeBytes_fsr (pa : Nat) (bs : List Byte) : (s.writeBytes pa bs).fsr = s.fsr := rfl
@[simp] theorem State.writeBytes_gsr (pa : Nat) (bs : List Byte) : (s.writeBytes pa bs).gsr = s.gsr := rfl
@[simp] theorem State.writeBytes_pcr (pa : Nat) (bs : List Byte) : (s.writeBytes pa bs).pcr = s.pcr := rfl
@[simp] theorem State.writeBytes_pic (pa : Nat) (bs : List Byte) : (s.writeBytes pa bs).pic = s.pic := rfl
@[simp] theorem State.writeBytes_pstate (pa : Nat) (bs : List Byte) : (s.writeBytes pa bs).pstate = s.pstate := rfl
@[simp] theorem State.writeBytes_hpstate (pa : Nat) (bs : List Byte) : (s.writeBytes pa bs).hpstate = s.hpstate := rfl
@[simp] theorem State.writeBytes_tl (pa : Nat) (bs : List Byte) : (s.writeBytes pa bs).tl = s.tl := rfl
@[simp] theorem State.writeBytes_pil (pa : Nat) (bs : List Byte) : (s.writeBytes pa bs).pil = s.pil := rfl
@[simp] theorem State.writeBytes_tba (pa : Nat) (bs : List Byte) : (s.writeBytes pa bs).tba = s.tba := rfl
@[simp] theorem State.writeBytes_htba (pa : Nat) (bs : List Byte) : (s.writeBytes pa bs).htba = s.htba := rfl
@[simp] theorem State.writeBytes_traps (pa : Nat) (bs : List Byte) : (s.writeBytes pa bs).traps = s.traps := rfl
@[simp] theorem State.writeBytes_tim (pa : Nat) (bs : List Byte) : (s.writeBytes pa bs).tim = s.tim := rfl
@[simp] theorem State.writeBytes_scratch (pa : Nat) (bs : List Byte) : (s.writeBytes pa bs).scratch = s.scratch := rfl
@[simp] theorem State.writeBytes_lsu (pa : Nat) (bs : List Byte) : (s.writeBytes pa bs).lsu = s.lsu := rfl
@[simp] theorem State.writeBytes_watch (pa : Nat) (bs : List Byte) : (s.writeBytes pa bs).watch = s.watch := rfl
@[simp] theorem State.writeBytes_mmu (pa : Nat) (bs : List Byte) : (s.writeBytes pa bs).mmu = s.mmu := rfl
@[simp] theorem State.writeBytes_itlb (pa : Nat) (bs : List Byte) : (s.writeBytes pa bs).itlb = s.itlb := rfl
@[simp] theorem State.writeBytes_dtlb (pa : Nat) (bs : List Byte) : (s.writeBytes pa bs).dtlb = s.dtlb := rfl
@[simp] theorem State.writeBytes_err (pa : Nat) (bs : List Byte) : (s.writeBytes pa bs).err = s.err := rfl
@[simp] theorem State.writeBytes_dbg (pa : Nat) (bs : List Byte) : (s.writeBytes pa bs).dbg = s.dbg := rfl
@[simp] theorem State.writeBytes_intr (pa : Nat) (bs : List Byte) : (s.writeBytes pa bs).intr = s.intr := rfl
@[simp] theorem State.writeBytes_cmt (pa : Nat) (bs : List Byte) : (s.writeBytes pa bs).cmt = s.cmt := rfl
@[simp] theorem State.writeBytes_run (pa : Nat) (bs : List Byte) : (s.writeBytes pa bs).run = s.run := rfl
@[simp] theorem State.writeBytes_chipReset (pa : Nat) (bs : List Byte) :
    (s.writeBytes pa bs).chipReset =
      s.chipReset := rfl
@[simp] theorem State.writeBytes_xirPending (pa : Nat) (bs : List Byte) :
    (s.writeBytes pa bs).xirPending =
      s.xirPending := rfl
@[simp] theorem State.writeBytes_debugWait (pa : Nat) (bs : List Byte) :
    (s.writeBytes pa bs).debugWait =
      s.debugWait := rfl
@[simp] theorem State.writeBytes_trigout (pa : Nat) (bs : List Byte) : (s.writeBytes pa bs).trigout = s.trigout := rfl
@[simp] theorem State.writeBytes_checks (pa : Nat) (bs : List Byte) : (s.writeBytes pa bs).checks = s.checks := rfl
@[simp] theorem State.writeBytes_csr (pa : Nat) (bs : List Byte) : (s.writeBytes pa bs).csr = s.csr := rfl
@[simp] theorem State.writeBytes_rom (pa : Nat) (bs : List Byte) : (s.writeBytes pa bs).rom = s.rom := rfl
@[simp] theorem State.writeBytes_mem (pa : Nat) (bs : List Byte) :
    (s.writeBytes pa bs).mem =
      memPutBytes s.mem pa bs := rfl
@[simp] theorem State.writeBytes_undrained (pa : Nat) (bs : List Byte) :
    (s.writeBytes pa bs).undrained =
      s.undrained := rfl
@[simp] theorem State.writeBytes_storeError (pa : Nat) (bs : List Byte) :
    (s.writeBytes pa bs).storeError =
      s.storeError := rfl
@[simp] theorem State.writeBytes_notData (pa : Nat) (bs : List Byte) : (s.writeBytes pa bs).notData = s.notData := rfl
@[simp] theorem State.writeBytes_l1d (pa : Nat) (bs : List Byte) : (s.writeBytes pa bs).l1d = s.l1d := rfl
@[simp] theorem State.writeBytes_l1i (pa : Nat) (bs : List Byte) : (s.writeBytes pa bs).l1i = s.l1i := rfl
@[simp] theorem State.writeBytes_intManSet (pa : Nat) (bs : List Byte) : (s.writeBytes pa bs).intManSet = s.intManSet := rfl
@[simp] theorem State.writeBytes_unreported (pa : Nat) (bs : List Byte) : (s.writeBytes pa bs).unreported = s.unreported := rfl
@[simp] theorem State.writeBytes_realign (pa : Nat) (bs : List Byte) : (s.writeBytes pa bs).realign = s.realign := rfl
@[simp] theorem State.writeBytes_linkLine (pa : Nat) (bs : List Byte) : (s.writeBytes pa bs).linkLine = s.linkLine := rfl
@[simp] theorem State.writeBytes_events (pa : Nat) (bs : List Byte) : (s.writeBytes pa bs).events = s.events := rfl
@[simp] theorem State.writeBytes_oracle (pa : Nat) (bs : List Byte) : (s.writeBytes pa bs).oracle = s.oracle := rfl
@[simp] theorem State.writeBytes_taken (pa : Nat) (bs : List Byte) : (s.writeBytes pa bs).taken = s.taken := rfl

/-! ## bufferCells -/

@[simp] theorem State.bufferCells_regs (kind : StoreKind) (flaw : BitVec 7 × Bool) (base seen : Nat) (cells : List Host.Cell) :
    (s.bufferCells kind flaw base seen cells).regs =
      s.regs := rfl
@[simp] theorem State.bufferCells_pc (kind : StoreKind) (flaw : BitVec 7 × Bool) (base seen : Nat) (cells : List Host.Cell) :
    (s.bufferCells kind flaw base seen cells).pc =
      s.pc := rfl
@[simp] theorem State.bufferCells_npc (kind : StoreKind) (flaw : BitVec 7 × Bool) (base seen : Nat) (cells : List Host.Cell) :
    (s.bufferCells kind flaw base seen cells).npc =
      s.npc := rfl
@[simp] theorem State.bufferCells_win (kind : StoreKind) (flaw : BitVec 7 × Bool) (base seen : Nat) (cells : List Host.Cell) :
    (s.bufferCells kind flaw base seen cells).win =
      s.win := rfl
@[simp] theorem State.bufferCells_gl (kind : StoreKind) (flaw : BitVec 7 × Bool) (base seen : Nat) (cells : List Host.Cell) :
    (s.bufferCells kind flaw base seen cells).gl =
      s.gl := rfl
@[simp] theorem State.bufferCells_ccr (kind : StoreKind) (flaw : BitVec 7 × Bool) (base seen : Nat) (cells : List Host.Cell) :
    (s.bufferCells kind flaw base seen cells).ccr =
      s.ccr := rfl
@[simp] theorem State.bufferCells_y (kind : StoreKind) (flaw : BitVec 7 × Bool) (base seen : Nat) (cells : List Host.Cell) :
    (s.bufferCells kind flaw base seen cells).y =
      s.y := rfl
@[simp] theorem State.bufferCells_asi (kind : StoreKind) (flaw : BitVec 7 × Bool) (base seen : Nat) (cells : List Host.Cell) :
    (s.bufferCells kind flaw base seen cells).asi =
      s.asi := rfl
@[simp] theorem State.bufferCells_fprs (kind : StoreKind) (flaw : BitVec 7 × Bool) (base seen : Nat) (cells : List Host.Cell) :
    (s.bufferCells kind flaw base seen cells).fprs =
      s.fprs := rfl
@[simp] theorem State.bufferCells_fregs (kind : StoreKind) (flaw : BitVec 7 × Bool) (base seen : Nat) (cells : List Host.Cell) :
    (s.bufferCells kind flaw base seen cells).fregs =
      s.fregs := rfl
@[simp] theorem State.bufferCells_fsr (kind : StoreKind) (flaw : BitVec 7 × Bool) (base seen : Nat) (cells : List Host.Cell) :
    (s.bufferCells kind flaw base seen cells).fsr =
      s.fsr := rfl
@[simp] theorem State.bufferCells_gsr (kind : StoreKind) (flaw : BitVec 7 × Bool) (base seen : Nat) (cells : List Host.Cell) :
    (s.bufferCells kind flaw base seen cells).gsr =
      s.gsr := rfl
@[simp] theorem State.bufferCells_pcr (kind : StoreKind) (flaw : BitVec 7 × Bool) (base seen : Nat) (cells : List Host.Cell) :
    (s.bufferCells kind flaw base seen cells).pcr =
      s.pcr := rfl
@[simp] theorem State.bufferCells_pic (kind : StoreKind) (flaw : BitVec 7 × Bool) (base seen : Nat) (cells : List Host.Cell) :
    (s.bufferCells kind flaw base seen cells).pic =
      s.pic := rfl
@[simp] theorem State.bufferCells_pstate (kind : StoreKind) (flaw : BitVec 7 × Bool) (base seen : Nat) (cells : List Host.Cell) :
    (s.bufferCells kind flaw base seen cells).pstate =
      s.pstate := rfl
@[simp] theorem State.bufferCells_hpstate (kind : StoreKind) (flaw : BitVec 7 × Bool) (base seen : Nat) (cells : List Host.Cell) :
    (s.bufferCells kind flaw base seen cells).hpstate =
      s.hpstate := rfl
@[simp] theorem State.bufferCells_tl (kind : StoreKind) (flaw : BitVec 7 × Bool) (base seen : Nat) (cells : List Host.Cell) :
    (s.bufferCells kind flaw base seen cells).tl =
      s.tl := rfl
@[simp] theorem State.bufferCells_pil (kind : StoreKind) (flaw : BitVec 7 × Bool) (base seen : Nat) (cells : List Host.Cell) :
    (s.bufferCells kind flaw base seen cells).pil =
      s.pil := rfl
@[simp] theorem State.bufferCells_tba (kind : StoreKind) (flaw : BitVec 7 × Bool) (base seen : Nat) (cells : List Host.Cell) :
    (s.bufferCells kind flaw base seen cells).tba =
      s.tba := rfl
@[simp] theorem State.bufferCells_htba (kind : StoreKind) (flaw : BitVec 7 × Bool) (base seen : Nat) (cells : List Host.Cell) :
    (s.bufferCells kind flaw base seen cells).htba =
      s.htba := rfl
@[simp] theorem State.bufferCells_traps (kind : StoreKind) (flaw : BitVec 7 × Bool) (base seen : Nat) (cells : List Host.Cell) :
    (s.bufferCells kind flaw base seen cells).traps =
      s.traps := rfl
@[simp] theorem State.bufferCells_tim (kind : StoreKind) (flaw : BitVec 7 × Bool) (base seen : Nat) (cells : List Host.Cell) :
    (s.bufferCells kind flaw base seen cells).tim =
      s.tim := rfl
@[simp] theorem State.bufferCells_scratch (kind : StoreKind) (flaw : BitVec 7 × Bool) (base seen : Nat) (cells : List Host.Cell) :
    (s.bufferCells kind flaw base seen cells).scratch =
      s.scratch := rfl
@[simp] theorem State.bufferCells_lsu (kind : StoreKind) (flaw : BitVec 7 × Bool) (base seen : Nat) (cells : List Host.Cell) :
    (s.bufferCells kind flaw base seen cells).lsu =
      s.lsu := rfl
@[simp] theorem State.bufferCells_watch (kind : StoreKind) (flaw : BitVec 7 × Bool) (base seen : Nat) (cells : List Host.Cell) :
    (s.bufferCells kind flaw base seen cells).watch =
      s.watch := rfl
@[simp] theorem State.bufferCells_mmu (kind : StoreKind) (flaw : BitVec 7 × Bool) (base seen : Nat) (cells : List Host.Cell) :
    (s.bufferCells kind flaw base seen cells).mmu =
      s.mmu := rfl
@[simp] theorem State.bufferCells_itlb (kind : StoreKind) (flaw : BitVec 7 × Bool) (base seen : Nat) (cells : List Host.Cell) :
    (s.bufferCells kind flaw base seen cells).itlb =
      s.itlb := rfl
@[simp] theorem State.bufferCells_dtlb (kind : StoreKind) (flaw : BitVec 7 × Bool) (base seen : Nat) (cells : List Host.Cell) :
    (s.bufferCells kind flaw base seen cells).dtlb =
      s.dtlb := rfl
@[simp] theorem State.bufferCells_err (kind : StoreKind) (flaw : BitVec 7 × Bool) (base seen : Nat) (cells : List Host.Cell) :
    (s.bufferCells kind flaw base seen cells).err =
      s.err := rfl
@[simp] theorem State.bufferCells_dbg (kind : StoreKind) (flaw : BitVec 7 × Bool) (base seen : Nat) (cells : List Host.Cell) :
    (s.bufferCells kind flaw base seen cells).dbg =
      s.dbg := rfl
@[simp] theorem State.bufferCells_intr (kind : StoreKind) (flaw : BitVec 7 × Bool) (base seen : Nat) (cells : List Host.Cell) :
    (s.bufferCells kind flaw base seen cells).intr =
      s.intr := rfl
@[simp] theorem State.bufferCells_cmt (kind : StoreKind) (flaw : BitVec 7 × Bool) (base seen : Nat) (cells : List Host.Cell) :
    (s.bufferCells kind flaw base seen cells).cmt =
      s.cmt := rfl
@[simp] theorem State.bufferCells_run (kind : StoreKind) (flaw : BitVec 7 × Bool) (base seen : Nat) (cells : List Host.Cell) :
    (s.bufferCells kind flaw base seen cells).run =
      s.run := rfl
@[simp] theorem State.bufferCells_chipReset (kind : StoreKind) (flaw : BitVec 7 × Bool) (base seen : Nat) (cells : List Host.Cell) :
    (s.bufferCells kind flaw base seen cells).chipReset =
      s.chipReset := rfl
@[simp] theorem State.bufferCells_xirPending (kind : StoreKind) (flaw : BitVec 7 × Bool) (base seen : Nat) (cells : List Host.Cell) :
    (s.bufferCells kind flaw base seen cells).xirPending =
      s.xirPending := rfl
@[simp] theorem State.bufferCells_debugWait (kind : StoreKind) (flaw : BitVec 7 × Bool) (base seen : Nat) (cells : List Host.Cell) :
    (s.bufferCells kind flaw base seen cells).debugWait =
      s.debugWait := rfl
@[simp] theorem State.bufferCells_trigout (kind : StoreKind) (flaw : BitVec 7 × Bool) (base seen : Nat) (cells : List Host.Cell) :
    (s.bufferCells kind flaw base seen cells).trigout =
      s.trigout := rfl
@[simp] theorem State.bufferCells_checks (kind : StoreKind) (flaw : BitVec 7 × Bool) (base seen : Nat) (cells : List Host.Cell) :
    (s.bufferCells kind flaw base seen cells).checks =
      s.checks := rfl
@[simp] theorem State.bufferCells_csr (kind : StoreKind) (flaw : BitVec 7 × Bool) (base seen : Nat) (cells : List Host.Cell) :
    (s.bufferCells kind flaw base seen cells).csr =
      s.csr := rfl
@[simp] theorem State.bufferCells_rom (kind : StoreKind) (flaw : BitVec 7 × Bool) (base seen : Nat) (cells : List Host.Cell) :
    (s.bufferCells kind flaw base seen cells).rom =
      s.rom := rfl
@[simp] theorem State.bufferCells_mem (kind : StoreKind) (flaw : BitVec 7 × Bool) (base seen : Nat) (cells : List Host.Cell) :
    (s.bufferCells kind flaw base seen cells).mem =
      memPutCells s.mem cells := rfl
@[simp] theorem State.bufferCells_undrained (kind : StoreKind) (flaw : BitVec 7 × Bool) (base seen : Nat) (cells : List Host.Cell) :
    (s.bufferCells kind flaw base seen cells).undrained =
      s.noted kind flaw base seen (cells.map (fun c => c.1)) :: s.undrained := rfl
@[simp] theorem State.bufferCells_storeError (kind : StoreKind) (flaw : BitVec 7 × Bool) (base seen : Nat) (cells : List Host.Cell) :
    (s.bufferCells kind flaw base seen cells).storeError =
      s.storeError := rfl
@[simp] theorem State.bufferCells_notData (kind : StoreKind) (flaw : BitVec 7 × Bool) (base seen : Nat) (cells : List Host.Cell) :
    (s.bufferCells kind flaw base seen cells).notData =
      s.notData := rfl
@[simp] theorem State.bufferCells_l1d (kind : StoreKind) (flaw : BitVec 7 × Bool) (base seen : Nat) (cells : List Host.Cell) :
    (s.bufferCells kind flaw base seen cells).l1d =
      s.l1d := rfl
@[simp] theorem State.bufferCells_l1i (kind : StoreKind) (flaw : BitVec 7 × Bool) (base seen : Nat) (cells : List Host.Cell) :
    (s.bufferCells kind flaw base seen cells).l1i =
      s.l1i := rfl
@[simp] theorem State.bufferCells_intManSet (kind : StoreKind) (flaw : BitVec 7 × Bool) (base seen : Nat) (cells : List Host.Cell) :
    (s.bufferCells kind flaw base seen cells).intManSet =
      s.intManSet := rfl
@[simp] theorem State.bufferCells_unreported (kind : StoreKind) (flaw : BitVec 7 × Bool) (base seen : Nat) (cells : List Host.Cell) :
    (s.bufferCells kind flaw base seen cells).unreported =
      s.unreported := rfl
@[simp] theorem State.bufferCells_realign (kind : StoreKind) (flaw : BitVec 7 × Bool) (base seen : Nat) (cells : List Host.Cell) :
    (s.bufferCells kind flaw base seen cells).realign =
      s.realign := rfl
@[simp] theorem State.bufferCells_linkLine (kind : StoreKind) (flaw : BitVec 7 × Bool) (base seen : Nat) (cells : List Host.Cell) :
    (s.bufferCells kind flaw base seen cells).linkLine =
      s.linkLine := rfl
@[simp] theorem State.bufferCells_events (kind : StoreKind) (flaw : BitVec 7 × Bool) (base seen : Nat) (cells : List Host.Cell) :
    (s.bufferCells kind flaw base seen cells).events =
      s.events := rfl
@[simp] theorem State.bufferCells_oracle (kind : StoreKind) (flaw : BitVec 7 × Bool) (base seen : Nat) (cells : List Host.Cell) :
    (s.bufferCells kind flaw base seen cells).oracle =
      s.oracle + 1 := rfl
@[simp] theorem State.bufferCells_taken (kind : StoreKind) (flaw : BitVec 7 × Bool) (base seen : Nat) (cells : List Host.Cell) :
    (s.bufferCells kind flaw base seen cells).taken =
      s.taken := rfl

/-! ## csrSet -/

@[simp] theorem State.csrSet_regs (pa : Nat) (v : Word) : (s.csrSet pa v).regs = s.regs := rfl
@[simp] theorem State.csrSet_pc (pa : Nat) (v : Word) : (s.csrSet pa v).pc = s.pc := rfl
@[simp] theorem State.csrSet_npc (pa : Nat) (v : Word) : (s.csrSet pa v).npc = s.npc := rfl
@[simp] theorem State.csrSet_win (pa : Nat) (v : Word) : (s.csrSet pa v).win = s.win := rfl
@[simp] theorem State.csrSet_gl (pa : Nat) (v : Word) : (s.csrSet pa v).gl = s.gl := rfl
@[simp] theorem State.csrSet_ccr (pa : Nat) (v : Word) : (s.csrSet pa v).ccr = s.ccr := rfl
@[simp] theorem State.csrSet_y (pa : Nat) (v : Word) : (s.csrSet pa v).y = s.y := rfl
@[simp] theorem State.csrSet_asi (pa : Nat) (v : Word) : (s.csrSet pa v).asi = s.asi := rfl
@[simp] theorem State.csrSet_fprs (pa : Nat) (v : Word) : (s.csrSet pa v).fprs = s.fprs := rfl
@[simp] theorem State.csrSet_fregs (pa : Nat) (v : Word) : (s.csrSet pa v).fregs = s.fregs := rfl
@[simp] theorem State.csrSet_fsr (pa : Nat) (v : Word) : (s.csrSet pa v).fsr = s.fsr := rfl
@[simp] theorem State.csrSet_gsr (pa : Nat) (v : Word) : (s.csrSet pa v).gsr = s.gsr := rfl
@[simp] theorem State.csrSet_pcr (pa : Nat) (v : Word) : (s.csrSet pa v).pcr = s.pcr := rfl
@[simp] theorem State.csrSet_pic (pa : Nat) (v : Word) : (s.csrSet pa v).pic = s.pic := rfl
@[simp] theorem State.csrSet_pstate (pa : Nat) (v : Word) : (s.csrSet pa v).pstate = s.pstate := rfl
@[simp] theorem State.csrSet_hpstate (pa : Nat) (v : Word) : (s.csrSet pa v).hpstate = s.hpstate := rfl
@[simp] theorem State.csrSet_tl (pa : Nat) (v : Word) : (s.csrSet pa v).tl = s.tl := rfl
@[simp] theorem State.csrSet_pil (pa : Nat) (v : Word) : (s.csrSet pa v).pil = s.pil := rfl
@[simp] theorem State.csrSet_tba (pa : Nat) (v : Word) : (s.csrSet pa v).tba = s.tba := rfl
@[simp] theorem State.csrSet_htba (pa : Nat) (v : Word) : (s.csrSet pa v).htba = s.htba := rfl
@[simp] theorem State.csrSet_traps (pa : Nat) (v : Word) : (s.csrSet pa v).traps = s.traps := rfl
@[simp] theorem State.csrSet_tim (pa : Nat) (v : Word) : (s.csrSet pa v).tim = s.tim := rfl
@[simp] theorem State.csrSet_scratch (pa : Nat) (v : Word) : (s.csrSet pa v).scratch = s.scratch := rfl
@[simp] theorem State.csrSet_lsu (pa : Nat) (v : Word) : (s.csrSet pa v).lsu = s.lsu := rfl
@[simp] theorem State.csrSet_watch (pa : Nat) (v : Word) : (s.csrSet pa v).watch = s.watch := rfl
@[simp] theorem State.csrSet_mmu (pa : Nat) (v : Word) : (s.csrSet pa v).mmu = s.mmu := rfl
@[simp] theorem State.csrSet_itlb (pa : Nat) (v : Word) : (s.csrSet pa v).itlb = s.itlb := rfl
@[simp] theorem State.csrSet_dtlb (pa : Nat) (v : Word) : (s.csrSet pa v).dtlb = s.dtlb := rfl
@[simp] theorem State.csrSet_err (pa : Nat) (v : Word) : (s.csrSet pa v).err = s.err := rfl
@[simp] theorem State.csrSet_dbg (pa : Nat) (v : Word) : (s.csrSet pa v).dbg = s.dbg := rfl
@[simp] theorem State.csrSet_intr (pa : Nat) (v : Word) : (s.csrSet pa v).intr = s.intr := rfl
@[simp] theorem State.csrSet_cmt (pa : Nat) (v : Word) : (s.csrSet pa v).cmt = s.cmt := rfl
@[simp] theorem State.csrSet_run (pa : Nat) (v : Word) : (s.csrSet pa v).run = s.run := rfl
@[simp] theorem State.csrSet_chipReset (pa : Nat) (v : Word) : (s.csrSet pa v).chipReset = s.chipReset := rfl
@[simp] theorem State.csrSet_xirPending (pa : Nat) (v : Word) : (s.csrSet pa v).xirPending = s.xirPending := rfl
@[simp] theorem State.csrSet_debugWait (pa : Nat) (v : Word) : (s.csrSet pa v).debugWait = s.debugWait := rfl
@[simp] theorem State.csrSet_trigout (pa : Nat) (v : Word) : (s.csrSet pa v).trigout = s.trigout := rfl
@[simp] theorem State.csrSet_checks (pa : Nat) (v : Word) : (s.csrSet pa v).checks = s.checks := rfl
@[simp] theorem State.csrSet_csr (pa : Nat) (v : Word) : (s.csrSet pa v).csr = sparsePut (csrReset pa) s.csr pa v := rfl
@[simp] theorem State.csrSet_rom (pa : Nat) (v : Word) : (s.csrSet pa v).rom = s.rom := rfl
@[simp] theorem State.csrSet_mem (pa : Nat) (v : Word) : (s.csrSet pa v).mem = s.mem := rfl
@[simp] theorem State.csrSet_undrained (pa : Nat) (v : Word) : (s.csrSet pa v).undrained = s.undrained := rfl
@[simp] theorem State.csrSet_storeError (pa : Nat) (v : Word) : (s.csrSet pa v).storeError = s.storeError := rfl
@[simp] theorem State.csrSet_notData (pa : Nat) (v : Word) : (s.csrSet pa v).notData = s.notData := rfl
@[simp] theorem State.csrSet_l1d (pa : Nat) (v : Word) : (s.csrSet pa v).l1d = s.l1d := rfl
@[simp] theorem State.csrSet_l1i (pa : Nat) (v : Word) : (s.csrSet pa v).l1i = s.l1i := rfl
@[simp] theorem State.csrSet_intManSet (pa : Nat) (v : Word) : (s.csrSet pa v).intManSet = s.intManSet := rfl
@[simp] theorem State.csrSet_unreported (pa : Nat) (v : Word) : (s.csrSet pa v).unreported = s.unreported := rfl
@[simp] theorem State.csrSet_realign (pa : Nat) (v : Word) : (s.csrSet pa v).realign = s.realign := rfl
@[simp] theorem State.csrSet_linkLine (pa : Nat) (v : Word) : (s.csrSet pa v).linkLine = s.linkLine := rfl
@[simp] theorem State.csrSet_events (pa : Nat) (v : Word) : (s.csrSet pa v).events = s.events := rfl
@[simp] theorem State.csrSet_oracle (pa : Nat) (v : Word) : (s.csrSet pa v).oracle = s.oracle := rfl
@[simp] theorem State.csrSet_taken (pa : Nat) (v : Word) : (s.csrSet pa v).taken = s.taken := rfl

/-! ## What is read through the fields -/

@[simp] theorem State.setReg_level (rd : Reg) (v : Word) : (s.setReg rd v).level = s.level := rfl
@[simp] theorem State.setReg_fpEnabled (rd : Reg) (v : Word) : (s.setReg rd v).fpEnabled = s.fpEnabled := rfl
@[simp] theorem State.setReg_f64 (rd : Reg) (v : Word) (r : Reg) : (s.setReg rd v).f64 r = s.f64 r := rfl
@[simp] theorem State.setReg_f32 (rd : Reg) (v : Word) (r : Reg) : (s.setReg rd v).f32 r = s.f32 r := rfl
@[simp] theorem State.setReg_icc (rd : Reg) (v : Word) (c : ICC) : (s.setReg rd v).icc c = s.icc c := rfl
@[simp] theorem State.setReg_fcc (rd : Reg) (v : Word) (n : BitVec 2) : (s.setReg rd v).fcc n = s.fcc n := rfl
@[simp] theorem State.setReg_slot (rd : Reg) (v : Word) (r : Reg) : (s.setReg rd v).slot r = s.slot r := rfl
@[simp] theorem State.setReg_frame (rd : Reg) (v : Word) : (s.setReg rd v).frame = s.frame := rfl
@[simp] theorem State.setReg_readByte (rd : Reg) (v : Word) (p : Nat) : (s.setReg rd v).readByte p = s.readByte p := rfl
@[simp] theorem State.setReg_csrGet (rd : Reg) (v : Word) (p : Nat) : (s.setReg rd v).csrGet p = s.csrGet p := rfl

@[simp] theorem State.setF32_level (rd : Reg) (v : Word32) : (s.setF32 rd v).level = s.level := rfl
@[simp] theorem State.setF32_reg (rd : Reg) (v : Word32) (r : Reg) : (s.setF32 rd v).reg r = s.reg r := rfl
@[simp] theorem State.setF32_icc (rd : Reg) (v : Word32) (c : ICC) : (s.setF32 rd v).icc c = s.icc c := rfl
@[simp] theorem State.setF32_fcc (rd : Reg) (v : Word32) (n : BitVec 2) : (s.setF32 rd v).fcc n = s.fcc n := rfl
@[simp] theorem State.setF32_slot (rd : Reg) (v : Word32) (r : Reg) : (s.setF32 rd v).slot r = s.slot r := rfl
@[simp] theorem State.setF32_frame (rd : Reg) (v : Word32) : (s.setF32 rd v).frame = s.frame := rfl
@[simp] theorem State.setF32_readByte (rd : Reg) (v : Word32) (p : Nat)
    : (s.setF32 rd v).readByte p = s.readByte p := rfl
@[simp] theorem State.setF32_csrGet (rd : Reg) (v : Word32) (p : Nat) : (s.setF32 rd v).csrGet p = s.csrGet p := rfl

@[simp] theorem State.setPair_level (d : BitVec 5) (v : Word) : (s.setPair d v).level = s.level := rfl
@[simp] theorem State.setPair_reg (d : BitVec 5) (v : Word) (r : Reg) : (s.setPair d v).reg r = s.reg r := rfl
@[simp] theorem State.setPair_icc (d : BitVec 5) (v : Word) (c : ICC) : (s.setPair d v).icc c = s.icc c := rfl
@[simp] theorem State.setPair_fcc (d : BitVec 5) (v : Word) (n : BitVec 2) : (s.setPair d v).fcc n = s.fcc n := rfl
@[simp] theorem State.setPair_slot (d : BitVec 5) (v : Word) (r : Reg) : (s.setPair d v).slot r = s.slot r := rfl
@[simp] theorem State.setPair_frame (d : BitVec 5) (v : Word) : (s.setPair d v).frame = s.frame := rfl
@[simp] theorem State.setPair_readByte (d : BitVec 5) (v : Word) (p : Nat)
    : (s.setPair d v).readByte p = s.readByte p := rfl
@[simp] theorem State.setPair_csrGet (d : BitVec 5) (v : Word) (p : Nat) : (s.setPair d v).csrGet p = s.csrGet p := rfl

@[simp] theorem State.advance_level : s.advance.level = s.level := rfl
@[simp] theorem State.advance_fpEnabled : s.advance.fpEnabled = s.fpEnabled := rfl
@[simp] theorem State.advance_reg (r : Reg) : s.advance.reg r = s.reg r := rfl
@[simp] theorem State.advance_f64 (r : Reg) : s.advance.f64 r = s.f64 r := rfl
@[simp] theorem State.advance_f32 (r : Reg) : s.advance.f32 r = s.f32 r := rfl
@[simp] theorem State.advance_icc (c : ICC) : s.advance.icc c = s.icc c := rfl
@[simp] theorem State.advance_fcc (n : BitVec 2) : s.advance.fcc n = s.fcc n := rfl
@[simp] theorem State.advance_slot (r : Reg) : s.advance.slot r = s.slot r := rfl
@[simp] theorem State.advance_frame : s.advance.frame = s.frame := rfl
@[simp] theorem State.advance_readByte (p : Nat) : s.advance.readByte p = s.readByte p := rfl
@[simp] theorem State.advance_csrGet (p : Nat) : s.advance.csrGet p = s.csrGet p := rfl

@[simp] theorem State.delayTo_level (a : Word) : (s.delayTo a).level = s.level := rfl
@[simp] theorem State.delayTo_fpEnabled (a : Word) : (s.delayTo a).fpEnabled = s.fpEnabled := rfl
@[simp] theorem State.delayTo_reg (a : Word) (r : Reg) : (s.delayTo a).reg r = s.reg r := rfl
@[simp] theorem State.delayTo_f64 (a : Word) (r : Reg) : (s.delayTo a).f64 r = s.f64 r := rfl
@[simp] theorem State.delayTo_f32 (a : Word) (r : Reg) : (s.delayTo a).f32 r = s.f32 r := rfl
@[simp] theorem State.delayTo_icc (a : Word) (c : ICC) : (s.delayTo a).icc c = s.icc c := rfl
@[simp] theorem State.delayTo_fcc (a : Word) (n : BitVec 2) : (s.delayTo a).fcc n = s.fcc n := rfl
@[simp] theorem State.delayTo_slot (a : Word) (r : Reg) : (s.delayTo a).slot r = s.slot r := rfl
@[simp] theorem State.delayTo_frame (a : Word) : (s.delayTo a).frame = s.frame := rfl
@[simp] theorem State.delayTo_readByte (a : Word) (p : Nat) : (s.delayTo a).readByte p = s.readByte p := rfl
@[simp] theorem State.delayTo_csrGet (a : Word) (p : Nat) : (s.delayTo a).csrGet p = s.csrGet p := rfl

@[simp] theorem State.jumpTo_level (a : Word) : (s.jumpTo a).level = s.level := rfl
@[simp] theorem State.jumpTo_fpEnabled (a : Word) : (s.jumpTo a).fpEnabled = s.fpEnabled := rfl
@[simp] theorem State.jumpTo_reg (a : Word) (r : Reg) : (s.jumpTo a).reg r = s.reg r := rfl
@[simp] theorem State.jumpTo_f64 (a : Word) (r : Reg) : (s.jumpTo a).f64 r = s.f64 r := rfl
@[simp] theorem State.jumpTo_f32 (a : Word) (r : Reg) : (s.jumpTo a).f32 r = s.f32 r := rfl
@[simp] theorem State.jumpTo_icc (a : Word) (c : ICC) : (s.jumpTo a).icc c = s.icc c := rfl
@[simp] theorem State.jumpTo_fcc (a : Word) (n : BitVec 2) : (s.jumpTo a).fcc n = s.fcc n := rfl
@[simp] theorem State.jumpTo_slot (a : Word) (r : Reg) : (s.jumpTo a).slot r = s.slot r := rfl
@[simp] theorem State.jumpTo_frame (a : Word) : (s.jumpTo a).frame = s.frame := rfl
@[simp] theorem State.jumpTo_readByte (a : Word) (p : Nat) : (s.jumpTo a).readByte p = s.readByte p := rfl
@[simp] theorem State.jumpTo_csrGet (a : Word) (p : Nat) : (s.jumpTo a).csrGet p = s.csrGet p := rfl

@[simp] theorem State.skip_level : s.skip.level = s.level := rfl
@[simp] theorem State.skip_fpEnabled : s.skip.fpEnabled = s.fpEnabled := rfl
@[simp] theorem State.skip_reg (r : Reg) : s.skip.reg r = s.reg r := rfl
@[simp] theorem State.skip_f64 (r : Reg) : s.skip.f64 r = s.f64 r := rfl
@[simp] theorem State.skip_f32 (r : Reg) : s.skip.f32 r = s.f32 r := rfl
@[simp] theorem State.skip_icc (c : ICC) : s.skip.icc c = s.icc c := rfl
@[simp] theorem State.skip_fcc (n : BitVec 2) : s.skip.fcc n = s.fcc n := rfl
@[simp] theorem State.skip_slot (r : Reg) : s.skip.slot r = s.slot r := rfl
@[simp] theorem State.skip_frame : s.skip.frame = s.frame := rfl
@[simp] theorem State.skip_readByte (p : Nat) : s.skip.readByte p = s.readByte p := rfl
@[simp] theorem State.skip_csrGet (p : Nat) : s.skip.csrGet p = s.csrGet p := rfl

@[simp] theorem State.drawn_level : s.drawn.level = s.level := rfl
@[simp] theorem State.drawn_fpEnabled : s.drawn.fpEnabled = s.fpEnabled := rfl
@[simp] theorem State.drawn_reg (r : Reg) : s.drawn.reg r = s.reg r := rfl
@[simp] theorem State.drawn_f64 (r : Reg) : s.drawn.f64 r = s.f64 r := rfl
@[simp] theorem State.drawn_f32 (r : Reg) : s.drawn.f32 r = s.f32 r := rfl
@[simp] theorem State.drawn_icc (c : ICC) : s.drawn.icc c = s.icc c := rfl
@[simp] theorem State.drawn_fcc (n : BitVec 2) : s.drawn.fcc n = s.fcc n := rfl
@[simp] theorem State.drawn_slot (r : Reg) : s.drawn.slot r = s.slot r := rfl
@[simp] theorem State.drawn_frame : s.drawn.frame = s.frame := rfl
@[simp] theorem State.drawn_readByte (p : Nat) : s.drawn.readByte p = s.readByte p := rfl
@[simp] theorem State.drawn_csrGet (p : Nat) : s.drawn.csrGet p = s.csrGet p := rfl

@[simp] theorem State.setCcr_level (v : BitVec 8) : (s.setCcr v).level = s.level := rfl
@[simp] theorem State.setCcr_fpEnabled (v : BitVec 8) : (s.setCcr v).fpEnabled = s.fpEnabled := rfl
@[simp] theorem State.setCcr_reg (v : BitVec 8) (r : Reg) : (s.setCcr v).reg r = s.reg r := rfl
@[simp] theorem State.setCcr_f64 (v : BitVec 8) (r : Reg) : (s.setCcr v).f64 r = s.f64 r := rfl
@[simp] theorem State.setCcr_f32 (v : BitVec 8) (r : Reg) : (s.setCcr v).f32 r = s.f32 r := rfl
@[simp] theorem State.setCcr_fcc (v : BitVec 8) (n : BitVec 2) : (s.setCcr v).fcc n = s.fcc n := rfl
@[simp] theorem State.setCcr_slot (v : BitVec 8) (r : Reg) : (s.setCcr v).slot r = s.slot r := rfl
@[simp] theorem State.setCcr_frame (v : BitVec 8) : (s.setCcr v).frame = s.frame := rfl
@[simp] theorem State.setCcr_readByte (v : BitVec 8) (p : Nat) : (s.setCcr v).readByte p = s.readByte p := rfl
@[simp] theorem State.setCcr_csrGet (v : BitVec 8) (p : Nat) : (s.setCcr v).csrGet p = s.csrGet p := rfl

@[simp] theorem State.setY_level (v : BitVec 32) : (s.setY v).level = s.level := rfl
@[simp] theorem State.setY_fpEnabled (v : BitVec 32) : (s.setY v).fpEnabled = s.fpEnabled := rfl
@[simp] theorem State.setY_reg (v : BitVec 32) (r : Reg) : (s.setY v).reg r = s.reg r := rfl
@[simp] theorem State.setY_f64 (v : BitVec 32) (r : Reg) : (s.setY v).f64 r = s.f64 r := rfl
@[simp] theorem State.setY_f32 (v : BitVec 32) (r : Reg) : (s.setY v).f32 r = s.f32 r := rfl
@[simp] theorem State.setY_icc (v : BitVec 32) (c : ICC) : (s.setY v).icc c = s.icc c := rfl
@[simp] theorem State.setY_fcc (v : BitVec 32) (n : BitVec 2) : (s.setY v).fcc n = s.fcc n := rfl
@[simp] theorem State.setY_slot (v : BitVec 32) (r : Reg) : (s.setY v).slot r = s.slot r := rfl
@[simp] theorem State.setY_frame (v : BitVec 32) : (s.setY v).frame = s.frame := rfl
@[simp] theorem State.setY_readByte (v : BitVec 32) (p : Nat) : (s.setY v).readByte p = s.readByte p := rfl
@[simp] theorem State.setY_csrGet (v : BitVec 32) (p : Nat) : (s.setY v).csrGet p = s.csrGet p := rfl

@[simp] theorem State.setWin_level (w : Windows) : (s.setWin w).level = s.level := rfl
@[simp] theorem State.setWin_fpEnabled (w : Windows) : (s.setWin w).fpEnabled = s.fpEnabled := rfl
@[simp] theorem State.setWin_f64 (w : Windows) (r : Reg) : (s.setWin w).f64 r = s.f64 r := rfl
@[simp] theorem State.setWin_f32 (w : Windows) (r : Reg) : (s.setWin w).f32 r = s.f32 r := rfl
@[simp] theorem State.setWin_icc (w : Windows) (c : ICC) : (s.setWin w).icc c = s.icc c := rfl
@[simp] theorem State.setWin_fcc (w : Windows) (n : BitVec 2) : (s.setWin w).fcc n = s.fcc n := rfl
@[simp] theorem State.setWin_frame (w : Windows) : (s.setWin w).frame = s.frame := rfl
@[simp] theorem State.setWin_readByte (w : Windows) (p : Nat) : (s.setWin w).readByte p = s.readByte p := rfl
@[simp] theorem State.setWin_csrGet (w : Windows) (p : Nat) : (s.setWin w).csrGet p = s.csrGet p := rfl

@[simp] theorem State.setGsr_level (g : Gsr) : (s.setGsr g).level = s.level := rfl
@[simp] theorem State.setGsr_fpEnabled (g : Gsr) : (s.setGsr g).fpEnabled = s.fpEnabled := rfl
@[simp] theorem State.setGsr_reg (g : Gsr) (r : Reg) : (s.setGsr g).reg r = s.reg r := rfl
@[simp] theorem State.setGsr_f64 (g : Gsr) (r : Reg) : (s.setGsr g).f64 r = s.f64 r := rfl
@[simp] theorem State.setGsr_f32 (g : Gsr) (r : Reg) : (s.setGsr g).f32 r = s.f32 r := rfl
@[simp] theorem State.setGsr_icc (g : Gsr) (c : ICC) : (s.setGsr g).icc c = s.icc c := rfl
@[simp] theorem State.setGsr_fcc (g : Gsr) (n : BitVec 2) : (s.setGsr g).fcc n = s.fcc n := rfl
@[simp] theorem State.setGsr_slot (g : Gsr) (r : Reg) : (s.setGsr g).slot r = s.slot r := rfl
@[simp] theorem State.setGsr_frame (g : Gsr) : (s.setGsr g).frame = s.frame := rfl
@[simp] theorem State.setGsr_readByte (g : Gsr) (p : Nat) : (s.setGsr g).readByte p = s.readByte p := rfl
@[simp] theorem State.setGsr_csrGet (g : Gsr) (p : Nat) : (s.setGsr g).csrGet p = s.csrGet p := rfl

@[simp] theorem State.setFsr_level (f : Fsr) : (s.setFsr f).level = s.level := rfl
@[simp] theorem State.setFsr_fpEnabled (f : Fsr) : (s.setFsr f).fpEnabled = s.fpEnabled := rfl
@[simp] theorem State.setFsr_reg (f : Fsr) (r : Reg) : (s.setFsr f).reg r = s.reg r := rfl
@[simp] theorem State.setFsr_f64 (f : Fsr) (r : Reg) : (s.setFsr f).f64 r = s.f64 r := rfl
@[simp] theorem State.setFsr_f32 (f : Fsr) (r : Reg) : (s.setFsr f).f32 r = s.f32 r := rfl
@[simp] theorem State.setFsr_icc (f : Fsr) (c : ICC) : (s.setFsr f).icc c = s.icc c := rfl
@[simp] theorem State.setFsr_slot (f : Fsr) (r : Reg) : (s.setFsr f).slot r = s.slot r := rfl
@[simp] theorem State.setFsr_frame (f : Fsr) : (s.setFsr f).frame = s.frame := rfl
@[simp] theorem State.setFsr_readByte (f : Fsr) (p : Nat) : (s.setFsr f).readByte p = s.readByte p := rfl
@[simp] theorem State.setFsr_csrGet (f : Fsr) (p : Nat) : (s.setFsr f).csrGet p = s.csrGet p := rfl

@[simp] theorem State.setExceptions_level (ftt : BitVec 3) (cexc aexc : BitVec 5)
    : (s.setExceptions ftt cexc aexc).level = s.level := rfl
@[simp] theorem State.setExceptions_fpEnabled (ftt : BitVec 3) (cexc aexc : BitVec 5)
    : (s.setExceptions ftt cexc aexc).fpEnabled = s.fpEnabled := rfl
@[simp] theorem State.setExceptions_reg (ftt : BitVec 3) (cexc aexc : BitVec 5) (r : Reg)
    : (s.setExceptions ftt cexc aexc).reg r = s.reg r := rfl
@[simp] theorem State.setExceptions_f64 (ftt : BitVec 3) (cexc aexc : BitVec 5) (r : Reg)
    : (s.setExceptions ftt cexc aexc).f64 r = s.f64 r := rfl
@[simp] theorem State.setExceptions_f32 (ftt : BitVec 3) (cexc aexc : BitVec 5) (r : Reg)
    : (s.setExceptions ftt cexc aexc).f32 r = s.f32 r := rfl
@[simp] theorem State.setExceptions_icc (ftt : BitVec 3) (cexc aexc : BitVec 5) (c : ICC)
    : (s.setExceptions ftt cexc aexc).icc c = s.icc c := rfl
@[simp] theorem State.setExceptions_slot (ftt : BitVec 3) (cexc aexc : BitVec 5) (r : Reg)
    : (s.setExceptions ftt cexc aexc).slot r = s.slot r := rfl
@[simp] theorem State.setExceptions_frame (ftt : BitVec 3) (cexc aexc : BitVec 5)
    : (s.setExceptions ftt cexc aexc).frame = s.frame := rfl
@[simp] theorem State.setExceptions_readByte (ftt : BitVec 3) (cexc aexc : BitVec 5) (p : Nat)
    : (s.setExceptions ftt cexc aexc).readByte p = s.readByte p := rfl
@[simp] theorem State.setExceptions_csrGet (ftt : BitVec 3) (cexc aexc : BitVec 5) (p : Nat)
    : (s.setExceptions ftt cexc aexc).csrGet p = s.csrGet p := rfl

@[simp] theorem State.setDsfar_level (a : Word) : (s.setDsfar a).level = s.level := rfl
@[simp] theorem State.setDsfar_fpEnabled (a : Word) : (s.setDsfar a).fpEnabled = s.fpEnabled := rfl
@[simp] theorem State.setDsfar_reg (a : Word) (r : Reg) : (s.setDsfar a).reg r = s.reg r := rfl
@[simp] theorem State.setDsfar_f64 (a : Word) (r : Reg) : (s.setDsfar a).f64 r = s.f64 r := rfl
@[simp] theorem State.setDsfar_f32 (a : Word) (r : Reg) : (s.setDsfar a).f32 r = s.f32 r := rfl
@[simp] theorem State.setDsfar_icc (a : Word) (c : ICC) : (s.setDsfar a).icc c = s.icc c := rfl
@[simp] theorem State.setDsfar_fcc (a : Word) (n : BitVec 2) : (s.setDsfar a).fcc n = s.fcc n := rfl
@[simp] theorem State.setDsfar_slot (a : Word) (r : Reg) : (s.setDsfar a).slot r = s.slot r := rfl
@[simp] theorem State.setDsfar_frame (a : Word) : (s.setDsfar a).frame = s.frame := rfl
@[simp] theorem State.setDsfar_readByte (a : Word) (p : Nat) : (s.setDsfar a).readByte p = s.readByte p := rfl
@[simp] theorem State.setDsfar_csrGet (a : Word) (p : Nat) : (s.setDsfar a).csrGet p = s.csrGet p := rfl

@[simp] theorem State.setFrame_level (t : TrapFrame) : (s.setFrame t).level = s.level := rfl
@[simp] theorem State.setFrame_fpEnabled (t : TrapFrame) : (s.setFrame t).fpEnabled = s.fpEnabled := rfl
@[simp] theorem State.setFrame_reg (t : TrapFrame) (r : Reg) : (s.setFrame t).reg r = s.reg r := rfl
@[simp] theorem State.setFrame_f64 (t : TrapFrame) (r : Reg) : (s.setFrame t).f64 r = s.f64 r := rfl
@[simp] theorem State.setFrame_f32 (t : TrapFrame) (r : Reg) : (s.setFrame t).f32 r = s.f32 r := rfl
@[simp] theorem State.setFrame_icc (t : TrapFrame) (c : ICC) : (s.setFrame t).icc c = s.icc c := rfl
@[simp] theorem State.setFrame_fcc (t : TrapFrame) (n : BitVec 2) : (s.setFrame t).fcc n = s.fcc n := rfl
@[simp] theorem State.setFrame_slot (t : TrapFrame) (r : Reg) : (s.setFrame t).slot r = s.slot r := rfl
@[simp] theorem State.setFrame_readByte (t : TrapFrame) (p : Nat) : (s.setFrame t).readByte p = s.readByte p := rfl
@[simp] theorem State.setFrame_csrGet (t : TrapFrame) (p : Nat) : (s.setFrame t).csrGet p = s.csrGet p := rfl

@[simp] theorem State.setScratch_level (i : BitVec 3) (v : Word) : (s.setScratch i v).level = s.level := rfl
@[simp] theorem State.setScratch_fpEnabled (i : BitVec 3) (v : Word) : (s.setScratch i v).fpEnabled = s.fpEnabled := rfl
@[simp] theorem State.setScratch_reg (i : BitVec 3) (v : Word) (r : Reg) : (s.setScratch i v).reg r = s.reg r := rfl
@[simp] theorem State.setScratch_f64 (i : BitVec 3) (v : Word) (r : Reg) : (s.setScratch i v).f64 r = s.f64 r := rfl
@[simp] theorem State.setScratch_f32 (i : BitVec 3) (v : Word) (r : Reg) : (s.setScratch i v).f32 r = s.f32 r := rfl
@[simp] theorem State.setScratch_icc (i : BitVec 3) (v : Word) (c : ICC) : (s.setScratch i v).icc c = s.icc c := rfl
@[simp] theorem State.setScratch_fcc (i : BitVec 3) (v : Word) (n : BitVec 2)
    : (s.setScratch i v).fcc n = s.fcc n := rfl
@[simp] theorem State.setScratch_slot (i : BitVec 3) (v : Word) (r : Reg) : (s.setScratch i v).slot r = s.slot r := rfl
@[simp] theorem State.setScratch_frame (i : BitVec 3) (v : Word) : (s.setScratch i v).frame = s.frame := rfl
@[simp] theorem State.setScratch_readByte (i : BitVec 3) (v : Word) (p : Nat)
    : (s.setScratch i v).readByte p = s.readByte p := rfl
@[simp] theorem State.setScratch_csrGet (i : BitVec 3) (v : Word) (p : Nat)
    : (s.setScratch i v).csrGet p = s.csrGet p := rfl

@[simp] theorem State.writeBytes_level (pa : Nat) (bs : List Byte) : (s.writeBytes pa bs).level = s.level := rfl
@[simp] theorem State.writeBytes_fpEnabled (pa : Nat) (bs : List Byte)
    : (s.writeBytes pa bs).fpEnabled = s.fpEnabled := rfl
@[simp] theorem State.writeBytes_reg (pa : Nat) (bs : List Byte) (r : Reg) : (s.writeBytes pa bs).reg r = s.reg r := rfl
@[simp] theorem State.writeBytes_f64 (pa : Nat) (bs : List Byte) (r : Reg) : (s.writeBytes pa bs).f64 r = s.f64 r := rfl
@[simp] theorem State.writeBytes_f32 (pa : Nat) (bs : List Byte) (r : Reg) : (s.writeBytes pa bs).f32 r = s.f32 r := rfl
@[simp] theorem State.writeBytes_icc (pa : Nat) (bs : List Byte) (c : ICC) : (s.writeBytes pa bs).icc c = s.icc c := rfl
@[simp] theorem State.writeBytes_fcc (pa : Nat) (bs : List Byte) (n : BitVec 2)
    : (s.writeBytes pa bs).fcc n = s.fcc n := rfl
@[simp] theorem State.writeBytes_slot (pa : Nat) (bs : List Byte) (r : Reg)
    : (s.writeBytes pa bs).slot r = s.slot r := rfl
@[simp] theorem State.writeBytes_frame (pa : Nat) (bs : List Byte) : (s.writeBytes pa bs).frame = s.frame := rfl
@[simp] theorem State.writeBytes_csrGet (pa : Nat) (bs : List Byte) (p : Nat)
    : (s.writeBytes pa bs).csrGet p = s.csrGet p := rfl

@[simp] theorem State.bufferCells_level (kind : StoreKind) (flaw : BitVec 7 × Bool) (base seen : Nat) (cells : List Host.Cell)
    : (s.bufferCells kind flaw base seen cells).level = s.level := rfl
@[simp] theorem State.bufferCells_fpEnabled (kind : StoreKind) (flaw : BitVec 7 × Bool) (base seen : Nat) (cells : List Host.Cell)
    : (s.bufferCells kind flaw base seen cells).fpEnabled = s.fpEnabled := rfl
@[simp] theorem State.bufferCells_reg (kind : StoreKind) (flaw : BitVec 7 × Bool) (base seen : Nat) (cells : List Host.Cell) (r : Reg)
    : (s.bufferCells kind flaw base seen cells).reg r = s.reg r := rfl
@[simp] theorem State.bufferCells_f64 (kind : StoreKind) (flaw : BitVec 7 × Bool) (base seen : Nat) (cells : List Host.Cell) (r : Reg)
    : (s.bufferCells kind flaw base seen cells).f64 r = s.f64 r := rfl
@[simp] theorem State.bufferCells_f32 (kind : StoreKind) (flaw : BitVec 7 × Bool) (base seen : Nat) (cells : List Host.Cell) (r : Reg)
    : (s.bufferCells kind flaw base seen cells).f32 r = s.f32 r := rfl
@[simp] theorem State.bufferCells_icc (kind : StoreKind) (flaw : BitVec 7 × Bool) (base seen : Nat) (cells : List Host.Cell) (c : ICC)
    : (s.bufferCells kind flaw base seen cells).icc c = s.icc c := rfl
@[simp] theorem State.bufferCells_fcc (kind : StoreKind) (flaw : BitVec 7 × Bool) (base seen : Nat) (cells : List Host.Cell) (n : BitVec 2)
    : (s.bufferCells kind flaw base seen cells).fcc n = s.fcc n := rfl
@[simp] theorem State.bufferCells_slot (kind : StoreKind) (flaw : BitVec 7 × Bool) (base seen : Nat) (cells : List Host.Cell) (r : Reg)
    : (s.bufferCells kind flaw base seen cells).slot r = s.slot r := rfl
@[simp] theorem State.bufferCells_frame (kind : StoreKind) (flaw : BitVec 7 × Bool) (base seen : Nat) (cells : List Host.Cell)
    : (s.bufferCells kind flaw base seen cells).frame = s.frame := rfl
@[simp] theorem State.bufferCells_csrGet (kind : StoreKind) (flaw : BitVec 7 × Bool) (base seen : Nat) (cells : List Host.Cell) (p : Nat)
    : (s.bufferCells kind flaw base seen cells).csrGet p = s.csrGet p := rfl

@[simp] theorem State.csrSet_level (pa : Nat) (v : Word) : (s.csrSet pa v).level = s.level := rfl
@[simp] theorem State.csrSet_fpEnabled (pa : Nat) (v : Word) : (s.csrSet pa v).fpEnabled = s.fpEnabled := rfl
@[simp] theorem State.csrSet_reg (pa : Nat) (v : Word) (r : Reg) : (s.csrSet pa v).reg r = s.reg r := rfl
@[simp] theorem State.csrSet_f64 (pa : Nat) (v : Word) (r : Reg) : (s.csrSet pa v).f64 r = s.f64 r := rfl
@[simp] theorem State.csrSet_f32 (pa : Nat) (v : Word) (r : Reg) : (s.csrSet pa v).f32 r = s.f32 r := rfl
@[simp] theorem State.csrSet_icc (pa : Nat) (v : Word) (c : ICC) : (s.csrSet pa v).icc c = s.icc c := rfl
@[simp] theorem State.csrSet_fcc (pa : Nat) (v : Word) (n : BitVec 2) : (s.csrSet pa v).fcc n = s.fcc n := rfl
@[simp] theorem State.csrSet_slot (pa : Nat) (v : Word) (r : Reg) : (s.csrSet pa v).slot r = s.slot r := rfl
@[simp] theorem State.csrSet_frame (pa : Nat) (v : Word) : (s.csrSet pa v).frame = s.frame := rfl
@[simp] theorem State.csrSet_readByte (pa : Nat) (v : Word) (p : Nat) : (s.csrSet pa v).readByte p = s.readByte p := rfl

end

end Sys2Proof.Machine
end

