-- ==== Sys2Proof/Laws/Memory.lean ====
section
/-! SUPPORT. Laws/Memory.lean: sparse storage: what is read after a store, and that every operation on it keeps the
canonical form. The same laws hold of DRAM and of the registers of the chip. -/

namespace Sys2Proof.Machine

section
variable {β : Type}

/-! ## Reading after storing -/

/-- The value listed last at an address is found there. -/
@[simp] theorem sparseFind_insert (m : List (Nat × β)) (a : Nat) (v : β) : sparseFind (sparseInsert m a v) a = some v := by
  induction m with
  | nil => simp [sparseInsert, sparseFind]
  | cons c rest ih =>
    simp only [sparseInsert]
    split
    · simp [sparseFind]
    · split
      · simp [sparseFind]
      · simp [sparseFind, *]

/-- Listing a value leaves every other address alone. -/
theorem sparseFind_insert_ne (m : List (Nat × β)) {a b : Nat} (v : β) (h : b ≠ a) :
    sparseFind (sparseInsert m a v) b = sparseFind m b := by
  induction m with
  | nil => simp [sparseInsert, sparseFind, h.symm]
  | cons c rest ih =>
    simp only [sparseInsert]
    split
    · simp [sparseFind, h.symm]
    · split
      · rename_i hc; simp [sparseFind, hc, h.symm]
      · simp [sparseFind, ih]

/-- Nothing is found at an address that is removed. -/
@[simp] theorem sparseFind_filter (m : List (Nat × β)) (a : Nat) : sparseFind (m.filter (fun c => c.1 != a)) a = none := by
  induction m with
  | nil => rfl
  | cons c rest ih =>
    by_cases h : c.1 = a
    · simpa [h] using ih
    · simpa [List.filter_cons, h, sparseFind] using ih

/-- Removing an address leaves the others alone. -/
theorem sparseFind_filter_ne (m : List (Nat × β)) {a b : Nat} (h : b ≠ a) :
    sparseFind (m.filter (fun c => c.1 != a)) b = sparseFind m b := by
  induction m with
  | nil => rfl
  | cons c rest ih =>
    by_cases hc : c.1 = a
    · simpa [hc, sparseFind, h.symm] using ih
    · simp only [List.filter_cons, bne_iff_ne, ne_eq, hc, not_false_eq_true, if_true, sparseFind]
      rw [ih]

variable [DecidableEq β]

/-- A value stored is read back. -/
@[simp] theorem sparseGet_put (d : β) (m : List (Nat × β)) (a : Nat) (v : β) : sparseGet d (sparsePut d m a v) a = v := by
  unfold sparsePut sparseGet
  split <;> simp [*]

/-- A store leaves every other address alone. -/
theorem sparseGet_put_ne (d e : β) (m : List (Nat × β)) {a b : Nat} (v : β) (h : b ≠ a) :
    sparseGet e (sparsePut d m a v) b = sparseGet e m b := by
  unfold sparsePut sparseGet
  split
  · rw [sparseFind_filter_ne _ h]
  · rw [sparseFind_insert_ne _ _ h]

/-! ## The canonical form -/

/-- The canonical form, by its first entry. -/
theorem sparseWf_cons (d : Nat → β) (c : Nat × β) (m : List (Nat × β)) :
    sparseWf d (c :: m) = true ↔ c.2 ≠ d c.1 ∧ (∀ x ∈ m, c.1 < x.1) ∧ sparseWf d m = true := by
  induction m generalizing c with
  | nil => simp [sparseWf]
  | cons c' rest ih =>
    rw [sparseWf, Bool.and_eq_true, Bool.and_eq_true]
    constructor
    · rintro ⟨⟨h1, h2⟩, h3⟩
      refine ⟨by simpa using h1, fun x hx => ?_, h3⟩
      rcases List.mem_cons.1 hx with rfl | hx
      · simpa using h2
      · exact (by simpa using h2 : c.1 < c'.1).trans (((ih c').1 h3).2.1 x hx)
    · rintro ⟨h1, h2, h3⟩
      exact ⟨⟨by simpa using h1, by simpa using h2 c' (by simp)⟩, h3⟩

omit [DecidableEq β] in
/-- Every entry that is listed after a store was listed before or is the one stored. -/
theorem mem_sparseInsert {m : List (Nat × β)} {a : Nat} {v : β} {x : Nat × β} (h : x ∈ sparseInsert m a v) :
    x = (a, v) ∨ x ∈ m := by
  induction m with
  | nil => simpa [sparseInsert] using h
  | cons c rest ih =>
    simp only [sparseInsert] at h
    split at h
    · simpa using h
    · split at h
      · rcases List.mem_cons.1 h with h | h <;> simp [h]
      · rcases List.mem_cons.1 h with h | h
        · simp [h]
        · rcases ih h with h | h <;> simp [h]

/-- Listing a value that the address does not hold already keeps the canonical form. -/
theorem sparseWf_insert {d : Nat → β} {m : List (Nat × β)} {a : Nat} {v : β} (h : sparseWf d m = true) (hv : v ≠ d a) :
    sparseWf d (sparseInsert m a v) = true := by
  induction m with
  | nil => simpa [sparseInsert, sparseWf] using hv
  | cons c rest ih =>
    obtain ⟨h1, h2, h3⟩ := (sparseWf_cons d c rest).1 h
    simp only [sparseInsert]
    split
    · rename_i hlt
      refine (sparseWf_cons _ _ _).2 ⟨hv, fun x hx => ?_, h⟩
      rcases List.mem_cons.1 hx with rfl | hx
      · exact hlt
      · exact hlt.trans (h2 x hx)
    · split
      · rename_i hc
        exact (sparseWf_cons _ _ _).2 ⟨hv, fun x hx => hc ▸ h2 x hx, h3⟩
      · rename_i hlt hne
        refine (sparseWf_cons _ _ _).2 ⟨h1, fun x hx => ?_, ih h3⟩
        rcases mem_sparseInsert hx with rfl | hx
        · simp only; omega
        · exact h2 x hx

/-- Removing an address keeps the canonical form. -/
theorem sparseWf_filter {d : Nat → β} {m : List (Nat × β)} (p : Nat × β → Bool) (h : sparseWf d m = true) :
    sparseWf d (m.filter p) = true := by
  induction m with
  | nil => exact h
  | cons c rest ih =>
    obtain ⟨h1, h2, h3⟩ := (sparseWf_cons d c rest).1 h
    rw [List.filter_cons]
    split
    · exact (sparseWf_cons _ _ _).2 ⟨h1, fun x hx => h2 x (List.mem_of_mem_filter hx), ih h3⟩
    · exact ih h3

/-- A store keeps the canonical form. -/
theorem sparseWf_put {d : Nat → β} {m : List (Nat × β)} (a : Nat) (v : β) (h : sparseWf d m = true) :
    sparseWf d (sparsePut (d a) m a v) = true := by
  unfold sparsePut
  split
  · exact sparseWf_filter _ h
  · exact sparseWf_insert h (by assumption)

end

/-! ## DRAM -/

/-- Storing a byte keeps memory canonical. -/
theorem wf_memPut {m : List Host.Cell} (pa : Nat) (b : Byte) (h : Memory.wf m = true) : Memory.wf (memPut m pa b) = true :=
  sparseWf_put (d := fun _ => dramInitial) pa b h

/-- Storing bytes keeps memory canonical. -/
theorem wf_memPutBytes {m : List Host.Cell} (pa : Nat) (bs : List Byte) (h : Memory.wf m = true) :
    Memory.wf (memPutBytes m pa bs) = true := by
  induction bs generalizing m pa with
  | nil => exact h
  | cons b rest ih => exact ih _ (wf_memPut pa b h)

/-- Storing bytes at their addresses keeps memory canonical. -/
theorem wf_memPutCells {m : List Host.Cell} (cells : List Host.Cell) (h : Memory.wf m = true) :
    Memory.wf (memPutCells m cells) = true := by
  induction cells generalizing m with
  | nil => exact h
  | cons c rest ih => exact ih (wf_memPut c.1 c.2 h)

/-- Dropping stores from the store buffer keeps memory canonical. -/
theorem wf_dropStores {m : List Host.Cell} (ps : List PendingStore) (h : Memory.wf m = true) :
    Memory.wf (dropStores m ps) = true := by
  induction ps generalizing m with
  | nil => exact h
  | cons p rest ih => exact ih (wf_memPutCells p.old h)

/-- Taking one store out from under later ones keeps memory canonical. -/
theorem wf_cancelCells {m : List Host.Cell} (later : List PendingStore) (cells : List Host.Cell) (h : Memory.wf m = true) :
    Memory.wf (cancelCells m later cells).2 = true := by
  induction later generalizing cells with
  | nil => exact wf_memPutCells cells h
  | cons p rest ih => exact ih _

/-- Memory after power-on is canonical. -/
theorem wf_reset : Memory.wf State.reset.mem = true := rfl

/-- Bytes stored, read at any address. -/
theorem sparseGet_memPutBytes (m : List Host.Cell) (pa : Nat) (bs : List Byte) (a : Nat) :
    sparseGet dramInitial (memPutBytes m pa bs) a =
      if h : pa ≤ a ∧ a < pa + bs.length then bs[a - pa] else sparseGet dramInitial m a := by
  induction bs generalizing m pa with
  | nil => simp only [memPutBytes, List.length_nil]; rw [dif_neg (by omega)]
  | cons b rest ih =>
    rw [memPutBytes, ih]
    by_cases h1 : pa + 1 ≤ a ∧ a < pa + 1 + rest.length
    · rw [dif_pos h1, dif_pos (by simp; omega)]
      simp [show a - pa = (a - (pa + 1)) + 1 by omega]
    · rw [dif_neg h1]
      by_cases h2 : a = pa
      · subst h2; simp [memPut]
      · rw [memPut, sparseGet_put_ne _ _ _ _ h2, dif_neg (by simp; omega)]

/-- A byte of DRAM after a store of bytes. -/
theorem State.readByte_writeBytes (s : State) (pa : Nat) (bs : List Byte) (a : Nat) :
    (s.writeBytes pa bs).readByte a = if h : pa ≤ a ∧ a < pa + bs.length then bs[a - pa] else s.readByte a :=
  sparseGet_memPutBytes _ _ _ _

/-- Bytes at rising addresses, as cells. -/
theorem memPutCells_cellsFrom (m : List Host.Cell) (pa : Nat) (bs : List Byte) :
    memPutCells m (cellsFrom pa bs) = memPutBytes m pa bs := by
  induction bs generalizing m pa with
  | nil => rfl
  | cons b rest ih => exact ih _ _

/-- A store through the store buffer is in memory at once. -/
theorem State.readByte_bufferCells (s : State) (kind : StoreKind) (flaw : BitVec 7 × Bool) (pa seen : Nat) (bs : List Byte)
    (a : Nat) :
    (s.bufferCells kind flaw pa seen (cellsFrom pa bs)).readByte a =
      if h : pa ≤ a ∧ a < pa + bs.length then bs[a - pa] else s.readByte a := by
  rw [← State.readByte_writeBytes]
  simp [State.readByte, memPutCells_cellsFrom]

/-! ## The store buffer -/

/-- All that stores leaving the buffer may change: memory, the listed lines, the register that injects errors into DRAM, the
records of errors with their debug events and the deferred trap they raise, and the place in the free values. -/
def DrainsTo (s t : State) : Prop :=
  t = { s with mem := t.mem, notData := t.notData, csr := t.csr, err := t.err, events := t.events,
               storeError := t.storeError, oracle := t.oracle }

theorem DrainsTo.trans {s t u : State} (h : DrainsTo s t) (h' : DrainsTo t u) : DrainsTo s u :=
  Eq.trans h' (congrArg (fun (x : State) =>
    { x with mem := u.mem, notData := u.notData, csr := u.csr, err := u.err, events := u.events,
             storeError := u.storeError, oracle := u.oracle }) h)

theorem State.drainsTo_mem (s : State) (m : List Host.Cell) : DrainsTo s { s with mem := m } := rfl

theorem State.drainsTo_drawn (s : State) : DrainsTo s s.drawn := rfl

theorem State.drainsTo_updateClfesr (s : State) (old : BitVec 16) : DrainsTo s (s.updateClfesr old) := by
  unfold State.updateClfesr
  split <;> [exact rfl; (split <;> exact rfl)]

theorem State.drainsTo_recordDesr (s : State) (k : Nat) (sre : Bool) (errtype : BitVec 5) (addr : BitVec 11) :
    DrainsTo s (s.recordDesr k sre errtype addr) := by
  unfold State.recordDesr
  split
  · dsimp only
    split
    · exact DrainsTo.trans (t := { s.drawn with err := _, events := _ }) rfl (State.drainsTo_updateClfesr _ _)
    · exact DrainsTo.trans (t := { s with err := _, events := _ }) rfl (State.drainsTo_updateClfesr _ _)
  · exact rfl

theorem State.drainsTo_recordDeferred (s : State) (io : Bool) (priv : BitVec 2) (index : BitVec 3) :
    DrainsTo s (s.recordDeferred io priv index) := by
  unfold State.recordDeferred
  exact DrainsTo.trans (t := { s.drawn.drawn with err := _, storeError := _, events := _ }) rfl
    (State.drainsTo_updateClfesr _ _)

theorem State.drainsTo_putLine (s : State) (pa : Nat) (l : MemLine) : DrainsTo s (s.putLine pa l) := rfl

theorem State.drainsTo_writeDram (s : State) (pa : Nat) (chunks : BitVec 4) : DrainsTo s (s.writeDram pa chunks) := by
  unfold State.writeDram
  dsimp only
  split
  · exact rfl
  · split
    · exact s.drainsTo_putLine _ _
    · split <;> exact rfl

theorem State.drainsTo_rewritten (s : State) (pa : Nat) (addrs : List Nat) (bad : BitVec 16) :
    DrainsTo s (s.rewritten pa addrs bad) := by
  unfold State.rewritten
  dsimp only
  split
  · exact s.drainsTo_putLine _ _
  · exact (s.drainsTo_putLine _ _).trans (State.drainsTo_writeDram _ _ _)

theorem State.drainsTo_mergeStore (s : State) (p : PendingStore) (rest : List PendingStore) :
    DrainsTo s (s.mergeStore p rest).2 := by
  unfold State.mergeStore
  dsimp only
  split <;> exact rfl

theorem State.drainsTo_performed (s : State) (p : PendingStore) (rest : List PendingStore) :
    DrainsTo s (s.performed p rest).2 := by
  unfold State.performed
  split
  · exact rfl
  · exact (s.drainsTo_mergeStore p rest).trans (State.drainsTo_rewritten _ _ _ _)

theorem State.drainsTo_poisoned (s : State) (p : PendingStore) (rest : List PendingStore) :
    DrainsTo s (s.poisoned p rest).2 := (s.drainsTo_mergeStore p rest).trans (State.drainsTo_rewritten _ _ _ _)

/-- What the stores of a list do when they leave the buffer. -/
theorem State.drainsTo_drainList (also : BitVec 2) (n : Nat) (s : State) (ps : List PendingStore) :
    DrainsTo s (s.drainList also n ps) := by
  induction n generalizing s ps with
  | zero => cases ps <;> exact rfl
  | succ n ih =>
    cases ps with
    | nil => exact rfl
    | cons p rest =>
      have record := fun k sre e => s.drainsTo_drawn.trans (s.drawn.drainsTo_recordDesr k sre e (s.storeInfo p.index))
      unfold State.drainList
      split
      · exact DrainsTo.trans (t := { s with mem := dropStores s.mem (p :: rest).reverse }) rfl
          (State.drainsTo_recordDeferred _ _ _ _)
      · split
        · exact (s.drainsTo_performed p rest).trans (ih _ _)
        · split
          · dsimp only
            exact (record 10 false 10).trans ((State.drainsTo_mem _ _).trans ((State.drainsTo_performed _ p _).trans (ih _ _)))
          · split
            · exact (s.drainsTo_performed p rest).trans (ih _ _)
            · dsimp only
              split
              · exact (record 9 true 6).trans ((State.drainsTo_mem _ _).trans (ih _ _))
              · exact ((record _ _ _).trans (State.drainsTo_poisoned _ p rest)).trans (ih _ _)

@[simp] theorem State.updateClfesr_mem (s : State) (old : BitVec 16) : (s.updateClfesr old).mem = s.mem := by
  unfold State.updateClfesr; split <;> [rfl; (split <;> rfl)]

@[simp] theorem State.recordDesr_mem (s : State) (k : Nat) (sre : Bool) (errtype : BitVec 5) (addr : BitVec 11) :
    (s.recordDesr k sre errtype addr).mem = s.mem := by
  unfold State.recordDesr; split <;> [(simp; split <;> rfl); rfl]

@[simp] theorem State.recordDeferred_mem (s : State) (io : Bool) (priv : BitVec 2) (index : BitVec 3) :
    (s.recordDeferred io priv index).mem = s.mem := by
  simp [State.recordDeferred]

@[simp] theorem State.putLine_mem (s : State) (pa : Nat) (l : MemLine) : (s.putLine pa l).mem = s.mem := rfl

/-- A write to DRAM leaves the bytes of memory as they are: only check bits may be wrong. -/
@[simp] theorem State.writeDram_mem (s : State) (pa : Nat) (chunks : BitVec 4) : (s.writeDram pa chunks).mem = s.mem := by
  unfold State.writeDram
  dsimp only
  split
  · rfl
  · split
    · rfl
    · split <;> rfl

/-- A line that is written changes no byte that the store did not. -/
@[simp] theorem State.rewritten_mem (s : State) (pa : Nat) (addrs : List Nat) (bad : BitVec 16) :
    (s.rewritten pa addrs bad).mem = s.mem := by
  unfold State.rewritten
  dsimp only
  split
  · rfl
  · exact State.writeDram_mem _ _ _

/-- The bytes that a store loses leave memory canonical. -/
theorem State.wf_mergeStore {s : State} (p : PendingStore) (rest : List PendingStore) (h : Memory.wf s.mem = true) :
    Memory.wf (s.mergeStore p rest).2.mem = true := by
  unfold State.mergeStore
  dsimp only
  split
  · exact h
  · exact wf_cancelCells _ _ h

/-- A store that reaches memory keeps it canonical. -/
theorem State.wf_performed {s : State} (p : PendingStore) (rest : List PendingStore) (h : Memory.wf s.mem = true) :
    Memory.wf (s.performed p rest).2.mem = true := by
  unfold State.performed
  split
  · exact h
  · simpa using State.wf_mergeStore p rest h

/-- A store for which nothing is listed of its line does nothing more when it reaches memory. -/
theorem State.performed_plain {s : State} (p : PendingStore) (rest : List PendingStore)
    (h : sparseFind s.notData (p.pa / 64) = none) : s.performed p rest = (rest, s) := by
  simp [State.performed, h]

/-- Stores that leave the buffer keep memory canonical. -/
theorem State.wf_drainList (also : BitVec 2) (n : Nat) (s : State) (ps : List PendingStore) (h : Memory.wf s.mem = true) :
    Memory.wf (s.drainList also n ps).mem = true := by
  induction n generalizing s ps with
  | zero => cases ps <;> exact h
  | succ n ih =>
    cases ps with
    | nil => exact h
    | cons p rest =>
      unfold State.drainList
      split
      · simpa using wf_dropStores _ h
      · split
        · exact ih _ _ (State.wf_performed _ _ h)
        · split
          · exact ih _ _ (State.wf_performed _ _ (wf_cancelCells _ _ (by simpa using h)))
          · split
            · exact ih _ _ (State.wf_performed _ _ h)
            · simp only
              split
              · exact ih _ _ (wf_cancelCells _ _ (by simpa using h))
              · exact ih _ _ (by simpa [State.poisoned] using State.wf_mergeStore _ _ (by simpa using h))

/-- A change of the bytes below the stores of the buffer keeps memory canonical. -/
theorem State.wf_putUnder {s : State} (cells : List Host.Cell) (h : Memory.wf s.mem = true) :
    Memory.wf (s.putUnder cells).mem = true := by
  unfold State.putUnder
  split
  · exact h
  · exact wf_cancelCells _ _ h

/-- A line that leaves the cache keeps memory canonical. -/
theorem State.wf_evict {s : State} (pa : Nat) (h : Memory.wf s.mem = true) : Memory.wf (s.evict pa).mem = true := by
  unfold State.evict
  dsimp only
  split
  · exact h
  · split
    · exact State.wf_putUnder _ h
    · simpa using h

/-- Draining the buffer empties it; where no store in it is in error, that is all. -/
theorem State.drainFor_of_clean {s : State} (also : BitVec 2) (h : s.undrained.all PendingStore.clean = true) :
    s.drainFor also = { s with undrained := [] } := by
  simp [State.drainFor, h]

/-- The same of a drain for no store that waits. -/
theorem State.drain_of_clean {s : State} (h : s.undrained.all PendingStore.clean = true) :
    s.drain = { s with undrained := [] } := State.drainFor_of_clean 0 h

/-- A drained buffer is empty. -/
@[simp] theorem State.drainFor_undrained (s : State) (also : BitVec 2) : (s.drainFor also).undrained = [] := by
  unfold State.drainFor
  simp only
  split
  · rfl
  · exact congrArg State.undrained
      (State.drainsTo_drainList also s.undrained.length { s with undrained := [] } s.undrained.reverse)

@[simp] theorem State.drain_undrained (s : State) : s.drain.undrained = [] := s.drainFor_undrained 0

/-- A store that may be reordered with no ordinary one leaves only relaxed stores in the buffer behind it. -/
theorem stayBehind_relaxed (leaving ps : List PendingStore) : ∀ p ∈ stayBehind leaving ps, p.kind.relaxed = true := by
  induction ps generalizing leaving with
  | nil => simp [stayBehind]
  | cons q rest ih =>
    unfold stayBehind
    split
    · rename_i h
      intro p hp
      rcases List.mem_cons.1 hp with rfl | hp
      · exact (Bool.and_eq_true _ _ ▸ h).1
      · exact ih _ p hp
    · exact ih _

/-- They were there before. -/
theorem stayBehind_sublist (leaving ps : List PendingStore) : (stayBehind leaving ps).Sublist ps := by
  induction ps generalizing leaving with
  | nil => exact List.Sublist.refl _
  | cons q rest ih =>
    unfold stayBehind
    split
    · exact (ih _).cons_cons _
    · exact (ih _).cons _

/-- Making room for a store where no store of the buffer is in error: at most the oldest one leaves it. -/
theorem State.makeRoom_of_clean {s : State} (h : s.undrained.all PendingStore.clean = true) :
    s.makeRoom = { s with undrained := s.undrained.take 7 } := by
  unfold State.makeRoom
  split
  · rw [List.take_of_length_le (by omega)]
  · rfl

/-- The same for a store that has room. -/
theorem State.makeRoom_of_hasRoom {s : State} (h : HasRoom s 1) :
    s.makeRoom = { s with undrained := s.undrained.take 7 } := by
  rcases h with h | h
  · rw [State.makeRoom, if_pos (by omega), List.take_of_length_le (by omega)]
  · simp only [State.checksClean, Bool.and_eq_true] at h
    exact State.makeRoom_of_clean h.2

/-- A buffer with no error in question lets a store to I/O or over the ASI ring go on at once. -/
theorem State.ringStore_clean {s : State} (flaw : BitVec 7 × Bool) (k : Word → State → Res Unit) (h : s.checksClean = true) :
    s.ringStore flaw k = k 0 s.ringed := by
  have hu : s.undrained.all PendingStore.clean = true := by
    simp only [State.checksClean, Bool.and_eq_true] at h; exact h.2
  have behind : (stayBehind [] s.undrained).all PendingStore.clean = true :=
    List.all_eq_true.2 fun p hp => List.all_eq_true.1 hu p ((stayBehind_sublist [] s.undrained).subset hp)
  have room : s.followed.makeRoom = s.ringed := by
    rw [State.followed, if_pos hu]
    exact State.makeRoom_of_clean behind
  simp [State.ringStore, State.sendStore, room, State.ringed, h]

/-- A store that has room goes into the buffer. -/
theorem State.pushCells_of_hasRoom {s : State} (kind : StoreKind) (flaw : BitVec 7 × Bool) (pa seen : Nat)
    (cells : List Host.Cell) (h : HasRoom s 1) :
    s.pushCells kind flaw pa seen cells =
      ({ s with undrained := s.undrained.take 7 } : State).bufferCells kind flaw pa seen cells := by
  rw [State.pushCells, State.makeRoom_of_hasRoom h]
  simp

/-! ## Stores -/

/-- The bytes a store leaves. -/
theorem storedBytes_writeBytes (s : State) (pa : Nat) (bs : List Byte) {t : State} (h : t.mem = (s.writeBytes pa bs).mem) :
    StoredBytes s t pa bs := by
  have read (a : Nat) : t.readByte a = (s.writeBytes pa bs).readByte a := by simp [State.readByte, h]
  refine ⟨fun k hk => ?_, fun a ha => ?_⟩
  · rw [read, State.readByte_writeBytes, dif_pos (by omega)]; simp
  · rw [read, State.readByte_writeBytes, dif_neg ha]

/-! ## The registers of the chip -/

/-- Writing a register of the chip keeps its storage canonical. -/
theorem wf_csrSet {s : State} (pa : Nat) (v : Word) (h : sparseWf csrReset s.csr = true) :
    sparseWf csrReset (s.csrSet pa v).csr = true :=
  sparseWf_put (d := csrReset) pa v h

/-- A register of the chip, read back. -/
@[simp] theorem State.csrGet_csrSet (s : State) (pa : Nat) (v : Word) : (s.csrSet pa v).csrGet pa = v :=
  sparseGet_put _ _ _ _

/-- Another register of the chip. -/
theorem State.csrGet_csrSet_ne (s : State) {pa b : Nat} (v : Word) (h : b ≠ pa) :
    (s.csrSet pa v).csrGet b = s.csrGet b :=
  sparseGet_put_ne _ _ _ _ h

end Sys2Proof.Machine
end

