-- ==== Sys2Proof/Laws/Checks.lean ====
section
/-! SUPPORT. Laws/Checks.lean: what the operations on the check bits of the protected arrays do: what is read after a write,
that nothing else changes, that the canonical form stays, and that all of it is nothing where no error is in question. -/

namespace Sys2Proof.Machine

/-- Writing check bits changes nothing but the list of them. -/
theorem State.putCheck_eq (s : State) (c : CheckSlot) (m : BitVec 8) : ∃ l, s.putCheck c m = { s with checks := l } := by
  unfold State.putCheck
  split
  · exact ⟨_, rfl⟩
  · exact ⟨_, rfl⟩

/-- What is written is read back, but for the zero register. -/
theorem State.checkOf_putCheck (s : State) {c : CheckSlot} (m : BitVec 8) (h : c.key ≠ none) :
    (s.putCheck c m).checkOf c = m := by
  unfold State.putCheck State.checkOf
  cases hk : c.key with
  | none => exact absurd hk h
  | some k => simp

/-- Another entry keeps its check bits. -/
theorem State.checkOf_putCheck_ne (s : State) {c d : CheckSlot} (m : BitVec 8) (h : d.key ≠ c.key) :
    (s.putCheck c m).checkOf d = s.checkOf d := by
  unfold State.putCheck State.checkOf
  cases hc : c.key with
  | none => rfl
  | some k =>
    cases hd : d.key with
    | none => rfl
    | some j =>
      have : j ≠ k := fun e => h (by rw [hc, hd, e])
      simp [sparseGet_put_ne _ _ _ _ this]

/-- Nothing is in error where nothing is listed. -/
theorem State.checkOf_nil {s : State} (c : CheckSlot) (h : s.checks = []) : s.checkOf c = 0 := by
  unfold State.checkOf
  rw [h]
  cases c.key <;> rfl

/-- A write of check bits keeps the canonical form. -/
theorem State.putCheck_wf {s : State} (c : CheckSlot) (m : BitVec 8) (h : sparseWf (fun _ => (0 : BitVec 8)) s.checks = true) :
    sparseWf (fun _ => (0 : BitVec 8)) (s.putCheck c m).checks = true := by
  unfold State.putCheck
  split
  · exact sparseWf_put _ _ h
  · exact h

/-- What the writes of an instruction do to the state besides its own effect. -/
theorem State.storeChecks_eq (s t : State) (slots : List CheckSlot) :
    ∃ l n, s.storeChecks t slots = { t with checks := l, oracle := n } := by
  have fold : ∀ (l : List CheckSlot) (u : State),
      ∃ k, l.foldl (fun acc c => acc.putCheck c (s.injected c)) u = { u with checks := k } := by
    intro l
    induction l with
    | nil => exact fun u => ⟨_, rfl⟩
    | cons c rest ih =>
      intro u
      obtain ⟨k, hk⟩ := u.putCheck_eq c (s.injected c)
      obtain ⟨j, hj⟩ := ih (u.putCheck c (s.injected c))
      exact ⟨j, by rw [List.foldl_cons, hj, hk]⟩
  obtain ⟨k, hk⟩ := fold slots t
  unfold State.storeChecks
  rw [hk]
  split
  · exact ⟨_, _, rfl⟩
  · exact ⟨_, _, rfl⟩

/-- They keep the canonical form. -/
theorem State.storeChecks_wf {s t : State} (slots : List CheckSlot)
    (h : sparseWf (fun _ => (0 : BitVec 8)) t.checks = true) :
    sparseWf (fun _ => (0 : BitVec 8)) (s.storeChecks t slots).checks = true := by
  have fold : ∀ (l : List CheckSlot) (u : State), sparseWf (fun _ => (0 : BitVec 8)) u.checks = true →
      sparseWf (fun _ => (0 : BitVec 8)) (l.foldl (fun acc c => acc.putCheck c (s.injected c)) u).checks = true := by
    intro l
    induction l with
    | nil => exact fun u hu => hu
    | cons c rest ih => exact fun u hu => ih _ (State.putCheck_wf c _ hu)
  unfold State.storeChecks
  split
  · exact fold slots t h
  · exact fold slots t h

/-- A trap entry writes no check bits where no error is in question. -/
theorem State.storeTrapChecks_clean {s : State} (t : State) (h : s.checksClean = true) : s.storeTrapChecks t = t := by
  simp [State.storeTrapChecks, h]

/-- What a trap entry does to the check bits. -/
theorem State.storeTrapChecks_eq (s t : State) : ∃ l n, s.storeTrapChecks t = { t with checks := l, oracle := n } := by
  unfold State.storeTrapChecks
  split
  · exact ⟨_, _, rfl⟩
  · exact s.storeChecks_eq t _

/-- What an instruction does under the errors of the arrays: it takes internal_processor_error, or it is itself but for the
check bits that it writes. -/
theorem State.protect_cases (s : State) (i : Instr) (r : Host.Outcome State Fault Refusal) :
    (∃ u, s.readError? i r = some u ∧ s.protect i r = .next (u.takeTrap 0x029)) ∨
    (∃ t l n, r = .next t ∧ t.taken = none ∧ s.protect i r = .next { t with checks := l, oracle := n }) ∨
    s.protect i r = r := by
  unfold State.protect
  split
  · exact .inl ⟨_, ‹_›, rfl⟩
  · split
    · split
      · obtain ⟨l, n, h⟩ := s.storeChecks_eq _ (s.slotsWritten _ i)
        exact .inr (.inl ⟨_, l, n, rfl, ‹_ ∧ _›.1, by rw [h]⟩)
      · exact .inr (.inr rfl)
    · exact .inr (.inr rfl)

end Sys2Proof.Machine
end

