-- ==== Sys2Proof/Laws/Decode.lean ====
section
/-! SUPPORT. Laws/Decode.lean: what each field reads from an encoded word, so that a proof about decoding never takes a
word apart again. -/

namespace Sys2Proof

/-- The low part of two joined bit vectors. -/
theorem extract_append_low {n m : Nat} (x : BitVec n) (y : BitVec m) :
    (x ++ y).extractLsb' 0 m = y := by
  apply BitVec.eq_of_getElem_eq
  intro i h
  simp [BitVec.getLsbD_append, h]

/-- The high part of two joined bit vectors. -/
theorem extract_append_high {n m : Nat} (x : BitVec n) (y : BitVec m) :
    (x ++ y).extractLsb' m n = x := by
  apply BitVec.eq_of_getElem_eq
  intro i h
  have : ¬ (m + i < m) := by omega
  simp [BitVec.getLsbD_append, this, BitVec.getLsbD_eq_getElem h]

/-- A slice that lies within the low part. -/
theorem extract_append_within {n m lo len : Nat} (x : BitVec n) (y : BitVec m) (h : lo + len ≤ m) :
    (x ++ y).extractLsb' lo len = y.extractLsb' lo len := by
  apply BitVec.eq_of_getElem_eq
  intro i hi
  have : lo + i < m := by omega
  simp [BitVec.getLsbD_append, this]

section
variable (op : BitVec 2) (rd : BitVec 5) (op3 : BitVec 6) (rs1 : BitVec 5) (low : BitVec 14)

@[simp] theorem opField_fmt3 : opField (fmt3 op rd op3 rs1 low) = op := by
  simp only [opField, fmt3, extract_append_high]
@[simp] theorem rdField_fmt3 : rdField (fmt3 op rd op3 rs1 low) = rd := by
  rw [rdField, fmt3, extract_append_within _ _ (by decide)]; exact extract_append_high _ _
@[simp] theorem op3Field_fmt3 : op3Field (fmt3 op rd op3 rs1 low) = op3 := by
  rw [op3Field, fmt3, extract_append_within _ _ (by decide), extract_append_within _ _ (by decide)]
  exact extract_append_high _ _
@[simp] theorem rs1Field_fmt3 : rs1Field (fmt3 op rd op3 rs1 low) = rs1 := by
  rw [rs1Field, fmt3, extract_append_within _ _ (by decide), extract_append_within _ _ (by decide),
    extract_append_within _ _ (by decide)]
  exact extract_append_high _ _
@[simp] theorem low14Field_fmt3 : low14Field (fmt3 op rd op3 rs1 low) = low := by
  rw [low14Field, fmt3, extract_append_within _ _ (by decide), extract_append_within _ _ (by decide),
    extract_append_within _ _ (by decide)]
  exact extract_append_low _ _
end

section
variable (rd : BitVec 5) (op2 : BitVec 3) (low : BitVec 22)

@[simp] theorem opField_fmt2 : opField (fmt2 rd op2 low) = 0 := by
  simp only [opField, fmt2, extract_append_high]; rfl
@[simp] theorem rdField_fmt2 : rdField (fmt2 rd op2 low) = rd := by
  rw [rdField, fmt2, extract_append_within _ _ (by decide)]; exact extract_append_high _ _
@[simp] theorem op2Field_fmt2 : op2Field (fmt2 rd op2 low) = op2 := by
  rw [op2Field, fmt2, extract_append_within _ _ (by decide), extract_append_within _ _ (by decide)]
  exact extract_append_high _ _
@[simp] theorem low22Field_fmt2 : low22Field (fmt2 rd op2 low) = low := by
  rw [low22Field, fmt2, extract_append_within _ _ (by decide), extract_append_within _ _ (by decide)]
  exact extract_append_low _ _
end

@[simp] theorem opField_call (d : BitVec 30) : opField (1#2 ++ d) = 1 := extract_append_high _ _
@[simp] theorem disp30Field_call (d : BitVec 30) : disp30Field (1#2 ++ d) = d := extract_append_low _ _

@[simp] theorem ICond.ofBits_bits (c : ICond) : ICond.ofBits c.bits = c := by cases c <;> rfl
@[simp] theorem FCond.ofBits_bits (c : FCond) : FCond.ofBits c.bits = c := by cases c <;> rfl
@[simp] theorem RCond.ofBits_bits (c : RCond) : RCond.ofBits c.bits = some c := by cases c <;> rfl
@[simp] theorem ICC.ofBits_bits (c : ICC) : ICC.ofBits c.bits = some c := by cases c <;> rfl
@[simp] theorem bitOf_bitFrom (b : Bool) : bitOf (bitFrom b) = b := by cases b <;> rfl

@[simp] theorem CondSel.ofBits_bits (c : CondSel) : CondSel.ofBits c.selBits c.condBits = some c := by
  cases c with
  | int cc c => cases cc <;> cases c <;> rfl
  | fp fcc c =>
    have h1 : (0#1 ++ fcc).extractLsb' 2 1 = 0 := extract_append_high _ _
    have h2 : (0#1 ++ fcc).extractLsb' 0 2 = fcc := extract_append_low _ _
    simp only [CondSel.ofBits, CondSel.selBits, CondSel.condBits, h1, h2, if_true, FCond.ofBits_bits]

/-- A register or simm13 operand reads back from its own bits. -/
@[simp] theorem withRegImm_bits (o : RegImm) (k : RegImm → Instr) : withRegImm o.bits k = .ok (k o) := by
  cases o with
  | reg rs2 =>
    have h1 : (0#1 ++ (0#8 ++ rs2)).extractLsb' 13 1 = 0#1 := extract_append_high _ _
    have h2 : (0#1 ++ (0#8 ++ rs2)).extractLsb' 5 8 = 0#8 := by
      rw [extract_append_within _ _ (by decide)]; exact extract_append_high _ _
    have h3 : (0#1 ++ (0#8 ++ rs2)).extractLsb' 0 5 = rs2 := by
      rw [extract_append_within _ _ (by decide)]; exact extract_append_low _ _
    simp [withRegImm, RegImm.bits, iBit, mid8Of, rs2Of, h1, h2, h3, bitOf, ifZero]
  | imm s =>
    have h1 : (1#1 ++ s).extractLsb' 13 1 = 1#1 := extract_append_high _ _
    have h2 : (1#1 ++ s).extractLsb' 0 13 = s := extract_append_low _ _
    simp [withRegImm, RegImm.bits, iBit, simm13Of, h1, h2, bitOf]

/-- An alternate-space operand reads back from its own bits. -/
@[simp] theorem altAddrOf_bits (a : AltAddr) : altAddrOf a.bits = a := by
  cases a with
  | immAsi asi rs2 =>
    have h1 : (0#1 ++ (asi ++ rs2)).extractLsb' 13 1 = 0#1 := extract_append_high _ _
    have h2 : (0#1 ++ (asi ++ rs2)).extractLsb' 5 8 = asi := by
      rw [extract_append_within _ _ (by decide)]; exact extract_append_high _ _
    have h3 : (0#1 ++ (asi ++ rs2)).extractLsb' 0 5 = rs2 := by
      rw [extract_append_within _ _ (by decide)]; exact extract_append_low _ _
    simp [altAddrOf, AltAddr.bits, iBit, mid8Of, rs2Of, h1, h2, h3, bitOf]
  | asiReg s =>
    have h1 : (1#1 ++ s).extractLsb' 13 1 = 1#1 := extract_append_high _ _
    have h2 : (1#1 ++ s).extractLsb' 0 13 = s := extract_append_low _ _
    simp [altAddrOf, AltAddr.bits, iBit, simm13Of, h1, h2, bitOf]

/-- `opf` and `rs2` read back from their own bits. -/
@[simp] theorem opfOf_append (opf : BitVec 9) (rs2 : Reg) : opfOf (opf ++ rs2) = opf := extract_append_high _ _
@[simp] theorem rs2Of_append (opf : BitVec 9) (rs2 : Reg) : rs2Of (opf ++ rs2) = rs2 := extract_append_low _ _

end Sys2Proof
end

