-- ==== Sys2Proof/Laws/Outcome.lean ====
section
/-! SUPPORT. Laws/Outcome.lean: the parts of an instruction put together: what a sequence, a list of checks, an outcome and
a trap entry can be. -/

namespace Sys2Proof.Machine

section
variable {α β : Type}

@[simp] theorem Res.bind_ok (a : α) (s : State) (k : α → State → Res β) : (Res.ok a s).bind k = k a s := rfl
@[simp] theorem Res.bind_trap (tt : BitVec 9) (s : State) (k : α → State → Res β) :
    (Res.trap tt s).bind k = .trap tt s := rfl
@[simp] theorem Res.bind_hang (s : State) (k : α → State → Res β) : (Res.hang s : Res α).bind k = .hang s := rfl
@[simp] theorem Res.bind_refuse (r : Refusal) (k : α → State → Res β) : (Res.refuse r).bind k = .refuse r := rfl
@[simp] theorem Res.bind_fault (f : Fault) (k : α → State → Res β) : (Res.fault f).bind k = .fault f := rfl

/-- A sequence completes if both parts do. -/
theorem Res.bind_eq_ok {x : Res α} {k : α → State → Res β} {b : β} {t : State} :
    x.bind k = .ok b t ↔ ∃ a s, x = .ok a s ∧ k a s = .ok b t := by
  cases x <;> simp [Res.bind]

/-- A sequence traps in its first part or in its second. -/
theorem Res.bind_eq_trap {x : Res α} {k : α → State → Res β} {tt : BitVec 9} {t : State} :
    x.bind k = .trap tt t ↔ x = .trap tt t ∨ ∃ a s, x = .ok a s ∧ k a s = .trap tt t := by
  cases x <;> simp [Res.bind]

@[simp] theorem firstTrap_nil (s : State) (k : Res α) : firstTrap s [] k = k := rfl

/-- The first check that holds. -/
@[simp] theorem firstTrap_true (s : State) (tt : BitVec 9) (rest : List (Bool × BitVec 9)) (k : Res α) :
    firstTrap s ((true, tt) :: rest) k = .trap tt s := rfl

/-- A check that does not hold. -/
@[simp] theorem firstTrap_false (s : State) (tt : BitVec 9) (rest : List (Bool × BitVec 9)) (k : Res α) :
    firstTrap s ((false, tt) :: rest) k = firstTrap s rest k := rfl

/-- A list of checks lets the rest run if none holds, and else raises one of its traps. -/
theorem firstTrap_cases (s : State) (checks : List (Bool × BitVec 9)) (k : Res α) :
    (firstTrap s checks k = k ∧ ∀ c ∈ checks, c.1 = false) ∨
      ∃ tt, (true, tt) ∈ checks ∧ firstTrap s checks k = .trap tt s := by
  induction checks with
  | nil => exact .inl ⟨rfl, by simp⟩
  | cons c rest ih =>
    obtain ⟨b, tt⟩ := c
    cases b with
    | true => exact .inr ⟨tt, by simp, rfl⟩
    | false =>
      rcases ih with ⟨h1, h2⟩ | ⟨tt', h1, h2⟩
      · exact .inl ⟨h1, by simpa using h2⟩
      · exact .inr ⟨tt', by simp [h1], h2⟩

/-- Checks that pass. -/
theorem firstTrap_eq_ok {s : State} {checks : List (Bool × BitVec 9)} {k : Res α} {a : α} {t : State}
    (h : firstTrap s checks k = .ok a t) : k = .ok a t ∧ ∀ c ∈ checks, c.1 = false := by
  rcases firstTrap_cases s checks k with ⟨h1, h2⟩ | ⟨tt, _, h2⟩
  · exact ⟨h1 ▸ h, h2⟩
  · rw [h2] at h; cases h

/-- Checks that fail, or a rest that traps. -/
theorem firstTrap_eq_trap {s : State} {checks : List (Bool × BitVec 9)} {k : Res α} {tt : BitVec 9} {t : State}
    (h : firstTrap s checks k = .trap tt t) : k = .trap tt t ∨ t = s := by
  rcases firstTrap_cases s checks k with ⟨h1, _⟩ | ⟨tt', _, h2⟩
  · exact .inl (h1 ▸ h)
  · rw [h2] at h; cases h; exact .inr rfl

end

@[simp] theorem Res.outcome_ok (u : Unit) (s : State) : (Res.ok u s).outcome = .next s := rfl
@[simp] theorem Res.outcome_trap (tt : BitVec 9) (s : State) : (Res.trap tt s).outcome = .next (s.takeTrap tt) := rfl
@[simp] theorem Res.outcome_hang (s : State) : (Res.hang s).outcome = .next { s with run := .hung } := rfl
@[simp] theorem Res.outcome_refuse (r : Refusal) : (Res.refuse r).outcome = .refused r := rfl
@[simp] theorem Res.outcome_fault (f : Fault) : (Res.fault f).outcome = .fault f := rfl

/-- A next state is that of an instruction that completes, of the trap it raises, or of one whose access is never answered. -/
theorem Res.outcome_eq_next {r : Res Unit} {t : State} (h : r.outcome = .next t) :
    r = .ok () t ∨ (∃ tt s, r = .trap tt s ∧ t = s.takeTrap tt) ∨ ∃ s, r = .hang s ∧ t = { s with run := .hung } := by
  cases r with
  | ok u s => cases h; exact .inl rfl
  | trap tt s => cases h; exact .inr (.inl ⟨tt, s, rfl, rfl⟩)
  | hang s => cases h; exact .inr (.inr ⟨s, rfl, rfl⟩)
  | refuse r => cases h
  | fault f => cases h

/-! ## Trap entry -/

/-- Where a trap goes, and what the entry is: every case of R1320. -/
theorem State.takeTrap_cases (s : State) (tt : BitVec 9) :
    (trapDest tt s = .priv ∧ s.takeTrap tt = s.enterPriv tt) ∨ (trapDest tt s = .hyper ∧ s.takeTrap tt = s.enterHyper tt tt) ∨
      (trapDest tt s = .guestWatchdog ∧ s.takeTrap tt = s.enterHyper tt 2) ∨
      (trapDest tt s = .red ∧ s.takeTrap tt = { s.enterRed tt 0xA0 with undrained := [] }) ∨
      (trapDest tt s = .watchdog ∧ s.takeTrap tt = s.enterRed tt 0x40) := by
  unfold State.takeTrap
  cases trapDest tt s <;> simp

/-- A trap that is taken is recorded. -/
@[simp] theorem State.takeTrap_taken (s : State) (tt : BitVec 9) : (s.takeTrap tt).taken = some tt := by
  rcases s.takeTrap_cases tt with ⟨_, h⟩ | ⟨_, h⟩ | ⟨_, h⟩ | ⟨_, h⟩ | ⟨_, h⟩ <;> rw [h] <;> rfl

/-- What no trap entry changes: the integer and floating-point registers with their state registers, the timers, the MMU,
the error, interrupt and CMT registers, and memory. -/
theorem State.takeTrap_keeps (s : State) (tt : BitVec 9) :
    let t := s.takeTrap tt
    t.regs = s.regs ∧ t.y = s.y ∧ t.ccr = s.ccr ∧ t.asi = s.asi ∧ t.fprs = s.fprs ∧ t.fregs = s.fregs ∧ t.fsr = s.fsr ∧
      t.gsr = s.gsr ∧ t.pcr = s.pcr ∧ t.pic = s.pic ∧ t.pil = s.pil ∧ t.tba = s.tba ∧ t.htba = s.htba ∧ t.tim = s.tim ∧
      t.scratch = s.scratch ∧ t.watch = s.watch ∧ t.mmu = s.mmu ∧ t.itlb = s.itlb ∧ t.dtlb = s.dtlb ∧ t.err = s.err ∧
      t.dbg = s.dbg ∧ t.intr = s.intr ∧ t.cmt = s.cmt ∧ t.run = s.run ∧ t.chipReset = s.chipReset ∧
      t.xirPending = s.xirPending ∧ t.debugWait = s.debugWait ∧ t.trigout = s.trigout ∧ t.csr = s.csr ∧
      t.rom = s.rom ∧ t.mem = s.mem ∧ t.storeError = s.storeError ∧ t.notData = s.notData ∧ t.l1d = s.l1d ∧ t.l1i = s.l1i ∧
      t.intManSet = s.intManSet ∧ t.unreported = s.unreported ∧
      t.realign = s.realign ∧ t.linkLine = s.linkLine ∧ t.events = s.events ∧ t.oracle = s.oracle := by
  rcases s.takeTrap_cases tt with ⟨_, h⟩ | ⟨_, h⟩ | ⟨_, h⟩ | ⟨_, h⟩ | ⟨_, h⟩ <;> rw [h] <;>
    exact ⟨rfl, rfl, rfl, rfl, rfl, rfl, rfl, rfl, rfl, rfl, rfl, rfl, rfl, rfl, rfl, rfl, rfl, rfl, rfl, rfl, rfl, rfl, rfl,
      rfl, rfl, rfl, rfl, rfl, rfl, rfl, rfl, rfl, rfl, rfl, rfl, rfl, rfl, rfl, rfl, rfl, rfl⟩

/-! ## The two ends of an access -/

/-- An aligned address lets the access go on. -/
theorem State.align_of_mod {α : Type} (s : State) {ea : Word} {n : Nat} (k : Res α)
    (h : (ea.extractLsb' 0 6).toNat % n = 0) : s.align ea n k = k := if_pos h

/-- An access goes on or traps on its address. -/
theorem State.align_cases {α : Type} (s : State) (ea : Word) (n : Nat) (k : Res α) :
    s.align ea n k = k ∨ s.align ea n k = .trap 0x034 (s.setDsfar ea) := by
  unfold State.align; split <;> simp

/-- A doubleword floating-point access goes on or traps on its address. -/
theorem State.alignD_cases {α : Type} (s : State) (ea : Word) (tt : BitVec 9) (k : Res α) :
    s.alignD ea tt k = k ∨ s.alignD ea tt k = .trap tt (s.setDsfar ea) ∨ s.alignD ea tt k = .trap 0x034 (s.setDsfar ea) := by
  unfold State.alignD; split <;> [simp; (split <;> simp)]

/-- An instruction that needs the floating-point unit goes on or traps. -/
theorem State.needsFp_cases {α : Type} (s : State) (k : Res α) :
    (s.fpEnabled = true ∧ s.needsFp k = k) ∨ (s.fpEnabled = false ∧ s.needsFp k = .trap 0x020 s) := by
  unfold State.needsFp; cases s.fpEnabled <;> simp

/-- A taken transfer completes or raises one of its traps. -/
theorem State.transfer_cases (s : State) (target : Word) (next : State) :
    s.transfer target next = .ok () next ∨ s.transfer target next = .trap 0x074 s ∨
      s.transfer target next = .trap 0x02D (s.setDsfar target) ∨ s.transfer target next = .trap 0x02E (s.setDsfar target) := by
  unfold State.transfer; split <;> [simp; (split <;> [(split <;> simp); simp])]

/-- The end of a floating-point operation: disabled, unfinished, an enabled exception, or its flags and its result
(spec/44_float.md R1064). -/
theorem State.fpop_cases {α : Type} (s : State) (r : FpResult α) (write : State → α → State) :
    s.fpop r write = .trap 0x020 s ∨ s.fpop r write = .trap 0x022 (s.setExceptions 2 s.fsr.cexc s.fsr.aexc) ∨
      (∃ e, s.fpop r write = .trap 0x021 (s.setExceptions 1 (reportedException e s.fsr.tem) s.fsr.aexc)) ∨
      ∃ v e, s.fpop r write = .ok () (write (s.setExceptions 0 e (s.fsr.aexc ||| e)) v).advance := by
  unfold State.fpop
  split
  · exact .inl rfl
  · cases r with
    | unfinished => exact .inr (.inl rfl)
    | value v e =>
      simp only
      split
      · exact .inr (.inr (.inl ⟨e, rfl⟩))
      · exact .inr (.inr (.inr ⟨v, e, rfl⟩))

end Sys2Proof.Machine
end

