-- ==== Sys2Proof/Laws/Registers.lean ====
section
/-! SUPPORT. Laws/Registers.lean: reading a register after a write of one, for the integer registers with their windows and
for the two views of the floating-point file; and what the ends of an instruction write. -/

namespace Sys2Proof

/-! ## Register files -/

/-- Reading the entry just written. -/
@[simp] theorem fileGet_fileSet {n : Nat} {α : Type} (f : File n α) (i : BitVec n) (x : α) :
    fileGet (fileSet f i x) i = x := by
  simp [fileGet, fileSet]

/-- Reading another entry. -/
theorem fileGet_fileSet_ne {n : Nat} {α : Type} (f : File n α) {i j : BitVec n} (x : α) (h : j ≠ i) :
    fileGet (fileSet f i x) j = fileGet f j := by
  have : i.toNat ≠ j.toNat := fun e => h (BitVec.eq_of_toNat_eq e.symm)
  simp [fileGet, fileSet, Vector.getElem_set_ne, this]

/-- Every entry of a constant file. -/
@[simp] theorem fileGet_fileOf {n : Nat} {α : Type} (x : α) (i : BitVec n) : fileGet (fileOf n x) i = x := by
  simp [fileGet, fileOf]

/-- Every entry of a file under a function. -/
@[simp] theorem fileGet_map {n : Nat} {α : Type} (f : File n α) (g : α → α) (i : BitVec n) :
    fileGet (f.map g) i = g (fileGet f i) := by
  simp [fileGet]

namespace Machine

/-! ## Integer registers -/

/-- A storage place read after it is written. -/
@[simp] theorem IntRegs.get_set (f : IntRegs) (k : RegSlot) (v : Word) :
    (f.set k v).get k = if k = .zero then 0 else v := by
  cases k <;> simp [IntRegs.get, IntRegs.set]

/-- A storage place read after another is written. -/
theorem IntRegs.get_set_ne (f : IntRegs) {k j : RegSlot} (v : Word) (h : j ≠ k) : (f.set k v).get j = f.get j := by
  cases k <;> cases j <;> simp_all [IntRegs.get, IntRegs.set, fileGet_fileSet_ne]

/-- The registers of one window lie at different places. -/
theorem regSlot_inj {gl : BitVec 2} {cwp : BitVec 3} {r r' : Reg} (h : regSlot gl cwp r = regSlot gl cwp r') : r = r' := by
  revert gl cwp r r'
  decide +kernel

/-- Only `r[0]` lies nowhere. -/
theorem regSlot_eq_zero {gl : BitVec 2} {cwp : BitVec 3} {r : Reg} : regSlot gl cwp r = .zero ↔ r = 0 := by
  revert gl cwp r
  decide +kernel

/-- `r[0]` reads 0 (spec/10_state.md R52). -/
@[simp] theorem State.reg_zero (s : State) : s.reg 0 = 0 := rfl

/-- The register written, read back. -/
theorem State.reg_setReg (s : State) (rd : Reg) (v : Word) : (s.setReg rd v).reg rd = if rd = 0 then 0 else v := by
  simp [State.reg, State.setReg, State.slot, regSlot_eq_zero]

/-- Another register of the window. -/
theorem State.reg_setReg_ne (s : State) {rd r : Reg} (v : Word) (h : r ≠ rd) : (s.setReg rd v).reg r = s.reg r :=
  IntRegs.get_set_ne _ _ fun e => h (regSlot_inj e)

/-- What `finish` leaves in the registers. -/
theorem wroteReg_setReg (b : State) (rd : Reg) (v : Word) {t : State} (hr : t.regs = (b.setReg rd v).regs)
    (hw : t.win = b.win) (hg : t.gl = b.gl) : WroteReg b t rd v := by
  have reg (r : Reg) : t.reg r = (b.setReg rd v).reg r := by simp [State.reg, State.slot, hr, hw, hg, State.setReg]
  exact ⟨by rw [reg, State.reg_setReg], fun r h => by rw [reg, State.reg_setReg_ne _ _ h],
    fun k h => by rw [hr]; exact IntRegs.get_set_ne _ _ h⟩

/-- An instruction that ends in `finish` writes its register and nothing else. -/
theorem writes_of_finish {i : Instr} {s b : State} {rd : Reg} {v : Word} (h : exec i s = (b.finish rd v).outcome)
    (hp : b.npc = s.npc) (hm : b.mem = s.mem) : Writes i s b rd v := by
  refine ⟨(b.setReg rd v).advance, h, wroteReg_setReg b rd v rfl rfl rfl, ?_, ?_⟩
  · simp [State.advance, State.setReg, hp]
  · intro a; simp [State.readByte, hm]

/-- An instruction that ends in `finishCc` writes its register and the condition codes. -/
theorem writes_of_finishCc {i : Instr} {s b : State} {rd : Reg} {v : Word} {c : BitVec 8}
    (h : exec i s = (b.finishCc rd v c).outcome) (hp : b.npc = s.npc) (hm : b.mem = s.mem) :
    Writes i s (b.setCcr c) rd v := by
  refine ⟨((b.setReg rd v).setCcr c).advance, h, wroteReg_setReg (b.setCcr c) rd v rfl rfl rfl, ?_, ?_⟩
  · simp [State.advance, State.setReg, State.setCcr, hp]
  · intro a; simp [State.readByte, hm]

/-! ## Floating-point registers -/

/-- What a single-precision write leaves in the file. -/
theorem wroteSingle_setF32 (b : State) (rd : Reg) (v : Word32) {t : State} (hf : t.fregs = (b.setF32 rd v).fregs)
    (hd : t.fprs = (b.setF32 rd v).fprs) : WroteSingle b t rd v :=
  ⟨by simp [State.f32, hf], fun k h => by rw [hf]; exact fileGet_fileSet_ne _ _ h, by rw [hd]; rfl⟩

/-- The two words of a doubleword join again. -/
theorem join_halves (v : Word) : v.extractLsb' 32 32 ++ v.extractLsb' 0 32 = v := by
  apply BitVec.eq_of_getLsbD_eq
  intro i h
  rw [BitVec.getLsbD_append]
  by_cases hi : i < 32
  · simp [hi]
  · simp [hi, show 32 + (i - 32) = i by omega, show i - 32 < 32 by omega]

/-- The two registers of a pair are different. -/
theorem pair_ne (d : BitVec 5) : d ++ 0#1 ≠ d ++ 1#1 := by revert d; decide

/-- The register of a pair that a number outside it cannot be. -/
theorem ne_of_pair {k : BitVec 6} {d : BitVec 5} (h : k.extractLsb' 1 5 ≠ d) : k ≠ d ++ 0#1 ∧ k ≠ d ++ 1#1 := by
  revert k d; decide +kernel

/-- The upper half of the file is what an odd field names. -/
theorem doublePair_upper (rd : Reg) : bitAt (doublePair rd) 4 = bitAt rd 0 := by revert rd; decide

/-- What a double-precision write leaves in the file. -/
theorem wroteDouble_setF64 (b : State) (rd : Reg) (v : Word) {t : State} (hf : t.fregs = (b.setF64 rd v).fregs)
    (hd : t.fprs = (b.setF64 rd v).fprs) : WroteDouble b t rd v := by
  refine ⟨?_, fun k h => ?_, ?_⟩
  · simp only [State.f64, State.pair, hf, State.setF64, State.setPair_fregs, fileGet_fileSet]
    rw [fileGet_fileSet_ne _ _ (pair_ne _), fileGet_fileSet, join_halves]
  · rw [hf, State.setF64, State.setPair_fregs, fileGet_fileSet_ne _ _ (ne_of_pair h).2,
      fileGet_fileSet_ne _ _ (ne_of_pair h).1]
  · rw [hd, State.setF64, State.setPair_fprs, dirty, doublePair_upper]

/-! ## The strand among those of the chip -/

/-- The strand of this model is one of an available core, whichever cores are. -/
theorem ownBit_available : coreAvailable &&& ownBit = ownBit ∧ ownBit ≠ 0 := by
  have all : ∀ cores : BitVec 8,
      let present := if cores = 0 then 0xFF else cores
      let available : Word :=
        (List.range 8).foldl (fun acc c => if present.getLsbD c then acc ||| ((0xFF : Word) <<< (8 * c)) else acc) 0
      let own : Word := 1 <<< (BitVec.ofNat 6 (8 * lowestCore present)).toNat
      available &&& own = own ∧ own ≠ 0 := by decide +kernel
  exact all Config.coresAvailable

end Machine

end Sys2Proof
end

