-- ==== Sys2Proof/Tests/Slice0.lean ====
section
/-! SUPPORT. Tests/Slice0.lean: checks of the model. The ill-formed terms; a word of every instruction, written from its
encoding; the worked examples of the spec; and, for the statements of Certificates/Slice0/Obligations.lean, states and
operands that meet their hypotheses. -/

namespace Sys2Proof.Tests

open Sys2Proof Sys2Proof.Machine

set_option maxRecDepth 100000

-- One thread: the kernel evaluates these theorems one after another.
set_option Elab.async false

noncomputable section

/-! ## Well-formed terms -/

/-- A term that each check of WellFormed.lean refuses: the SETHI that is NOP, an ASI outside its class, at both ends of the
class, and an ASI class that is another row. -/
theorem test_ill_formed_terms : ∀ i ∈ ([
    .sethi 0 0, .ldtwa 2 1 (.immAsi 0x22 0), .ldtwa 2 1 (.immAsi 0xEB 0),
    .lddfa 0 1 (.immAsi 0xF0 0), .lddfa 0 1 (.immAsi 0xD0 0), .lddfa 0 1 (.immAsi 0x16 0),
    .stdfa 0 1 (.immAsi 0xE0 0), .stdfa 0 1 (.immAsi 0xC5 0), .stdfa 0 1 (.immAsi 0xCD 0), .stdfa 0 1 (.immAsi 0xDB 0),
    .ldtxa 2 1 0x25 0, .ldtxa 2 1 0x80 0, .ldblockf 0 1 0x18 0, .ldblockf 0 1 0xC0 0, .stblockf 0 1 0xF2 0,
    .stpartialf 0 1 0xC6 0, .stpartialf 0 1 0xCE 0, .stpartialf 0 1 0xBF 0, .ldshortf 0 1 0xD4 0, .ldshortf 0 1 0xDC 0,
    .stshortf 0 1 0xCF 0, .stshortf 0 1 0x80 0] : List Instr), i.wellFormed = false := by decide +kernel

/-- Their neighbours that are well-formed. -/
theorem test_well_formed_terms : ∀ i ∈ ([
    .nop, .sethi 1 0, .sethi 0 1, .ldtwa 2 1 (.immAsi 0x25 0), .ldtwa 2 1 (.asiReg 0), .lddfa 0 1 (.immAsi 0xD4 0),
    .lddfa 0 1 (.immAsi 0xC0 0), .stdfa 0 1 (.immAsi 0xC6 0), .ldtxa 2 1 0xEB 0, .ldblockf 0 1 0x1F 0,
    .stblockf 0 1 0xE1 0, .stpartialf 0 1 0xCD 0, .ldshortf 0 1 0xDB 0, .stshortf 0 1 0xD0 0, .casa 0 0 .asiReg 0,
    .tcc .n .icc 0 (.imm 255)] : List Instr), i.wellFormed = true := by decide +kernel

/-! ## A word of every instruction -/

/-- Formats 1 and 2 (spec/30_encoding.md R625, R626): the examples of spec/41_control_transfer.md and spec/40_integer.md. -/
theorem test_decode_branches_and_sethi : ∀ p ∈ ([
    (0x40000040, .call 0x40), ((0b00#2 ++ 7#5 ++ 0b000#3 ++ 0x155#22), .illtrap 7 0x155),
    (0x12680002, .bpcc false .ne .xcc true 2), (0x26680003, .bpcc true .l .xcc true 3),
    (0x12800004, .bicc false .ne 4), (0x30800002, .bicc true .a 2), (0x02C84002, .bpr false .z true 1 2),
    (0x01000000, .nop), (0x033FFFFF, .sethi 1 0x3FFFFF), (0x13580002, .fbpfcc false .e 1 true 2),
    (0x03800002, .fbfcc false .ne 2)] : List (Word32 × Instr)),
    decode p.1 = .ok p.2 ∧ encode p.2 = p.1 := by decide +kernel

/-- Integer instructions: op = 2, R630, R632, R665, R667 of spec/30_encoding.md; the words are the examples of
spec/40_integer.md. -/
theorem test_decode_integer : ∀ p ∈ ([
    (0x86004002, .add 3 1 (.reg 2)), (0x86084002, .andI 3 1 (.reg 2)), (0x86104002, .orI 3 1 (.reg 2)),
    (0x86184002, .xorI 3 1 (.reg 2)), (0x86204002, .sub 3 1 (.reg 2)), (0x86284002, .andn 3 1 (.reg 2)),
    (0x86304002, .orn 3 1 (.reg 2)), (0x86384002, .xnor 3 1 (.reg 2)), (0x86404002, .addc 3 1 (.reg 2)),
    (0x86484002, .mulx 3 1 (.reg 2)), (0x86504002, .umul 3 1 (.reg 2)), (0x86584002, .smul 3 1 (.reg 2)),
    (0x86604002, .subc 3 1 (.reg 2)), (0x86684002, .udivx 3 1 (.reg 2)), (0x86704002, .udiv 3 1 (.reg 2)),
    (0x86784002, .sdiv 3 1 (.reg 2)), (0x84807FFF, .addcc 2 1 (.imm 0x1FFF)), (0x86804002, .addcc 3 1 (.reg 2)),
    (0x86884002, .andcc 3 1 (.reg 2)), (0x86904002, .orcc 3 1 (.reg 2)), (0x86984002, .xorcc 3 1 (.reg 2)),
    (0x80A04002, .subcc 0 1 (.reg 2)), (0x86A04002, .subcc 3 1 (.reg 2)), (0x86A84002, .andncc 3 1 (.reg 2)),
    (0x86B04002, .orncc 3 1 (.reg 2)), (0x86B84002, .xnorcc 3 1 (.reg 2)), (0x86C04002, .addccc 3 1 (.reg 2)),
    (0x86D04002, .umulcc 3 1 (.reg 2)), (0x86D84002, .smulcc 3 1 (.reg 2)), (0x86E04002, .subccc 3 1 (.reg 2)),
    (0x86F04002, .udivcc 3 1 (.reg 2)), (0x86F84002, .sdivcc 3 1 (.reg 2)), (0x87004002, .taddcc 3 1 (.reg 2)),
    (0x87084002, .tsubcc 3 1 (.reg 2)), (0x87104002, .taddcctv 3 1 (.reg 2)), (0x87184002, .tsubcctv 3 1 (.reg 2)),
    (0x87204002, .mulscc 3 1 (.reg 2)), (0x87684002, .sdivx 3 1 (.reg 2)), (0x85286005, .sll 2 1 (.imm 0x5)),
    (0x85287028, .sllx 2 1 (.imm 0x28)), (0x87304002, .srl 3 1 (.reg 2)), (0x8530703F, .srlx 2 1 (.imm 0x3F)),
    (0x85386000, .sra 2 1 (.imm 0x0)), (0x85387004, .srax 2 1 (.imm 0x4)), (0x87700002, .popc 3 (.reg 2)),
    (0x87665002, .movcc 3 (.int .xcc .ne) (.reg 2)), (0x876467FF, .movcc 3 (.int .icc .e) (.imm 0x7FF)),
    ((0b10#2 ++ 3#5 ++ 0x2C#6 ++ 0b0#1 ++ 5#4 ++ 0#1 ++ 0b10#2 ++ 0#6 ++ 2#5), .movcc 3 (.fp 2 .ug) (.reg 2)),
    (0x87784402, .movr 3 1 .z (.reg 2)), (0x87786FFB, .movr 3 1 .lz (.imm 0x3FB))] : List (Word32 × Instr)),
    decode p.1 = .ok p.2 ∧ encode p.2 = p.1 := by decide +kernel

/-- Control transfers, windows, barriers, SIR and IMPDEP2: the words of spec/41_control_transfer.md,
spec/42_load_store.md R952, R953 and spec/43_state_access.md R1045. -/
theorem test_decode_control_and_windows : ∀ p ∈ ([
    (0x81C3E008, .jmpl 0 15 (.imm 0x8)), (0x81C7E008, .jmpl 0 31 (.imm 0x8)), (0x81CFE008, .returnI 31 (.imm 0x8)),
    (0x91D02010, .tcc .a .icc 0 (.imm 0x10)), (0x91D02080, .tcc .a .icc 0 (.imm 0x80)),
    ((0b10#2 ++ 0#1 ++ 3#4 ++ 0x3A#6 ++ 1#5 ++ 0#1 ++ 0b10#2 ++ 0#6 ++ 2#5), .tcc .l .xcc 1 (.reg 2)),
    (0x9DE3BF50, .save 14 14 (.imm 0x1F50)), (0x81E80000, .restore 0 0 (.reg 0)), (0x81F00000, .done),
    (0x83F00000, .retry), (0x81880000, .saved), (0x83880000, .restored), (0x85880000, .allclean),
    (0x87880000, .otherw), (0x89880000, .normalw), (0x8B880000, .invalw), (0x81580000, .flushw),
    (0x8143C000, .stbar), (0x8143E040, .membar 4 0), (0x8143E002, .membar 0 2), (0x9F802000, .sir 0),
    (0x81D86000, .flush 1 (.imm 0)), ((0b10#2 ++ 9#5 ++ 0x37#6 ++ 0x12345#19), .impdep2 9 0x12345)] : List (Word32 × Instr)),
    decode p.1 = .ok p.2 ∧ encode p.2 = p.1 := by decide +kernel

/-- The reads of state registers: the words that the tables of spec/43_state_access.md R995, R1011 and R1030 print. -/
theorem test_decode_state_reads : ∀ p ∈ ([
    (0x83400000, .rdY 1), (0x83408000, .rdCcr 1), (0x8340C000, .rdAsi 1), (0x83410000, .rdTick 1),
    (0x83414000, .rdPc 1), (0x83418000, .rdFprs 1), (0x83440000, .rdPcr 1), (0x83444000, .rdPic 1),
    (0x8344C000, .rdGsr 1), (0x83458000, .rdSoftint 1), (0x8345C000, .rdTickCmpr 1), (0x83460000, .rdStick 1),
    (0x83464000, .rdStickCmpr 1), (0x83500000, .rdprTpc 1), (0x83504000, .rdprTnpc 1), (0x83508000, .rdprTstate 1),
    (0x8350C000, .rdprTt 1), (0x83510000, .rdprTick 1), (0x83514000, .rdprTba 1), (0x83518000, .rdprPstate 1),
    (0x8351C000, .rdprTl 1), (0x83520000, .rdprPil 1), (0x83524000, .rdprCwp 1), (0x83528000, .rdprCansave 1),
    (0x8352C000, .rdprCanrestore 1), (0x83530000, .rdprCleanwin 1), (0x83534000, .rdprOtherwin 1),
    (0x83538000, .rdprWstate 1), (0x83540000, .rdprGl 1), (0x83480000, .rdhprHpstate 1),
    (0x83484000, .rdhprHtstate 1), (0x8348C000, .rdhprHintp 1), (0x83494000, .rdhprHtba 1),
    (0x83498000, .rdhprHver 1), (0x834F8000, .rdhprHalt 1), (0x834FC000, .rdhprHstickCmpr 1)] : List (Word32 × Instr)),
    decode p.1 = .ok p.2 ∧ encode p.2 = p.1 := by decide +kernel

/-- The writes of state registers: the words of the same tables and of R1000, R1040. -/
theorem test_decode_state_writes : ∀ p ∈ ([
    (0x81806000, .wrY 1 (.imm 0)), (0x85806000, .wrCcr 1 (.imm 0)), (0x87806000, .wrAsi 1 (.imm 0)),
    (0x89806000, .wrTick 1 (.imm 0)), (0x8D806000, .wrFprs 1 (.imm 0)), (0xA1806000, .wrPcr 1 (.imm 0)),
    (0xA3806000, .wrPic 1 (.imm 0)), (0xA7806000, .wrGsr 1 (.imm 0)), (0xA9806000, .wrSoftintSet 1 (.imm 0)),
    (0xAB806000, .wrSoftintClr 1 (.imm 0)), (0xAD806000, .wrSoftint 1 (.imm 0)),
    (0xAF806000, .wrTickCmpr 1 (.imm 0)), (0xB1806000, .wrStick 1 (.imm 0)), (0xB3806000, .wrStickCmpr 1 (.imm 0)),
    (0x81906000, .wrprTpc 1 (.imm 0)), (0x83906000, .wrprTnpc 1 (.imm 0)), (0x85906000, .wrprTstate 1 (.imm 0)),
    (0x87906000, .wrprTt 1 (.imm 0)), (0x89906000, .wrprTick 1 (.imm 0)), (0x8B906000, .wrprTba 1 (.imm 0)),
    (0x8D906000, .wrprPstate 1 (.imm 0)), (0x8F906000, .wrprTl 1 (.imm 0)), (0x91906000, .wrprPil 1 (.imm 0)),
    (0x93906000, .wrprCwp 1 (.imm 0)), (0x95906000, .wrprCansave 1 (.imm 0)),
    (0x97906000, .wrprCanrestore 1 (.imm 0)), (0x99906000, .wrprCleanwin 1 (.imm 0)),
    (0x9B906000, .wrprOtherwin 1 (.imm 0)), (0x9D906000, .wrprWstate 1 (.imm 0)), (0xA1902001, .wrprGl 0 (.imm 0x1)),
    (0xA1906000, .wrprGl 1 (.imm 0)), (0x81986000, .wrhprHpstate 1 (.imm 0)), (0x83986000, .wrhprHtstate 1 (.imm 0)),
    (0x87986000, .wrhprHintp 1 (.imm 0)), (0x8B986000, .wrhprHtba 1 (.imm 0)), (0x8D986000, .wrhprHver 1 (.imm 0)),
    (0xBD982000, .halt 0 (.imm 0x0)), (0xBD986000, .halt 1 (.imm 0)), (0xBF986000, .wrhprHstickCmpr 1 (.imm 0))] : List (Word32 × Instr)),
    decode p.1 = .ok p.2 ∧ encode p.2 = p.1 := by decide +kernel

/-- FPop1 and FPop2, R670, R671; the words are the examples of spec/44_float.md. -/
theorem test_decode_floating_point : ∀ p ∈ ([
    (0x87A00022, .fmovs 3 2), (0x89A00042, .fmovd 4 2), (0x87A000A2, .fnegs 3 2), (0x89A000C2, .fnegd 4 2),
    (0x87A00122, .fabss 3 2), (0x89A00142, .fabsd 4 2), (0x87A00522, .fsqrts 3 2), (0x89A00542, .fsqrtd 4 2),
    (0x87A04822, .fadds 3 1 2), (0x89A00842, .faddd 4 0 2), (0xBFA04843, .faddd 31 1 3), (0x87A048A2, .fsubs 3 1 2),
    (0x89A008C2, .fsubd 4 0 2), (0x87A04922, .fmuls 3 1 2), (0x89A00942, .fmuld 4 0 2), (0x87A049A2, .fdivs 3 1 2),
    (0x89A009C2, .fdivd 4 0 2), ((0b10#2 ++ 4#5 ++ 0x34#6 ++ 1#5 ++ 0x069#9 ++ 2#5), .fsmuld 4 1 2),
    (0x87A01022, .fstox 3 2), (0x89A01042, .fdtox 4 2), (0x87A01082, .fxtos 3 2), (0x89A01102, .fxtod 4 2),
    (0x87A01882, .fitos 3 2), (0x89A018C2, .fdtos 4 2), (0x87A01902, .fitod 3 2),
    ((0b10#2 ++ 4#5 ++ 0x34#6 ++ 0#5 ++ 0x0C8#9 ++ 2#5), .fitod 4 2), (0x87A01922, .fstod 3 2),
    (0x87A01A22, .fstoi 3 2), (0x89A01A42, .fdtoi 4 2), (0x81A84A22, .fcmps 0 1 2), (0x87A80A42, .fcmpd 3 0 2),
    (0x83A84AA2, .fcmpes 1 1 2), (0x81A80AC2, .fcmped 0 0 2), (0x87A86022, .fmovscc 3 (.int .icc .e) 2),
    (0x87A8D022, .fmovscc 3 (.fp 2 .ul) 2), (0x89AA7042, .fmovdcc 4 (.int .xcc .ne) 2),
    (0x87A844A2, .fmovrs 3 1 .z 2), (0x89A85CC2, .fmovrd 4 1 .gez 2),
    ((0b10#2 ++ 4#5 ++ 0x35#6 ++ 1#5 ++ 0#1 ++ 0b110#3 ++ 0x06#5 ++ 2#5), .fmovrd 4 1 .gz 2)] : List (Word32 × Instr)),
    decode p.1 = .ok p.2 ∧ encode p.2 = p.1 := by decide +kernel

/-- The quad-precision operations, by the fields of R670 and R671. -/
theorem test_decode_quad : ∀ p ∈ ([
    ((0b10#2 ++ 4#5 ++ 0x34#6 ++ 12#5 ++ 0x003#9 ++ 8#5), .fmovq 4 12 8),
    ((0b10#2 ++ 4#5 ++ 0x34#6 ++ 12#5 ++ 0x007#9 ++ 8#5), .fnegq 4 12 8),
    ((0b10#2 ++ 4#5 ++ 0x34#6 ++ 12#5 ++ 0x00B#9 ++ 8#5), .fabsq 4 12 8), (0x89A00568, .fsqrtq 4 0 8),
    (0x89A00868, .faddq 4 0 8), ((0b10#2 ++ 4#5 ++ 0x34#6 ++ 12#5 ++ 0x047#9 ++ 8#5), .fsubq 4 12 8),
    ((0b10#2 ++ 4#5 ++ 0x34#6 ++ 12#5 ++ 0x04B#9 ++ 8#5), .fmulq 4 12 8),
    ((0b10#2 ++ 4#5 ++ 0x34#6 ++ 12#5 ++ 0x04F#9 ++ 8#5), .fdivq 4 12 8),
    ((0b10#2 ++ 4#5 ++ 0x34#6 ++ 12#5 ++ 0x06E#9 ++ 8#5), .fdmulq 4 12 8),
    ((0b10#2 ++ 4#5 ++ 0x34#6 ++ 12#5 ++ 0x083#9 ++ 8#5), .fqtox 4 12 8),
    ((0b10#2 ++ 4#5 ++ 0x34#6 ++ 12#5 ++ 0x08C#9 ++ 8#5), .fxtoq 4 12 8),
    ((0b10#2 ++ 4#5 ++ 0x34#6 ++ 12#5 ++ 0x0C7#9 ++ 8#5), .fqtos 4 12 8),
    ((0b10#2 ++ 4#5 ++ 0x34#6 ++ 12#5 ++ 0x0CB#9 ++ 8#5), .fqtod 4 12 8),
    ((0b10#2 ++ 4#5 ++ 0x34#6 ++ 12#5 ++ 0x0CC#9 ++ 8#5), .fitoq 4 12 8),
    ((0b10#2 ++ 4#5 ++ 0x34#6 ++ 12#5 ++ 0x0CD#9 ++ 8#5), .fstoq 4 12 8),
    ((0b10#2 ++ 4#5 ++ 0x34#6 ++ 12#5 ++ 0x0CE#9 ++ 8#5), .fdtoq 4 12 8),
    ((0b10#2 ++ 4#5 ++ 0x34#6 ++ 12#5 ++ 0x0D3#9 ++ 8#5), .fqtoi 4 12 8),
    ((0b10#2 ++ 0#5 ++ 0x35#6 ++ 12#5 ++ 0x053#9 ++ 8#5), .fcmpq 0 12 8),
    ((0b10#2 ++ 1#5 ++ 0x35#6 ++ 12#5 ++ 0x057#9 ++ 8#5), .fcmpeq 1 12 8),
    ((0b10#2 ++ 4#5 ++ 0x35#6 ++ 0#1 ++ 9#4 ++ 0b110#3 ++ 0x03#6 ++ 8#5), .fmovqcc 4 9 6 8),
    ((0b10#2 ++ 4#5 ++ 0x35#6 ++ 1#5 ++ 0#1 ++ 0b101#3 ++ 0x07#5 ++ 8#5), .fmovrq 4 1 5 8)] : List (Word32 × Instr)),
    decode p.1 = .ok p.2 ∧ encode p.2 = p.1 := by decide +kernel

/-- VIS: edges, arrays, alignment; the words are the examples of spec/45_vis.md. -/
theorem test_decode_edges_and_alignment : ∀ p ∈ ([
    (0x87B04002, .edge8 3 1 2), (0x87B04022, .edge8n 3 1 2), (0x87B04042, .edge8l 3 1 2),
    (0x87B04062, .edge8ln 3 1 2), (0x87B04082, .edge16 3 1 2), (0x87B040A2, .edge16n 3 1 2),
    (0x87B040C2, .edge16l 3 1 2), (0x87B040E2, .edge16ln 3 1 2), (0x87B04102, .edge32 3 1 2),
    (0x87B04122, .edge32n 3 1 2), (0x87B04142, .edge32l 3 1 2), (0x87B04162, .edge32ln 3 1 2),
    (0x87B04202, .array8 3 1 2), (0x87B04242, .array16 3 1 2), (0x87B04282, .array32 3 1 2),
    (0x87B04302, .alignaddress 3 1 2), (0x87B04322, .bmask 3 1 2), (0x87B04342, .alignaddressLittle 3 1 2),
    (0x81B01025, .siam 5), (0x81B01020, .siam 0)] : List (Word32 × Instr)),
    decode p.1 = .ok p.2 ∧ encode p.2 = p.1 := by decide +kernel

/-- VIS: partitioned arithmetic and comparisons. -/
theorem test_decode_partitioned : ∀ p ∈ ([
    (0x87B00402, .fcmple16 3 0 2), (0x87B00442, .fcmpne16 3 0 2), (0x87B00482, .fcmple32 3 0 2),
    (0x87B004C2, .fcmpne32 3 0 2), (0x87B00502, .fcmpgt16 3 0 2), (0x87B00542, .fcmpeq16 3 0 2),
    (0x87B00582, .fcmpgt32 3 0 2), (0x87B005C2, .fcmpeq32 3 0 2), (0x89B00622, .fmul8x16 4 0 2),
    (0x89B00662, .fmul8x16au 4 0 2), (0x89B006A2, .fmul8x16al 4 0 2), (0x89B006C2, .fmul8sux16 4 0 2),
    (0x89B006E2, .fmul8ulx16 4 0 2), (0x89B00702, .fmuld8sux16 4 0 2), (0x89B00722, .fmuld8ulx16 4 0 2),
    (0x89B00742, .fpack32 4 0 2), (0x89B00762, .fpack16 4 2), (0x89B007A2, .fpackfix 4 2),
    (0x89B007C2, .pdist 4 0 2), (0x89B00902, .faligndata 4 0 2), (0x89B00962, .fpmerge 4 0 2),
    (0x89B00982, .bshuffle 4 0 2), (0x89B009A2, .fexpand 4 2), (0x89B00A02, .fpadd16 4 0 2),
    (0x89B00A22, .fpadd16s 4 0 2), (0x89B00A42, .fpadd32 4 0 2), (0x89B00A62, .fpadd32s 4 0 2),
    (0x89B00A82, .fpsub16 4 0 2), (0x89B00AA2, .fpsub16s 4 0 2), (0x89B00AC2, .fpsub32 4 0 2),
    (0x89B00AE2, .fpsub32s 4 0 2)] : List (Word32 × Instr)),
    decode p.1 = .ok p.2 ∧ encode p.2 = p.1 := by decide +kernel

/-- VIS: the logical operations. -/
theorem test_decode_logical : ∀ p ∈ ([
    (0x89B00C00, .fzero 4), (0x89B00C20, .fzeros 4), (0x89B00C42, .fnor 4 0 2), (0x89B00C62, .fnors 4 0 2),
    (0x89B00C82, .fandnot2 4 0 2), (0x89B00CA2, .fandnot2s 4 0 2), (0x89B00CC2, .fnot2 4 2),
    (0x89B00CE2, .fnot2s 4 2), (0x89B00D02, .fandnot1 4 0 2), (0x89B00D22, .fandnot1s 4 0 2),
    (0x89B00D40, .fnot1 4 0), (0x89B00D60, .fnot1s 4 0), (0x89B00D82, .fxor 4 0 2), (0x89B00DA2, .fxors 4 0 2),
    (0x89B00DC2, .fnand 4 0 2), (0x89B00DE2, .fnands 4 0 2), (0x89B00E02, .fand 4 0 2), (0x89B00E22, .fands 4 0 2),
    (0x89B00E42, .fxnor 4 0 2), (0x89B00E62, .fxnors 4 0 2), (0x89B00E80, .fsrc1 4 0), (0x89B00EA0, .fsrc1s 4 0),
    (0x89B00EC2, .fornot2 4 0 2), (0x89B00EE2, .fornot2s 4 0 2), (0x89B00F02, .fsrc2 4 2), (0x89B00F22, .fsrc2s 4 2),
    (0x89B00F42, .fornot1 4 0 2), (0x89B00F62, .fornot1s 4 0 2), (0x89B00F82, .forD 4 0 2),
    (0x89B00FA2, .forS 4 0 2), (0x89B00FC0, .fone 4), (0x89B00FE0, .fones 4)] : List (Word32 × Instr)),
    decode p.1 = .ok p.2 ∧ encode p.2 = p.1 := by decide +kernel

/-- Loads and stores with an implicit ASI: the examples of spec/42_load_store.md. -/
theorem test_decode_loads_and_stores : ∀ p ∈ ([
    (0xC6006008, .lduw 3 1 (.imm 0x8)), (0xC6086008, .ldub 3 1 (.imm 0x8)), (0xC6104002, .lduh 3 1 (.reg 2)),
    (0xC4186000, .ldtw 2 1 (.imm 0)), (0xC6204002, .stw 3 1 (.reg 2)), (0xC6284002, .stb 3 1 (.reg 2)),
    (0xC6306008, .sth 3 1 (.imm 0x8)), (0xC4386000, .sttw 2 1 (.imm 0)), (0xC6404002, .ldsw 3 1 (.reg 2)),
    (0xC6484002, .ldsb 3 1 (.reg 2)), (0xC6506008, .ldsh 3 1 (.imm 0x8)), (0xC6584002, .ldx 3 1 (.reg 2)),
    (0xC6684002, .ldstub 3 1 (.reg 2)), (0xC6706008, .stx 3 1 (.imm 0x8)), (0xE4744000, .stx 18 17 (.reg 0)),
    (0xC6786008, .swap 3 1 (.imm 0x8)), (0xC3006000, .ldf 1 1 (.imm 0)), (0xC5186000, .lddf 2 1 (.imm 0)),
    (0xC3186000, .lddf 1 1 (.imm 0)), (0xC3206000, .stf 1 1 (.imm 0)), (0xC5386000, .stdf 2 1 (.imm 0)),
    (0xC1086000, .ldfsr 1 (.imm 0)), (0xC3086000, .ldxfsr 1 (.imm 0)), (0xC1286000, .stfsr 1 (.imm 0)),
    (0xC3286000, .stxfsr 1 (.imm 0)), (0xC1106000, .ldqf 0 1 (.imm 0)), (0xC1306000, .stqf 0 1 (.imm 0)),
    (0xC16C2000, .prefetch 0 16 (.imm 0)), (0xF1686000, .prefetch 24 1 (.imm 0))] : List (Word32 × Instr)),
    decode p.1 = .ok p.2 ∧ encode p.2 = p.1 := by decide +kernel

/-- Loads and stores with a named ASI, and the ASI classes of R682: the examples of spec/42_load_store.md and
spec/45_vis.md. -/
theorem test_decode_alternate_space : ∀ p ∈ ([
    (0xC6806008, .lduwa 3 1 (.asiReg 0x8)), (0xC6885040, .lduba 3 1 (.immAsi 0x82 0)),
    (0xC6905002, .lduha 3 1 (.immAsi 0x80 2)), (0xC4985002, .ldtwa 2 1 (.immAsi 0x80 2)),
    (0xC6A05002, .stwa 3 1 (.immAsi 0x80 2)), (0xC6A85002, .stba 3 1 (.immAsi 0x80 2)),
    (0xC6B06008, .stha 3 1 (.asiReg 0x8)), (0xC4B85002, .sttwa 2 1 (.immAsi 0x80 2)),
    (0xC6C05002, .ldswa 3 1 (.immAsi 0x80 2)), (0xC6C85002, .ldsba 3 1 (.immAsi 0x80 2)),
    (0xC6D06008, .ldsha 3 1 (.asiReg 0x8)), (0xC2D808A0, .ldxa 1 0 (.immAsi 0x45 0)),
    (0xC6E85000, .ldstuba 3 1 (.immAsi 0x80 0)), (0xC2F008A0, .stxa 1 0 (.immAsi 0x45 0)),
    (0xE4F45C40, .stxa 18 17 (.immAsi 0xE2 0)), (0xC6F85000, .swapa 3 1 (.immAsi 0x80 0)),
    (0xC3805000, .ldfa 1 1 (.immAsi 0x80 0)), (0xC5985000, .lddfa 2 1 (.immAsi 0x80 0)),
    (0xC3A05000, .stfa 1 1 (.immAsi 0x80 0)), (0xC5B85000, .stdfa 2 1 (.immAsi 0x80 0)),
    (0xE49C1C40, .ldtxa 18 16 0xE2 0), (0xE1985E00, .ldblockf 16 1 0xF0 0), (0xE3985E00, .ldblockf 17 1 0xF0 0),
    (0xC3B85E00, .stblockf 1 1 0xF0 0), (0xC1B85C00, .stblockf 0 1 0xE0 0),
    ((0b11#2 ++ 2#5 ++ 0x37#6 ++ 1#5 ++ 0#1 ++ 0xC2#8 ++ 3#5), .stpartialf 2 1 0xC2 3),
    (0xC5985A00, .ldshortf 2 1 0xD0 0), (0xC5985A40, .ldshortf 2 1 0xD2 0), (0xC5B85A00, .stshortf 2 1 0xD0 0),
    ((0b11#2 ++ 8#5 ++ 0x32#6 ++ 1#5 ++ 0#1 ++ 0x80#8 ++ 2#5), .ldqfa 8 1 (.immAsi 0x80 2)),
    ((0b11#2 ++ 8#5 ++ 0x36#6 ++ 1#5 ++ 1#1 ++ 0x1FF8#13), .stqfa 8 1 (.asiReg 0x1FF8)),
    (0xC3E85000, .prefetcha 1 1 (.immAsi 0x80 0)), (0xC7E05002, .casa 3 1 (.immAsi 0x80) 2),
    (0xC7E06002, .casa 3 1 .asiReg 2), (0xC7F05002, .casxa 3 1 (.immAsi 0x80) 2)] : List (Word32 × Instr)),
    decode p.1 = .ok p.2 ∧ encode p.2 = p.1 := by decide +kernel

/-- The decoder refuses a word. -/
def refuses (w : Word32) : Bool :=
  match decode w with
  | .ok _ => false
  | .error _ => true

/-- Words that are no instruction: reserved opcodes, selectors, conditions and fields (R626 to R629, R680 to R682). -/
theorem test_refused_words : ([
    fmt2 0 7 0, fmt2 0 1 0x100000, fmt2 4 3 0, fmt2 0b01001 3 0, fmt3 2 3 0x2D 1 0x0020, fmt3 2 3 0x00 1 0x0020,
    fmt3 2 3 0x25 1 0x0020, fmt3 2 3 0x25 1 0x3040, fmt3 2 3 0x2E 1 2, fmt3 2 3 0x2F 1 0x1002, fmt3 2 3 0x2C 0x14 0x0802,
    fmt3 2 0x10 0x3A 0 0x2010, fmt3 2 0 0x3A 0 0x2810, fmt3 2 1 0x39 31 0x2008, fmt3 2 2 0x3E 0 0, fmt3 2 6 0x31 0 0,
    fmt3 2 1 0x28 1 0, fmt3 2 1 0x28 0x14 0, fmt3 2 1 0x28 15 0x2040, fmt3 2 5 0x30 1 0x2000, fmt3 2 0x12 0x30 1 0x2000,
    fmt3 2 15 0x30 1 0x2000, fmt3 2 1 0x2A 0x0F 0, fmt3 2 0x11 0x32 1 0x2000, fmt3 2 1 0x29 2 0, fmt3 2 4 0x33 1 0x2000,
    fmt3 2 0 0x34 0 0x0000, fmt3 2 3 0x34 1 0x0022, fmt3 2 4 0x35 0 0x0A42, fmt3 2 3 0x36 1 0x0802, fmt3 2 1 0x3D 0 0x0020,
    fmt3 3 2 0x21 1 0x2000, fmt3 3 2 0x25 1 0x2000, fmt3 3 0 0x0C 0 0, fmt3 3 3 0x3C 1 0x2022] : List Word32).all refuses = true := by rfl

/-- The bytes of a word are read with the most significant first (R620), a word at a time; fewer than four are refused. -/
theorem test_decode_bytes :
    decodeBytes [0x86, 0x00, 0x40, 0x02, 0xAA] = .ok (.add 3 1 (.reg 2), [0xAA]) ∧
    decodeBytes [0x86, 0x00, 0x40] = .error .truncated ∧ decodeTableWord 32 0x86004002 = some (.add 3 1 (.reg 2)) := by
  decide +kernel

/-! ## The worked examples of the spec -/

/-- A strand in hyperprivileged mode at TL = 0 with the floating-point unit enabled, as WRHPR and WRPR leave it after reset. -/
def hyper : State :=
  { State.reset with hpstate := ⟨false, false, true, false⟩, tl := 0, gl := 0, pc := 0x1000, npc := 0x1004 }

/-- The same in privileged mode. -/
def privileged : State := { hyper with hpstate := ⟨false, false, false, false⟩ }

/-- The same in nonprivileged mode. -/
def user : State := { privileged with pstate := { hyper.pstate with priv := false } }

/-- The state after an instruction, or before it where it stops. -/
def after (i : Instr) (s : State) : State :=
  match exec i s with
  | .next t => t
  | _ => s

/-- `r[1]`, `r[2]`, CCR and Y before an instruction. -/
def given (a b : Word) (ccr : BitVec 8) (y : Word32) : State := { (hyper.setReg 1 a).setReg 2 b with ccr := ccr, y := y }

/-- `r[3]`, CCR and Y after it, and the trap it took. -/
def results (t : State) : Word × BitVec 8 × Word32 × Option (BitVec 9) := (t.reg 3, t.ccr, t.y, t.taken)

/-- The examples of spec/40_integer.md R702 to R721. -/
theorem test_add_and_logic_examples : ∀ p ∈ ([
    (.add 3 1 (.reg 2), 0xFFFFFFFFFFFFFFFF, 2, 0, 1, 0),
    (.addcc 3 1 (.imm 0x1FFF), 0x80000000, 0, 0, 0x7FFFFFFF, 0x13),
    (.addc 3 1 (.reg 2), 1, 2, 1, 4, 1),
    (.addccc 3 1 (.reg 2), 0xFFFFFFFF, 0, 1, 0x100000000, 0x05),
    (.sub 3 1 (.reg 2), 0, 1, 0, 0xFFFFFFFFFFFFFFFF, 0),
    (.subcc 0 1 (.reg 2), 1, 2, 0, 0, 0x99),
    (.subc 3 1 (.reg 2), 5, 2, 1, 2, 1),
    (.subccc 3 1 (.reg 2), 0, 0, 1, 0xFFFFFFFFFFFFFFFF, 0x99),
    (.andI 3 1 (.reg 2), 0xF0F0, 0x0FF0, 0, 0x00F0, 0),
    (.andcc 3 1 (.reg 2), 0x80000000, 0xFFFFFFFF, 0, 0x80000000, 0x08),
    (.andn 3 1 (.reg 2), 0xFF, 0x0F, 0, 0xF0, 0),
    (.andncc 3 1 (.reg 2), 0x5A, 0x5A, 0xFF, 0, 0x44),
    (.orI 3 1 (.reg 2), 0xF0, 0x0F, 0, 0xFF, 0),
    (.orcc 3 1 (.reg 2), 0, 0, 0xFF, 0, 0x44),
    (.orn 3 1 (.reg 2), 0, 0, 0, 0xFFFFFFFFFFFFFFFF, 0),
    (.orncc 3 1 (.reg 2), 0, 0, 0, 0xFFFFFFFFFFFFFFFF, 0x88),
    (.xorI 3 1 (.reg 2), 0xFF, 0x0F, 0, 0xF0, 0),
    (.xorcc 3 1 (.reg 2), 0x5A, 0x5A, 0, 0, 0x44),
    (.xnor 3 1 (.reg 2), 0, 0, 0, 0xFFFFFFFFFFFFFFFF, 0),
    (.xnorcc 3 1 (.reg 2), 0xFFFFFFFFFFFFFFFF, 0, 0, 0, 0x44)] : List (Instr × Word × Word × BitVec 8 × Word × BitVec 8)),
    results (after p.1 (given p.2.1 p.2.2.1 p.2.2.2.1 7)) = (p.2.2.2.2.1, p.2.2.2.2.2, 7, none) := by decide +kernel

/-- The examples of R725 to R735 and R760, R761. -/
theorem test_shift_and_move_examples : ∀ p ∈ ([
    (.sll 3 1 (.imm 5), 0x0800000000000001, 0, 0, 0x20), (.sll 3 1 (.imm 5), 0x80000000, 0, 0, 0x1000000000),
    (.sllx 3 1 (.imm 40), 1, 0, 0, 0x10000000000), (.srl 3 1 (.reg 2), 0xFFFFFFFF80000000, 0, 0, 0x80000000),
    (.srlx 3 1 (.imm 63), 0x8000000000000000, 0, 0, 1), (.sra 3 1 (.imm 0), 0x80000000, 0, 0, 0xFFFFFFFF80000000),
    (.srax 3 1 (.imm 4), 0x8000000000000000, 0, 0, 0xF800000000000000), (.sethi 3 0x3FFFFF, 0, 0, 0, 0xFFFFFC00),
    (.popc 3 (.reg 2), 0, 0xF0F0, 0, 8), (.popc 3 (.reg 2), 0, 0xFFFFFFFFFFFFFFFF, 0, 64), (.nop, 0, 0, 0, 0),
    (.movcc 3 (.int .xcc .ne) (.reg 2), 0, 7, 0, 7), (.movcc 3 (.int .icc .e) (.imm 0x7FF), 0, 0, 4, 0xFFFFFFFFFFFFFFFF),
    (.movcc 3 (.int .icc .e) (.imm 0x7FF), 0, 0, 0, 0), (.movr 3 1 .z (.reg 2), 0, 9, 0, 9),
    (.movr 3 1 .lz (.imm 0x3FB), 0x8000000000000000, 0, 0, 0xFFFFFFFFFFFFFFFB),
    (.movr 3 1 .lz (.imm 0x3FB), 0x80000000, 0, 0, 0)] : List (Instr × Word × Word × BitVec 8 × Word)),
    results (after p.1 (given p.2.1 p.2.2.1 p.2.2.2.1 7)) = (p.2.2.2.2, p.2.2.2.1, 7, none) := by decide +kernel

/-- The examples of R741 to R758: `r[1]`, `r[2]`, CCR and Y before, `r[3]`, CCR and Y after. -/
theorem test_multiply_and_divide_examples : ∀ p ∈ ([
    (.mulx 3 1 (.reg 2), 0x100000000, 0x100000000, 0, 0, 0, 0, 0),
    (.umul 3 1 (.reg 2), 0xFFFFFFFF, 0xFFFFFFFF, 0, 0, 0xFFFFFFFE00000001, 0, 0xFFFFFFFE),
    (.umulcc 3 1 (.reg 2), 0x10000, 0x10000, 0, 0, 0x100000000, 0x04, 1),
    (.smul 3 1 (.reg 2), 0xFFFFFFFF, 2, 0, 0, 0xFFFFFFFFFFFFFFFE, 0, 0xFFFFFFFF),
    (.smulcc 3 1 (.reg 2), 0xFFFFFFFFFFFFFFFF, 1, 0, 0, 0xFFFFFFFFFFFFFFFF, 0x88, 0xFFFFFFFF),
    (.mulscc 3 1 (.reg 2), 0x80000001, 0x80000000, 0, 1, 0xC0000000, 0x08, 0x80000000),
    (.mulscc 3 1 (.reg 2), 0xFFFFFFFE, 1, 8, 1, 0x100000000, 0x05, 0),
    (.udivx 3 1 (.reg 2), 0xFFFFFFFFFFFFFFFF, 2, 0, 0, 0x7FFFFFFFFFFFFFFF, 0, 0),
    (.sdivx 3 1 (.reg 2), 0xFFFFFFFFFFFFFFF9, 2, 0, 0, 0xFFFFFFFFFFFFFFFD, 0, 0),
    (.udiv 3 1 (.reg 2), 0, 2, 0, 1, 0x80000000, 0, 1), (.udiv 3 1 (.reg 2), 0, 1, 0, 2, 0xFFFFFFFF, 0, 2),
    (.udivcc 3 1 (.reg 2), 0, 1, 0, 2, 0xFFFFFFFF, 0x0A, 2),
    (.sdiv 3 1 (.reg 2), 0xFFFFFFF9, 2, 0, 0xFFFFFFFF, 0xFFFFFFFFFFFFFFFD, 0, 0xFFFFFFFF),
    (.sdiv 3 1 (.reg 2), 0x80000000, 1, 0, 0, 0x7FFFFFFF, 0, 0),
    (.sdivcc 3 1 (.reg 2), 0xFFFFFFF9, 2, 0, 0xFFFFFFFF, 0xFFFFFFFFFFFFFFFD, 0x88, 0xFFFFFFFF),
    (.taddcc 3 1 (.reg 2), 4, 5, 0, 0, 9, 0x02, 0), (.taddcctv 3 1 (.reg 2), 4, 8, 0, 0, 12, 0, 0),
    (.tsubcc 3 1 (.reg 2), 8, 4, 0, 0, 4, 0, 0), (.tsubcctv 3 1 (.reg 2), 8, 4, 0, 0, 4, 0, 0)] :
      List (Instr × Word × Word × BitVec 8 × Word32 × Word × BitVec 8 × Word32)),
    results (after p.1 (given p.2.1 p.2.2.1 p.2.2.2.1 p.2.2.2.2.1)) =
      (p.2.2.2.2.2.1, p.2.2.2.2.2.2.1, p.2.2.2.2.2.2.2, none) := by decide +kernel

/-- What traps in the same rules: R747 to R758, and the always illegal instructions of spec/41_control_transfer.md R816,
spec/44_float.md R1150, spec/42_load_store.md R913. -/
theorem test_integer_trap_examples : ∀ p ∈ ([
    (.udivx 3 1 (.reg 2), 5, 0, 0x28), (.sdiv 3 1 (.reg 2), 5, 0x100000000, 0x28), (.taddcctv 3 1 (.reg 2), 4, 5, 0x23),
    (.tsubcctv 3 1 (.reg 2), 9, 4, 0x23), (.illtrap 0 0, 0, 0, 0x10), (.faddq 4 0 8, 0, 0, 0x10), (.impdep2 0 0, 0, 0, 0x10),
    (.fsqrtq 4 0 8, 0, 0, 0x10), (.ldqf 0 1 (.imm 0), 1, 0, 0x10), (.stqf 0 1 (.imm 0), 1, 0, 0x10)] :
      List (Instr × Word × Word × BitVec 9)),
    (after p.1 (given p.2.1 p.2.2.1 0 0)).taken = some p.2.2.2 := by decide +kernel

/-- The program counters after an instruction. -/
def counters (t : State) : Word × Word := (t.pc, t.npc)

/-- The examples of spec/41_control_transfer.md R805 to R811, from 0x1000: CCR, `r[1]`, fcc0 and fcc1 before. -/
theorem test_branch_examples : ∀ p ∈ ([
    (.bicc false .ne 4, 0, 0, 0x1004, 0x1010), (.bicc false .ne 4, 4, 0, 0x1004, 0x1008),
    (.bicc true .ne 4, 4, 0, 0x1008, 0x100C), (.bicc true .a 2, 0, 0, 0x1008, 0x100C),
    (.bicc true .n 2, 0, 0, 0x1008, 0x100C), (.bpcc false .ne .xcc true 2, 0x40, 0, 0x1004, 0x1008),
    (.bpr false .z true 1 2, 0, 0, 0x1004, 0x1008), (.bpr true .z true 1 4, 0, 5, 0x1008, 0x100C),
    (.fbfcc false .ne 2, 0, 0, 0x1004, 0x1008), (.fbfcc false .ne 4, 0, 0, 0x1004, 0x1010),
    (.fbpfcc false .e 1 true 2, 0, 0, 0x1004, 0x1008), (.bicc false .a 0x3FFFFF, 0, 0, 0x1004, 0xFFC)] :
      List (Instr × BitVec 8 × Word × Word × Word)),
    counters (after p.1 { given p.2.2.1 0 p.2.1 0 with fsr := { hyper.fsr with fcc0 := 1 } }) = p.2.2.2 := by decide +kernel

/-- CALL at 0x1000, and JMPL from `%o7` (R810, R811). -/
theorem test_call_example : counters (after (.call 0x40) hyper) = (0x1004, 0x1100) ∧ (after (.call 0x40) hyper).reg 15 = 0x1000 ∧
    counters (after (.jmpl 0 15 (.imm 8)) (hyper.setReg 15 0x1000)) = (0x1004, 0x1008) := by decide +kernel

/-- A misaligned target traps with the target in D-SFAR (R846). -/
theorem test_jmpl_misaligned :
    let t := after (.jmpl 0 15 (.imm 2)) (hyper.setReg 15 0x1000)
    t.taken = some 0x034 ∧ t.mmu.dsfar = 0x1002 := by decide +kernel

/-- Window registers before and after. -/
def windows (t : State) : BitVec 3 × BitVec 3 × BitVec 3 := (t.win.cwp, t.win.cansave, t.win.canrestore)

/-- The examples of R840 and R841. -/
theorem test_save_restore_examples :
    let s := hyper.setReg 14 0x10000
    let t := after (.save 14 14 (.imm 0x1F50)) s
    windows s = (0, 6, 0) ∧ windows t = (1, 5, 1) ∧ t.reg 14 = 0xFF50 ∧ t.reg 30 = 0x10000 ∧
    windows (after (.restore 0 0 (.reg 0)) t) = (0, 6, 0) := by decide +kernel

/-- RETURN goes to the caller's window after its delay instruction (R812). -/
theorem test_return_example :
    let s := { hyper with win := { hyper.win with cwp := 1, cansave := 5, canrestore := 1 } }
    let t := after (.returnI 31 (.imm 8)) (s.setReg 31 0x2000)
    windows t = (0, 6, 0) ∧ counters t = (0x1004, 0x2008) := by decide +kernel

/-- The target of RETURN under PSTATE.am (spec/30_encoding.md R622). A trap return to an address in the hole, whose fetch traps
(spec/20_memory.md R506), where a trap has saved it; WRPR drops bits 63:48, so that TPC is in the address space (spec/10_state.md
R102). -/
theorem test_masked_and_hole_targets :
    let s := { hyper with win := { hyper.win with cwp := 1, cansave := 5, canrestore := 1 }, pstate := { hyper.pstate with am := true } }
    let p := { privileged with tl := 1 }
    let t := { p with traps := fileSet p.traps 1 { p.frame with tpc := 0x200000000000, tpcHole := true } }
    let w := after (.wrprTpc 1 (.imm 0)) (t.setReg 1 0x0000800000000000)
    counters (after (.returnI 31 (.imm 8)) (s.setReg 31 0x700002000)) = (0x1004, 0x2008) ∧
    (after .retry t).pc = 0x0000800000000000 ∧ outOfRange (after .retry t).pc = true ∧
    w.frame.tpcHole = false ∧ (after .retry w).pc = 0xFFFF800000000000 := by decide +kernel

/-- The window traps (R842, R843): a spill of `other` windows, and a fill, with WSTATE = 0x13. -/
theorem test_window_trap_examples :
    let s := { hyper with win := { hyper.win with cansave := 0, canrestore := 0, otherwin := 6, wstate := 0x13 } }
    let t := after (.save 14 14 (.imm 0)) s
    let u := after (.restore 0 0 (.reg 0)) { s with win := { s.win with otherwin := 0 } }
    t.taken = some 0x0A8 ∧ t.win.cwp = 2 ∧ u.taken = some 0x0CC ∧ u.win.cwp = 7 := by decide +kernel

/-- The examples of R850 and R851, and FLUSHW with nothing to spill (R852). -/
theorem test_window_control_examples :
    let s := { privileged with win := { hyper.win with cansave := 0, canrestore := 6 } }
    windows (after .saved s) = (0, 1, 5) ∧ windows (after .restored privileged) = (0, 5, 1) ∧
    (after .restored privileged).win.cleanwin = 7 ∧ (after .flushw privileged).taken = none ∧
    windows (after .invalw s) = (0, 6, 0) ∧ (after .otherw s).win.otherwin = 6 ∧ (after .normalw s).win.canrestore = 0 ∧
    (after .allclean s).win.cleanwin = 7 ∧ (after .saved user).taken = some 0x011 := by decide +kernel

/-- The example of R830: DONE to nonprivileged mode, and RETRY; and of R832: GL. -/
theorem test_trap_return_examples :
    let f : TrapFrame := { tpc := 0x800, tnpc := 0x801, tpcHole := false, tnpcHole := false, tt := 0x100, gl := 0, ccr := 0x44, asi := 0x80,
                           pstate := ⟨false, false, false, true, false, false, true⟩, cwp := 3, hpstate := privileged.hpstate }
    let s := { privileged with tl := 1, traps := fileSet hyper.traps 1 f }
    let t := after .done s
    counters t = (0x2004, 0x2008) ∧ t.ccr = 0x44 ∧ t.asi = 0x80 ∧ t.win.cwp = 3 ∧ t.tl = 0 ∧ t.gl = 0 ∧ t.level = .user ∧
    counters (after .retry s) = (0x2000, 0x2004) ∧ (after .done hyper).taken = some 0x010 ∧
    (after .done { s with hpstate := hyper.hpstate, traps := fileSet hyper.traps 1 { f with gl := 3 } }).gl = 2 := by
  decide +kernel

/-- The examples of R815: `ta 0x10`, `ta 0x80` in privileged and in nonprivileged mode, and a condition that fails. -/
theorem test_tcc_examples :
    (after (.tcc .a .icc 0 (.imm 0x10)) hyper).taken = some 0x110 ∧
    (after (.tcc .a .icc 0 (.imm 0x80)) privileged).taken = some 0x180 ∧
    (after (.tcc .a .icc 0 (.imm 0x80)) privileged).level = .hyper ∧
    (after (.tcc .a .icc 0 (.imm 0x80)) user).taken = some 0x100 ∧
    (after (.tcc .a .icc 0 (.imm 0x80)) user).level = .priv ∧
    (after (.tcc .e .icc 0 (.imm 0x10)) hyper).taken = none := by decide +kernel

/-- The examples of spec/43_state_access.md R996, R997, R1001, R1002, R1012 to R1014. -/
theorem test_state_register_examples :
    (after (.rdCcr 1) { hyper with ccr := 0x44 }).reg 1 = 0x44 ∧ (after (.rdFprs 1) State.reset).reg 1 = 4 ∧
    (after (.rdTick 1) { user with tim := { hyper.tim with npt := false, counter := 0x1234 } }).reg 1 = 0x1234 ∧
    (after (.rdStick 1) { user with tim := { hyper.tim with npt := false, counter := 0x1234 } }).reg 1 = 0x127F ∧
    (after (.wrCcr 1 (.reg 2)) (given 0xFF 0x0F 0 0)).ccr = 0xF0 ∧
    (after (.wrSoftintSet 0 (.imm 4)) hyper).tim.softint = 4 ∧
    (after (.wrprPstate 0 (.imm 0x16)) privileged).pstate = { privileged.pstate with ie := true } ∧
    (after (.wrprTl 0 (.imm 7)) hyper).tl = 6 ∧ (after (.wrprTl 0 (.imm 7)) privileged).tl = 2 ∧
    (after (.wrprTl 0 (.imm 8)) privileged).tl = 0 ∧ (after (.wrprGl 0 (.imm 0xF)) hyper).gl = 3 ∧
    (after (.wrprGl 0 (.imm 3)) privileged).gl = 2 ∧ (after (.wrprGl 0 (.imm 0x10)) hyper).gl = 0 := by decide +kernel

/-- Who may not (R995, R1000, R1010, R1030, R1045). -/
theorem test_privilege_examples : ∀ p ∈ ([
    (.rdTick 1, user, 0x037), (.rdPcr 1, user, 0x011), (.wrTick 1 (.imm 0), user, 0x011),
    (.wrTick 1 (.imm 0), privileged, 0x010), (.wrStick 1 (.imm 0), user, 0x010), (.rdprTick 1, user, 0x011),
    (.rdprTpc 1, hyper, 0x010), (.rdhprHtba 1, privileged, 0x010), (.wrhprHver 1 (.imm 0), hyper, 0x010),
    (.sir 0, privileged, 0x010), (.sir 0, hyper, 0x004), (.rdGsr 1, { user with fprs := 0 }, 0x020)] :
      List (Instr × State × BitVec 9)), (after p.1 p.2.1).taken = some p.2.2 := by decide +kernel

/-- Halt, with and without an interrupt to wake for (R1040). -/
theorem test_halt_examples : (after (.halt 0 (.imm 0)) hyper).run = .halted ∧
    (after (.halt 0 (.imm 0)) { hyper with tim := { hyper.tim with softint := 1 } }).run = .running := by decide +kernel

/-- `f32[1]` and `f32[2]` before an instruction, with FSR.tem. -/
def singles (a b : Word32) (tem : BitVec 5) : State :=
  { (hyper.setF32 1 a).setF32 2 b with fsr := { hyper.fsr with tem := tem } }

/-- `f64[0]` and `f64[2]` before an instruction, with GSR. -/
def doubles (a b gsr : Word) : State := { (hyper.setF64 0 a).setF64 2 b with gsr := Gsr.ofWord gsr }

/-- The examples of spec/44_float.md R1070 to R1096: `f32[3]`, `aexc` and `cexc` after. -/
theorem test_single_examples : ∀ p ∈ ([
    (.fadds 3 1 2, 0x3F800000, 0x40000000, 0x40400000, 0), (.fsubs 3 1 2, 0x3F800000, 0x40000000, 0xBF800000, 0),
    (.fmuls 3 1 2, 0x40000000, 0x40400000, 0x40C00000, 0), (.fdivs 3 1 2, 0x3F800000, 0, 0x7F800000, 2),
    (.fsqrts 3 2, 0, 0x40800000, 0x40000000, 0), (.fmovs 3 2, 0, 0x7F910000, 0x7F910000, 0),
    (.fnegs 3 2, 0, 0x7F910000, 0xFF910000, 0), (.fabss 3 2, 0, 0xFF910000, 0x7F910000, 0),
    (.fitos 3 2, 0, 0x01000001, 0x4B800000, 1), (.fstoi 3 2, 0, 0x40200000, 2, 1),
    (.fmovscc 3 (.int .icc .ne) 2, 0, 5, 5, 0), (.fmovscc 3 (.int .icc .e) 2, 0, 5, 0, 0),
    (.fmovrs 3 0 .z 2, 0, 5, 5, 0)] : List (Instr × Word32 × Word32 × Word32 × BitVec 5)),
    let t := after p.1 (singles p.2.1 p.2.2.1 0)
    (t.f32 3, t.fsr.aexc, t.fsr.cexc, t.taken) = (p.2.2.2.1, p.2.2.2.2, p.2.2.2.2, none) := by decide +kernel

/-- R1076, R1090: results in `f64[34]`, whose field is 3; and FdTOs of R1091. -/
theorem test_double_examples :
    (after (.fsmuld 3 1 2) (singles 0x40000000 0x40400000 0)).f64 3 = 0x4018000000000000 ∧
    (after (.fstod 3 2) (singles 0 0x7FD10000 0)).f64 3 = 0x7FFA200000000000 ∧
    (after (.fstod 3 2) (singles 0 0x7F910000 0)).fsr.cexc = 16 ∧
    (after (.fdtos 3 2) (doubles 0 0x7FFA200000000000 0)).f32 3 = 0x7FD10000 ∧
    (after (.faddd 4 0 2) (doubles 0x3FF0000000000000 0x4000000000000000 0)).f64 4 = 0x4008000000000000 ∧
    (after (.fdtox 4 2) (doubles 0 0xC004000000000000 0)).f64 4 = 0xFFFFFFFFFFFFFFFE ∧
    (after (.fxtod 4 2) (doubles 0 0xFFFFFFFFFFFFFFFD 0)).f64 4 = 0xC008000000000000 := by decide +kernel

/-- R1077: a division by zero whose exception is enabled traps; `f32[3]` is unchanged. -/
theorem test_enabled_exception :
    let t := after (.fdivs 3 1 2) (singles 0x3F800000 0 2)
    t.taken = some 0x021 ∧ t.fsr.cexc = 2 ∧ t.fsr.ftt = 1 ∧ t.fsr.aexc = 0 ∧ t.f32 3 = 0 := by decide +kernel

/-- A subnormal operand is an unfinished operation (R1065); a disabled unit traps first (R1062). -/
theorem test_unfinished_and_disabled :
    (after (.fadds 3 1 2) (singles 1 0x3F800000 0)).taken = some 0x022 ∧
    (after (.fadds 3 1 2) (singles 1 0x3F800000 0)).fsr.ftt = 2 ∧
    (after (.fadds 3 1 2) { singles 1 0x3F800000 0 with fprs := 0 }).taken = some 0x020 := by decide +kernel

/-- R1100: 1.0 is less than 2.0; a NaN is unordered, and invalid for FCMPE; the zeros are equal. -/
theorem test_compare_examples :
    (after (.fcmps 0 1 2) (singles 0x3F800000 0x40000000 0)).fsr.fcc0 = 1 ∧
    (after (.fcmps 1 1 2) (singles 0x7FC00000 0x40000000 0)).fsr.fcc1 = 3 ∧
    (after (.fcmps 1 1 2) (singles 0x7FC00000 0x40000000 0)).fsr.cexc = 0 ∧
    (after (.fcmpes 1 1 2) (singles 0x7FC00000 0x40000000 0)).fsr.cexc = 16 ∧
    (after (.fcmps 2 1 2) (singles 0x80000000 0 0)).fsr.fcc2 = 0 ∧
    (after (.fcmpd 3 0 2) (doubles 0x7FF0000000000000 0x3FF0000000000000 0)).fsr.fcc3 = 2 := by decide +kernel

/-- The examples of spec/45_vis.md R1171 to R1192: `r[1]`, `r[2]`, `r[3]` and CCR after. -/
theorem test_edge_and_array_examples : ∀ p ∈ ([
    (.edge8 3 1 2, 0x1003, 0x1005, 0x1C, 0x99), (.edge8 3 1 2, 0x1003, 0x2005, 0x1F, 0x99),
    (.edge8n 3 1 2, 0x1003, 0x1005, 0x1C, 0), (.edge32l 3 1 2, 0x1004, 0x1007, 2, 0x99),
    (.edge32l 3 1 2, 0x1000, 0x1003, 1, 0x99), (.array8 3 1 2, 0x800, 0, 1, 0), (.array8 3 1 2, 0x200000000, 0, 4, 0),
    (.array8 3 1 2, 0x0080000000000000, 0, 0x10, 0), (.array8 3 1 2, 0x20000, 1, 0x20000, 0),
    (.array8 3 1 2, 0xAA800554003FF800, 0, 0x1555FB, 0), (.array8 3 1 2, 0xAA800554003FF800, 2, 0x15755FB, 0),
    (.array8 3 1 2, 0xAA800554003FF800, 5, 0x52BF55FB, 0), (.array16 3 1 2, 0xAA800554003FF800, 5, 0xA57EABF6, 0),
    (.array32 3 1 2, 0xAA800554003FF800, 5, 0x14AFD57EC, 0), (.alignaddress 3 1 2, 0x1003, 2, 0x1000, 0),
    (.alignaddressLittle 3 1 2, 0x1003, 2, 0x1000, 0), (.bmask 3 1 2, 0x01234567, 0x11111111, 0x12345678, 0)] :
      List (Instr × Word × Word × Word × BitVec 8)),
    results (after p.1 (given p.2.1 p.2.2.1 0 0)) = (p.2.2.2.1, p.2.2.2.2, 0, none) := by decide +kernel

/-- R1190 to R1194, R1275: GSR after, and the moves that it steers. -/
theorem test_alignment_examples :
    (after (.alignaddress 3 1 2) (given 0x1003 2 0 0)).gsr.align = 5 ∧
    (after (.alignaddressLittle 3 1 2) (given 0x1003 2 0 0)).gsr.align = 3 ∧
    (after (.bmask 3 1 2) (given 0x01234567 0x11111111 0 0)).gsr.mask = 0x12345678 ∧
    (after (.siam 5) hyper).gsr.im = true ∧ (after (.siam 5) hyper).gsr.irnd = 1 ∧
    (after (.bshuffle 4 0 2) (doubles 0x0011223344556677 0x8899AABBCCDDEEFF 0x08192A3B00000000)).f64 4 =
      0x0088119922AA33BB ∧
    (after (.faligndata 4 0 2) (doubles 0x0011223344556677 0x8899AABBCCDDEEFF 3)).f64 4 = 0x33445566778899AA := by
  decide +kernel

/-- The examples of R1201 to R1208: the mask in `r[3]`. -/
theorem test_partitioned_compare_examples :
    let s := doubles 0x000180007FFF0005 0x00017FFF80000006 0
    let t := doubles 0x8000000000000005 0x7FFFFFFF00000005 0
    (after (.fcmple16 3 0 2) s).reg 3 = 0xD ∧ (after (.fcmpne16 3 0 2) s).reg 3 = 7 ∧
    (after (.fcmpgt16 3 0 2) s).reg 3 = 2 ∧ (after (.fcmpeq16 3 0 2) s).reg 3 = 8 ∧
    (after (.fcmple32 3 0 2) t).reg 3 = 3 ∧ (after (.fcmpne32 3 0 2) t).reg 3 = 2 ∧
    (after (.fcmpgt32 3 0 2) t).reg 3 = 0 ∧ (after (.fcmpeq32 3 0 2) t).reg 3 = 1 := by decide +kernel

/-- The examples of R1211 to R1237 in double registers: `f64[0]`, `f64[2]`, GSR, and `f64[4]` after, which held 100. A single
source register is the upper half of its double register. -/
theorem test_partitioned_examples : ∀ p ∈ ([
    (.fmul8x16 4 0 2, 0x80FF014000000000, 0x0100FFFF80000003, 0, 0x0080FFFFFF800001),
    (.fmul8x16au 4 0 2, 0x80FF014000000000, 0x0100FF0000000000, 0, 0x008000FF00010040),
    (.fmul8x16al 4 0 2, 0x80FF014000000000, 0x0100FF0000000000, 0, 0xFF80FF01FFFFFFC0),
    (.fmul8sux16 4 0 2, 0x7F8080FF0140FF01, 0x0100010040008000, 0, 0x007FFF8000400080),
    (.fmul8ulx16 4 0 2, 0x7F8080FF0140FF01, 0x0100010040008000, 0, 0x0001000100100000),
    (.fmuld8sux16 4 0 2, 0x80FF014000000000, 0x0100800000000000, 0, 0xFF800000FF800000),
    (.fmuld8ulx16 4 0 2, 0x80FF014000000000, 0x0100800000000000, 0, 0x0000FF00FFE00000),
    (.fpack32 4 0 2, 0x0011223344556677, 0x00800000FF000000, 0, 0x1122330155667700),
    (.fpack32 4 0 2, 0x0011223344556677, 0x008000007F000000, 0x20, 0x11223310556677FF),
    (.fexpand 4 2, 0, 0x01FF800000000000, 0, 0x00100FF008000000),
    (.fpmerge 4 0 2, 0x0011223300000000, 0xAABBCCDD00000000, 0, 0x00AA11BB22CC33DD),
    (.pdist 4 0 2, 0x00FF10203040FF00, 0xFF00112233440001, 0, 876),
    (.fpadd16 4 0 2, 0xFFFF7FFF00018000, 0x0001000100018000, 0, 0x0000800000020000),
    (.fpadd32 4 0 2, 0xFFFFFFFF7FFFFFFF, 0x0000000100000001, 0, 0x0000000080000000),
    (.fpsub16 4 0 2, 0x0000800000020000, 0x0001000100018000, 0, 0xFFFF7FFF00018000),
    (.fpsub32 4 0 2, 0x0000000080000000, 0x0000000100000001, 0, 0xFFFFFFFF7FFFFFFF)] :
      List (Instr × Word × Word × Word × Word)),
    (after p.1 ((doubles p.2.1 p.2.2.1 p.2.2.2.1).setF64 4 100)).f64 4 = p.2.2.2.2 := by decide +kernel

/-- The examples with a single result (R1220, R1222, R1231): `f32[4]` after. -/
theorem test_pack_examples :
    (after (.fpack16 4 2) (doubles 0 0x00807FFFFF800123 0)).f32 4 = 0x01FF0002 ∧
    (after (.fpack16 4 2) (doubles 0 0x00807FFFFF800123 0x18)).f32 4 = 0x08FF0012 ∧
    (after (.fpackfix 4 2) (doubles 0 0x0001800080000000 0)).f32 4 = 0x00018000 ∧
    (after (.fpackfix 4 2) (doubles 0 0x0001800080000000 0x80)).f32 4 = 0x7FFF8000 ∧
    (after (.fpadd16s 4 0 2) (doubles 0xFFFF7FFF00000000 0x0001000100000000 0)).f32 4 = 0x00008000 := by decide +kernel

/-- The results that R1243, R1255 and their neighbours print, and FZERO and FONE. -/
theorem test_logical_examples :
    let s := doubles 0xFF00FF000F0F0F0F 0x0FF00FF000FF00FF 0
    (after (.fnor 4 0 2) s).f64 4 = 0x000F000FF000F000 ∧ (after (.fnand 4 0 2) s).f64 4 = 0xF0FFF0FFFFF0FFF0 ∧
    (after (.fandnot1s 4 0 2) s).f32 4 = 0x00F000F0 ∧ (after (.fzero 4) s).f64 4 = 0 ∧
    (after (.fones 4) s).f32 4 = 0xFFFFFFFF ∧ (after (.fsrc2 4 2) s).f64 4 = 0x0FF00FF000FF00FF := by decide +kernel

/-- Memory with bytes from 0x2000 on, `r[1]` their address, `r[2]` and `r[3]` given. -/
def bytesAt (bs : List Byte) (b c : Word) : State :=
  ((({ hyper with mem := memPutBytes [] 0x2000 bs } : State).setReg 1 0x2000).setReg 2 b).setReg 3 c

/-- An ordinary store of a byte at 0x2000, with its check bits, in the store buffer; memory held `old` before it. -/
def heldStore (old : Byte) (ecc : BitVec 7) (camBad : Bool) : PendingStore :=
  { pa := 0x2000, old := [(0x2000, old)], seen := 1, kind := .ordinary, level := 2, index := 5, ecc := ecc, camBad := camBad }

/-- The loads of spec/42_load_store.md R875 to R881: `r[3]` after. -/
theorem test_load_examples :
    (after (.ldsb 3 1 (.imm 0)) (bytesAt [0x80] 0 0)).reg 3 = 0xFFFFFFFFFFFFFF80 ∧
    (after (.ldub 3 1 (.imm 0)) (bytesAt [0x80] 0 0)).reg 3 = 0x80 ∧
    (after (.ldsh 3 1 (.imm 0)) (bytesAt [0xFF, 0xFE] 0 0)).reg 3 = 0xFFFFFFFFFFFFFFFE ∧
    (after (.lduh 3 1 (.imm 0)) (bytesAt [0xFF, 0xFE] 0 0)).reg 3 = 0xFFFE ∧
    (after (.ldsw 3 1 (.imm 0)) (bytesAt [0x80, 0, 0, 1] 0 0)).reg 3 = 0xFFFFFFFF80000001 ∧
    (after (.lduw 3 1 (.imm 0)) (bytesAt [0x80, 0, 0, 1] 0 0)).reg 3 = 0x80000001 ∧
    (after (.ldx 3 1 (.imm 0)) (bytesAt [1, 2, 3, 4, 5, 6, 7, 8] 0 0)).reg 3 = 0x0102030405060708 ∧
    (after (.ldxa 3 1 (.immAsi 0x88 0)) (bytesAt [1, 2, 3, 4, 5, 6, 7, 8] 0 0)).reg 3 = 0x0807060504030201 := by
  decide +kernel

/-- The stores of R892 to R895 and R902: memory after, which reads 0 elsewhere. -/
theorem test_store_examples :
    (after (.stb 3 1 (.imm 0)) (bytesAt [] 0 0x1234)).mem = [(0x2000, 0x34)] ∧
    (after (.sth 3 1 (.imm 8)) (bytesAt [] 0 0xABCD1234)).mem = [(0x2008, 0x12), (0x2009, 0x34)] ∧
    (after (.stw 3 1 (.reg 2)) (bytesAt [] 4 0xFFFFFFFF01020304)).mem =
      [(0x2004, 1), (0x2005, 2), (0x2006, 3), (0x2007, 4)] ∧
    (after (.stx 3 1 (.imm 0)) (bytesAt [] 0 0x0102030405060700)).mem =
      [(0x2000, 1), (0x2001, 2), (0x2002, 3), (0x2003, 4), (0x2004, 5), (0x2005, 6), (0x2006, 7)] ∧
    (after (.sttw 2 1 (.imm 0)) (bytesAt [] 0xAAAAAAAA11220000 0x55000000)).mem =
      [(0x2000, 0x11), (0x2001, 0x22), (0x2004, 0x55)] := by decide +kernel

/-- The twin loads of R900 and R920, and an odd register. -/
theorem test_twin_examples :
    let s := bytesAt [0x11, 0x22, 0x33, 0x44, 0x55, 0x66, 0x77, 0x88] 0 0
    let t := after (.ldtw 2 1 (.imm 0)) s
    let u := after (.ldtxa 2 1 0xE2 0) (bytesAt [0, 1, 2, 3, 4, 5, 6, 7, 8, 9, 10, 11, 12, 13, 14, 15] 0 0)
    t.reg 2 = 0x11223344 ∧ t.reg 3 = 0x55667788 ∧ u.reg 2 = 0x0001020304050607 ∧ u.reg 3 = 0x08090A0B0C0D0E0F ∧
    (after (.ldtw 3 1 (.imm 0)) s).taken = some 0x010 := by decide +kernel

/-- The atomics of R922 to R926: `r[3]` and memory after. -/
theorem test_atomic_examples :
    let l := after (.ldstub 3 1 (.imm 0)) (bytesAt [] 0 5)
    let w := after (.swap 3 1 (.imm 0)) (bytesAt [0, 0, 0, 9] 0 0xFFFFFFFF00000005)
    let c := after (.casa 3 1 (.immAsi 0x80) 2) (bytesAt [0, 0, 0, 7] 7 9)
    let d := after (.casa 3 1 (.immAsi 0x80) 2) (bytesAt [0, 0, 0, 7] 8 9)
    l.reg 3 = 0 ∧ l.mem = [(0x2000, 0xFF)] ∧ w.reg 3 = 9 ∧ w.mem = [(0x2003, 5)] ∧
    c.reg 3 = 7 ∧ c.mem = [(0x2003, 9)] ∧ d.reg 3 = 7 ∧ d.mem = [(0x2003, 7)] := by decide +kernel

/-- Floating-point and FSR loads and stores (R905, R906, R910, R914, R917), and the alignment trap of R906. -/
theorem test_float_memory_examples :
    let s := bytesAt [0x3F, 0x80, 0, 0, 0x40, 0, 0, 0] 0 0
    (after (.ldf 3 1 (.imm 0)) s).f32 3 = 0x3F800000 ∧ (after (.lddf 3 1 (.imm 0)) s).f64 3 = 0x3F80000040000000 ∧
    (after (.lddf 3 1 (.imm 0)) s).fprs = 6 ∧ (after (.lddf 2 1 (.imm 4)) s).taken = some 0x035 ∧
    (after (.lddf 2 1 (.imm 2)) s).taken = some 0x034 ∧ (after (.ldfsr 1 (.imm 0)) s).fsr.tem = 0x1F ∧
    (after (.stxfsr 1 (.imm 0)) { s with fsr := { s.fsr with ftt := 2 } }).fsr.ftt = 0 := by decide +kernel

/-- Block, short and partial forms (R930; spec/45_vis.md R1280, R1285, R1286). -/
theorem test_block_short_partial_examples :
    (after (.ldblockf 16 1 0xF0 0) (bytesAt [1, 2, 3, 4, 5, 6, 7, 8, 9] 0 0)).f64 18 = 0x0900000000000000 ∧
    (after (.ldblockf 2 1 0xF0 0) (bytesAt [] 0 0)).taken = some 0x010 ∧
    (after (.stblockf 1 1 0xF0 0) ((bytesAt [] 0 0).setF64 3 0xAB)).mem = [(0x200F, 0xAB)] ∧
    (after (.ldshortf 2 1 0xD0 0) (bytesAt [0xAB] 0 0)).f64 2 = 0xAB ∧
    (after (.ldshortf 2 1 0xD2 0) (bytesAt [0x12, 0x34] 0 0)).f64 2 = 0x1234 ∧
    (after (.ldshortf 2 1 0xDA 0) (bytesAt [0x12, 0x34] 0 0)).f64 2 = 0x3412 ∧
    (after (.stshortf 2 1 0xDA 0) ((bytesAt [] 0 0).setF64 2 0x0123456789ABCDEF)).mem = [(0x2000, 0xEF), (0x2001, 0xCD)] ∧
    (after (.stpartialf 2 1 0xC0 3) ((bytesAt [] 0 0x81).setF64 2 0x0102030405060708)).mem =
      [(0x2000, 1), (0x2007, 8)] := by decide +kernel

/-- Registers behind ASIs, barriers, prefetches, and an ASI that is none (R220, R405, R945, R961). -/
theorem test_asi_and_barrier_examples :
    (after (.ldxa 1 0 (.immAsi 0x45 0)) { hyper with lsu := LsuControl.ofWord 0xF }).reg 1 = 0xF ∧
    (after (.stxa 3 0 (.immAsi 0x45 0)) (hyper.setReg 3 0xF)).lsu = LsuControl.ofWord 0xF ∧
    (after (.stxa 3 1 (.immAsi 0x21 0)) ((hyper.setReg 1 8).setReg 3 0x1ABC)).mmu.primary1 = 0x1ABC ∧
    (after (.ldxa 1 0 (.immAsi 0x05 0)) hyper).taken = some 0x014 ∧
    (after (.ldxa 1 0 (.immAsi 0x45 0)) user).taken = some 0x037 ∧
    (after (.prefetch 5 1 (.imm 0)) hyper).taken = some 0x010 ∧ (after (.prefetch 0 1 (.imm 0)) user).taken = none ∧
    (after (.membar 0 2) { hyper with undrained := [heldStore 0 0 false] }).undrained = [] ∧
    (after .stbar { hyper with undrained := [heldStore 0 0 false] }).undrained = [heldStore 0 0 false] ∧
    (after (.flush 1 (.imm 1)) user).taken = none := by decide +kernel

/-- The state after a step, or before it where the step stops. -/
def stepped (s : State) : State :=
  match step s with
  | .next t => t
  | _ => s

/-- A step fetches, decodes and runs a word; after reset it fetches from the boot ROM (spec/10_state.md R195,
spec/20_memory.md R509); ILLTRAP and a word of no instruction are illegal. -/
theorem test_step_examples :
    let t := stepped ((hyper.setReg 1 5).withFetchWord 32 0x86004002)
    counters t = (0x1004, 0x1008) ∧ t.reg 3 = 5 ∧ t.taken = none ∧
    counters (stepped (State.reset.withFetchWord 32 0x01000000)) = (0xFFFFFFFFF0000024, 0xFFFFFFFFF0000028) ∧
    (stepped (hyper.withFetchWord 32 0)).taken = some 0x010 ∧
    (stepped (hyper.withFetchWord 32 0x01C00000)).taken = some 0x010 := by decide +kernel


/-- spec/62_errors_core.md R1582 to R1587: a load that finds one or two wrong check bits; a store with an address error that
leaves the buffer, and one with one wrong check bit. -/
theorem test_store_buffer_errors :
    let on := fun (p : PendingStore) =>
      { bytesAt [7] 0 0 with undrained := [p], err := { hyper.err with cerer := cererMask, seter := 7 } }
    let load := fun (p : PendingStore) => after (.ldub 3 1 (.imm 0)) (on p)
    let sync := fun (p : PendingStore) => after (.membar 4 0) (on p)
    ((load (heldStore 9 1 false)).taken = some 0x029 ∧ (load (heldStore 9 1 false)).err.dsfsr = 5) ∧
    (load (heldStore 9 3 false)).err.dsfsr = 6 ∧ ((load (heldStore 9 0 false)).taken = none) ∧
    ((sync (heldStore 9 0 true)).mem = [(0x2000, 9)] ∧ (sync (heldStore 9 0 true)).err.dfesr = ⟨true, false, 2, 5⟩ ∧
      (sync (heldStore 9 0 true)).storeError = true) ∧
    ((sync (heldStore 9 1 false)).err.desr.errtype = 10 ∧ (sync (heldStore 9 1 false)).err.desr.s = false) := by decide +kernel

/-! ## Errors of the protected arrays (spec/62_errors_core.md R1579, R1580, R1588 to R1592, R1640, R1645) -/

/-- Error recording and traps on (CERER and SETER all ones), and an error register for injection. -/
def enabled (inject : BitVec 32) (checks : List (Nat × BitVec 8)) : State :=
  { hyper with err := { hyper.err with cerer := cererMask, seter := 7, inject := inject }, checks := checks }

/-- The state after an instruction under the errors of the arrays. -/
def protectedAfter (i : Instr) (s : State) : State :=
  match s.protect i (exec i s) with
  | .next t => t
  | _ => s

/-- R1640: an instruction that writes %g3 while `ircu` is set stores wrong check bits there; without it the right ones. -/
theorem test_inject_irf :
    (protectedAfter (.add 3 1 (.imm 5)) (enabled 0x82000041 [])).checks = [(3, 0x41)] ∧
    (protectedAfter (.add 3 1 (.imm 5)) (enabled 0x02000041 [(3, 0x41)])).checks = [] ∧
    (protectedAfter (.add 3 1 (.imm 5)) (enabled 0x81000041 [])).checks = [] := by decide +kernel

/-- R1645 cases 2 to 5 by the code of R2102: an error in %g1 traps where it is read and enabled; one wrong bit is IRFC, two
are IRFU; a privileged opcode in nonprivileged mode comes first. -/
theorem test_irf_error :
    (protectedAfter (.add 3 1 (.reg 2)) (enabled 0 [(1, 0x10)])).taken = some 0x029 ∧
    (protectedAfter (.add 3 1 (.reg 2)) (enabled 0 [(1, 0x10)])).err.dsfsr = 2 ∧
    (protectedAfter (.add 3 1 (.reg 2)) (enabled 0 [(1, 0x11)])).err.dsfsr = 1 ∧
    (protectedAfter (.add 3 2 (.reg 2)) (enabled 0 [(1, 0x11)])).taken = none ∧
    (let s := { enabled 0 [(1, 0x11)] with pstate := user.pstate, hpstate := user.hpstate }
     (protectedAfter (.wrprPil 1 (.imm 0)) s).taken = some 0x011 ∧ (protectedAfter (.wrprPil 1 (.imm 0)) s).err.dsfsr = 0) ∧
    irfIndex 3 8 = 24 ∧ irfIndex 3 24 = 8 ∧ irfIndex 2 8 = 8 ∧ irfIndex 3 16 = 16 := by decide +kernel

/-- R1580, R2103: an odd number of wrong bits in a half that is read is FRFC, an even one FRFU; the half that is not read
traps nothing. -/
theorem test_frf_error :
    (protectedAfter (.fadds 4 1 2) (enabled 0 [(193, 1)])).err.dsfsr = 4 ∧
    (protectedAfter (.faddd 4 0 2) (enabled 0 [(193, 3)])).err.dsfsr = 3 ∧
    (protectedAfter (.fadds 4 0 2) (enabled 0 [(193, 3)])).taken = none ∧
    (protectedAfter (.fzero 0) (enabled 0 [(193, 3)])).checks = [] := by decide +kernel

/-- R1588 to R1592: the errors of the other arrays with their D-SFSR codes; RDPR of TT at TL 1, STXA of a queue register, a
scratchpad register that is read and one that is written. -/
theorem test_array_errors :
    (protectedAfter (.rdprTt 3) { enabled 0 [(272, 1)] with tl := 1 }).err.dsfsr = 8 ∧
    (protectedAfter (.stxa 1 0 (.immAsi 0x25 2)) ((enabled 0 [(279, 3)]).setReg 2 0x3E0)).err.dsfsr = 9 ∧
    (protectedAfter (.ldxa 1 0 (.immAsi 0x4F 0)) (enabled 0 [(256, 1)])).err.dsfsr = 10 ∧
    (protectedAfter (.stxa 1 0 (.immAsi 0x4F 0)) (enabled 0 [(256, 1)])).checks = [] ∧
    (protectedAfter (.rdStickCmpr 1) (enabled 0 [(265, 1)])).err.dsfsr = 12 ∧
    (protectedAfter (.ldxa 1 0 (.immAsi 0x52 2)) ((enabled 0 [(284, 3)]).setReg 2 0x108)).err.dsfsr = 7 := by decide +kernel

/-- R1564, R1640: a DTLB entry written while `dmdu` is set traps where it is used, with D-SFSR 3. -/
theorem test_inject_dtlb :
    let s := { enabled 0x88000000 [] with mmu := { hyper.mmu with dtag := ⟨0x200, 0⟩ } }
    let t := after (.stxa 1 0 (.immAsi 0x5C 0)) (s.setReg 1 0x8000000000000543)
    (match t.lookup .data 0x400000 ⟨0x400000, false, .nucleus, 0x400000⟩ with
      | .trap tt u => tt == 0x072 && u.err.dsfsr == 3 && u.mmu.dsfar == 0x400000
      | _ => false) = true := by decide +kernel

/-- R1589, R1616: a compare register with two wrong check bits makes no comparison, and two of its accesses are recorded as
TCUD with a multiple error. -/
theorem test_compare_error :
    let s := enabled 0 [(264, 3)]
    let t := s.recordCompare 0 2
    s.compareBad 0 = true ∧ s.compareBad 1 = false ∧
    t.err.desr.f = true ∧ t.err.desr.s = true ∧ t.err.desr.me = true ∧ t.err.desr.errtype = 15 := by decide +kernel
/-! ## States and operands that meet the hypotheses of the statements

One theorem for each statement that has hypotheses; every clause has its state, at the ends of its range where it has one. -/

/-- A word with `op3`, for the clauses about words that are no instruction. -/
theorem witness_SethiNopAndPopulationCount :
    let w : Word32 := fmt3 2 3 0x2E 31 2
    opField w = 2 ∧ op3Field w = 0x2E ∧ rs1Field w ≠ 0 := by decide +kernel

theorem witness_DivisionsWriteTheQuotientOrTrap :
    let b := fun (v : Word) => RegImm.value (.reg 2) (hyper.setReg 2 v)
    (b 0x100000000 ≠ 0 ∧ (b 0x100000000).toNat % 2 ^ 32 = 0) ∧ (b 1 ≠ 0 ∧ (b 1).toNat % 2 ^ 32 ≠ 0) ∧
    (b 0xFFFFFFFF).toNat % 2 ^ 32 ≠ 0 ∧ b 0 = 0 := by decide +kernel

theorem witness_TaggedArithmeticChecksTags :
    bitAt (addCc 0x7FFFFFF8 4 0x7FFFFFFC) 1 = false ∧ bitAt (addCc 0x7FFFFFFC 4 0x80000000) 1 = true ∧
    bitAt (addCc 4 5 9 ||| 2) 1 = true ∧ bitAt (subCc 8 4 4) 1 = false ∧ bitAt (subCc 9 4 5 ||| 2) 1 = true := by
  decide +kernel

theorem witness_ConditionalMovesWriteOnTheirCondition :
    let off := { hyper with fprs := 0 }
    let w : Word32 := fmt3 2 3 0x2C 0x10 0x0802
    let u : Word32 := fmt3 2 3 0x2F 1 0x0002
    (CondSel.isFp (.fp 3 .a) = true ∧ off.fpEnabled = false) ∧ (CondSel.isFp (.int .icc .a) = false ∧
      CondSel.holds (.int .icc .a) off = true ∧ CondSel.holds (.int .icc .n) off = false) ∧
    (hyper.fpEnabled = true ∧ CondSel.holds (.fp 0 .a) hyper = true ∧ CondSel.holds (.fp 0 .n) hyper = false) ∧
    (RCond.holds .z (hyper.reg 0) = true ∧ RCond.holds .nz (hyper.reg 0) = false) ∧
    (opField w = 2 ∧ op3Field w = 0x2C ∧ bitAt w 18 = true ∧ bitAt w 11 = true) ∧
    opField u = 2 ∧ op3Field u = 0x2F ∧ u.extractLsb' 10 2 = 0 := by decide +kernel

/-- A transfer that raises nothing, at both ends of the address space, and under PSTATE.am anywhere. -/
theorem witness_reachable :
    Reachable hyper 0x00007FFFFFFFFFFC ∧ Reachable hyper 0xFFFF800000000000 ∧
    Reachable { hyper with pstate := { hyper.pstate with am := true } } 0x0000800000000000 :=
  ⟨⟨rfl, .inr (by decide +kernel)⟩, ⟨rfl, .inr (by decide +kernel)⟩, ⟨rfl, .inl rfl⟩⟩

theorem witness_BranchesFollowTheirCondition :
    let w : Word32 := fmt2 0 1 0x100000
    let u : Word32 := fmt2 0b01001 3 0
    let v : Word32 := fmt2 0b00100 3 0
    (ICond.holds .n 0xF = false ∧ ICond.holds .a 0 = true ∧ Reachable hyper (hyper.pc + BitVec.ofInt 64 (4 * (1 : BitVec 22).toInt))) ∧
    (FCond.holds .n 0 = false ∧ FCond.holds .a 0 = true ∧ RCond.holds .nz 0 = false ∧ RCond.holds .z 0 = true) ∧
    hyper.fpEnabled = true ∧ ({ hyper with fprs := 3 } : State).fpEnabled = false ∧
    (opField w = 0 ∧ op2Field w = 1 ∧ bitAt w 20 = true) ∧ (opField u = 0 ∧ op2Field u = 3 ∧ bitAt u 28 = true) ∧
    (opField v = 0 ∧ op2Field v = 3 ∧ v.extractLsb' 25 2 = 0) := by
  refine ⟨⟨by decide, by decide, rfl, .inr (by decide +kernel)⟩, ?_⟩
  decide +kernel

theorem witness_TakenTransfersTrapBeforeTheyExecute :
    let tct := { hyper with pstate := { hyper.pstate with tct := true } }
    let s := { hyper.setReg 1 0x00007FFFFFFFFFFC with win := { hyper.win with canrestore := 1 } }
    let am := { s with pstate := { s.pstate with am := true } }
    (tct.pstate.tct = true ∧ ICond.holds .a (tct.icc .icc) = true ∧ RCond.holds .z (tct.reg 0) = true ∧ tct.fpEnabled = true ∧
      FCond.holds .a tct.fsr.fcc0 = true ∧ FCond.holds .e (tct.fcc 1) = true) ∧
    (am.pstate.am = true ∧ am.win.canrestore ≠ 0 ∧ BitVec.ofNat 64 ((am.reg 1 + 4).toNat % 2 ^ 32) = (0 : Word) ∧
      ((am.reg 1 + 1).toNat % 2 ^ 32) % 4 ≠ 0) ∧
    (s.pstate.tct = false ∧ s.pstate.am = false ∧ outOfRange (s.reg 1 + 4) = true ∧ (s.reg 1 + 4).toNat % 4 = 0) ∧
    (s.win.canrestore ≠ 0 ∧ (s.reg 1 + 1).toNat % 4 ≠ 0) ∧
    outOfRange (({ hyper with pc := 0x00007FFFFFFFFFFC } : State).pc + BitVec.ofInt 64 (4 * (1 : BitVec 30).toInt)) = true := by
  decide +kernel

theorem witness_CallAndJumpLinkAndTransfer :
    let s := hyper.setReg 15 0x1000
    Reachable s (s.pc + BitVec.ofInt 64 (4 * (0x40 : BitVec 30).toInt)) ∧ (s.reg 15 + RegImm.value (.imm 8) s).toNat % 4 = 0 ∧
    Reachable s (s.reg 15 + RegImm.value (.imm 8) s) :=
  ⟨⟨rfl, .inr (by decide +kernel)⟩, by decide +kernel, rfl, .inr (by decide +kernel)⟩

theorem witness_WindowsMoveAndOverlap :
    let s := { hyper.setReg 1 0x2000 with win := { hyper.win with cansave := 5, canrestore := 1 } }
    let v := s.reg 1 + RegImm.value (.imm 0) s
    let am := { s.setReg 1 0x8000_0000_2000 with pstate := { s.pstate with am := true } }
    (s.win.cansave ≠ 0 ∧ s.win.cleanwin ≠ s.win.canrestore) ∧ s.win.canrestore ≠ 0 ∧ v.toNat % 4 = 0 ∧ Reachable s v ∧
    (am.win.canrestore ≠ 0 ∧ BitVec.ofNat 64 ((am.reg 1 + RegImm.value (.imm 0) am).toNat % 2 ^ 32) = (0x2000 : Word) ∧
      Reachable am 0x2000) :=
  ⟨by decide +kernel, by decide +kernel, by decide +kernel, ⟨rfl, .inr (by decide +kernel)⟩, by decide +kernel,
    by decide +kernel, rfl, .inl (by decide +kernel)⟩

theorem witness_WindowsMoveAndOverlap_slots :
    let t := { hyper with win := { hyper.win with cwp := hyper.win.cwp + 1 } }
    hyper.slot 8 = t.slot 24 ∧ hyper.slot 15 = t.slot 31 ∧ hyper.slot 1 = t.slot 1 := by decide +kernel

theorem witness_WindowTrapsSelectVectorAndWindow :
    let w := fun (a b c : BitVec 3) => { hyper with win := { hyper.win with cansave := a, canrestore := b, cleanwin := c } }
    (w 0 6 7).win.cansave = 0 ∧ ((w 1 5 5).win.cansave ≠ 0 ∧ (w 1 5 5).win.cleanwin = (w 1 5 5).win.canrestore) ∧
    (w 6 0 7).win.canrestore = 0 ∧ (w 6 0 7).win.cansave = 6 ∧ (w 5 1 7).win.cansave ≠ 6 := by decide +kernel

/-- Every mode, which the statements on privilege ask for. -/
theorem witness_levels : hyper.level = .hyper ∧ privileged.level = .priv ∧ user.level = .user := by decide +kernel

theorem witness_WindowControlInstructions : privileged.level ≠ .user ∧ user.level = .user := by decide +kernel

theorem witness_TrapReturnsRestoreTheSavedState :
    let s := { privileged with tl := 1 }
    let t := { s with pstate := { s.pstate with tct := true } }
    user.level = .user ∧ (privileged.level ≠ .user ∧ privileged.tl = 0) ∧ (t.level ≠ .user ∧ t.tl ≠ 0 ∧ t.pstate.tct = true) ∧
    (s.level ≠ .user ∧ s.tl ≠ 0 ∧ s.pstate.tct = false) ∧
    ({ s with traps := fileSet s.traps 1 { s.frame with tpcHole := true } } : State).frame.tpcHole = true := by decide +kernel

theorem witness_SoftwareTrapsSelectTheirType :
    ICond.holds .n (user.icc .icc) = false ∧ ICond.holds .a (user.icc .xcc) = true := by decide +kernel

theorem witness_StateRegistersAreRead :
    let w : Word32 := fmt3 2 1 0x28 0x1F 0
    let u : Word32 := fmt3 2 1 0x28 0x0F 0
    ((user.level == .user && user.tim.npt) = true ∧ (privileged.level == .user && privileged.tim.npt) = false) ∧
    (bitAt { user with pcr := 1 }.pcr 0 = true ∧ bitAt user.pcr 0 = false) ∧
    (!hyper.fpEnabled) = false ∧ (!({ hyper with fprs := 3 } : State).fpEnabled) = true ∧
    (opField w = 2 ∧ op3Field w = 0x28 ∧ rs1Field w = 0x1F) ∧ (opField u = 2 ∧ rs1Field u = 0x0F ∧ rdField u ≠ 0) := by
  decide +kernel

theorem witness_StateRegistersAndFieldsAreWritten :
    let w : Word32 := fmt3 2 0x1F 0x30 1 0x2000
    (user.level == .user) = true ∧ (privileged.level == .user) = false ∧ (privileged.level != .hyper) = true ∧
    (hyper.level != .hyper) = false ∧ (!hyper.fpEnabled) = false ∧
    (opField w = 2 ∧ op3Field w = 0x30 ∧ rdField w = 0x1F) := by decide +kernel

theorem witness_PrivilegedRegistersAreRead :
    let w : Word32 := fmt3 2 1 0x2A 0x11 0
    user.level = .user ∧ (privileged.level ≠ .user ∧ privileged.tl = 0) ∧
    (let s := { privileged with tl := 1 }; s.level ≠ .user ∧ s.tl ≠ 0) ∧
    opField w = 2 ∧ op3Field w = 0x2A ∧ 0x10 < rs1Field w := by decide +kernel

theorem witness_PrivilegedRegistersAreWritten :
    let w : Word32 := fmt3 2 0x0F 0x32 1 0x2000
    user.level = .user ∧ (privileged.level ≠ .user ∧ privileged.tl = 0) ∧ privileged.level = .priv ∧ hyper.level = .hyper ∧
    (let s := { privileged with tl := 1 }; s.level ≠ .user ∧ s.tl ≠ 0) ∧
    opField w = 2 ∧ op3Field w = 0x32 ∧ rdField w = 0x0F := by decide +kernel

theorem witness_ProcessorStateIsWritten :
    let am := { privileged with pstate := { privileged.pstate with am := true } }
    let v := am.reg 0 ^^^ RegImm.value (.imm 4) am
    user.level = .user ∧ (privileged.level ≠ .user ∧ (privileged.pstate.am && !bitAt v 3) = false) ∧
    (am.level ≠ .user ∧ (am.pstate.am && !bitAt v 3) = true) := by decide +kernel

theorem witness_HyperprivilegedRegistersAreReadAndWritten :
    let w : Word32 := fmt3 2 1 0x29 0x1D 0
    let u : Word32 := fmt3 2 7 0x33 1 0x2000
    privileged.level ≠ .hyper ∧ (hyper.level = .hyper ∧ hyper.tl = 0) ∧ ({ hyper with tl := 6 } : State).tl ≠ 0 ∧
    (opField w = 2 ∧ op3Field w = 0x29 ∧ 7 ≤ rs1Field w ∧ rs1Field w ≤ 0x1D) ∧
    (opField u = 2 ∧ op3Field u = 0x33 ∧ 7 ≤ rdField u) := by decide +kernel

theorem witness_SoftwareResetAndHalt :
    let wakes := fun (s : State) => bitAt s.tim.softint 16 || bitAt s.tim.softint 0 || s.tim.hsp || s.intr.receive != 0 ||
      s.err.desr.f || s.err.dfesr.sba || s.err.dfesr.sbdio || s.xirPending || s.dbg.overlapMode
    privileged.level ≠ .hyper ∧ hyper.level = .hyper ∧ wakes hyper = false ∧
    wakes { hyper with tim := { hyper.tim with softint := 0x10000 } } = true := by decide +kernel

theorem witness_BarriersDrainAndPrefetchesChangeNoData_barriers :
    (bitAt (2 : BitVec 4) 1 || bitAt (0 : BitVec 3) 1 || bitAt (0 : BitVec 3) 2) = true ∧
    ({ hyper with undrained := [heldStore 0 0 false] } : State).undrained.all PendingStore.clean = true := by decide +kernel

/-- Each end of the illegal codes, code 24 with and without its key, and an address without an entry in the TLB. -/
theorem witness_BarriersDrainAndPrefetchesChangeNoData_prefetches :
    (5 ≤ (5 : BitVec 5).toNat ∧ (15 : BitVec 5).toNat ≤ 15) ∧ ¬(5 ≤ (16 : BitVec 5).toNat ∧ (16 : BitVec 5).toNat ≤ 15) ∧
    ¬((24 : BitVec 5) = 24 ∧ user.level = .hyper ∧ ¬(user.ea 0 (.imm 0)).toNat / 2 ^ 37 % 8 = 3) ∧
    (let s := hyper.setReg 1 0x6000000000; (s.ea 1 (.imm 0)).toNat / 2 ^ 37 % 8 = 3) ∧
    (user.space none = some user.implicitSpace ∧ user.route user.implicitSpace ≠ .bypass ∧
      user.tlbMatches .data ((⟨.load, none, 0x2000, 1⟩ : DataReq).request user.implicitSpace (user.route user.implicitSpace)) = []) ∧
    (hyper.hpstate.hpriv = true ∧ hyper.plainLine (0x2000 % 2 ^ 40) = true ∧ isIo (0x8000000000 % 2 ^ 40) = true) ∧
    (hyper.InjectsNone ∧ user.InjectsNone ∧ hyper.notData = [] ∧ user.notData = []) ∧
    (user.space (some 0x12) = none ∧ user.restricted (some 0x10) = true) := by decide +kernel

/-- Zeros from 0x2000 on, with `r[1]` their address. -/
def blank : State := bytesAt [] 0 0

theorem blank_uniform : blank.l2Uniform = true := by decide +kernel

/-- An access at 0x2000 that changes nothing reaches memory. -/
theorem reaches_blank {r : DataReq} {little : Bool} (h : blank.access r = .ok ⟨0x2000, little⟩ blank) :
    Reaches blank r ⟨0x2000, little⟩ blank :=
  ⟨h, fun _ => rfl, by change isIo 0x2000 = false; decide, by change blank.plainLine 0x2000 = true; decide +kernel, blank_uniform⟩

theorem settled_blank (pa n : Nat) : Settled blank pa n := ⟨rfl, .inl rfl⟩

/-- An access that traps: nothing translates in nonprivileged mode. -/
theorem access_traps : ∃ tt b, user.access ⟨.load, none, 0x2000, 4⟩ = .trap tt b := ⟨_, _, rfl⟩

/-- An untranslated access in hyperprivileged mode, and an address outside the I/O half. -/
theorem witness_ChecksOfAnAccessChangeNoData :
    (∃ s1, blank.access ⟨.load, none, 0x2000, 4⟩ = .ok ⟨0x2000, false⟩ s1) ∧
    blank.hpstate.hpriv = true ∧ blank.lsu.mode ≠ 2 ∧ blank.undrained.all PendingStore.clean = true ∧
    bitAt (0x7FFFFFFFFF : Word) 39 = false ∧ blank.KeepsData :=
  ⟨⟨_, rfl⟩, by decide +kernel, by decide +kernel, rfl, by decide, by decide +kernel, fun _ h => nomatch h⟩

/-- The store buffer has room for one store, and for a block; and, full, for neither but where no error of it is in question. -/
theorem witness_rooms : HasRoom blank 1 ∧ HasRoom blank 8 ∧
    HasRoom { blank with undrained := List.replicate 7 (heldStore 0 1 false) } 1 ∧
    HasRoom { blank with undrained := List.replicate 8 (heldStore 0 0 false) } 1 :=
  ⟨.inl (by decide), .inl (by decide), .inl (by decide), .inr (by decide +kernel)⟩

theorem witness_IntegerLoadsExtendTheirValue :
    blank.reg 1 + RegImm.value (.imm 0) blank = 0x2000 ∧
    Reaches blank ⟨.load, none, 0x2000, 1⟩ ⟨0x2000, false⟩ blank ∧ Reaches blank ⟨.load, none, 0x2000, 4⟩ ⟨0x2000, false⟩ blank ∧
    Reaches blank ⟨.loadX, none, 0x2000, 8⟩ ⟨0x2000, false⟩ blank ∧
    Reaches blank ⟨.load, some 0x88, 0x2000, 2⟩ ⟨0x2000, true⟩ blank ∧
    Reaches blank ⟨.loadX, some 0x80, 0x2000, 8⟩ ⟨0x2000, false⟩ blank ∧ isRegisterAsi 0x80 = false ∧
    Settled blank 0x2000 8 ∧ (0x2001 : Word).toNat % 2 ≠ 0 ∧ (∃ tt b, user.access ⟨.load, none, 0x2000, 4⟩ = .trap tt b) :=
  ⟨by decide +kernel, reaches_blank rfl, reaches_blank rfl, reaches_blank rfl, reaches_blank rfl, reaches_blank rfl, by decide,
    settled_blank _ _, by decide, access_traps⟩

theorem witness_IntegerStoresWriteTheirBytes :
    Reaches blank ⟨.store, none, 0x2000, 1⟩ ⟨0x2000, false⟩ blank ∧ Reaches blank ⟨.store, none, 0x2000, 4⟩ ⟨0x2000, false⟩ blank ∧
    Reaches blank ⟨.storeX, none, 0x2000, 8⟩ ⟨0x2000, false⟩ blank ∧
    (Reaches blank ⟨.storeX, some 0x80, 0x2000, 8⟩ ⟨0x2000, false⟩ blank ∧ isRegisterAsi 0x80 = false ∧
      asiKind 0x80 ≠ .twinInit) ∧
    (Reaches blank ⟨.storeX, some 0xE2, 0x2000, 8⟩ ⟨0x2000, false⟩ blank ∧ asiKind 0xE2 = .twinInit ∧
      isRegisterAsi 0xE2 = false ∧ (0x2000 : Word).toNat % 64 = 0 ∧ (0x2008 : Word).toNat % 64 ≠ 0) ∧
    (∃ tt b, user.access ⟨.store, none, 0x2000, 4⟩ = .trap tt b) :=
  ⟨reaches_blank rfl, reaches_blank rfl, reaches_blank rfl, ⟨reaches_blank rfl, by decide, by decide⟩,
    ⟨reaches_blank rfl, by decide, by decide, by decide, by decide⟩, _, _, rfl⟩

theorem witness_TwinAccessesMovePairs :
    (bitAt (3 : Reg) 0 = true ∧ bitAt (2 : Reg) 0 = false) ∧
    Reaches blank ⟨.loadTwin, none, 0x2000, 8⟩ ⟨0x2000, false⟩ blank ∧
    (Reaches blank ⟨.loadTwin, some 0x80, 0x2000, 8⟩ ⟨0x2000, false⟩ blank ∧ isTwinxAsi 0x80 = false) ∧
    (Reaches blank ⟨.loadQuad, some 0xE2, 0x2000, 16⟩ ⟨0x2000, false⟩ blank ∧ isTwinxAsi 0xE2 = true) ∧
    (isIo (0x2000 + 8) = false ∧ blank.plainLine (0x2000 + 8) = true) ∧
    Settled blank 0x2000 16 ∧ Reaches blank ⟨.storeTwin, none, 0x2000, 8⟩ ⟨0x2000, false⟩ blank ∧
    Reaches blank ⟨.storeTwin, some 0xE2, 0x2000, 8⟩ ⟨0x2000, false⟩ blank :=
  ⟨by decide, reaches_blank rfl, ⟨reaches_blank rfl, by decide⟩, ⟨reaches_blank rfl, by decide⟩, by decide +kernel,
    settled_blank _ _, reaches_blank rfl, reaches_blank rfl⟩

theorem witness_AtomicsExchangeInOneStep :
    Reaches blank ⟨.atomic, none, 0x2000, 1⟩ ⟨0x2000, false⟩ blank ∧ Reaches blank ⟨.atomic, none, 0x2000, 4⟩ ⟨0x2000, false⟩ blank ∧
    Reaches blank ⟨.atomic, some 0x80, 0x2000, 8⟩ ⟨0x2000, false⟩ blank ∧
    (blank.drain.plainLine 0x2000 = true ∧ blank.undrained.all PendingStore.clean = true) ∧
    (∃ tt b, user.access ⟨.atomic, none, 0x2000, 4⟩ = .trap tt b) ∧ (0x2002 : Word).toNat % 4 ≠ 0 :=
  ⟨reaches_blank rfl, reaches_blank rfl, reaches_blank rfl, by decide +kernel, ⟨_, _, rfl⟩, by decide⟩

/-- The address of each register, at the ends of each range; every mode, with the ASIs at the bounds of the modes; a page size and
a reserved one, CMT registers that show the last change and that do not, and a strand whose buffer is in no error. -/
theorem witness_RegisterAsisReadAndWriteRegisters :
    let ea := fun (v : Word) => let s := hyper.setReg 1 v; s.reg 1 + s.reg 0
    let addresses : List Word := [0, 8, 0x10, 0x108, 0x110, 0x120, 0x20, 0x28, 0x30, 0x38, 0x40, 0x48, 0x50, 0x58, 0x70, 0x208, 0x220,
      0x3B8, 0x3C0, 0x3C8, 0x3F8]
    (hyper.level = .hyper ∧ privileged.level = .priv ∧ user.level = .user ∧ hyper.fpEnabled = true ∧ hyper.checksClean = true) ∧
    addresses.all (fun v => ea v == v && v.toNat % 8 == 0 && v.toNat % 2 ^ 48 == v.toNat) = true ∧
    ((0x7F : BitVec 8) < 0x80 ∧ (0x30 : BitVec 8) ≤ 0x30 ∧ (0x25 : BitVec 8) < 0x30) ∧
    ((0x38 : Word).toNat = 8 * (7 : BitVec 3).toNat ∧ (0x3F8 : Word).toNat = 0x3C0 + 8 * (7 : BitVec 3).toNat ∧
      (0x28 : Word).toNat = 0x10 + 8 * (3 : BitVec 2).toNat ∧ (0x48 : Word).toNat = 0x30 + 8 * (3 : BitVec 2).toNat ∧
      (0x120 : Word).toNat = 0x108 + 8 * (3 : BitVec 2).toNat ∧ (0x220 : Word).toNat = 0x208 + 8 * (3 : BitVec 2).toNat) ∧
    ((0x50 : Word).toNat / 16 % 16 = 5 ∧ (0x20 : Word).toNat / 16 % 16 = 2) ∧
    (hyper.cmt.lag = 0 ∧ ({ hyper with cmt := { hyper.cmt with lag := 2 } } : State).cmt.lag ≠ 0) := by decide +kernel

theorem witness_FloatLoadsAndStoresMoveRegisters :
    ((hyper.pstate.pef = true ∧ bitAt hyper.fprs 2 = true) ∧ bitAt ({ hyper with fprs := 3 } : State).fprs 2 = false) ∧
    Reaches blank ⟨.loadF, none, 0x2000, 4⟩ ⟨0x2000, false⟩ blank ∧ Reaches blank ⟨.loadD, none, 0x2000, 8⟩ ⟨0x2000, false⟩ blank ∧
    Reaches blank ⟨.storeF, none, 0x2000, 4⟩ ⟨0x2000, false⟩ blank ∧ Reaches blank ⟨.storeD, none, 0x2000, 8⟩ ⟨0x2000, false⟩ blank ∧
    Reaches blank ⟨.loadF, some 0x80, 0x2000, 4⟩ ⟨0x2000, false⟩ blank ∧
    Reaches blank ⟨.storeF, some 0x88, 0x2000, 4⟩ ⟨0x2000, true⟩ blank ∧
    (Reaches blank ⟨.loadD, some 0x80, 0x2000, 8⟩ ⟨0x2000, false⟩ blank ∧ isRegisterAsi 0x80 = false ∧
      asiKind 0x80 ≠ .block ∧ asiKind 0x80 ≠ .short) ∧
    Reaches blank ⟨.storeD, some 0x80, 0x2000, 8⟩ ⟨0x2000, false⟩ blank ∧ Settled blank 0x2000 8 ∧
    ((0x2004 : Word).toNat % 8 = 4 ∧ (0x2006 : Word).toNat % 4 ≠ 0) ∧
    (∃ tt b, user.access ⟨.loadF, none, 0x2000, 4⟩ = .trap tt b) ∧ (∃ tt b, user.access ⟨.loadD, none, 0x2000, 8⟩ = .trap tt b) :=
  ⟨by decide +kernel, reaches_blank rfl, reaches_blank rfl, reaches_blank rfl, reaches_blank rfl, reaches_blank rfl,
    reaches_blank rfl, ⟨reaches_blank rfl, by decide, by decide, by decide⟩, reaches_blank rfl,
    settled_blank _ _, by decide, ⟨_, _, rfl⟩, _, _, rfl⟩

theorem witness_FsrLoadsAndStoresMoveItsFields :
    let w : Word32 := fmt3 3 2 0x21 1 0x2000
    (blank.fpEnabled = true ∧ ({ hyper with fprs := 3 } : State).fpEnabled = false) ∧
    Reaches blank ⟨.loadF, none, 0x2000, 4⟩ ⟨0x2000, false⟩ blank ∧ Reaches blank ⟨.storeD, none, 0x2000, 8⟩ ⟨0x2000, false⟩ blank ∧
    Settled blank 0x2000 8 ∧ (opField w = 3 ∧ op3Field w = 0x21 ∧ 2 ≤ rdField w) ∧
    (0x2002 : Word).toNat % 4 ≠ 0 ∧ (0x2004 : Word).toNat % 8 ≠ 0 ∧
    (user.fpEnabled = true ∧ ∃ tt b, user.access ⟨.loadF, none, 0x2000, 4⟩ = .trap tt b) :=
  ⟨by decide +kernel, reaches_blank rfl, reaches_blank rfl, settled_blank _ _, by decide +kernel, by decide, by decide,
    by decide +kernel, _, _, rfl⟩

theorem witness_BlockShortAndPartialAccesses :
    ((doublePair 16).extractLsb' 0 3 = 0 ∧ (doublePair 17).extractLsb' 0 3 = 0 ∧ (doublePair 2).extractLsb' 0 3 ≠ 0) ∧
    (hyper.fpEnabled = true ∧ ({ hyper with fprs := 3 } : State).fpEnabled = false) ∧
    Reaches blank ⟨.blockLoad, some 0xF0, 0x2000, 64⟩ ⟨0x2000, false⟩ blank ∧
    Reaches blank ⟨.blockStore, some 0xE0, 0x2000, 64⟩ ⟨0x2000, false⟩ blank ∧
    Reaches blank ⟨.shortLoad, some 0xD0, 0x2000, 1⟩ ⟨0x2000, false⟩ blank ∧
    Reaches blank ⟨.shortStore, some 0xDA, 0x2000, 2⟩ ⟨0x2000, true⟩ blank ∧
    Reaches blank ⟨.partialStore, some 0xC0, 0x2000, 8⟩ ⟨0x2000, false⟩ blank ∧
    ((∀ k, k < 4 → blank.plainLine (0x2000 + 16 * k) = true) ∧ blank.pendingIn 0x2000 64 (fun _ => true) = false) ∧ Settled blank 0x2000 2 ∧
    isBlockAsi 0xF9 = true ∧ isShortAsi 0xDB = true :=
  ⟨by decide +kernel, by decide +kernel, reaches_blank rfl, reaches_blank rfl, reaches_blank rfl, reaches_blank rfl,
    reaches_blank rfl, ⟨by decide +kernel, rfl⟩, settled_blank _ _, by decide, by decide⟩

/-- The three ways an operation ends: a value, an unfinished operation, and an exception that is enabled. -/
theorem witness_FloatOperationsEndByTheirExceptions :
    let f := FloatFormat.single
    let one := f.unpack 0x3F800000
    (hyper.fpEnabled = true ∧ ({ hyper with fprs := 3 } : State).fpEnabled = false) ∧
    f.add ⟨0, false⟩ one one = .value (f.unpack 0x40000000) 0 ∧ f.add ⟨0, false⟩ one (f.unpack 1) = .unfinished ∧
    f.div ⟨0, false⟩ one (f.unpack 0) = .value (f.unpack 0x7F800000) 2 ∧ (2 : BitVec 5) &&& 2 ≠ 0 := by decide +kernel

/-- Ordinary operands whose result is inexact in every rounding direction, with no other exception. -/
theorem witness_FloatResultsAreTheRoundedExactValues :
    let f := FloatFormat.single
    let one := f.unpack 0x3F800000
    let three := f.unpack 0x40400000
    let inexact := fun (r : FpResult Fields) => match r with
      | .value _ e => e &&& 0x1E == 0 && bitAt e 0
      | .unfinished => false
    (one.exp < f.emax ∧ one.frac < 2 ^ f.fracBits ∧ one.exp ≠ 0) ∧
    (∀ rnd : BitVec 2, inexact (f.div ⟨rnd, false⟩ one three) = true ∧ inexact (f.sqrt ⟨rnd, false⟩ three) = true ∧
      inexact (f.ofInt ⟨rnd, false⟩ 0x1000001) = true ∧
      inexact (narrow ⟨rnd, false⟩ (FloatFormat.double.unpack 0x3FF0000000000001)) = true) ∧
    f.toInt ⟨0, false⟩ 32 (f.unpack 0x4F000000) = .value 0x7FFFFFFF 16 ∧
    f.toInt ⟨0, false⟩ 32 (f.unpack 0xCF000000) = .value (-0x80000000) 0 := by decide +kernel

/-- One of each kind of operand, of both signs. -/
theorem witness_SpecialOperandsGiveTheirTableResults :
    let f := FloatFormat.double
    let x := f.unpack
    let nan := fun (y : Fields) => y.exp = f.emax ∧ y.frac ≠ 0
    (nan (x 0x7FF0000000000001) ∧ (x 0x7FF7FFFFFFFFFFFF).frac < 2 ^ (f.fracBits - 1) ∧
      ¬(x 0x7FF8000000000000).frac < 2 ^ (f.fracBits - 1)) ∧
    ((x 0xFFF0000000000000).exp = f.emax ∧ (x 0xFFF0000000000000).frac = 0 ∧ (x 0xFFF0000000000000).sign = true) ∧
    ((x 0x8000000000000000).exp = 0 ∧ (x 0x8000000000000000).frac = 0 ∧ (x 0x8000000000000000).sign = true) ∧
    ((x 0xBFF0000000000000).exp ≠ 0 ∧ (x 0xBFF0000000000000).exp ≠ f.emax ∧ (x 0xBFF0000000000000).sign = true) := by
  decide +kernel

/-- The floating-point unit enabled and disabled, which the statements on floating point and VIS ask for. -/
theorem witness_fpEnabled : hyper.fpEnabled = true ∧ ({ hyper with fprs := 3 } : State).fpEnabled = false ∧
    ({ hyper with pstate := { hyper.pstate with pef := false } } : State).fpEnabled = false := by decide +kernel

theorem witness_FloatMovesChangeOnlyTheSign : hyper.fpEnabled = true ∧ ({ hyper with fprs := 3 } : State).fpEnabled = false := by
  decide +kernel

theorem witness_FloatComparisonsOrderNumbers :
    hyper.fpEnabled = true ∧ ({ hyper with fprs := 3 } : State).fpEnabled = false := by decide +kernel

theorem witness_EdgesAndArraysComputeMasksAndAddresses :
    (given 0 5 0 0).reg 2 = 5 ∧ (5 : Word).toNat ≤ 5 ∧ (given 0 6 0 0).reg 2 = 6 ∧ 5 < (6 : Word).toNat := by decide +kernel

theorem witness_AlignmentAndShuffleMoveBytes : hyper.fpEnabled = true := by decide +kernel

theorem witness_PartitionedComparesAndProducts : hyper.fpEnabled = true := by decide +kernel

theorem witness_PacksMergesAndPartitionedSums : hyper.fpEnabled = true := by decide +kernel

theorem witness_LogicalOperationsFollowTheirTruthTable : hyper.fpEnabled = true := by decide +kernel

/-- The five ways of a trap: the level, RED_state and the mode before it, at the ends of the ranges of TL. -/
theorem witness_TrapsSaveTheStateAndGoToTheirVector :
    let s := fun (tl : BitVec 3) => { privileged with tl := tl }
    ((s 6).tl ≤ 6 ∧ (s 6).tl = 6) ∧ ((s 5).tl < 6 ∧ (s 5).tl = 5) ∧ (State.reset.tl = 6 ∧ State.reset.hpstate.red = true) ∧
    ((s 4).tl < 5 ∧ (s 4).hpstate.red = false ∧ 2 ≤ (s 4).tl ∧ 2 ≤ (s 2).tl) ∧ (hyper.tl < 5 ∧ hyper.hpstate.hpriv = true) ∧
    ((s 1).tl < 2 ∧ (s 1).hpstate.hpriv = false ∧ trapToPriv 0x17F = true ∧ trapToPriv 0x080 = true ∧ trapToPriv 0x180 = false) := by
  decide +kernel

/-- A requested XIR, and a requested warm reset with and without a strand enabled. -/
theorem witness_ResetsLeaveTheStatedValues :
    let x := { hyper with xirPending := true }
    let w := { hyper with chipReset := some .wmr, cmt := { hyper.cmt with enable := 0xFF } }
    (x.begin.chipReset = none ∧ x.begin.run = .running ∧ x.begin.xirPending = true) ∧
    (w.begin.run ≠ .stopped ∧ w.begin.chipReset = some .wmr ∧ w.cmt.enable ≠ 0) ∧
    w.undrained = [] := by decide +kernel

/-- Each masked and unmasked state, the lowest and the highest level, and a counter that passes a compare value. -/
theorem witness_DisruptingTrapsAreTakenByPriority :
    let ie := { privileged with pstate := { privileged.pstate with ie := true } }
    let level := fun (v : BitVec 17) (pil : BitVec 4) => { ie with pil := pil, tim := { ie.tim with softint := v } }
    let red := { level 0x4000 0 with hpstate := ⟨false, true, false, false⟩ }
    let t := (red.withFetchWord 32 0x01000000)
    (hyper.hpstate.hpriv = true ∧ hyper.pstate.ie = false) ∧
    ({ user with intr := { user.intr with receive := 1 } } : State).intr.receive ≠ 0 ∧ user.tim.hsp = false ∧
    (bitAt (level 2 0).tim.softint 1 = true ∧ (level 2 0).pil.toNat < 1) ∧
    (bitAt (level 0x8000 14).tim.softint 15 = true ∧ (level 0x8000 14).pil.toNat < 15 ∧ (level 0x8000 14).queueDiffers 0 = false ∧
      (level 0x8000 14).queueDiffers 2 = false ∧ (level 0x8000 14).intr.receive = 0) ∧
    (let e := (({ hyper with storeError := true } : State).withFetchWord 32 0x01000000).begin
     let r := (({ hyper with storeError := true } : State).withFetchWord 32 0x9F802000).begin
     (e.chipReset = none ∧ e.run = .running ∧ e.xirPending = false ∧ e.storeError = true ∧
       trapsBefore e.instruct (2 * 16 + 1) = false) ∧
     (r.storeError = true ∧ r.hpstate.hpriv = true ∧ trapsBefore r.instruct (1 * 16 + 4) = true)) ∧
    (let e := { ie with err := { ie.err with desr := ⟨true, false, true, 6, 0⟩, seter := 2 } }; e.pending = some (0x040, 33 * 16 + 1)) ∧
    (({ privileged with hpstate := ⟨false, false, false, true⟩ } : State).begin.hpstate.tlz = true) ∧
    (t.begin.chipReset = none ∧ t.begin.run = .running ∧ t.begin.xirPending = false ∧ t.begin.storeError = false ∧ t.begin.pending = some (0x04E, 18 * 16) ∧
      trapsBefore t.begin.instruct (18 * 16) = false) ∧
    (hyper.tim.counter.toNat + (256 : BitVec 62).toNat < 2 ^ 63 ∧ hyper.tim.counter.toNat / 2 ^ 7 < 0x80 % 2 ^ 63 / 2 ^ 7 ∧
      0x80 % 2 ^ 63 / 2 ^ 7 < (hyper.tim.counter.toNat + (256 : BitVec 62).toNat) / 2 ^ 7 ∧
      hyper.checks = [] ∧ bitAt hyper.tim.tickCmpr 63 = true ∧ bitAt (0x80 : Word) 63 = false) := by decide +kernel

/-- A 4 MB page stored over an empty TLB; the first and the last address of the page, and a demap of all pages. -/
theorem witness_StoredPagesTranslateUntilDemapped :
    let s := { hyper.setReg 1 0x8000000000000543 with mmu := { hyper.mmu with dtag := ⟨0x200, 0⟩, itag := ⟨0x200, 0⟩ } }
    s.hpstate.hpriv = true ∧ s.checksClean = true ∧ bitAt (s.reg 1) 63 = true ∧
    (((s.reg 1).toNat % 16, 22) ∈ [(0, 13), (1, 16), (3, 22), (5, 28)]) ∧
    (∀ side ∈ [Side.data, Side.inst], (s.tag side).context = 0 ∧
      (0x400000 : Word).toNat % 2 ^ 48 / 2 ^ 22 = (s.tag side).va.toNat * 2 ^ 13 / 2 ^ 22 ∧
      (0x400000 : Word).toNat % 2 ^ 48 / 2 ^ 13 = (s.tag side).va.toNat ∧
      (0x7FFFFF : Word).toNat % 2 ^ 48 / 2 ^ 22 = (s.tag side).va.toNat * 2 ^ 13 / 2 ^ 22 ∧
      s.tlbMatches side ⟨0x7FFFFF, false, .nucleus, 0x7FFFFF⟩ = []) ∧
    (s.setReg 2 0x80).reg 2 = 0x80 := by decide +kernel

/-- A TTE of an 8 KB page at address 0x4000 in the TSB that the first configuration register names, which begins at 0x2000: of a
physical page, and of a real page in the first range. A miss with no TSB enabled, and one of a real address. -/
theorem witness_StoredPagesTranslateUntilDemapped_walk :
    let tte : List Byte := [0, 0, 0, 0, 0, 0, 0, 0, 0x80, 0, 0, 0, 0, 0, 0x60, 0xC0]
    let t := fun (c : TsbConfig) =>
      { user with mem := memPutBytes [] 0x2020 tte
                  mmu := { user.mmu with tsbZero := fileSet user.mmu.tsbZero 0 c
                                         realRange := fileSet user.mmu.realRange 0 ⟨true, 3, 3⟩ } }
    let c : TsbConfig := ⟨true, false, false, 1, false, .k8, 0⟩
    let q : Request := ⟨0x4000, false, .primary, 0x4000⟩
    let data : Word := 0x80000000000060C0
    (user.tlbMatches .data q = [] ∧ user.tlbMatches .inst q = [] ∧ user.tlbMatches .data { q with real := true } = []) ∧
    (∀ j, (fileGet user.mmu.tsbZero j).enable = false ∧ (fileGet user.mmu.tsbNonzero j).enable = false) ∧
    (∀ s ∈ [t c, t { c with raNotPa := true }], s.tlbMatches .inst q = [] ∧ (s.contexts q.ctx).1 = 0 ∧ s.checksClean = true ∧
      (∀ j, (fileGet s.mmu.tsbZero j).enable = decide (j = 0)) ∧ s.plainLine 0x2020 = true ∧ s.l2Uniform = true ∧
      s.pendingIn 0x2020 16 (fun _ => true) = false ∧ BitVec.ofNat 64 (bigEndianAt s 0x2020 8) = (0 : Word) ∧
      BitVec.ofNat 64 (bigEndianAt s 0x2028 8) = data ∧
      (1 / 2 ^ 0 * 2 ^ 0 * 2 ^ 13 + q.va.toNat / 2 ^ (13 + PageSize.shift .k8) % 2 ^ 9 * 16 = 0x2020) ∧
      (fileGet s.mmu.realRange 0).enable = true) ∧
    (bitAt data 63 = true ∧ bitAt data 7 = true ∧ (data.toNat % 16, 13) ∈ [(0, 13), (1, 16), (3, 22), (5, 28)] ∧
      data.extractLsb' 13 27 = 3 ∧ data.extractLsb' 40 16 = 0 ∧ 13 + PageSize.shift .k8 ≤ 13 ∧
      (0 : Word).toNat % 2 ^ 42 * 2 ^ 22 / 2 ^ 22 = (q.va.signExtend 64).toNat / 2 ^ 22) ∧
    bitAt (BitVec.ofNat 64 (bigEndianAt (t { c with base := 2 }) 0x4028 8) : Word) 63 = false := by decide +kernel

/-- A NOP, and a word of no instruction, at the program counter of a strand where nothing else happens. -/
def idle (w : Nat) : State := hyper.withFetchWord 32 w

theorem quiet_idle {w : Nat} (h : w = 0x01000000 ∨ w = 0x01C00000) : Quiet (idle w) := by
  rcases h with rfl | rfl <;> constructor <;> decide +kernel

theorem witness_StepsRunTheDecodedInstruction :
    Quiet (idle 0x01000000) ∧ (idle 0x01000000).taken = none ∧ (idle 0x01000000).fetch = .ok 0x01000000 (idle 0x01000000) ∧
    decode 0x01000000 = .ok .nop ∧ (∃ t, exec .nop (idle 0x01000000) = .next t) ∧
    Quiet (idle 0x01C00000) ∧ (idle 0x01C00000).fetch = .ok 0x01C00000 (idle 0x01C00000) ∧
    decode 0x01C00000 = .error .reservedOpcode ∧
    (hyper.hpstate.hpriv = true ∧ isIo 0x1000 = false ∧ hyper.plainLine 0x1000 = true ∧ hyper.l2Uniform = true) ∧
    (let s := enabled 0 [(1, 0x81)]
     s.taken = none ∧ bitAt s.err.cerer 52 = true ∧ bitAt s.err.seter 2 = true ∧
       s.checkOf (.int (s.slot 1)) = (1 <<< 0) ||| (1 <<< 7) ∧
       ({ s with checks := [(1, 8)] } : State).checkOf (.int (s.slot 1)) = (1 <<< 3) ||| (1 <<< 3)) :=
  ⟨quiet_idle (.inl rfl), rfl, rfl, by decide +kernel, ⟨_, rfl⟩, quiet_idle (.inr rfl), rfl, by decide +kernel, by decide +kernel, by decide +kernel⟩

theorem witness_DecodeAndEncodeAgree :
    Instr.wellFormed (.ldblockf 16 1 0xF0 0) = true ∧ decode 0xE1985E00 = .ok (.ldblockf 16 1 0xF0 0) := by decide +kernel

theorem witness_EveryStepKeepsTheStateSound :
    (idle 0x01000000).Sound ∧ ∃ t, step (idle 0x01000000) = .next t := by
  refine ⟨?_, _, rfl⟩
  have own := ownBit_available
  constructor
  case runningEnabled =>
    show ownBit &&& ~~~coreAvailable = 0
    rw [← own.1]
    ext i
    simp
    grind
  case present => exact .inr (.inr (by show coreAvailable &&& ownBit ≠ 0; rw [own.1]; exact own.2))
  all_goals decide +kernel

theorem witness_NonprivilegedInstructionsKeepPrivilegedState :
    user.hpstate.hpriv = false ∧ user.pstate.priv = false ∧ user.taken = none ∧
    ∃ t, exec .nop user = .next t ∧ t.taken = none :=
  ⟨rfl, rfl, rfl, _, rfl, rfl⟩

/-- ILLTRAP in privileged mode, in RED_state so that its fetch is not translated. -/
theorem witness_OnlyTrapsEnterHyperprivilegedMode :
    let s := ({ privileged with hpstate := ⟨false, true, false, false⟩ } : State).withFetchWord 32 0
    s.hpstate.hpriv = false ∧ s.begin.chipReset = none ∧ (stepped s).hpstate.hpriv = true ∧ (stepped s).taken = some 0x010 := by
  decide +kernel

/-- One and two wrong check bits, with the report on and off. -/
theorem witness_StoreBufferErrorsAreReported_loads :
    let s := { blank with undrained := [heldStore 0 3 false], err := { hyper.err with cerer := cererMask, seter := 7 } }
    (s.hpstate.hpriv = true ∧ s.lsu.mode ≠ 2 ∧ 0x2000 + 0 < (heldStore 0 3 false).pa + (heldStore 0 3 false).seen ∧
      (sparseFind (heldStore 0 3 false).old 0x2000).isSome = true) ∧ s.InjectsNone ∧
    ((heldStore 0 3 false).ecc = (1 <<< 0) ||| (1 <<< 1) ∧ (heldStore 0 64 false).ecc = (1 <<< 6) ||| (1 <<< 6)) ∧
    (bitAt s.err.cerer 36 = true ∧ bitAt s.err.cerer 37 = true ∧ bitAt s.err.seter 2 = true ∧
      bitAt blank.err.seter 2 = false) := by decide +kernel

theorem witness_StoreBufferErrorsAreReported_stores :
    let s := { blank with err := { hyper.err with cerer := cererMask, seter := 7 } }
    let p := heldStore 0 3 false
    p.addrs.Nodup ∧ (∀ a ∈ p.addrs, a / 64 = p.pa / 64) ∧ (heldStore 0 0 true).camBad = true ∧
    (bitAt s.err.cerer 23 = true ∧ bitAt s.err.cerer 10 = true ∧ bitAt s.err.cerer 9 = true) ∧
    (s.err.dfesr.sba = false ∧ s.err.dfesr.sbdio = false ∧ s.err.desr.f = false ∧ s.err.together = none ∧ p.kind ≠ .block) ∧
    (p.ecc = (1 <<< 0) ||| (1 <<< 1) ∧ (heldStore 0 4 false).ecc = (1 <<< 2) ||| (1 <<< 2)) ∧ s.dramExists p.pa = true := by
  decide +kernel

/-- Two banks in use, with the L2 cache and the report of uncorrectable errors enabled in every bank and the core's too. -/
def reporting : State :=
  { blank with
    csr := (csrBankEnableStatus, (3 : Word)) ::
      (List.range 8).map (fun b => (csrL2Control + 64 * b, (0 : Word))) ++
      (List.range 8).map (fun b => (csrL2ErrorEn + 64 * b, (3 : Word)))
    err := { hyper.err with cerer := cererMask, seter := 7 } }

theorem reporting_nceen (s : State) (pa : Nat) (h : s.csr = reporting.csr) : s.nceen pa = true := by
  have all : ∀ b : BitVec 3, bitAt (sparseGet (csrReset (csrL2ErrorEn + 64 * b.toNat)) reporting.csr (csrL2ErrorEn + 64 * b.toNat)) 1
      = true := by decide +kernel
  unfold State.nceen State.csrGet State.bankOf
  rw [h]
  exact all _

theorem reporting_uniform (s : State) (h : s.csr = reporting.csr) : s.l2Uniform = true := by
  have all : ∀ b, b < 8 → bitAt (s.csrGet (csrL2Control + 64 * b)) 0 = false := by
    unfold State.csrGet
    rw [h]
    decide +kernel
  simp only [State.l2Uniform, Bool.or_eq_true, List.all_eq_true, List.mem_range]
  exact .inr fun b hb => .inl (by rw [all b hb]; rfl)

/-- With two banks in use memory ends below 256 GB. -/
theorem reporting_absent : reporting.dramExists 0x4000000000 = false := by
  have one : ∀ v : BitVec 8,
      (List.range 4).filter (fun k => (bankRemap ((3 : BitVec 8) &&& v)).extractLsb' (2 * k) 2 == 3) =
        (if v.extractLsb' 0 2 = 3 then [0] else []) := by decide +kernel
  have inUse : reporting.banksInUse = bankRemap ((3 : BitVec 8) &&& Config.bankAvailable) := rfl
  have ports : reporting.portsInUse = 1 := by
    unfold State.portsInUse
    rw [inUse, one]
    split <;> rfl
  have bytes (k : Nat) : Config.branchBytes k ≤ 2 ^ 37 :=
    Nat.pow_le_pow_right (by decide) (by omega)
  have := bytes (reporting.bankOf 0x4000000000 / 2)
  simp only [State.dramExists, ports, Bool.or_eq_false_iff, decide_eq_false_iff_not]
  exact ⟨by decide, by omega⟩

theorem reporting_injects_none : reporting.InjectsNone := by decide +kernel

/-- A line that has been written in the cache and whose subline 1 is marked as NotData; the word beside it in its chunk is good. -/
def badLine : MemLine := { MemLine.none with resident := true, dirty := true, marks := 2 }

/-- A line whose check bits in DRAM are all wrong by an error of the first check nibble. -/
def wrongLine : MemLine := { MemLine.none with syndromes := fileOf 2 1 }

theorem badLine_keeps : badLine.Keeps := by
  refine ⟨rfl, fun q n e h => ?_⟩
  have all : ∀ q : BitVec 2, qecNibble (fileGet badLine.syndromes q) = none := by decide +kernel
  exact nomatch (all q).symm.trans h

theorem wrongLine_keeps : wrongLine.Keeps := by
  refine ⟨rfl, fun q n e h => ?_⟩
  have all : ∀ q : BitVec 2, qecNibble (fileGet wrongLine.syndromes q) = some (32, 1) := by decide +kernel
  cases (all q).symm.trans h
  exact Nat.le_refl _

/-- An LDX of memory that does not exist, and of a chunk with a marked line, with the reports on and off. -/
theorem witness_LoadsOfBadMemoryReportIt :
    let bad := { reporting with notData := [(0x80, badLine)] }
    let masked := { bad with err := hyper.err }
    (reporting.access ⟨.loadX, none, 0x4000000000, 8⟩ = .ok ⟨0x4000000000, false⟩ reporting ∧ SameMemory reporting reporting ∧
      reporting.dramExists 0x4000000000 = false ∧ reporting.line 0x4000000000 = MemLine.none ∧
      reporting.l2Off 0x4000000000 = false) ∧
    (∀ s ∈ [bad, masked], s.access ⟨.loadX, none, 0x2008, 8⟩ = .ok ⟨0x2008, false⟩ s ∧ SameMemory s s ∧
      (s.line 0x2008).resident = true ∧ (s.line 0x2008).marks &&& sublines (0x2008 / 16 * 16) 16 ≠ 0 ∧
      ((s.line 0x2008).dirty = true ∧ s.failover 0x2008 = false) ∧ (s.line 0x2008).Keeps ∧ Settled s 0x2008 8 ∧
      s.dramExists 0x2008 = true ∧ (s.line 0x2008).unknown = false ∧ s.linked 0x2008 ≠ some true ∧ s.l2Uniform = true ∧
      s.InjectsNone) ∧
    (reporting.nceen 0x4000000000 = true ∧ bad.nceen 0x2008 = true) ∧
    (bitAt bad.err.cerer 38 = true ∧ bitAt bad.err.cerer 39 = true ∧ bitAt bad.err.seter 2 = true) ∧
    bitAt masked.err.seter 2 = false ∧ isIo 0x4000000000 = false ∧ isIo 0x2008 = false ∧ reporting.l2Uniform = true ∧
    reporting.InjectsNone := by
  have off : ∀ b : BitVec 3, bitAt (reporting.csrGet (csrL2Control + 64 * b.toNat)) 0 = false ∧
      bitAt (reporting.csrGet (csrDramFailover + 0x1000 * (b.toNat / 2))) 0 = false := by decide +kernel
  have exists' : reporting.dramExists 0x2008 = true := Bool.or_eq_true_iff.2 (.inl (by decide))
  refine ⟨⟨rfl, fun _ => rfl, reporting_absent, rfl, (off _).1⟩, ?_, ⟨reporting_nceen _ _ rfl, reporting_nceen _ _ rfl⟩,
    by decide +kernel, by decide +kernel, by decide, by decide, reporting_uniform _ rfl, reporting_injects_none⟩
  intro s hs
  simp only [List.mem_cons, List.not_mem_nil, or_false] at hs
  rcases hs with rfl | rfl <;>
    exact ⟨rfl, fun _ => rfl, rfl, by decide +kernel, ⟨rfl, Bool.and_eq_false_iff.2 (.inl (off _).2)⟩, badLine_keeps, ⟨rfl, .inl rfl⟩,
      exists', by decide +kernel, by decide +kernel, reporting_uniform _ rfl, reporting_injects_none⟩

/-- The same of a line whose check bits in DRAM are all wrong by an error of one check nibble, which memory corrects. -/
theorem witness_LoadsOfBadMemoryReportIt_corrected :
    let wrong := { reporting with notData := [(0x80, wrongLine)] }
    wrong.access ⟨.loadX, none, 0x2000, 8⟩ = .ok ⟨0x2000, false⟩ wrong ∧ SameMemory wrong wrong ∧
    wrong.dramExists 0x2000 = true ∧ (wrong.line 0x2000).resident = false ∧
    (wrong.line 0x2000).Keeps ∧ wrong.linked 0x2000 = none ∧ (qecNibble (wrong.syndrome 0x2000 0)).isSome = true ∧
    (∀ q, q < 4 → wrong.syndrome 0x2000 q = wrong.syndrome 0x2000 0) ∧
    isIo 0x2000 = false ∧ Settled wrong 0x2000 8 ∧ bitAt wrong.err.cerer 40 = true ∧
    (wrong.err.desr.f = false ∧ wrong.err.together = none) ∧
    wrong.l2Uniform = true ∧ wrong.InjectsNone ∧ wrong.ceen 0x2000 = true ∧
    wrong.csrGet (csrDramErrorStatus + 0x1000 * (wrong.bankOf 0x2000 / 2)) = 0 ∧
    wrong.csrGet (csrDramErrorCounter + 0x1000 * (wrong.bankOf 0x2000 / 2)) = 0 := by
  have all : ∀ b : BitVec 3, bitAt (reporting.csrGet (csrL2ErrorEn + 64 * b.toNat)) 0 = true ∧
      reporting.csrGet (csrDramErrorStatus + 0x1000 * (b.toNat / 2)) = 0 ∧
      reporting.csrGet (csrDramErrorCounter + 0x1000 * (b.toNat / 2)) = 0 := by decide +kernel
  exact ⟨rfl, fun _ => rfl, Bool.or_eq_true_iff.2 (.inl (by decide)), rfl, wrongLine_keeps, rfl, by decide +kernel,
    by decide +kernel, by decide, ⟨rfl, .inl rfl⟩, by decide +kernel, ⟨rfl, rfl⟩, reporting_uniform _ rfl, reporting_injects_none,
    all _⟩

/-- The code of memory (spec/67_ecc_jtag.md R2112, R2113; R2123): the syndrome of poison is that of no single nibble, and the
syndrome of an error in one nibble names it. -/
theorem test_poison_is_no_single_nibble : qecNibble poisonSyndrome = none := by decide +kernel

theorem test_qec_corrects_one_nibble :
    [0, 15, 31, 35].all (fun n => qecNibble (qecSyndrome n 8) == some (n, 8)) = true := by decide +kernel

/-- The relative priority of errors that are detected together, and case 5 (spec/62_errors_core.md R1616, R1617): SBDPU before TCCD,
and an uncorrectable error before a corrected one. -/
theorem test_relative_priority :
    let e := (⟨.zero, none, none⟩ : ErrorEvent).add true 14 7
    (e.add true 6 3).desr = ⟨true, false, true, 6, 3⟩ ∧ ((e.add true 6 3).add false 9 1).desr = ⟨true, true, true, 6, 3⟩ ∧
    ((⟨⟨true, false, false, 9, 1⟩, none, none⟩ : ErrorEvent).add true 16 2).desr = ⟨true, true, true, 16, 2⟩ := by decide +kernel

/-- A load of an entry of INT_MAN that nothing has initialized is an error, bit 17 of the SOC error status; one of an entry that has
been written is none (spec/61_interrupts_cmt.md R1480). -/
theorem test_uninitialized_int_man :
    let s := (blank.csrSet csrSocLogEnable 0x20000).csrSet csrNcuSyndrome 0x8000000000000000
    (s.readIntMan (csrIntMan + 8)).csrGet csrSocEsr = 0x8000000000020000 ∧
    ((s.noteIntMan (csrIntMan + 8)).readIntMan (csrIntMan + 8)).csrGet csrSocEsr = 0 := by decide +kernel

/-- Bad data from memory is in the data cache with bad parity (spec/63_errors_l2_dram.md R1711), and poison in DRAM is an error to the
scrubber behind a good copy in the cache (spec/65_mcu_dram.md R1841). -/
theorem test_bad_chunks :
    let cached := { reporting with lsu := { reporting.lsu with dc := true } }
    let behind := { reporting with notData := [(0x80, { MemLine.none with resident := true, syndromes := fileOf 2 0x8221 })] }
    (cached.fillL1d 0x2008 .bad).l1d = [(0x200, .badParity)] ∧ behind.marks 0x2000 = 0 ∧ behind.uncorrected 0x2000 = 0xFFFF := by
  have off : ∀ b : BitVec 3, bitAt (reporting.csrGet (csrDramFailover + 0x1000 * (b.toNat / 2))) 0 = false := by decide +kernel
  intro cached behind
  have on : behind.failover 0x2000 = false := Bool.and_eq_false_iff.2 (.inl (off _))
  refine ⟨rfl, rfl, ?_⟩
  rw [State.uncorrected, on]
  decide +kernel
end

end Sys2Proof.Tests
end

namespace Sys2Proof

/-! ### A word decodes to a well-formed instruction -/

/-- A decoder's answer, if it is an instruction, is a well-formed one. -/
def DecodesWell (d : Decoded) : Prop := ∀ i, d = .ok i → i.wellFormed = true

@[simp] theorem decodesWell_error (e : DecodeError) : DecodesWell (.error e) := fun _ h => nomatch h

@[simp] theorem decodesWell_ok (i : Instr) : DecodesWell (.ok i) ↔ i.wellFormed = true :=
  ⟨fun h => h i rfl, fun h _ e => Except.ok.inj e ▸ h⟩

@[simp] theorem decodesWell_ite (p : Prop) [Decidable p] (d e : Decoded) :
    DecodesWell (if p then d else e) ↔ (p → DecodesWell d) ∧ (¬p → DecodesWell e) := by
  by_cases h : p <;> simp [h]

@[simp] theorem decodesWell_ifZero (empty : Bool) (i : Instr) :
    DecodesWell (ifZero empty i) ↔ (empty = true → i.wellFormed = true) := by
  simp [ifZero]

@[simp] theorem decodesWell_ifSome {α : Type} (o : Option α) (k : α → Decoded) :
    DecodesWell (ifSome o k) ↔ ∀ a, o = some a → DecodesWell (k a) := by
  cases o <;> simp [ifSome]

@[simp] theorem decodesWell_withRegImm (low : BitVec 14) (k : RegImm → Instr) :
    DecodesWell (withRegImm low k) ↔ (iBit low = true → (k (.imm (simm13Of low))).wellFormed = true) ∧
      (iBit low = false → mid8Of low = 0 → (k (.reg (rs2Of low))).wellFormed = true) := by
  simp [withRegImm]

@[simp] theorem decodeVis_wellFormed (rd rs1 : Reg) (opf : BitVec 9) (rs2 : Reg) : DecodesWell (decodeVis rd rs1 opf rs2) := by
  unfold decodeVis
  split <;> simp [Instr.wellFormed]

@[simp] theorem decodeFmov_wellFormed (rd rs1 : Reg) (opf : BitVec 9) (rs2 : Reg) : DecodesWell (decodeFmov rd rs1 opf rs2) := by
  unfold decodeFmov
  dsimp only
  split
  · split <;> simp [Instr.wellFormed]
  · split <;> [(split <;> simp [Instr.wellFormed]); simp]

@[simp] theorem decodeFpop1_wellFormed (rd rs1 : Reg) (opf : BitVec 9) (rs2 : Reg) : DecodesWell (decodeFpop1 rd rs1 opf rs2) := by
  unfold decodeFpop1
  split <;> simp [Instr.wellFormed]

@[simp] theorem decodeFpop2_wellFormed (rd rs1 : Reg) (opf : BitVec 9) (rs2 : Reg) : DecodesWell (decodeFpop2 rd rs1 opf rs2) := by
  unfold decodeFpop2
  split <;> simp [Instr.wellFormed]

@[simp] theorem decodeRdAsr_wellFormed (rd rs1 : Reg) (low : BitVec 14) : DecodesWell (decodeRdAsr rd rs1 low) := by
  unfold decodeRdAsr
  split <;> simp [Instr.wellFormed]

@[simp] theorem decodeRdPr_wellFormed (rd rs1 : Reg) (low : BitVec 14) : DecodesWell (decodeRdPr rd rs1 low) := by
  unfold decodeRdPr
  split <;> simp [Instr.wellFormed]

@[simp] theorem decodeRdHpr_wellFormed (rd rs1 : Reg) (low : BitVec 14) : DecodesWell (decodeRdHpr rd rs1 low) := by
  unfold decodeRdHpr
  split <;> simp [Instr.wellFormed]

@[simp] theorem decodeWrAsr_wellFormed (rd rs1 : Reg) (low : BitVec 14) : DecodesWell (decodeWrAsr rd rs1 low) := by
  unfold decodeWrAsr
  split <;> simp [Instr.wellFormed]

@[simp] theorem decodeWrPr_wellFormed (rd rs1 : Reg) (low : BitVec 14) : DecodesWell (decodeWrPr rd rs1 low) := by
  unfold decodeWrPr
  split <;> simp [Instr.wellFormed]

@[simp] theorem decodeWrHpr_wellFormed (rd rs1 : Reg) (low : BitVec 14) : DecodesWell (decodeWrHpr rd rs1 low) := by
  unfold decodeWrHpr
  split <;> simp [Instr.wellFormed]

@[simp] theorem decodeSaved_wellFormed (rd rs1 : Reg) (low : BitVec 14) : DecodesWell (decodeSaved rd rs1 low) := by
  unfold decodeSaved
  split <;> simp [Instr.wellFormed]

@[simp] theorem decodeDone_wellFormed (rd rs1 : Reg) (low : BitVec 14) : DecodesWell (decodeDone rd rs1 low) := by
  unfold decodeDone
  split <;> simp [Instr.wellFormed]

@[simp] theorem decodeMovcc_wellFormed (rd rs1 : Reg) (low : BitVec 14) : DecodesWell (decodeMovcc rd rs1 low) := by
  simp [decodeMovcc, Instr.wellFormed]

@[simp] theorem decodeMovr_wellFormed (rd rs1 : Reg) (low : BitVec 14) : DecodesWell (decodeMovr rd rs1 low) := by
  simp [decodeMovr, Instr.wellFormed]

@[simp] theorem decodeTcc_wellFormed (rd rs1 : Reg) (low : BitVec 14) : DecodesWell (decodeTcc rd rs1 low) := by
  simp [decodeTcc, Instr.wellFormed]

@[simp] theorem decodeArith_wellFormed (rd : Reg) (op3 : BitVec 6) (rs1 : Reg) (low : BitVec 14) :
    DecodesWell (decodeArith rd op3 rs1 low) := by
  unfold decodeArith
  split <;> simp [Instr.wellFormed, withShift32, withShift64]

/-- An alternate-space operand that the word's own ASI does not keep out of a class is outside it. -/
theorem altAddrOf_avoids (low : BitVec 14) (cls : BitVec 8 → Bool) (h : iBit low = false → cls (mid8Of low) = false) :
    (altAddrOf low).avoids cls = true := by
  unfold altAddrOf
  split <;> simp_all [AltAddr.avoids]

@[simp] theorem decodeLdtwa_wellFormed (rd rs1 : Reg) (low : BitVec 14) : DecodesWell (decodeLdtwa rd rs1 low) := by
  simp only [decodeLdtwa, decodesWell_ite, decodesWell_ok, Instr.wellFormed, Bool.and_eq_true]
  exact ⟨And.right, fun h => altAddrOf_avoids _ _ (by simpa using h)⟩

@[simp] theorem decodeLddfa_wellFormed (rd rs1 : Reg) (low : BitVec 14) : DecodesWell (decodeLddfa rd rs1 low) := by
  simp only [decodeLddfa, decodesWell_ite, decodesWell_ok, Instr.wellFormed, Bool.and_eq_true]
  exact ⟨And.right, fun h => ⟨And.right, fun h' => altAddrOf_avoids _ _ (by simp_all)⟩⟩

@[simp] theorem decodeStdfa_wellFormed (rd rs1 : Reg) (low : BitVec 14) : DecodesWell (decodeStdfa rd rs1 low) := by
  simp only [decodeStdfa, decodesWell_ite, decodesWell_ok, Instr.wellFormed, Bool.and_eq_true]
  exact ⟨And.right, fun _ => ⟨And.right, fun _ => ⟨And.right, fun _ => altAddrOf_avoids _ _ (by simp_all)⟩⟩⟩

@[simp] theorem decodeMem_wellFormed (rd : Reg) (op3 : BitVec 6) (rs1 : Reg) (low : BitVec 14) :
    DecodesWell (decodeMem rd op3 rs1 low) := by
  unfold decodeMem
  split
  -- op3 0x21 and 0x25, the loads and stores of the FSR, split once more on rd
  case h_32 | h_36 => split <;> simp [Instr.wellFormed]
  all_goals simp [Instr.wellFormed, withCasAsi]

@[simp] theorem decodeFmt2_wellFormed (rd : BitVec 5) (op2 : BitVec 3) (low : BitVec 22) : DecodesWell (decodeFmt2 rd op2 low) := by
  unfold decodeFmt2
  dsimp only
  split
  -- op2 4: NOP is SETHI of 0 into r[0]
  case h_5 =>
    rw [decodesWell_ok]
    split <;> simp_all [Instr.wellFormed, imp_iff_not_or]
  all_goals simp [Instr.wellFormed]

/-- A word that decodes decodes to a well-formed instruction. -/
theorem decode_wellFormed {w : Word32} {i : Instr} (h : decode w = .ok i) : i.wellFormed = true := by
  suffices DecodesWell (decode w) from this i h
  unfold decode
  split
  · exact decodeFmt2_wellFormed _ _ _
  · simp [Instr.wellFormed]
  · exact decodeArith_wellFormed _ _ _ _
  · exact decodeMem_wellFormed _ _ _ _

end Sys2Proof

namespace Sys2Proof.Machine

/-! ### What a fetch leaves alone -/

/-- All that may change behind the registers of the strand when memory is read, a TLB is searched or an error is noted: memory with
what is known of its lines and of the L1 caches, the store buffer, the registers of the chip, the TLBs with the registers of the
MMU, the records of errors with their debug events and with the reset or the trap they ask for, and the place in the free values. -/
structure BackgroundTo (s t : State) : Prop where
  eq : t = { s with mmu := t.mmu, itlb := t.itlb, dtlb := t.dtlb, err := t.err, chipReset := t.chipReset, csr := t.csr,
                    mem := t.mem, undrained := t.undrained, storeError := t.storeError, notData := t.notData, l1d := t.l1d,
                    l1i := t.l1i, unreported := t.unreported, realign := t.realign, linkLine := t.linkLine,
                    events := t.events, oracle := t.oracle }

theorem BackgroundTo.refl (s : State) : BackgroundTo s s := ⟨rfl⟩

theorem BackgroundTo.trans {s t u : State} (h : BackgroundTo s t) (h' : BackgroundTo t u) : BackgroundTo s u :=
  ⟨h'.eq.trans (congrArg (fun (x : State) =>
    { x with mmu := u.mmu, itlb := u.itlb, dtlb := u.dtlb, err := u.err, chipReset := u.chipReset, csr := u.csr, mem := u.mem,
             undrained := u.undrained, storeError := u.storeError, notData := u.notData, l1d := u.l1d, l1i := u.l1i,
             unreported := u.unreported, realign := u.realign, linkLine := u.linkLine, events := u.events,
             oracle := u.oracle }) h.eq)⟩

theorem BackgroundTo.hpstate_eq {s t : State} (h : BackgroundTo s t) : t.hpstate = s.hpstate := by rw [h.eq]
theorem BackgroundTo.pcr_eq {s t : State} (h : BackgroundTo s t) : t.pcr = s.pcr := by rw [h.eq]
theorem BackgroundTo.run_eq {s t : State} (h : BackgroundTo s t) : t.run = s.run := by rw [h.eq]

theorem DrainsTo.background {s t : State} (h : DrainsTo s t) : BackgroundTo s t := by
  unfold DrainsTo at h
  exact ⟨by rw [h]⟩

namespace BackgroundTo

section
variable {s t : State} (h : BackgroundTo s t)
include h

theorem ite {u : State} (p : Prop) [Decidable p] (h' : BackgroundTo s u) : BackgroundTo s (if p then t else u) := by
  split <;> assumption

/-- A sequence of changes, one for each entry of a list. -/
theorem foldl {α : Type} {f : State → α → State} (hf : ∀ u a, BackgroundTo s u → BackgroundTo s (f u a)) (l : List α) :
    BackgroundTo s (l.foldl f t) := by
  induction l generalizing t with
  | nil => exact h
  | cons a rest ih => exact ih (hf t a h)

/-! ### Records of errors -/

theorem drawn : BackgroundTo s t.drawn := h.trans ⟨rfl⟩

theorem csrSet (pa : Nat) (v : Word) : BackgroundTo s (t.csrSet pa v) := h.trans ⟨rfl⟩

theorem events (e : DebugEvents) : BackgroundTo s { t with events := e } := h.trans ⟨rfl⟩

theorem chipReset (r : Option ChipReset) : BackgroundTo s { t with chipReset := r } := h.trans ⟨rfl⟩

theorem linkLine (l : Option (Nat × Bool)) : BackgroundTo s { t with linkLine := l } := h.trans ⟨rfl⟩

theorem recordDesr (k : Nat) (sre : Bool) (errtype : BitVec 5) (addr : BitVec 11) :
    BackgroundTo s (t.recordDesr k sre errtype addr) :=
  h.trans (t.drainsTo_recordDesr k sre errtype addr).background

theorem recordDisrupting (k : Nat) (sre : Bool) (errtype : BitVec 5) : BackgroundTo s (t.recordDisrupting k sre errtype) :=
  (h.drawn.recordDesr _ _ _ _).ite _ h

theorem noteBank (b : Nat) : BackgroundTo s (t.noteBank b) := .ite (h.trans ⟨rfl⟩) _ h

theorem noteL2 (pa : Nat) : BackgroundTo s (t.noteL2 pa) := h.noteBank _

theorem logDram (pa : Nat) (one write fill : Bool) : BackgroundTo s (t.logDram pa one write fill) :=
  ((h.csrSet _ _).noteL2 _).ite _ (((h.drawn.csrSet _ _).drawn.csrSet _ _).noteL2 _)

theorem logNotData (pa : Nat) (write : Bool) : BackgroundTo s (t.logNotData pa write) :=
  ((h.csrSet _ _).ite _ (h.csrSet _ _)).noteL2 pa

theorem noteMcu (k : Nat) : BackgroundTo s (t.noteMcu k) := .ite ((h.csrSet _ _).trans ⟨rfl⟩) _ h

theorem logOutOfBounds (pa : Nat) : BackgroundTo s (t.logOutOfBounds pa) := (h.csrSet _ _).noteMcu _

theorem logMcu (k bit : Nat) (severe : Bool) (y : BitVec 16) (a : Option Nat) : BackgroundTo s (t.logMcu k bit severe y a) := by
  refine ((h.csrSet _ _).noteMcu k).ite _ (BackgroundTo.noteMcu ?_ k)
  cases a with
  | none => exact h.csrSet _ _
  | some a => exact (h.csrSet _ _).csrSet _ _

theorem reportL2U (pa : Nat) : BackgroundTo s (t.reportL2U pa) := (h.recordDisrupting _ _ _).ite _ h

theorem reportL2C (pa : Nat) : BackgroundTo s (t.reportL2C pa) := (h.recordDisrupting _ _ _).ite _ h

theorem reportCorrected (pa k : Nat) (errtype : BitVec 5) : BackgroundTo s (t.reportCorrected pa k errtype) :=
  (h.recordDisrupting _ _ _).ite _ h

/-! ### Errors of the SOC -/

theorem socSyndrome (reg : Nat) (entries : List Nat) (shift : Nat) (fields : Nat → Word × Word) (logged : Word) :
    BackgroundTo s (t.socSyndrome reg entries shift fields logged) := by
  unfold State.socSyndrome
  split <;> [exact h; exact h.ite _ (h.drawn.csrSet _ _)]

theorem socPacket (asking : Word) : BackgroundTo s (t.socPacket asking) :=
  h.ite _ ((h.recordDisrupting _ _ _).ite _ ((h.recordDisrupting _ _ _).ite _
    ((h.drawn.recordDisrupting _ _ _).ite _ (h.drawn.recordDisrupting _ _ _))))

theorem socRequest (entries : Word) : BackgroundTo s (t.socRequest entries) :=
  h.ite _ (((h.csrSet _ _).csrSet _ _).socPacket _)

theorem socErrorsAt (errors : Word) (own : Option Nat) : BackgroundTo s (t.socErrorsAt errors own) := by
  unfold State.socErrorsAt
  dsimp only
  split
  · exact h
  · split
    · exact (((((h.csrSet _ _).socSyndrome _ _ _ _ _).socSyndrome _ _ _ _ _).events _).csrSet _ _).chipReset _
    · exact ((((h.csrSet _ _).socSyndrome _ _ _ _ _).socSyndrome _ _ _ _ _).events _).socRequest _

theorem socErrors (errors : Word) : BackgroundTo s (t.socErrors errors) := h.socErrorsAt errors none

/-! ### Errors of the links -/

theorem logLink (k : Nat) (fatal : Bool) : BackgroundTo s (t.logLink k fatal) := by
  unfold State.logLink
  exact (h.drawn.csrSet _ _).drawn.logMcu _ _ _ _ _

theorem countLink (k : Nat) : BackgroundTo s (t.countLink k) :=
  (h.socErrors _).ite _ (((h.csrSet _ _).socErrors _).ite _ (h.csrSet _ _))

theorem countCorrected (k : Nat) : BackgroundTo s (t.countCorrected k) :=
  h.ite _ (((h.csrSet _ _).socErrors _).ite _ (h.csrSet _ _))

theorem logRetry (k : Nat) (first : BitVec 16) (second : Option (BitVec 16)) : BackgroundTo s (t.logRetry k first second) :=
  h.csrSet _ _

theorem logLocation (k n : Nat) : BackgroundTo s (t.logLocation k n) := h.ite _ (h.csrSet _ _)

theorem logLinked (pa : Nat) : BackgroundTo s (t.logLinked pa) := by
  unfold State.logLinked
  split
  · exact h
  · rename_i fatal _
    have logged := (h.logLink (t.mcuOf pa) fatal).linkLine none
    exact logged.ite _ (logged.countLink _)

/-! ### Lines of memory with bad data -/

theorem putUnder (cells : List Host.Cell) : BackgroundTo s (t.putUnder cells) := h.ite _ (h.trans ⟨rfl⟩)

theorem putLine (pa : Nat) (l : MemLine) : BackgroundTo s (t.putLine pa l) := h.trans ⟨rfl⟩

theorem writeDram (pa : Nat) (chunks : BitVec 4) : BackgroundTo s (t.writeDram pa chunks) :=
  h.trans (t.drainsTo_writeDram pa chunks).background

theorem putDram (pa : Nat) (cells : List Host.Cell) : BackgroundTo s (t.putDram pa cells) :=
  (h.putUnder cells).ite _ (h.ite _ (h.putLine _ _))

theorem evict (pa : Nat) : BackgroundTo s (t.evict pa) :=
  (h.putLine _ _).ite _ (((h.putUnder _).putLine _ _).ite _ ((h.putLine _ _).writeDram _ _))

theorem aged (pa : Nat) : BackgroundTo s (t.aged pa) := h.ite _ ((h.evict pa).ite _ ((h.drawn.evict pa).ite _ h.drawn))

theorem logUncorrectable (pa q bit : Nat) (a : Option Nat) : BackgroundTo s (t.logUncorrectable pa q bit a) := by
  unfold State.logUncorrectable
  exact (h.logMcu _ _ _ _ _).logRetry _ _ _

theorem logCorrected (pa q bit : Nat) (a : Option Nat) : BackgroundTo s (t.logCorrected pa q bit a) := by
  unfold State.logCorrected
  dsimp only
  split
  · exact h
  · exact (((((h.logLocation _ _).logMcu _ _ _ _ _).putDram _ _).writeDram _ _).logRetry _ _ _).countCorrected _

theorem logMemory (pa : Nat) : BackgroundTo s (t.logMemory pa) :=
  (h.logOutOfBounds pa).ite _ (.foldl (.foldl (h.logLinked pa) (fun _ _ k => k.logUncorrectable ..) _)
    (fun _ _ k => k.logCorrected ..) _)

theorem fillLine (pa : Nat) (bad : BitVec 16) (spoilt : Bool) : BackgroundTo s (t.fillLine pa bad spoilt) :=
  h.ite _ (h.putLine _ _)

theorem fillReport (pa : Nat) (bad fixed : BitVec 16) : BackgroundTo s (t.fillReport pa bad fixed) :=
  have first := h.ite (bad = 0) ((h.logDram pa false false true).reportL2U pa)
  first.ite _ ((first.logDram _ _ _ _).reportL2C _)

theorem storedOrFree (known : Bool) (pa n : Nat) : BackgroundTo s (t.storedOrFree known pa n).2 := by
  unfold State.storedOrFree
  split <;> [exact h; exact h.drawn.drawn]

/-! ### Reads of such lines -/

theorem findBytes (pa chunk : Nat) {note : State → State} (hn : ∀ u, BackgroundTo s u → BackgroundTo s (note u)) :
    BackgroundTo s (t.findBytes pa chunk note).2 := by
  have logged := (h.aged pa).logMemory pa
  unfold State.findBytes
  dsimp only
  split
  · exact h.aged pa
  · have dram := logged.logDram pa false false false
    exact ((((dram.logDram _ _ _ _).ite _ dram).ite _ ((hn _ (logged.logDram _ _ _ _)).ite _ logged)).fillReport _ _ _).fillLine
      _ _ _

theorem logFound (pa : Nat) (found : Found) : BackgroundTo s (t.logFound pa found) := (h.logNotData _ _).ite _ h

theorem fillL1i (pa : Nat) (f : Finding) : BackgroundTo s (t.fillL1i pa f) := h.ite _ (h.trans ⟨rfl⟩)

theorem lookL1i (pa : Nat) : BackgroundTo s (t.lookL1i pa).2 := by
  have emptied (u : State) (hu : BackgroundTo s u) (l : List (Nat × L1Chunk)) : BackgroundTo s { u with l1i := l } :=
    hu.trans ⟨rfl⟩
  unfold State.lookL1i
  dsimp only
  split
  · exact h
  · split
    · exact emptied _ h.drawn _
    · split
      · exact h.drawn
      · split
        · exact (emptied _ h.drawn.drawn _).recordDesr _ _ _ _
        · exact h.drawn
      · exact h.drawn

theorem waitLine (pa : Nat) : BackgroundTo s (t.waitLine pa).2 := by
  unfold State.waitLine
  dsimp only
  split
  · exact h.aged pa
  · exact (((h.aged pa).logMemory pa).fillReport _ _ _).fillLine _ _ _

/-! ### The TLBs and the store buffer -/

theorem setTag (side : Side) (a : TagAccess) : BackgroundTo s (t.setTag side a) := by
  cases side <;> exact h.trans ⟨rfl⟩

theorem tlbUse (side : Side) (q : Request) : BackgroundTo s (t.tlbUse side q) := by
  cases side <;> exact h.trans ⟨rfl⟩

theorem loadTte (side : Side) (q : Request) (c : TsbConfig) (size : PageSize) (tag data : Word) (pa : BitVec 27) :
    BackgroundTo s (t.loadTte side q c size tag data pa) := by
  cases side <;> exact h.trans ⟨rfl⟩

theorem globalBytes (pa : Nat) : BackgroundTo s (t.globalBytes pa).2 := by
  unfold State.globalBytes
  split <;> [exact h; exact h.trans ⟨rfl⟩]

end
end BackgroundTo

/-! ### Parts of an access -/

/-- Where a part of an access completes, it has changed nothing but what is behind the registers of the strand. -/
def Res.InBackground {α : Type} (s : State) (x : Res α) : Prop := ∀ a t, x = .ok a t → BackgroundTo s t

namespace Res.InBackground

section
variable {α β : Type} {s t : State}

theorem ok (h : BackgroundTo s t) (a : α) : (Res.ok a t).InBackground s := fun _ _ e => by cases e; exact h

theorem trap (tt : BitVec 9) : (Res.trap tt t : Res α).InBackground s := fun _ _ e => nomatch e

theorem refuse (r : Refusal) : (Res.refuse r : Res α).InBackground s := fun _ _ e => nomatch e

theorem fault (f : Fault) : (Res.fault f : Res α).InBackground s := fun _ _ e => nomatch e

theorem bind {x : Res α} {k : α → State → Res β} (hx : x.InBackground s)
    (hk : ∀ a u, BackgroundTo s u → (k a u).InBackground s) : (x.bind k).InBackground s := by
  intro b v e
  obtain ⟨a, u, hu, hv⟩ := Res.bind_eq_ok.1 e
  exact hk a u (hx a u hu) b v hv

theorem ite {x y : Res α} (hx : x.InBackground s) (p : Prop) [Decidable p] (hy : y.InBackground s) :
    (if p then x else y).InBackground s := by
  split <;> assumption

theorem tagTrap (side : Side) (q : Request) (tt : BitVec 9) : (t.tagTrap side q tt : Res α).InBackground s := .trap tt

theorem walkReads {k : Res α} (hk : k.InBackground s) (side : Side) (entries : List (BitVec 3)) :
    (t.walkReads side entries k).InBackground s := by
  unfold State.walkReads
  split <;> [exact .trap _; exact hk]

variable (h : BackgroundTo s t)
include h

/-! ### Translation -/

theorem lookup (side : Side) (va : Word) (q : Request) : (t.lookup side va q).InBackground s := by
  unfold State.lookup
  split
  · exact .ok h _
  · split <;> [exact .trap _; exact .ok (h.tlbUse _ _) _]
  · unfold State.multipleHit
    cases side <;> exact .ite (.trap _) _ (.ok (h.tlbUse _ q).drawn _)

theorem badWalk (pa : Nat) (inst : Bool) (tag : State → State) : (t.badWalk pa inst tag).InBackground s := by
  unfold State.badWalk
  dsimp only
  split
  · exact .ok (h.waitLine pa) _
  · split
    · split <;> exact .trap _
    · exact .ok (((h.waitLine pa).logNotData _ _).storedOrFree _ _ _) _

theorem readTte (side : Side) (q : Request) (pa : PAddr) : (t.readTte side q pa).InBackground s :=
  .ite (.ok h.drawn.drawn _) _ (.ite (.refuse _) _ (.ite (.ok (h.globalBytes _) _) _
    (.bind (badWalk h _ _ _) fun _ _ hu => .ok hu _)))

theorem searchTsbs (side : Side) (q : Request) (context : BitVec 13) (parallel : Bool) (order : List (BitVec 2)) :
    (t.searchTsbs side q context parallel order).InBackground s := by
  induction order generalizing t with
  | nil => exact .ok h _
  | cons i rest ih =>
    exact .ite (ih h) _ (.bind (readTte h _ _ _) fun _ _ hu =>
      .ite (ih hu) _ (.ite (.ok hu _) _ (.bind (ih hu) fun _ _ hv => .ok hv _)))

theorem walk (side : Side) (q : Request) : (t.walk side q).InBackground s := by
  refine .walkReads (.bind (searchTsbs h.drawn _ _ _ _ _) fun found u hu => ?_) _ _
  dsimp only
  split
  · exact .tagTrap _ _ _
  · refine .ite (.tagTrap _ _ _) _ ?_
    split
    · exact .tagTrap _ _ _
    · refine .walkReads ?_ _ _
      split
      · exact .tagTrap _ _ _
      · exact .ok (hu.drawn.loadTte _ _ _ _ _ _ _) _

theorem translate (side : Side) (va : Word) (q : Request) : (t.translate side va q).InBackground s := by
  refine .bind (lookup h _ _ _) fun hit u hu => ?_
  cases hit with
  | some _ => exact .ok hu _
  | none =>
    refine .ite (.tagTrap _ _ _) _ (.ite (.tagTrap _ _ _) _ (.bind (walk hu _ _) fun _ v hv =>
      .bind (lookup hv _ _ _) fun again w hw => ?_))
    cases again with
    | some _ => exact .ok hw _
    | none => exact .tagTrap _ _ _

/-! ### The word of a fetch -/

theorem badFetch (pa : Nat) : (t.badFetch pa).InBackground s := by
  have look := h.lookL1i pa
  have found (x : Found) (f : Finding) :=
    ((look.findBytes pa 32 (fun _ hu => hu.reportCorrected pa 55 2)).logFound pa x).fillL1i pa f
  unfold State.badFetch
  refine .ite (.trap _) _ (.ok ?_ _)
  split
  · exact (found _ _).storedOrFree _ _ _
  · exact look
  · exact look.storedOrFree _ _ _

theorem missingIoFetch : t.missingIoFetch.InBackground s := .ite (.trap _) _ (.ok h.drawn _)

theorem fetchWord (pa : Nat) : (t.fetchWord pa).InBackground s :=
  .ite (.ite (.refuse _) _ (.ite (.ok h _) _ (.bind (badFetch h _) fun _ _ hu => .ok hu _))) _
    (.ite (.ok h _) _ (.ite (.fault _) _ (.bind (missingIoFetch h) fun _ _ hu => .ok hu _)))

end
end Res.InBackground

/-- A fetch changes nothing else of the strand but the form of its program counters. -/
theorem State.fetch_inBackground {s s1 : State} {w : Word32} (h : s.fetch = .ok w s1) :
    ∃ pc npc, BackgroundTo { s with pc := pc, npc := npc } s1 := by
  obtain ⟨pa, u, place, word⟩ := Res.bind_eq_ok.1 h
  suffices ∃ pc npc, BackgroundTo { s with pc := pc, npc := npc } u from
    this.imp fun _ => .imp fun _ hu => Res.InBackground.fetchWord hu _ _ _ word
  have translated (va : Word) (q : Request) (tt1 tt2 : BitVec 9) :
      ((s.translate .inst va q).bind fun t s1 =>
        if (t.p && s1.level == .user) || s1.invalidMode then s1.tagTrap .inst q tt1
        else if t.nfo then s1.tagTrap .inst q tt2 else .ok t.pa s1).InBackground s :=
    .bind (.translate (.refl s) _ _ _) fun _ _ hu => .ite (.tagTrap _ _ _) _ (.ite (.tagTrap _ _ _) _ (.ok hu _))
  unfold State.fetchPlace at place
  dsimp only at place
  split at place
  · split at place
    · cases place
    · cases place
      unfold State.canonicalPc
      split <;> exact ⟨_, _, .refl _⟩
  · refine ⟨s.pc, s.npc, ?_⟩
    split at place
    · cases place
    · split at place
      · cases place
      · exact translated _ _ _ _ _ _ place

/-- A fetch leaves the privilege level and the control of the counters alone. -/
theorem State.fetch_keeps {s s1 : State} {w : Word32} (h : s.fetch = .ok w s1) : s1.hpstate = s.hpstate ∧ s1.pcr = s.pcr := by
  obtain ⟨pc, npc, hb⟩ := State.fetch_inBackground h
  exact ⟨hb.hpstate_eq, hb.pcr_eq⟩

/-! ### What happens by itself before an instruction -/

namespace BackgroundTo

section
variable {s t : State} (h : BackgroundTo s t)
include h

theorem recordCompare (k : BitVec 2) (count : Nat) : BackgroundTo s (t.recordCompare k count) := by
  refine h.ite _ ((h.recordDesr _ _ _ _).ite _ (BackgroundTo.recordDesr ?_ _ _ _ _))
  exact (h.recordDesr _ _ _ _).trans ⟨rfl⟩

theorem drainFlawed : BackgroundTo s t.drainFlawed := by
  have drained : BackgroundTo s t.drawn.drain := by
    have emptied : BackgroundTo s { t.drawn with undrained := [] } := h.trans ⟨rfl⟩
    exact emptied.ite _ (emptied.trans (State.drainsTo_drainList _ _ _ _).background)
  exact h.ite _ (drained.ite _ h.drawn)

theorem logScrub (b : Nat) (severe : Bool) : BackgroundTo s (t.logScrub b severe) :=
  ((h.csrSet _ _).noteBank _).trans ⟨rfl⟩

theorem spoilLine (k pa : Nat) : BackgroundTo s (t.spoilLine k pa) :=
  .ite ((((h.logLink _ _).logDram _ _ _ _).reportL2U _).fillLine _ _ _) _ h

theorem injectLink (k : Nat) (fatal : Bool) : BackgroundTo s (t.injectLink k fatal) := by
  have noted := ((h.drawn.logLink k fatal).logScrub (2 * k) fatal).logScrub (2 * k + 1) fatal
  exact h.ite _ ((h.ite _ (h.countLink k)).ite _ (((h.drawn.linkLine _).ite _ h.drawn).ite _ ((h.drawn.spoilLine k _).ite _
    (noted.ite _ (noted.countLink k)))))

theorem injectLinks (now : Word) : BackgroundTo s (t.injectLinks now) :=
  h.foldl (fun _ k hu =>
    have fatal := (hu.injectLink k true).ite (bitAt now (30 + 3 * k) = true) hu
    (fatal.injectLink k false).ite _ fatal) _

theorem injectSoc : BackgroundTo s t.injectSoc := h.ite _ ((h.drawn.injectLinks _).socErrors _)

theorem injectMemory : BackgroundTo s t.injectMemory :=
  h.foldl (fun _ _ hu => hu.ite _ (hu.drawn.ite _ (hu.drawn.writeDram _ _))) _

theorem scrubChunk (pa q : Nat) : BackgroundTo s (t.scrubChunk pa q) :=
  ((h.logUncorrectable _ _ _ _).logScrub _ _).ite _ (((h.logCorrected _ _ _ _).logScrub _ _).ite _ h)

theorem scrubMemory : BackgroundTo s t.scrubMemory :=
  h.foldl (fun _ _ hu => hu.ite _ (hu.drawn.ite _ (hu.drawn.scrubChunk _ _))) _

theorem forwardScrub (b : Nat) (severe : Bool) : BackgroundTo s (t.forwardScrub b severe) := by
  have told (v : BitVec 16) : BackgroundTo s { t with unreported := v } := h.trans ⟨rfl⟩
  exact h.ite _ ((told _).ite _ (((told _).recordDisrupting _ _ _).ite _ ((told _).recordDisrupting _ _ _)))

theorem forwardScrubs : BackgroundTo s t.forwardScrubs :=
  h.ite _ (h.foldl (fun _ _ hu => (hu.forwardScrub _ _).forwardScrub _ _) _).drawn

theorem realignLinks : BackgroundTo s t.realignLinks := by
  refine h.ite _ (.ite ?_ _ h.drawn)
  exact (h.drawn.foldl (fun _ _ hu => (hu.csrSet _ _).ite _ hu) _).trans ⟨rfl⟩

end
end BackgroundTo

/-! ### Clocks that have stopped -/

theorem State.tickBy_run (s : State) (n : BitVec 62) : (s.tickBy n).run = s.run := by
  unfold State.tickBy
  dsimp only
  exact (BackgroundTo.foldl (.refl _) (fun _ k hu => hu.recordCompare k _) _).run_eq

theorem State.answer_stopped {s : State} (stop : Bool) (h : s.run = .stopped) : (s.answer stop).run = .stopped := by
  unfold State.answer
  split <;> [rfl; exact h]

theorem State.resetCountDone_stopped {s : State} (action : BitVec 2) (high : BitVec 32) (h : s.run = .stopped) :
    (s.resetCountDone action high).run = .stopped := by
  have pulsed := s.answer_stopped false h
  unfold State.resetCountDone
  dsimp only
  split
  · exact State.answer_stopped _ pulsed
  · split <;> [exact State.answer_stopped _ (State.answer_stopped _ pulsed); exact pulsed]

/-- No count of the TCU starts the clocks again. -/
theorem State.tcuBy_stopped {s : State} (n : BitVec 62) (h : s.run = .stopped) : (s.tcuBy n).run = .stopped := by
  unfold State.tcuBy
  dsimp only
  split
  · split
    · split <;> [exact State.resetCountDone_stopped _ _ h; exact h]
    · split
      · split <;> [exact State.answer_stopped _ (State.answer_stopped _ h); exact h]
      · exact h
  · split
    · exact h
    · split
      · simp [h]
      · exact h

theorem State.passTime_stopped {s : State} (h : s.run = .stopped) : s.passTime.run = .stopped := by
  have ticked (n : BitVec 62) : (if s.ticking then s.tickBy n else s).run = .stopped := by
    split <;> simp [State.tickBy_run, h]
  have counted (n : BitVec 62) (t : State) (ht : t.run = .stopped) :
      (if t.tcuCounting then t.tcuBy n else t).drawn.run = .stopped := by
    split <;> [exact State.tcuBy_stopped n ht; exact ht]
  unfold State.passTime
  split
  · exact counted _ _ (ticked _)
  · exact h

theorem State.respondOne_stopped {s : State} (soc stop : Bool) (h : s.run = .stopped) :
    (s.respondOne soc stop).run = .stopped := by
  unfold State.respondOne
  dsimp only
  split
  · exact s.answer_stopped stop h
  · split
    · exact h
    · split <;> [exact s.answer_stopped stop h; exact h]

theorem State.respond_stopped {s : State} (requests : List (Bool × Bool)) (h : s.run = .stopped) :
    (s.respond requests).run = .stopped := by
  unfold State.respond
  induction requests generalizing s with
  | nil => exact h
  | cons r rest ih => exact ih (State.respondOne_stopped r.1 r.2 h)

theorem State.answered_stopped {s : State} (h : s.run = .stopped) : s.answered.run = .stopped := by
  unfold State.answered
  split <;> [exact h; exact State.respond_stopped _ h]

theorem State.settleStatus_run (s : State) : s.settleStatus.run = s.run := by
  unfold State.settleStatus
  split <;> rfl

/-- A strand whose clocks have stopped does not run again when a step begins. -/
theorem State.begin_stopped {s : State} (h : s.run = .stopped) : s.begin.run = .stopped := by
  unfold State.begin
  refine State.answered_stopped ?_
  rw [(BackgroundTo.refl _).drainFlawed.injectSoc.injectMemory.scrubMemory.forwardScrubs.realignLinks.run_eq]
  exact State.passTime_stopped ((State.settleStatus_run _).trans h)

/-- A fold over the first numbers that each leave the state as it is. -/
theorem foldl_range_fixed {α : Type} {f : α → Nat → α} {a : α} {n : Nat} (h : ∀ k, k < n → f a k = a) :
    (List.range n).foldl f a = a := by
  induction n with
  | zero => rfl
  | succ n ih =>
    rw [List.range_succ, List.foldl_append, ih fun k hk => h k (by omega)]
    exact h n (by omega)

/-- Where nothing counts, nothing is injected and nothing waits, nothing happens before the instruction. -/
theorem Quiet.begin_eq {s : State} (q : Quiet s) (taken : s.taken = none) : s.begin = s := by
  obtain ⟨injected, injectsNone⟩ := q.noInjection
  obtain ⟨noScrub, unreported⟩ := q.noScrub
  obtain ⟨realign, linkLine⟩ := q.noLink
  obtain ⟨events, together⟩ := q.noEvents
  have start : ({ s.apart with taken := none, events := .none, linkLine := none } : State) = s := by
    simp only [State.apart, ← taken, ← events, ← linkLine, ← together]
  have settled : s.settleStatus = s := if_pos q.statusSettled
  have time : s.passTime = s := if_neg (by simp [q.noTick, q.noTcu])
  have clean : s.undrained.all PendingStore.clean = true := by
    have := q.noError
    simp only [State.checksClean, Bool.and_eq_true] at this
    exact this.2
  have drained : s.drainFlawed = s := if_pos clean
  have soc : s.injectSoc = s := if_pos injected
  have dram : s.injectMemory = s :=
    foldl_range_fixed fun k hk => if_pos (by simp [injectsNone k hk])
  have scrubbed : s.scrubMemory = s :=
    foldl_range_fixed fun k hk => if_pos (by simp [noScrub k hk])
  have forwarded : s.forwardScrubs = s := if_pos unreported
  have realigned : s.realignLinks = s := if_pos realign
  have answered : s.answered = s := if_pos events
  unfold State.begin
  dsimp only
  rw [start, settled, time, drained, soc, dram, scrubbed, forwarded, realigned, answered]

/-! ### One step -/

/-- A strand that runs, for which no chip reset is asked. -/
theorem step_of_running {s : State} (reset : s.begin.chipReset = none) (running : s.begin.run = .running) :
    step s = s.begin.active := by
  have going : s.run ≠ .stopped := fun h => by simp [State.begin_stopped h] at running
  unfold step State.cycle
  dsimp only
  rw [if_neg going, if_neg (by simp [running]), reset]
  simp only [running]

/-- Where no reset, no deferred trap and no disrupting trap comes before it, the instruction is what happens. -/
theorem State.active_of_instruct {s : State} (xir : s.xirPending = false) (deferred : s.storeError = false)
    (tlz : (s.hpstate.tlz && s.tl == 0 && !s.hpstate.hpriv) = false) (pending : s.pending = none) :
    s.active = match s.instruct with
      | .next t => .next (debugEvents s (s.storeTrapChecks t))
      | r => r := by
  have arbitrated : s.arbitrate s.instruct = s.instruct := by simp only [State.arbitrate, pending]
  unfold State.active
  rw [arbitrated, xir, deferred, tlz]
  rfl

theorem State.instruct_of_decode {s s1 : State} {w : Word32} {i : Instr} (fetch : s.fetch = .ok w s1) (decodes : decode w = .ok i) :
    s.instruct = s1.retire w i (if s.checksClean then exec i s1 else s1.protect i (exec i s1)) := by
  simp only [State.instruct, fetch, decodes]

theorem State.instruct_of_error {s s1 : State} {w : Word32} {e : DecodeError} (fetch : s.fetch = .ok w s1)
    (decodes : decode w = .error e) : s.instruct = .next (s1.countTrapped (s1.takeTrap 0x010)) := by
  simp only [State.instruct, fetch, decodes]

/-- Counters that count in no mode. -/
theorem State.not_counting {s : State} (h : bitAt s.pcr 1 = false ∧ bitAt s.pcr 2 = false ∧ bitAt s.pcr 3 = false) :
    s.counting = false := by
  obtain ⟨priv, user, hyper⟩ := h
  unfold State.counting
  split <;> assumption

/-- Without a breakpoint and without counters the end of an instruction adds nothing to it. -/
theorem State.retire_eq {s : State} (w : Word32) (i : Instr) (t : State) (breakpoint : s.hpstate.ibe = false)
    (counting : s.counting = false) : s.retire w i (.next t) = .next t := by
  simp [State.retire, State.breakpoint, State.countTrapped, breakpoint, counting]

theorem debugEvents_of_off {s : State} (t : State) (off : s.dbg.decr = 0 ∧ s.csrGet csrSocDecr = 0) : debugEvents s t = t :=
  if_pos off

/-- Where the strand does nothing but its next instruction, the step is that instruction. -/
theorem Quiet.step_eq {s t : State} (q : Quiet s) (taken : s.taken = none) (h : s.instruct = .next t) : step s = .next t := by
  have same := q.begin_eq taken
  rw [step_of_running (same.symm ▸ q.noChipReset) (same.symm ▸ q.running), same,
    State.active_of_instruct q.noXir q.noStoreError q.noTlz q.noTrap, h]
  simp only [State.storeTrapChecks_clean t q.noError, debugEvents_of_off t q.noDebug]

/-- After the fetch of such a strand there is still no breakpoint, and nothing counts. -/
theorem Quiet.fetched {s s1 : State} {w : Word32} (q : Quiet s) (fetch : s.fetch = .ok w s1) :
    s1.hpstate.ibe = false ∧ s1.counting = false := by
  obtain ⟨hpstate, pcr⟩ := State.fetch_keeps fetch
  exact ⟨hpstate ▸ q.noBreakpoint, State.not_counting (pcr ▸ q.noCount)⟩

/-! ### The word of a fetch in hyperprivileged mode -/

/-- Four bytes read as one number, the most significant first. -/
theorem wordOfBytes_four (b0 b1 b2 b3 : Byte) : (wordOfBytes [b0, b1, b2, b3]).setWidth 32 = b0 ++ b1 ++ b2 ++ b3 := by
  ext i hi
  simp [wordOfBytes]
  grind

theorem State.fetch_hyper {s : State} (hyper : s.hpstate.hpriv = true) :
    s.fetch = s.canonicalPc.fetchWord (s.fetchVa.setWidth 40).toNat := by
  simp [State.fetch, State.fetchPlace, State.fetchRoute, State.invalidMode, State.level, hyper]

theorem State.fetchWord_plain {s : State} {pa : Nat} (memory : isIo pa = false) (plain : s.plainLine pa = true)
    (uniform : s.l2Uniform = true) :
    s.fetchWord pa = .ok (s.readByte pa ++ s.readByte (pa + 1) ++ s.readByte (pa + 2) ++ s.readByte (pa + 3)) s := by
  simp only [State.fetchWord, memory, plain, uniform]
  exact congrArg (Res.ok · s) (wordOfBytes_four ..)

/-- Masking by PSTATE.am, as arithmetic. -/
theorem maskAddr_toNat (am : Bool) (a : Word) : (maskAddr am a).toNat = if am then a.toNat % 2 ^ 32 else a.toNat := by
  cases am <;> simp [maskAddr]
  omega

/-- The program counters that the hardware keeps: 48 bits, sign-extended, unless PSTATE.am masks them. -/
theorem State.canonicalPc_eq (s : State) :
    let kept := fun (a : Word) => if s.pstate.am then a else (a.extractLsb' 0 48).signExtend 64
    s.canonicalPc = { s with pc := kept s.pc, npc := kept s.npc } := by
  unfold State.canonicalPc
  cases s.pstate.am <;> rfl

/-! ### A register in error -/

/-- The number of a register in the array, as arithmetic. -/
theorem irfIndex_toNat (cwp : BitVec 3) (r : Reg) :
    (irfIndex cwp r).toNat = if cwp.toNat % 2 = 1 ∧ 8 ≤ r.toNat % 16 then (r.toNat + 16) % 32 else r.toNat := by
  have odd : bitAt cwp 0 = decide (cwp.toNat % 2 = 1) := by
    revert cwp; decide
  have outs : bitAt r 3 = decide (8 ≤ r.toNat % 16) := by
    revert r; decide
  have other : (r ^^^ 0x10).toNat = (r.toNat + 16) % 32 := by
    revert r; decide
  rw [irfIndex, odd, outs, ← Bool.decide_and, apply_ite BitVec.toNat, other]
  simp only [decide_eq_true_eq]

/-- One or two wrong check bits: an error, one that the code corrects if it is one bit, and its syndrome. -/
theorem twoBits_syndrome {j k : Nat} (hj : j < 8) (hk : k < 8) :
    let m : BitVec 8 := (1 <<< j) ||| (1 <<< k)
    m ≠ 0 ∧ corrects64 m = decide (j = k) ∧ (syndrome8 m).toNat = (if j = k then 128 else 0) + m.toNat % 128 := by
  have all : ∀ j k : Fin 8,
      let m : BitVec 8 := (1 <<< j.val) ||| (1 <<< k.val)
      m ≠ 0 ∧ corrects64 m = decide (j.val = k.val) ∧
        (syndrome8 m).toNat = (if j.val = k.val then 128 else 0) + m.toNat % 128 := by
    decide +kernel
  exact all ⟨j, hj⟩ ⟨k, hk⟩

/-- The low bits of D-SFAR in an error format are what the format says. -/
theorem State.setDsfarInfo_low (s : State) {n : Nat} {info : BitVec 48} (hn : n ≤ 48) (fits : info.toNat < 2 ^ n) :
    (s.setDsfarInfo n info).mmu.dsfar.toNat % 2 ^ n = info.toNat := by
  simp only [State.setDsfarInfo, BitVec.toNat_or, Nat.or_mod_two_pow, BitVec.toNat_shiftLeft]
  rw [Nat.mod_mod_of_dvd _ (Nat.pow_dvd_pow 2 hn), Nat.shiftLeft_eq, Nat.mul_mod_left, Nat.zero_or, Nat.mod_eq_of_lt fits]

/-- The three fields of that format, as one number. -/
theorem irfInfo_toNat (syndrome : BitVec 8) (gl : BitVec 2) (index : BitVec 5) :
    ((syndrome ++ gl ++ index : BitVec 15).setWidth 48).toNat = syndrome.toNat * 2 ^ 7 + gl.toNat * 2 ^ 5 + index.toNat := by
  rw [BitVec.toNat_setWidth, BitVec.toNat_append, BitVec.toNat_append, ← Nat.shiftLeft_add_eq_or_of_lt gl.isLt,
    ← Nat.shiftLeft_add_eq_or_of_lt index.isLt, Nat.shiftLeft_eq, Nat.shiftLeft_eq]
  omega

/-- What D-SFAR holds of an integer register in error: the syndrome, GL, and the number of the register in the array. -/
theorem State.recordIrf_low (s : State) (r : Reg) :
    (s.recordIrf r).mmu.dsfar.toNat % 2 ^ 15 =
      (syndrome8 (s.checkOf (.int (s.slot r)))).toNat * 2 ^ 7 + s.gl.toNat * 2 ^ 5 + (irfIndex s.win.cwp r).toNat := by
  unfold State.recordIrf
  dsimp only
  rw [State.setDsfarInfo_low _ (by decide)]
  · exact irfInfo_toNat _ _ _
  · rw [irfInfo_toNat]
    omega

/-- The first source of an ADD is in error and the report of that is enabled: internal_processor_error. -/
theorem State.protect_add {s : State} {rd rs1 rs2 : Reg} (taken : s.taken = none) (enabled : bitAt s.err.cerer 52 = true)
    (precise : bitAt s.err.seter 2 = true) (bad : s.checkOf (.int (s.slot rs1)) ≠ 0) :
    s.protect (.add rd rs1 (.reg rs2)) (exec (.add rd rs1 (.reg rs2)) s) = .next ((s.recordIrf rs1).takeTrap 0x029) := by
  have completes : trapsBefore (exec (.add rd rs1 (.reg rs2)) s) (8 * 16 + 2) = false := by
    show trapsBefore (.next ((s.setReg rd _).advance)) _ = false
    simp [trapsBefore, outcomeTrap, taken]
  have first : s.registerError (Instr.intReads (.add rd rs1 (.reg rs2))) (Instr.floatReads (.add rd rs1 (.reg rs2))) =
      some (s.recordIrf rs1) := by
    have found : (Instr.intReads (.add rd rs1 (.reg rs2))).find? (fun r => s.checkOf (.int (s.slot r)) != 0) = some rs1 :=
      List.find?_cons_of_pos (by simpa using bad)
    simp only [State.registerError, State.cerer, State.pscce, enabled, precise, Bool.and_self, if_true, found]
  have reads : s.readError? (.add rd rs1 (.reg rs2)) (exec (.add rd rs1 (.reg rs2)) s) = some (s.recordIrf rs1) := by
    simp only [State.readError?, completes, first]
    rfl
  simp only [State.protect, reads]

end Sys2Proof.Machine

namespace Sys2Proof
open Machine

/-- Settles O54: a step is `State.cycle` of a state in which time has passed, and that is its instruction where nothing comes
before it; a word that decodes is that of a well-formed instruction. -/
theorem stepsRunTheDecodedInstruction : Obligations.StepsRunTheDecodedInstruction := by
  unfold Obligations.StepsRunTheDecodedInstruction
  refine ⟨?running, ?quiet, ?illegal, ?word, ?registerError⟩
  case running =>
    intro s s1 w i b reset running xir deferred tlz pending fetch decodes
    refine ⟨decode_wellFormed decodes, ?_⟩
    have acts := State.active_of_instruct xir deferred tlz pending
    rw [State.instruct_of_decode fetch decodes] at acts
    exact (step_of_running reset running).trans acts
  case quiet =>
    intro s s1 t w i q taken fetch decodes executes
    obtain ⟨breakpoint, counting⟩ := q.fetched fetch
    refine q.step_eq taken ?_
    rw [State.instruct_of_decode fetch decodes, if_pos q.noError, executes, State.retire_eq _ _ _ breakpoint counting]
  case illegal =>
    intro s s1 w e q taken fetch decodes
    obtain ⟨-, counting⟩ := q.fetched fetch
    refine q.step_eq taken ?_
    rw [State.instruct_of_error fetch decodes, State.countTrapped, counting]
    rfl
  case word =>
    intro s pa kept hyper memory plain uniform
    have address : (s.fetchVa.setWidth 40).toNat = pa := by
      rw [BitVec.toNat_setWidth, State.fetchVa, maskAddr_toNat]
    rw [State.fetch_hyper hyper, address, s.canonicalPc_eq]
    exact State.fetchWord_plain memory plain uniform
  case registerError =>
    intro s rd rs1 rs2 j k m i n index taken enabled precise hj hk wrong
    obtain ⟨nonzero, corrects, syndrome⟩ := twoBits_syndrome hj hk
    rw [← wrong] at nonzero corrects syndrome
    refine ⟨s.recordIrf rs1, State.protect_add taken enabled precise nonzero, ?_, ?_⟩
    · simp only [State.recordIrf, corrects, decide_eq_true_eq, m]
      rfl
    · rw [State.recordIrf_low, syndrome, irfIndex_toNat]

end Sys2Proof

namespace Sys2Proof.Machine

/-! ### What the parts of a step keep -/

/-- The invariant of the parts of a step: `State.Sound`, and, where `live` says that the strand executes, that it is one of the
enabled ones whatever `run` becomes. What happens by itself keeps it for every `live`, an instruction for a true one. -/
structure State.Steady (live : Prop) (s : State) : Prop extends State.Sound s where
  enabled : live → s.cmt.enableStatus &&& ownBit ≠ 0

/-- A sound state, read as one that does not execute. -/
theorem State.Sound.steady {s : State} (h : s.Sound) : s.Steady False := { h with enabled := False.elim }

namespace State.Steady

/-- A strand that runs is an enabled one. -/
theorem ofRunning {s : State} (h : s.Sound) (running : s.run = .running) : s.Steady True :=
  { h with enabled := fun _ => by simpa [running] using h.present }

theorem ite {live : Prop} {s t : State} {p : Prop} [Decidable p] (h : s.Steady live) (h' : t.Steady live) :
    (if p then s else t).Steady live := by
  split <;> assumption

/-- A sequence of changes, one for each entry of a list. -/
theorem foldl {live : Prop} {α : Type} {f : State → α → State} {l : List α} {s : State} (h : s.Steady live)
    (hf : ∀ u a, u.Steady live → (f u a).Steady live) : (l.foldl f s).Steady live := by
  induction l generalizing s with
  | nil => exact h
  | cons a rest ih => exact ih (hf s a h)

section
variable {live : Prop} {s : State} (h : s.Steady live)
include h

theorem drawn : s.drawn.Steady live := { h with }

theorem csrSet (pa : Nat) (v : Word) : (s.csrSet pa v).Steady live := { h with registers := wf_csrSet pa v h.registers }

theorem withMem {m : List Host.Cell} (hm : Memory.wf m = true) : State.Steady live { s with mem := m } := { h with memory := hm }

theorem withL1d {l : List (Nat × L1Chunk)} (hl : sparseWf (fun _ => L1Chunk.absent) l = true) :
    State.Steady live { s with l1d := l } :=
  { h with badChunks := ⟨hl, h.badChunks.2⟩ }

theorem withL1i {l : List (Nat × L1Chunk)} (hl : sparseWf (fun _ => L1Chunk.absent) l = true) :
    State.Steady live { s with l1i := l } :=
  { h with badChunks := ⟨h.badChunks.1, hl⟩ }

theorem events (e : DebugEvents) : State.Steady live { s with events := e } := { h with }

theorem chipReset (r : Option ChipReset) : State.Steady live { s with chipReset := r } := { h with }

/-! ### Records of errors -/

theorem updateClfesr (old : BitVec 16) : (s.updateClfesr old).Steady live := .ite { h with } (.ite { h with } h)

theorem recordDesr (k : Nat) (sre : Bool) (errtype : BitVec 5) (addr : BitVec 11) :
    (s.recordDesr k sre errtype addr).Steady live := by
  refine .ite (updateClfesr ?_ _) h
  have place : (if s.err.together.isSome then s.drawn else s).Steady live := h.drawn.ite h
  exact { place with cererReserved := h.cererReserved, injectReserved := h.injectReserved }

theorem recordDisrupting (k : Nat) (sre : Bool) (errtype : BitVec 5) : (s.recordDisrupting k sre errtype).Steady live :=
  (h.drawn.recordDesr _ _ _ _).ite h

theorem recordDeferred (io : Bool) (priv : BitVec 2) (index : BitVec 3) : (s.recordDeferred io priv index).Steady live := by
  refine updateClfesr ?_ _
  exact { h with }

theorem readDesr : s.readDesr.2.Steady live := by
  refine updateClfesr ?_ _
  exact { h with }

theorem readDfesr : s.readDfesr.2.Steady live := by
  refine updateClfesr ?_ _
  exact { h with }

theorem apart : s.apart.Steady live := { h with }

theorem setDsfar (va : Word) : (s.setDsfar va).Steady live := { h with }

theorem setDsfarTlb (va : Word) : (s.setDsfarTlb va).Steady live := { h with }

theorem setDsfarUndefined : s.setDsfarUndefined.Steady live := { h with }

theorem setDsfarInfo (n : Nat) (info : BitVec 48) : (s.setDsfarInfo n info).Steady live := { h with }

theorem setDsfsr (errtype : BitVec 4) : (s.setDsfsr errtype).Steady live := { h with }

theorem setIsfsr (errtype : BitVec 3) : (s.setIsfsr errtype).Steady live := { h with }

theorem noteBank (b : Nat) : (s.noteBank b).Steady live := .ite { h with } h

theorem noteL2 (pa : Nat) : (s.noteL2 pa).Steady live := h.noteBank _

theorem logDram (pa : Nat) (one write fill : Bool) : (s.logDram pa one write fill).Steady live :=
  .ite ((h.csrSet _ _).noteL2 _) (((h.drawn.csrSet _ _).drawn.csrSet _ _).noteL2 _)

theorem logNotData (pa : Nat) (write : Bool) : (s.logNotData pa write).Steady live :=
  ((h.csrSet _ _).ite (h.csrSet _ _)).noteL2 pa

theorem noteMcu (k : Nat) : (s.noteMcu k).Steady live :=
  have clear := h.csrSet (csrDramDebugTrigger + 0x1000 * k) (s.csrGet (csrDramDebugTrigger + 0x1000 * k) &&& ~~~0x4)
  .ite { clear with } h

theorem logOutOfBounds (pa : Nat) : (s.logOutOfBounds pa).Steady live := (h.csrSet _ _).noteMcu _

theorem logMcu (k bit : Nat) (severe : Bool) (y : BitVec 16) (a : Option Nat) : (s.logMcu k bit severe y a).Steady live := by
  refine .ite ((h.csrSet _ _).noteMcu k) (noteMcu ?_ k)
  cases a with
  | none => exact h.csrSet _ _
  | some a => exact (h.csrSet _ _).csrSet _ _

theorem reportL2U (pa : Nat) : (s.reportL2U pa).Steady live := .ite (h.recordDisrupting _ _ _) h

theorem reportL2C (pa : Nat) : (s.reportL2C pa).Steady live := .ite (h.recordDisrupting _ _ _) h

theorem reportCorrected (pa k : Nat) (errtype : BitVec 5) : (s.reportCorrected pa k errtype).Steady live :=
  .ite (h.recordDisrupting _ _ _) h

/-! ### Errors of the SOC -/

theorem socSyndrome (reg : Nat) (entries : List Nat) (shift : Nat) (fields : Nat → Word × Word) (logged : Word) :
    (s.socSyndrome reg entries shift fields logged).Steady live := by
  unfold State.socSyndrome
  split <;> [exact h; exact .ite h (h.drawn.csrSet _ _)]

theorem socPacket (asking : Word) : (s.socPacket asking).Steady live :=
  .ite h (.ite (h.recordDisrupting _ _ _) (.ite (h.recordDisrupting _ _ _)
    (.ite (h.drawn.recordDisrupting _ _ _) (h.drawn.recordDisrupting _ _ _))))

theorem socRequest (entries : Word) : (s.socRequest entries).Steady live :=
  .ite h (((h.csrSet _ _).csrSet _ _).socPacket _)

theorem socErrorsAt (errors : Word) (own : Option Nat) : (s.socErrorsAt errors own).Steady live :=
  .ite h (.ite (((((h.csrSet _ _).socSyndrome _ _ _ _ _).socSyndrome _ _ _ _ _).events _).csrSet _ _ |>.chipReset _)
    (((((h.csrSet _ _).socSyndrome _ _ _ _ _).socSyndrome _ _ _ _ _).events _).socRequest _))

theorem socErrors (errors : Word) : (s.socErrors errors).Steady live := h.socErrorsAt errors none

end
end State.Steady

namespace State.Steady

section
variable {live : Prop} {s : State} (h : s.Steady live)
include h

/-! ### Errors of the links -/

theorem linkLine (l : Option (Nat × Bool)) : State.Steady live { s with linkLine := l } := { h with }

theorem logLink (k : Nat) (fatal : Bool) : (s.logLink k fatal).Steady live := by
  unfold State.logLink
  exact (h.drawn.csrSet _ _).drawn.logMcu _ _ _ _ _

theorem countLink (k : Nat) : (s.countLink k).Steady live :=
  .ite (h.socErrors _) (.ite ((h.csrSet _ _).socErrors _) (h.csrSet _ _))

theorem countCorrected (k : Nat) : (s.countCorrected k).Steady live :=
  .ite h (.ite ((h.csrSet _ _).socErrors _) (h.csrSet _ _))

theorem logRetry (k : Nat) (first : BitVec 16) (second : Option (BitVec 16)) : (s.logRetry k first second).Steady live :=
  h.csrSet _ _

theorem logLocation (k n : Nat) : (s.logLocation k n).Steady live := .ite h (h.csrSet _ _)

theorem logLinked (pa : Nat) : (s.logLinked pa).Steady live := by
  unfold State.logLinked
  split
  · exact h
  · rename_i fatal _
    have logged := (h.logLink (s.mcuOf pa) fatal).linkLine none
    exact logged.ite (logged.countLink _)

/-! ### Lines of memory with bad data -/

theorem putUnder (cells : List Host.Cell) : (s.putUnder cells).Steady live :=
  .ite h { h with memory := wf_cancelCells _ _ h.memory }

theorem putLine (pa : Nat) (l : MemLine) : (s.putLine pa l).Steady live :=
  { h with badLines := sparseWf_put (d := fun _ => MemLine.none) _ _ h.badLines }

theorem writeDram (pa : Nat) (chunks : BitVec 4) : (s.writeDram pa chunks).Steady live :=
  .ite h (.ite (h.putLine _ _) (.ite ((h.putLine _ _).csrSet _ _) (h.putLine _ _)))

theorem putDram (pa : Nat) (cells : List Host.Cell) : (s.putDram pa cells).Steady live :=
  .ite (h.putUnder cells) (.ite h (h.putLine _ _))

theorem evict (pa : Nat) : (s.evict pa).Steady live :=
  .ite (h.putLine _ _) (.ite ((h.putUnder _).putLine _ _) ((h.putLine _ _).writeDram _ _))

theorem aged (pa : Nat) : (s.aged pa).Steady live := .ite h (.ite (h.evict pa) (.ite (h.drawn.evict pa) h.drawn))

theorem logUncorrectable (pa q bit : Nat) (a : Option Nat) : (s.logUncorrectable pa q bit a).Steady live := by
  unfold State.logUncorrectable
  exact (h.logMcu _ _ _ _ _).logRetry _ _ _

theorem logCorrected (pa q bit : Nat) (a : Option Nat) : (s.logCorrected pa q bit a).Steady live := by
  unfold State.logCorrected
  dsimp only
  split
  · exact h
  · exact (((((h.logLocation _ _).logMcu _ _ _ _ _).putDram _ _).writeDram _ _).logRetry _ _ _).countCorrected _

theorem logMemory (pa : Nat) : (s.logMemory pa).Steady live :=
  .ite (h.logOutOfBounds pa) (.foldl (.foldl (h.logLinked pa) fun _ _ hu => hu.logUncorrectable _ _ _ _)
    fun _ _ hu => hu.logCorrected _ _ _ _)

theorem fillLine (pa : Nat) (bad : BitVec 16) (spoilt : Bool) : (s.fillLine pa bad spoilt).Steady live :=
  .ite h (h.putLine _ _)

theorem fillReport (pa : Nat) (bad fixed : BitVec 16) : (s.fillReport pa bad fixed).Steady live :=
  have first := ite (p := bad = 0) h ((h.logDram pa false false true).reportL2U pa)
  .ite first ((first.logDram _ _ _ _).reportL2C _)

theorem storedOrFree (known : Bool) (pa n : Nat) : (s.storedOrFree known pa n).2.Steady live := by
  unfold State.storedOrFree
  split <;> [exact h; exact h.drawn.drawn]

/-! ### Reads of such lines -/

theorem findBytes (pa chunk : Nat) {note : State → State} (hn : ∀ u, u.Steady live → (note u).Steady live) :
    (s.findBytes pa chunk note).2.Steady live := by
  have logged := (h.aged pa).logMemory pa
  unfold State.findBytes
  dsimp only
  split
  · exact h.aged pa
  · have dram := logged.logDram pa false false false
    exact (((dram.logDram _ _ _ _).ite dram).ite ((hn _ (logged.logDram _ _ _ _)).ite logged) |>.fillReport _ _ _).fillLine
      _ _ _

theorem logFound (pa : Nat) (found : Found) : (s.logFound pa found).Steady live := .ite (h.logNotData _ _) h

theorem fillL1d (pa : Nat) (found : Found) : (s.fillL1d pa found).Steady live :=
  .ite h (h.withL1d (sparseWf_put (d := fun _ => L1Chunk.absent) _ _ h.badChunks.1))

theorem fillL1i (pa : Nat) (f : Finding) : (s.fillL1i pa f).Steady live := by
  have put (l : List (Nat × L1Chunk)) (c : Nat) (hl : sparseWf (fun _ => L1Chunk.absent) l = true) :
      sparseWf (fun _ => L1Chunk.absent) (if f.bad &&& sublines (16 * c) 16 = 0 then l
        else sparsePut .absent l c (f.found.l1Chunk (s.nceen pa && s.cerer 53))) = true := by
    split <;> [exact hl; exact sparseWf_put (d := fun _ => L1Chunk.absent) _ _ hl]
  exact .ite h (h.withL1i (put _ _ (put _ _ h.badChunks.2)))

theorem lookL1d (pa : Nat) : (s.lookL1d pa).2.Steady live := by
  have emptied {u : State} (hu : u.Steady live) : State.Steady live { u with l1d := s.l1d.filter fun c => !inSetD pa c } :=
    hu.withL1d (sparseWf_filter _ h.badChunks.1)
  unfold State.lookL1d
  dsimp only
  split
  · exact h
  · split
    · exact emptied h.drawn
    · split
      · exact (emptied h.drawn.drawn).recordDesr _ _ _ _
      · exact h.drawn

theorem lookL1i (pa : Nat) : (s.lookL1i pa).2.Steady live := by
  have emptied {u : State} (hu : u.Steady live) (p : Nat × L1Chunk → Bool) : State.Steady live { u with l1i := s.l1i.filter p } :=
    hu.withL1i (sparseWf_filter _ h.badChunks.2)
  unfold State.lookL1i
  dsimp only
  split
  · exact h
  · split
    · exact emptied h.drawn _
    · split
      · exact h.drawn
      · split
        · exact (emptied h.drawn.drawn _).recordDesr _ _ _ _
        · exact h.drawn
      · exact h.drawn

theorem l1Bytes (pa n : Nat) : (s.l1Bytes pa n).2.Steady live := h.storedOrFree _ _ _

theorem waitLine (pa : Nat) : (s.waitLine pa).2.Steady live := by
  unfold State.waitLine
  dsimp only
  split
  · exact h.aged pa
  · exact (((h.aged pa).logMemory pa).fillReport _ _ _).fillLine _ _ _

theorem badPrefetch (pa : Nat) : (s.badPrefetch pa).Steady live := by
  have aged := h.aged pa
  have logged := aged.logMemory pa
  unfold State.badPrefetch
  refine .ite (fillLine (fillReport (.ite ((logged.logDram _ _ _ _).reportCorrected _ _ _) logged) _ _ _) _ _ _) (.ite aged ?_)
  exact .ite ((aged.logNotData _ _).recordDisrupting _ _ _) (aged.logNotData _ _)

/-! ### Stores to such lines -/

theorem rewritten (pa : Nat) (addrs : List Nat) (bad : BitVec 16) : (s.rewritten pa addrs bad).Steady live :=
  .ite (h.putLine _ _) ((h.putLine _ _).writeDram _ _)

theorem storeCells (pa : Nat) (cells : List Host.Cell) : (s.storeCells pa cells).Steady live :=
  (h.withMem (wf_memPutCells _ h.memory)).rewritten _ _ _

theorem badStore (kind : StoreKind) (pa : Nat) (cells : List Host.Cell) : (s.badStore kind pa cells).Steady live := by
  have aged := h.aged pa
  have logged := aged.logMemory pa
  have severe := logged.ite (p := (s.aged pa).badMemory pa = 0) ((logged.logDram pa false true false).reportL2U pa)
  have noted := severe.ite (p := (s.aged pa).corrected pa = 0) ((severe.logDram pa true true true).reportL2C pa)
  refine .ite (storeCells ?found _ _) ?found
  exact .ite aged (.ite (aged.putLine _ _) (noted.fillLine _ _ _))

theorem badBlockStore (pa : Nat) (cells : List Host.Cell) : (s.badBlockStore pa cells).Steady live :=
  .ite (h.badStore _ _ _) h

/-! ### The store buffer -/

theorem withUndrained (l : List PendingStore) : State.Steady live { s with undrained := l } := { h with }

theorem drainSome : s.drainSome.Steady live := { h with }

theorem settle (pa n : Nat) : (s.settle pa n).Steady live := .ite h.drainSome h

theorem loadBytes (pa n : Nat) : (s.loadBytes pa n).2.Steady live := by
  unfold State.loadBytes
  split <;> [exact h; exact h.drawn]

theorem globalBytes (pa : Nat) : (s.globalBytes pa).2.Steady live := by
  unfold State.globalBytes
  split <;> [exact h; exact h.drainSome]

theorem mergeStore (p : PendingStore) (rest : List PendingStore) : (s.mergeStore p rest).2.Steady live := by
  unfold State.mergeStore
  dsimp only
  split <;> [exact h; exact h.withMem (wf_cancelCells _ _ h.memory)]

theorem performed (p : PendingStore) (rest : List PendingStore) : (s.performed p rest).2.Steady live := by
  unfold State.performed
  split <;> [exact h; exact (h.mergeStore p rest).rewritten _ _ _]

theorem poisoned (p : PendingStore) (rest : List PendingStore) : (s.poisoned p rest).2.Steady live :=
  (h.mergeStore p rest).rewritten _ _ _

theorem drainList (also : BitVec 2) (n : Nat) (ps : List PendingStore) : (s.drainList also n ps).Steady live := by
  induction n generalizing s ps with
  | zero => cases ps <;> exact h
  | succ n ih =>
    cases ps with
    | nil => exact h
    | cons p rest =>
      have cancelled {u : State} (hu : u.Steady live) (later : List PendingStore) (cells : List Host.Cell) :
          State.Steady live { u with mem := (cancelCells u.mem later cells).2 } :=
        hu.withMem (wf_cancelCells _ _ hu.memory)
      have recorded (k : Nat) (sre : Bool) (e : BitVec 5) := h.drawn.recordDesr k sre e (s.storeInfo p.index)
      exact .ite ((h.withMem (wf_dropStores _ h.memory)).recordDeferred _ _ _)
        (.ite (ih (h.performed _ _) _)
          (.ite (ih ((cancelled (recorded _ _ _) _ _).performed _ _) _)
            (.ite (ih (h.performed _ _) _)
              (.ite (ih (cancelled (recorded _ _ _) _ _) _) (ih ((recorded _ _ _).poisoned _ _) _)))))

theorem drainFor (also : BitVec 2) : (s.drainFor also).Steady live :=
  .ite (h.withUndrained _) ((h.withUndrained _).drainList _ _ _)

theorem drain : s.drain.Steady live := h.drainFor 0

theorem drainFlawed : s.drainFlawed.Steady live := .ite h (.ite h.drawn.drain h.drawn)

theorem followed : s.followed.Steady live := .ite (h.withUndrained _) (h.drainFor _)

theorem makeRoom : s.makeRoom.Steady live := .ite h (.ite (h.withUndrained _) (h.drainFor _))

theorem deferStore (io : Bool) (index : BitVec 3) : (s.deferStore io index).Steady live := h.recordDeferred _ _ _

theorem bufferCells (kind : StoreKind) (flaw : BitVec 7 × Bool) (pa seen : Nat) (cells : List Host.Cell) :
    (s.bufferCells kind flaw pa seen cells).Steady live :=
  { h with memory := wf_memPutCells _ h.memory }

theorem pushCells (kind : StoreKind) (flaw : BitVec 7 × Bool) (pa seen : Nat) (cells : List Host.Cell) :
    (s.pushCells kind flaw pa seen cells).Steady live :=
  .ite h.makeRoom (h.makeRoom.bufferCells _ _ _ _ _)

theorem storePieces (flaw : BitVec 7 × Bool) (pa : Nat) (pieces : List (List Byte)) :
    (s.storePieces flaw pa pieces).Steady live := by
  induction pieces generalizing s pa with
  | nil => exact h
  | cons bs rest ih => exact .ite (h.pushCells _ _ _ _ _) (ih (h.pushCells _ _ _ _ _) _)

/-! ### The TLBs -/

theorem setTag (side : Side) (a : TagAccess) : (s.setTag side a).Steady live := by
  cases side <;> exact { h with }

theorem tlbUse (side : Side) (q : Request) : (s.tlbUse side q).Steady live := by
  cases side <;> exact { h with }

theorem loadTte (side : Side) (q : Request) (c : TsbConfig) (size : PageSize) (tag data : Word) (pa : BitVec 27) :
    (s.loadTte side q c size tag data pa).Steady live := by
  cases side <;> exact { h with }

theorem demap (side : Side) (a : Word) : (s.demap side a).Steady live := by
  cases side <;> exact { h with }

end
end State.Steady

/-! ### Word-aligned addresses -/

/-- The address of a word, as arithmetic. -/
theorem wordAligned_iff {a : Word} : a.extractLsb' 0 2 = 0 ↔ a.toNat % 4 = 0 := by
  rw [← BitVec.toNat_inj]
  simp

/-- A sum of two addresses of words. -/
theorem wordAligned_add {a b : Word} (ha : a.extractLsb' 0 2 = 0) (hb : b.extractLsb' 0 2 = 0) : (a + b).extractLsb' 0 2 = 0 := by
  rw [wordAligned_iff] at *
  rw [BitVec.toNat_add]
  omega

/-- The address of the next word. -/
theorem wordAligned_add_four {a : Word} (h : a.extractLsb' 0 2 = 0) : (a + 4).extractLsb' 0 2 = 0 := wordAligned_add h rfl

/-- An address that ends in two zero bits, sign-extended. -/
theorem wordAligned_sext48 {a : BitVec 48} (h : a.extractLsb' 0 2 = 0) : (sext48 a).extractLsb' 0 2 = 0 := by
  rw [← h]
  unfold sext48
  ext i hi
  rw [BitVec.getElem_extractLsb', BitVec.getElem_extractLsb', BitVec.getLsbD_signExtend]
  simp [show i < 48 by omega, show i < 64 by omega]

theorem wordAligned_append (t : BitVec 46) : (t ++ 0#2).extractLsb' 0 2 = 0 := by
  have low : (t ++ 0#2).toNat = t.toNat <<< 2 ||| 0 := BitVec.toNat_append t 0#2
  rw [← BitVec.toNat_inj, BitVec.extractLsb'_toNat, low]
  simp [Nat.shiftLeft_eq]

theorem wordAligned_append_five (t : BitVec 43) : (t ++ 0#5 : BitVec 48).extractLsb' 0 2 = 0 := by
  have low : (t ++ 0#5).toNat = t.toNat <<< 5 ||| 0 := BitVec.toNat_append t 0#5
  rw [← BitVec.toNat_inj, BitVec.extractLsb'_toNat, low]
  simp [Nat.shiftLeft_eq]
  omega

/-- The hardware's form of a program counter is aligned as the counter is. -/
theorem wordAligned_canonical {a : Word} (h : a.extractLsb' 0 2 = 0) : (sext48 (a.setWidth 48)).extractLsb' 0 2 = 0 := by
  refine wordAligned_sext48 ?_
  rw [← h]
  ext i hi
  simp
  omega

theorem wordAligned_rstv (s : State) {offset : Word} (h : offset.extractLsb' 0 2 = 0) :
    (s.rstv + offset).extractLsb' 0 2 = 0 := by
  refine wordAligned_add ?_ h
  unfold State.rstv
  split <;> rfl

theorem wordAligned_tpcWord (t : BitVec 46) : (tpcWord t).extractLsb' 0 2 = 0 := wordAligned_sext48 (wordAligned_append t)

theorem wordAligned_returnTarget (hole : Bool) (t : BitVec 46) : (returnTarget hole t).extractLsb' 0 2 = 0 := by
  unfold returnTarget
  split
  · rw [BitVec.extractLsb'_xor, wordAligned_tpcWord]
    rfl
  · exact wordAligned_tpcWord t

/-- The displacement of a branch counts words. -/
theorem wordAligned_branchDisp {n : Nat} (d : BitVec n) : (branchDisp d).extractLsb' 0 2 = 0 := by
  unfold branchDisp
  ext i hi
  simp
  omega

/-! ### Entry to a trap and return from it -/

namespace State.Steady

section
variable {live : Prop} {s : State} (h : s.Steady live)
include h

/-- New program counters, of words. -/
theorem withPcs {pc npc : Word} (hpc : pc.extractLsb' 0 2 = 0) (hnpc : npc.extractLsb' 0 2 = 0) :
    State.Steady live { s with pc := pc, npc := npc } :=
  { h with pcAligned := hpc, npcAligned := hnpc }

theorem enterRed (tt : BitVec 9) {offset : Word} (ho : offset.extractLsb' 0 2 = 0) : (s.enterRed tt offset).Steady live :=
  have vector := wordAligned_rstv s ho
  have level : tlNext s.tl ≤ maxTl := by
    unfold tlNext
    split <;> [(simp only [maxTl] at *; bv_omega); decide]
  { h with pcAligned := vector, npcAligned := wordAligned_add_four vector, trapLevel := level }

theorem enterPriv (tt : BitVec 9) (level : s.tl < maxPtl) : (s.enterPriv tt).Steady live :=
  have vector : (privVector s.tba s.tl tt).extractLsb' 0 2 = 0 := wordAligned_sext48 (wordAligned_append_five _)
  have next : s.tl + 1 ≤ maxTl := by simp only [maxTl, maxPtl] at *; bv_omega
  { h with pcAligned := vector, npcAligned := wordAligned_add_four vector, trapLevel := next }

theorem enterHyper (tt slot : BitVec 9) (level : s.tl ≠ maxTl) : (s.enterHyper tt slot).Steady live :=
  have vector : (hyperVector s.htba slot).extractLsb' 0 2 = 0 := wordAligned_sext48 (wordAligned_append_five _)
  have next : s.tl + 1 ≤ maxTl := by have := h.trapLevel; simp only [maxTl] at *; bv_omega
  { h with pcAligned := vector, npcAligned := wordAligned_add_four vector, trapLevel := next }

theorem takeTrap (tt : BitVec 9) : (s.takeTrap tt).Steady live := by
  have below {d : TrapDest} (hd : trapDest tt s = d) (ordinary : d ≠ .watchdog) : s.tl ≠ maxTl := by
    intro top
    rw [trapDest, if_pos top] at hd
    exact ordinary hd.symm
  have low (hd : trapDest tt s = .priv) : s.tl < maxPtl := by
    unfold trapDest at hd
    grind
  rcases s.takeTrap_cases tt with ⟨hd, e⟩ | ⟨hd, e⟩ | ⟨hd, e⟩ | ⟨hd, e⟩ | ⟨hd, e⟩ <;> rw [e]
  · exact h.enterPriv tt (low hd)
  · exact h.enterHyper tt tt (below hd (by decide))
  · exact h.enterHyper tt 2 (below hd (by decide))
  · exact (h.enterRed tt rfl).withUndrained []
  · exact h.enterRed tt rfl

theorem takeSir : s.takeSir.Steady live := h.enterRed 4 rfl

theorem returnFromTrap (retry : Bool) (level : s.tl ≠ 0) : (s.returnFromTrap retry).Steady live := by
  have below : s.tl - 1 ≤ maxTl := by have := h.trapLevel; simp only [maxTl] at *; bv_omega
  have done := wordAligned_returnTarget s.frame.tnpcHole s.frame.tnpc
  cases retry with
  | true => exact { h with pcAligned := wordAligned_returnTarget _ _, npcAligned := done, trapLevel := below }
  | false => exact { h with pcAligned := done, npcAligned := wordAligned_add_four done, trapLevel := below }

theorem canonicalPc : s.canonicalPc.Steady live :=
  .ite h (h.withPcs (wordAligned_canonical h.pcAligned) (wordAligned_canonical h.npcAligned))

end
end State.Steady

/-! ### The parts of an instruction -/

/-- Every state that a part of an instruction can end in is steady. -/
def Res.Steady {α : Type} (live : Prop) : Res α → Prop
  | .ok _ s | .trap _ s | .hang s => s.Steady live
  | .refuse _ | .fault _ => True

/-- The next state, if there is one, is steady. -/
def NextSteady (live : Prop) (r : Host.Outcome State Fault Refusal) : Prop := ∀ t, r = .next t → t.Steady live

namespace Res.Steady

section
variable {live : Prop} {α β : Type} {s : State}

theorem ok {a : α} (h : s.Steady live) : (Res.ok a s).Steady live := h

theorem trap {tt : BitVec 9} (h : s.Steady live) : (Res.trap tt s : Res α).Steady live := h

theorem hang (h : s.Steady live) : (Res.hang s : Res α).Steady live := h

theorem refuse {r : Refusal} : (Res.refuse r : Res α).Steady live := trivial

theorem fault {f : Fault} : (Res.fault f : Res α).Steady live := trivial

theorem ite {x y : Res α} {p : Prop} [Decidable p] (hx : x.Steady live) (hy : y.Steady live) :
    (if p then x else y).Steady live := by
  split <;> assumption

theorem bind {x : Res α} {k : α → State → Res β} (hx : x.Steady live)
    (hk : ∀ a u, u.Steady live → (k a u).Steady live) : (x.bind k).Steady live := by
  cases x with
  | ok a u => exact hk a u hx
  | trap _ _ | hang _ => exact hx
  | refuse _ | fault _ => trivial

theorem firstTrap {checks : List (Bool × BitVec 9)} {k : Res α} (h : s.Steady live) (hk : k.Steady live) :
    (firstTrap s checks k).Steady live := by
  rcases firstTrap_cases s checks k with ⟨e, -⟩ | ⟨tt, -, e⟩ <;> rw [e]
  · exact hk
  · exact .trap h

/-- An instruction that executes ends in a steady state, whether it completes, traps or is never answered. -/
theorem outcome {x : Res Unit} (hx : x.Steady True) : NextSteady True x.outcome := by
  intro t e
  rcases Res.outcome_eq_next e with rfl | ⟨tt, u, rfl, rfl⟩ | ⟨u, rfl, rfl⟩
  · exact hx
  · exact State.Steady.takeTrap hx tt
  · have hu : u.Steady True := hx
    exact { hu with present := .inr (.inr (hu.enabled trivial)) }

end
end Res.Steady

namespace NextSteady

variable {live : Prop} {s : State}

theorem next (h : s.Steady live) : NextSteady live (.next s) := fun _ e => by cases e; exact h

theorem refused {r : Refusal} : NextSteady live (.refused r) := fun _ e => nomatch e

theorem ite {x y : Host.Outcome State Fault Refusal} {p : Prop} [Decidable p] (hx : NextSteady live x) (hy : NextSteady live y) :
    NextSteady live (if p then x else y) := by
  split <;> assumption

end NextSteady

namespace State.Steady

section
variable {live : Prop} {s : State} (h : s.Steady live)
include h

/-! ### Translation -/

theorem tagTrap {α : Type} (side : Side) (q : Request) (tt : BitVec 9) : (s.tagTrap side q tt : Res α).Steady live :=
  .trap (h.setTag _ _)

theorem ofEntryError {side : Side} {va : Word} {e : TlbEntry} {r : BitVec 9 × State} (found : s.entryError side va e = some r) :
    r.2.Steady live := by
  unfold State.entryError at found
  cases side with
  | inst => split_ifs at found <;> cases found <;> exact h.setIsfsr _
  | data => split_ifs at found <;> cases found <;> exact (h.setDsfsr _).setDsfarTlb _

theorem multipleHit (side : Side) (va : Word) (q : Request) : (s.multipleHit side va q).Steady live := by
  cases side with
  | inst => exact .ite (.trap (h.setIsfsr _)) (.ok (h.tlbUse _ _).drawn)
  | data => exact .ite (.trap ((h.setDsfsr _).setDsfarTlb _)) (.ok (h.tlbUse _ _).drawn)

theorem lookup (side : Side) (va : Word) (q : Request) : (s.lookup side va q).Steady live := by
  unfold State.lookup
  split
  · exact .ok h
  · split
    · rename_i found
      exact .trap (h.ofEntryError found)
    · exact .ok (h.tlbUse _ _)
  · exact h.multipleHit _ _ _

theorem ofWalkError {side : Side} {entries : List (BitVec 3)} {r : BitVec 9 × State} (found : s.walkError side entries = some r) :
    r.2.Steady live := by
  unfold State.walkError at found
  split at found
  · cases found
  · split at found
    · cases found
    · split at found <;> cases found
      · exact (h.setIsfsr _).setDsfarInfo _ _
      · exact (h.setDsfsr _).setDsfarInfo _ _

theorem walkReads {α : Type} (side : Side) (entries : List (BitVec 3)) {k : Res α} (hk : k.Steady live) :
    (s.walkReads side entries k).Steady live := by
  unfold State.walkReads
  split
  · rename_i found
    exact .trap (h.ofWalkError found)
  · exact hk

theorem badWalk (pa : Nat) (inst : Bool) {tag : State → State} (ht : ∀ u, u.Steady live → (tag u).Steady live) :
    (s.badWalk pa inst tag).Steady live := by
  have noted := (h.waitLine pa).logNotData pa false
  exact .ite (.ok (h.waitLine pa)) (.ite (.ite (.trap (noted.setIsfsr _)) (.trap (ht _ (noted.setDsfsr _).setDsfarUndefined)))
    (.ok (noted.storedOrFree _ _ _)))

theorem readTte (side : Side) (q : Request) (pa : PAddr) : (s.readTte side q pa).Steady live :=
  .ite (.ok h.drawn.drawn) (.ite .refuse (.ite (.ok (h.globalBytes _))
    (.bind (h.badWalk _ _ fun _ hu => hu.setTag _ _) fun _ _ hu => .ok hu)))

theorem searchTsbs (side : Side) (q : Request) (context : BitVec 13) (parallel : Bool) (order : List (BitVec 2)) :
    (s.searchTsbs side q context parallel order).Steady live := by
  induction order generalizing s with
  | nil => exact .ok h
  | cons i rest ih =>
    exact .ite (ih h) (.bind (h.readTte _ _ _) fun _ _ hu =>
      .ite (ih hu) (.ite (.ok hu) (.bind (ih hu) fun _ _ hv => .ok hv)))

theorem walk (side : Side) (q : Request) : (s.walk side q).Steady live := by
  refine h.walkReads _ _ (.bind (h.drawn.searchTsbs _ _ _ _ _) fun found u hu => ?_)
  dsimp only
  split
  · exact hu.tagTrap _ _ _
  · refine .ite (hu.tagTrap _ _ _) ?_
    split
    · exact hu.tagTrap _ _ _
    · refine hu.walkReads _ _ ?_
      split
      · exact hu.tagTrap _ _ _
      · exact .ok (hu.drawn.loadTte _ _ _ _ _ _ _)

theorem translate (side : Side) (va : Word) (q : Request) : (s.translate side va q).Steady live := by
  refine .bind (h.lookup _ _ _) fun hit u hu => ?_
  cases hit with
  | some _ => exact .ok hu
  | none =>
    refine .ite (hu.tagTrap _ _ _) (.ite (hu.tagTrap _ _ _) (.bind (hu.walk _ _) fun _ v hv =>
      .bind (hv.lookup _ _ _) fun again w hw => ?_))
    cases again with
    | some _ => exact .ok hw
    | none => exact hw.tagTrap _ _ _

theorem storeTlb (side : Side) (place : Option (BitVec 7)) (real : Bool) (d : Word) :
    (s.storeTlb side place real d).Steady live := by
  unfold State.storeTlb
  split
  · exact .trap h
  · cases side <;> exact .ok { h with }

/-! ### The checks of an access -/

theorem routed (r : DataReq) (sp : AsiSpace) (route : Route) : (s.routed r sp route).Steady live := by
  unfold State.routed
  split <;> [exact .ok h; exact h.translate _ _ _]

theorem recordPage (r : DataReq) (sp : AsiSpace) (route : Route) : (s.recordPage r sp route).Steady live := by
  unfold State.recordPage
  exact (h.setDsfar _).setTag _ _

theorem ofRawError {pa n : Nat} {u : State} (found : s.rawError pa n = some u) : u.Steady live := by
  unfold State.rawError at found
  split at found
  · cases found
  · dsimp only at found
    split_ifs at found <;> cases found <;> exact (h.setDsfsr _).setDsfarInfo _ _

theorem ofBufferError {r : DataReq} {t : Translation} {u : State} (found : s.bufferError r t = some u) : u.Steady live := by
  unfold State.bufferError at found
  split at found <;> [exact h.ofRawError found; cases found]

theorem access (r : DataReq) : (s.access r).Steady live := by
  unfold State.access
  dsimp only
  split
  · exact .trap (h.setDsfar _)
  · refine .firstTrap (h.setDsfar _) (.bind (h.routed _ _ _) fun t u hu => ?_)
    split
    · rename_i found
      exact .trap (hu.ofBufferError found)
    · exact .firstTrap (hu.recordPage _ _ _) (.firstTrap (hu.setDsfar _) (.ok hu))

/-! ### Registers of the chip -/

theorem csrWrite (pa : Nat) (v : Word) : (s.csrWrite pa v).Steady live := by
  unfold State.csrWrite
  split <;> [exact h.csrSet _ _; exact h]

theorem readIntMan (pa : Nat) : (s.readIntMan pa).Steady live := by
  unfold State.readIntMan
  split <;> [exact .ite h (h.socErrorsAt _ _); exact h]

theorem noteIntMan (pa : Nat) : (s.noteIntMan pa).Steady live := by
  unfold State.noteIntMan
  split <;> [exact { h with }; exact h]

theorem ofCsrLoad {pa : Nat} {r : Word × State} (found : s.csrLoad pa = some r) : r.2.Steady live := by
  unfold State.csrLoad at found
  split at found
  · cases found
    exact h.drawn
  · split at found
    · cases found
      exact h
    · obtain ⟨_, -, rfl⟩ := Option.map_eq_some_iff.1 found
      exact h.drawn.readIntMan _

theorem storeResetGen (v : Word) : (s.storeResetGen v).Steady live := by
  have noted := h.csrSet csrResetSource
  unfold State.storeResetGen
  exact .ite .refuse (.ite (.ok ((noted _).chipReset _)) (.ite (.ok ((noted _).chipReset _))
    (.ite (.ok (by exact { noted _ with })) (.ok (noted _)))))

theorem storeSocEsr (v : Word) : (s.storeSocEsr v).Steady live := .ite ((h.csrWrite _ _).socRequest _) (h.csrWrite _ _)

theorem storeSocPending (v : Word) : (s.storeSocPending v).Steady live := .ite ((h.csrWrite _ _).socRequest _) (h.csrWrite _ _)

theorem setLink (b : Nat) (state : Word) : (s.setLink b state).Steady live := h.csrSet _ _

theorem pollLink (b : Nat) : (s.pollLink b).Steady live := (h.drawn.csrSet _ _).csrSet _ _

theorem passLink (b : Nat) (states : List Nat) : (s.passLink b states).Steady live := by
  have passed : (states.foldl (fun acc k =>
      acc.csrSet (csrLinkDone + 0x10 * k + b) (acc.csrGet (csrLinkDone + 0x10 * k + b) ||| 1)) s).Steady live :=
    .foldl h fun _ _ hu => hu.csrSet _ _
  exact .ite (passed.pollLink _) passed

theorem resetLink (b : Nat) : (s.resetLink b).Steady live := (h.passLink _ _).setLink _ _

theorem finishIbist (b : Nat) : (s.finishIbist b).Steady live :=
  have sent := ite (p := bitAt (s.csrGet (csrIbistPort + b)) 32 && !bitAt (s.csrGet (csrIbistPort + b)) 35)
    (h.csrSet (csrIbistPort + b) (s.csrGet (csrIbistPort + b) ||| 0x0000000400000000)) h
  .ite (sent.csrSet _ _) sent

theorem storeMcu (pa : Nat) (v : Word) : (s.storeMcu pa v).Steady live :=
  have written := h.csrWrite
  .ite (.ite (written _ _) h) (.ite (written _ _) (.ite ((written _ _).csrSet _ _) (.ite ((written _ _).passLink _ _)
    (.ite (.ite ((h.csrSet _ _).resetLink _) (written _ _)) (.ite (.ite (((written _ _).resetLink _).finishIbist _) (written _ _))
      (.ite (.ite ((written _ _).setLink _ _) (written _ _)) (written _ _)))))))

theorem csrStore (pa : Nat) (v : Word) : (s.csrStore pa v).Steady live := by
  refine .ite (.ok h) (.ite (h.storeResetGen _) (.ite (.ite (.ok (h.csrWrite _ _)) .refuse)
    (.ite (.ite (.ok (h.csrWrite _ _)) .refuse) (.ite (.ite .refuse (.ok (h.csrWrite _ _))) (.ite (.ok (.ite ?_ h))
      (.ite (.ok (h.storeSocEsr _)) (.ite (.ok (h.storeSocPending _)) (.ite (.ok (.ite h (h.storeMcu _ _)))
        (.ok ((h.csrWrite _ _).noteIntMan _))))))))))
  exact { h with }

/-! ### Loads and stores of devices -/

theorem missingIoLoad (va : Word) : (s.missingIoLoad va).Steady live :=
  .ite (.trap ((h.setDsfsr _).setDsfar _)) (.ok h.drawn)

theorem pioErrors (may : Word) (pa : Nat) : (s.pioErrors may pa).2.Steady live := by
  unfold State.pioErrors
  dsimp only
  split <;> [exact h; exact h.drawn.socErrorsAt _ _]

theorem ioRead (va : Word) (l : Located) (n : Nat) : (s.ioRead va l n).Steady live := by
  have missing {u : State} (hu : u.Steady live) :
      ((u.missingIoLoad va).bind fun v s' => .ok (lowBytes n v) s').Steady live :=
    .bind (hu.missingIoLoad va) fun _ _ hv => .ok hv
  unfold State.ioRead
  split
  · split
    · rename_i found
      split at found <;> [exact .ok (h.ofCsrLoad found); cases found]
    · exact .ite (.ok h.drawn) (missing h)
  · exact .ok h
  · exact .ite (.ok h.drawn) (missing h.drawn)
  · exact missing h

theorem ioLoad (va : Word) (l : Located) (n : Nat) : (s.ioLoad va l n).Steady live :=
  have reached := h.pioErrors (loadErrors l.pa) l.pa
  .ite (.hang reached) (.ite (.bind (reached.missingIoLoad _) fun _ _ hu => .ok hu) (reached.ioRead _ _ _))

theorem ioWrite (l : Located) (n : Nat) (v : Word) : (s.ioWrite l n v).Steady live := by
  unfold State.ioWrite
  split
  · refine .ite (h.csrStore _ _) ?_
    split <;> [exact h.drawn.csrStore _ _; exact .ok h]
  · exact .ok h

theorem pioStore (pa : Nat) {perform : State → Res Unit} (hp : ∀ u, u.Steady live → (perform u).Steady live) :
    (s.pioStore pa perform).Steady live := by
  have reached := h.pioErrors (storeErrors pa) pa
  have done (p : Prop) [Decidable p] :
      (if p then .ok () (s.pioErrors (storeErrors pa) pa).2.drawn else perform (s.pioErrors (storeErrors pa) pa).2.drawn).Steady
        live :=
    .ite (.ok reached.drawn) (hp _ reached.drawn)
  exact .ite (hp _ reached) (.ite (.hang reached) (.ite (.bind (done _) fun _ _ hu => .hang hu) (.ite (.ok reached) (done _))))

/-! ### Stores through the buffer -/

theorem sendStore {flaw : BitVec 7 × Bool} {bad : State → BitVec 3 → Res Unit} {k : Word → State → Res Unit}
    (hb : ∀ u i, u.Steady live → (bad u i).Steady live) (hk : ∀ c u, u.Steady live → (k c u).Steady live) :
    (s.sendStore flaw bad k).Steady live :=
  have room := h.followed.makeRoom
  .ite (.ok room) (.ite (hk _ _ room) (.ite (.ok (room.drawn.deferStore _ _)) (.ite (hk _ _ room.drawn)
    (.ite (.ite (hk _ _ (room.drawn.drawn.recordDesr _ _ _ _)) (hk _ _ room.drawn))
      (.ite (hb _ _ room.drawn) (hk _ _ room.drawn))))))

theorem ringStore {flaw : BitVec 7 × Bool} {k : Word → State → Res Unit} (hk : ∀ c u, u.Steady live → (k c u).Steady live) :
    (s.ringStore flaw k).Steady live :=
  h.sendStore (fun _ _ hu => .ok (hu.deferStore _ _)) hk

theorem lineStore (kind : StoreKind) (pa : Nat) (cells : List Host.Cell) : (s.lineStore kind pa cells).Steady live := by
  have store {u : State} (hu : u.Steady live) (cells : List Host.Cell) :
      (if kind = .block then u.badBlockStore pa cells else u.badStore kind pa cells).Steady live :=
    .ite (hu.badBlockStore _ _) (hu.badStore _ _ _)
  unfold State.lineStore
  refine h.sendStore (fun u i hu => .ok ?_) fun c u hu => .ok (store (hu.withUndrained []) _)
  have recorded := hu.drawn.recordDesr 9 true 6 (u.storeInfo i)
  exact .ite recorded ((store recorded cells).poisoned _ _)

theorem ioStore (l : Located) (n : Nat) (v : Word) : (s.ioStore l n v).Steady live :=
  h.ringStore fun _ _ hu => hu.pioStore _ fun _ hv => hv.ioWrite _ _ _

theorem storeCellsAt (kind : StoreKind) (pa seen : Nat) (cells : List Host.Cell) : (s.storeCellsAt kind pa seen cells).Steady live :=
  .ite .refuse (.ite (.ok (h.pushCells _ _ _ _ _)) (h.lineStore _ _ _))

theorem storeData (r : DataReq) (l : Located) (n : Nat) (v : Word) : (s.storeData r l n v).Steady live :=
  .ite (h.ioStore _ _ _) (h.storeCellsAt _ _ _ _)

/-! ### Loads -/

theorem badLoad (caches : Bool) (pa n : Nat) : (s.badLoad caches pa n).Steady live := by
  have found := (h.findBytes pa 16 (note := fun t => t.reportCorrected pa 40 4) fun _ hu => hu.reportCorrected _ _ _).logFound pa
    (s.findBytes pa 16 (fun t => t.reportCorrected pa 40 4)).1.found
  have filled := ite (p := caches) (found.fillL1d pa (s.findBytes pa 16 (fun t => t.reportCorrected pa 40 4)).1.found) found
  exact .ite (.trap (filled.setDsfsr _).setDsfarUndefined) (.ok (filled.storedOrFree _ _ _))

theorem loadData (caches : Bool) (va : Word) (l : Located) (n : Nat) : (s.loadData caches va l n).Steady live :=
  .ite (h.ioLoad _ _ _) (.ite .refuse (.ite (.ok (h.loadBytes _ _)) (.bind (h.badLoad _ _ _) fun _ _ hu => .ok hu)))

theorem loadCached (va : Word) (l : Located) (n : Nat) : (s.loadCached va l n).Steady live :=
  have look := h.lookL1d l.pa
  .ite (h.loadData _ _ _ _) (.ite (.ok (look.l1Bytes _ _)) (look.loadData _ _ _ _))

theorem settled (l : Located) (n : Nat) : (s.settled l n).Steady live := .ite h (h.settle _ _)

theorem writeBytes (pa : Nat) (bs : List Byte) : (s.writeBytes pa bs).Steady live := h.withMem (wf_memPutBytes _ _ h.memory)

theorem badAtomic (pa n : Nat) : (s.badAtomic pa n).Steady live :=
  have noted := (h.waitLine pa).logNotData pa true
  .ite (.ok (h.waitLine pa)) (.ite (.trap (noted.setDsfsr _).setDsfarUndefined) (.ok (noted.storedOrFree _ _ _)))

theorem atomic (l : Located) (n : Nat) (update : Word → Option Word) : (s.atomic l n update).Steady live := by
  unfold State.atomic
  dsimp only
  refine .ite .refuse (.ite ?_ (.bind (h.drain.badAtomic _ _) fun found u hu => .ite ?_ (.ok hu)))
  · split <;> [exact .ok (h.drain.writeBytes _ _); exact .ok h.drain]
  · split <;> [exact .ok ((hu.writeBytes _ _).rewritten _ _ _); exact .ok hu]

theorem memRead (r : DataReq) : (s.memRead r).Steady live :=
  .bind (h.access _) fun _ _ hu => (hu.settled _ _).loadCached _ _ _

theorem memWrite (r : DataReq) (v : Word) : (s.memWrite r v).Steady live :=
  .bind (h.access _) fun _ _ hu => hu.storeData _ _ _ _

theorem memAtomic (r : DataReq) (update : Word → Option Word) : (s.memAtomic r update).Steady live :=
  .bind (h.access _) fun _ _ hu => hu.atomic _ _ _

theorem memReadTwin (r : DataReq) : (s.memReadTwin r).Steady live :=
  .bind (h.access _) fun _ _ hu =>
    have whole := hu.settled _ 16
    .ite (.bind (whole.loadData _ _ _ _) fun _ _ hv => .bind (hv.loadData _ _ _ _) fun _ _ hw => .ok hw)
      (.bind (whole.badLoad _ _ _) fun _ _ hv => .ok hv)

theorem badHelper (pa : Nat) : (s.badHelper pa).2.Steady live :=
  ((h.findBytes pa 16 fun _ hu => hu).logFound _ _).storedOrFree _ _ _

theorem loadHelpers (pa n : Nat) : (s.loadHelpers pa n).2.Steady live := by
  induction n generalizing s pa with
  | zero => exact h
  | succ n ih =>
    refine ih ?_ _
    split <;> [exact h.globalBytes _; exact h.badHelper _]

theorem memReadBlock (r : DataReq) : (s.memReadBlock r).Steady live := by
  refine .bind (h.access _) fun l u hu => .ite .refuse ?_
  have got := hu.loadHelpers l.pa 4
  dsimp only
  split <;> [exact .ok got; exact .ok (.ite (got.reportCorrected _ _ _) got)]

theorem memWriteBlock (r : DataReq) (vs : List Word) : (s.memWriteBlock r vs).Steady live := by
  refine .bind (h.access _) fun l u hu => .ite ?_ (.ite .refuse (.ite (.ok (hu.storePieces _ _ _)) (hu.lineStore _ _ _)))
  split <;> [exact .refuse; exact hu.ringStore fun _ _ hv => hv.pioStore _ fun _ hw => .ok hw]

theorem memWritePartial (r : DataReq) (bytes : Bool → List (Byte × Bool)) : (s.memWritePartial r bytes).Steady live :=
  .bind (h.access _) fun _ _ hu =>
    .ite (.ite .refuse (hu.ringStore fun _ _ hv => hv.pioStore _ fun _ hw => .ok hw)) (hu.storeCellsAt _ _ _ _)

/-! ### Prefetches -/

theorem prefetchPlace (r : DataReq) (sp : AsiSpace) : (s.prefetchPlace r sp).Steady live := by
  unfold State.prefetchPlace
  split
  · exact .ok h
  · split
    · exact .ok h
    · split
      · rename_i found
        exact .trap (h.ofEntryError found)
      · exact .ok h
    · exact .ite (h.multipleHit _ _ _) (.ok h)

theorem prefetch (r : DataReq) : (s.prefetch r).Steady live := by
  unfold State.prefetch
  split
  · exact .ok h
  · refine .ite (.ok h) (.bind (h.prefetchPlace _ _) fun found u hu => ?_)
    cases found with
    | none => exact .ok hu
    | some t => exact .ite (.ok hu) (.ok (hu.badPrefetch _))

/-! ### Fetches -/

theorem badFetch (pa : Nat) : (s.badFetch pa).Steady live := by
  have look := h.lookL1i pa
  have found (x : Found) (f : Finding) :=
    ((look.findBytes pa 32 (note := fun t => t.reportCorrected pa 55 2) fun _ hu => hu.reportCorrected _ _ _).logFound pa x).fillL1i
      pa f
  unfold State.badFetch
  refine .ite (.trap ((found _ _).setIsfsr _)) (.ok ?_)
  split
  · exact (found _ _).storedOrFree _ _ _
  · exact look
  · exact look.l1Bytes _ _

theorem missingIoFetch : s.missingIoFetch.Steady live := .ite (.trap (h.setIsfsr _)) (.ok h.drawn)

theorem fetchWord (pa : Nat) : (s.fetchWord pa).Steady live :=
  .ite (.ite .refuse (.ite (.ok h) (.bind (h.badFetch _) fun _ _ hu => .ok hu)))
    (.ite (.ok h) (.ite .fault (.bind h.missingIoFetch fun _ _ hu => .ok hu)))

theorem fetchPlace : s.fetchPlace.Steady live := by
  unfold State.fetchPlace
  dsimp only
  split
  · exact .ite (h.tagTrap _ _ _) (.ok h.canonicalPc)
  · exact .ite (.trap h) (.ite (h.tagTrap _ _ _) (.bind (h.translate _ _ _) fun _ _ hu =>
      .ite (hu.tagTrap _ _ _) (.ite (hu.tagTrap _ _ _) (.ok hu))))

theorem fetch : s.fetch.Steady live := .bind h.fetchPlace fun _ _ hu => hu.fetchWord _

end
end State.Steady

/-! ### Registers behind nontranslating ASIs -/

/-- A load of such a register, if there is one, leaves a steady state. -/
def ReadSteady (live : Prop) (x : AsiRead) : Prop := ∀ r ∈ x, r.2.Steady live

/-- So does a store. -/
def WriteSteady (live : Prop) (x : AsiWrite) : Prop := ∀ r ∈ x, r.Steady live

namespace ReadSteady

variable {live : Prop} {s : State}

theorem none : ReadSteady live Option.none := fun _ e => nomatch e

theorem some {r : Word × State} (h : r.2.Steady live) : ReadSteady live (Option.some r) := by simpa [ReadSteady] using h

theorem reads {v : Word} (h : s.Steady live) : ReadSteady live (reads s v) := some h

theorem ite {x y : AsiRead} {p : Prop} [Decidable p] (hx : ReadSteady live x) (hy : ReadSteady live y) :
    ReadSteady live (if p then x else y) := by
  split <;> assumption

theorem bind {α : Type} {x : Option α} {k : α → AsiRead} (hk : ∀ a, ReadSteady live (k a)) : ReadSteady live (x.bind k) := by
  cases x <;> [exact none; exact hk _]

end ReadSteady

namespace WriteSteady

variable {live : Prop} {s : State}

theorem none : WriteSteady live Option.none := fun _ e => nomatch e

theorem some {r : Res Unit} (h : r.Steady live) : WriteSteady live (Option.some r) := by simpa [WriteSteady] using h

theorem writes (h : s.Steady live) : WriteSteady live (writes s) := some h

theorem ite {x y : AsiWrite} {p : Prop} [Decidable p] (hx : WriteSteady live x) (hy : WriteSteady live y) :
    WriteSteady live (if p then x else y) := by
  split <;> assumption

theorem bind {α : Type} {x : Option α} {k : α → AsiWrite} (hk : ∀ a, WriteSteady live (k a)) : WriteSteady live (x.bind k) := by
  cases x <;> [exact none; exact hk _]

end WriteSteady

/-- A masked value has no bit outside the mask. -/
theorem masked_outside {w : Nat} (v mask : BitVec w) : v &&& mask &&& ~~~mask = 0 := by
  rw [BitVec.and_assoc, BitVec.and_not_self]
  exact BitVec.and_zero

/-- A strand that is one of some strands, as masks. -/
theorem ownBit_subset {v : Word} (h : v &&& ownBit ≠ 0) : ownBit &&& ~~~v = 0 := by
  have bit : ownBit = BitVec.twoPow 64 ownStrand.toNat := rfl
  have within : ownStrand.toNat < 64 := ownStrand.isLt
  rw [bit, BitVec.and_twoPow] at h
  rw [bit, BitVec.and_comm, BitVec.and_twoPow]
  simp_all

namespace State.Steady

section
variable {live : Prop} {s : State} (h : s.Steady live)
include h

theorem readContext (a : Nat) : ReadSteady live (s.readContext a) := by
  unfold State.readContext
  split <;> [exact .reads h; exact .reads h; exact .reads h; exact .reads h; exact .none]

theorem writeContext (a : Nat) (v : Word) : WriteSteady live (s.writeContext a v) := by
  have context (m : Mmu) : State.Steady live { s with mmu := m } := { h with }
  unfold State.writeContext
  dsimp only
  split <;> [exact .writes (context _); exact .writes (context _); exact .writes (context _); exact .writes (context _); exact .none]

theorem readQueue (a : Nat) : ReadSteady live (s.readQueue a) := .bind fun _ => .reads h

theorem writeQueue (a : Nat) (v : Word) : WriteSteady live (s.writeQueue a v) := .bind fun _ => .ite .none (.writes { h with })

theorem readCmt (a : Nat) : ReadSteady live (s.readCmt a) := by
  unfold State.readCmt
  split
  case h_8 => exact .none
  all_goals exact .reads h

/-- A store to CORE_RUNNING that names enabled strands only (spec/61_interrupts_cmt.md R1515, R1517). -/
theorem setRunning (executes : live) {new : Word} (enabled : new &&& ~~~s.cmt.enableStatus = 0) :
    (s.setRunning new).Steady live := by
  have own := h.enabled executes
  have subset : (if new = 0 then ownBit else new) &&& ~~~s.cmt.enableStatus = 0 := by
    split <;> [exact ownBit_subset own; exact enabled]
  exact { h with runningEnabled := subset, present := .inr (.inr own) }

theorem storeRunning (executes : live) (wrong : Word) {new : Word} (enabled : new &&& ~~~s.cmt.enableStatus = 0) :
    WriteSteady live (s.storeRunning wrong new) :=
  .ite (.some .refuse) (.writes (h.setRunning executes enabled))

theorem writeCmt (executes : live) (a : Nat) (v : Word) : WriteSteady live (s.writeCmt a v) := by
  have running := h.runningEnabled
  have written := masked_outside v s.cmt.enableStatus
  unfold State.writeCmt
  split
  · exact .writes { h with }
  · exact .writes { h with }
  · exact .writes { h with }
  · exact h.storeRunning executes _ written
  · refine h.storeRunning executes _ ?_
    rw [BitVec.and_comm, BitVec.and_or_distrib_left, BitVec.and_comm, running, BitVec.and_comm, written]
    rfl
  · refine h.storeRunning executes _ ?_
    rw [BitVec.and_assoc, BitVec.and_comm (~~~v), ← BitVec.and_assoc, running]
    exact BitVec.zero_and
  · exact .none

theorem readStrandId (a : Nat) : ReadSteady live (s.readStrandId a) := by
  unfold State.readStrandId
  split <;> [exact .reads h; exact .reads h; exact .none]

theorem setReceive (v : Word) : (s.setReceive v).Steady live := { h with }

theorem readIncoming : ReadSteady live s.readIncoming := .some (h.setReceive _)

theorem dispatchVector (v : Word) : (s.dispatchVector v).Steady live := .ite (h.setReceive _) h

theorem readDiag (a : Nat) : ReadSteady live (s.readDiag a) := by
  unfold State.readDiag
  split <;> [exact .reads h; exact .reads h; exact .none]

theorem writeDiag (a : Nat) (v : Word) : WriteSteady live (s.writeDiag a v) := by
  unfold State.writeDiag
  split <;> [exact .writes { h with }; exact .writes { h with }; exact .none]

theorem readControl (a : Nat) : ReadSteady live (s.readControl a) := by
  unfold State.readControl
  split <;> [exact .reads h; exact .reads h; exact .reads h; exact .none]

theorem writeControl (a : Nat) (v : Word) : WriteSteady live (s.writeControl a v) := by
  unfold State.writeControl
  split
  · exact .writes { h with }
  · exact .writes { h with decrReserved := masked_outside v decrMask }
  · exact .writes { h with }
  · exact .none

theorem readError (a : Nat) : ReadSteady live (s.readError a) := by
  unfold State.readError
  split
  case h_1 => exact .some h.readDesr
  case h_2 => exact .some h.readDfesr
  case h_7 => exact .none
  all_goals exact .reads h

theorem writeError (a : Nat) (v : Word) : WriteSteady live (s.writeError a v) := by
  unfold State.writeError
  split <;> [exact .writes { h with cererReserved := masked_outside v cererMask }; exact .writes { h with }; exact .none]

/-- A store to ERROR_INJECT (spec/62_errors_core.md R1640). -/
theorem writeInject (v : Word) : State.Steady live { s with err := { s.err with inject := v.setWidth 32 &&& injectMask } } :=
  { h with injectReserved := masked_outside _ injectMask }

/-- A store to SPARC_PWR_MGMT (spec/11_state_asi_regs.md R250). -/
theorem writePower (v : Word) : State.Steady live { s with dbg := { s.dbg with pwrMgmt := v.setWidth 16 &&& pwrMask } } :=
  { h with pwrReserved := masked_outside _ pwrMask }

theorem readTsb (a : Nat) : ReadSteady live (s.readTsb a) := by
  unfold State.readTsb
  split <;> [exact .reads h; exact .ite (.reads h) (.ite (.reads h) (.ite (.reads h) .none))]

theorem setTsbConfig (nonzero : Bool) (i : BitVec 2) (c : TsbConfig) : (s.setTsbConfig nonzero i c).Steady live :=
  .ite { h with } { h with }

theorem writeTsb (a : Nat) (v : Word) : WriteSteady live (s.writeTsb a v) := by
  unfold State.writeTsb
  split
  · split <;> [exact .writes (h.setTsbConfig _ _ _); exact .some (.trap h)]
  · exact .ite (.some (h.storeTlb _ _ _ _)) (.ite (.writes { h with }) .none)

theorem readRange (a : Nat) : ReadSteady live (s.readRange a) := by
  unfold State.readRange
  split <;> [exact .reads h; exact .reads h; exact .none]

theorem writeRange (a : Nat) (v : Word) : WriteSteady live (s.writeRange a v) := by
  unfold State.writeRange
  split <;> [exact .writes { h with }; exact .writes { h with }; exact .none]

theorem readImmu (a : Nat) : ReadSteady live (s.readImmu a) := by
  unfold State.readImmu
  split <;> [exact .reads h; exact .reads h; exact .reads h; exact .reads h; exact .none]

theorem writeImmu (a : Nat) (v : Word) : WriteSteady live (s.writeImmu a v) := by
  unfold State.writeImmu
  split <;> [exact .writes (h.setIsfsr _); exact .writes (h.setTag _ _); exact .writes { h with }; exact .none]

theorem readDmmu (a : Nat) : ReadSteady live (s.readDmmu a) := by
  unfold State.readDmmu
  split
  case h_8 => exact .none
  all_goals exact .reads h

theorem writeDmmu (a : Nat) (v : Word) : WriteSteady live (s.writeDmmu a v) := by
  unfold State.writeDmmu
  split
  · exact .writes (h.setDsfsr _)
  · exact .writes (h.setTag _ _)
  · exact .writes { h with }
  · exact .writes { h with }
  · exact .writes { h with }
  · exact .none

theorem freeBits (n : Nat) : ReadSteady live (s.freeBits n) := .some h.drawn

theorem readStoreBuffer (a : Nat) : ReadSteady live (s.readStoreBuffer a) := by
  unfold State.readStoreBuffer
  dsimp only
  split <;> exact .some h.drawn

theorem tickDiag (a : Nat) : ReadSteady live (s.tickDiag a) := .ite (.bind fun _ => .reads h) .none

theorem asiRead (asi : BitVec 8) (a : Nat) : ReadSteady live (s.asiRead asi a) := by
  unfold State.asiRead
  split
  -- the register that the address names is there or not
  case h_1 | h_15 | h_21 | h_22 | h_27 | h_28 => exact .bind fun _ => .reads h
  case h_6 | h_14 | h_17 | h_32 => exact .ite (.reads h) .none
  case h_10 | h_11 | h_19 | h_24 => exact .reads h
  case h_9 | h_26 | h_30 | h_31 => exact h.freeBits _
  case h_2 => exact h.readContext _
  case h_3 => exact h.readQueue _
  case h_4 => exact h.readCmt _
  case h_5 => exact h.readDiag _
  case h_7 => exact h.readControl _
  case h_8 => exact .ite (h.freeBits _) (h.freeBits _)
  case h_12 => exact h.readStoreBuffer _
  case h_13 => exact h.readError _
  case h_16 => exact h.readImmu _
  case h_18 => exact h.readRange _
  case h_20 => exact h.readTsb _
  case h_23 => exact h.readDmmu _
  case h_25 => exact h.tickDiag _
  case h_29 => exact h.readStrandId _
  case h_33 => exact .ite h.readIncoming .none
  case h_34 => exact .none

theorem setScratch (i : BitVec 3) (v : Word) : (s.setScratch i v).Steady live := { h with }

theorem asiWrite (executes : live) (asi : BitVec 8) (a : Nat) (v : Word) : WriteSteady live (s.asiWrite asi a v) := by
  unfold State.asiWrite
  split
  -- diagnostic arrays, whose contents the model does not keep
  case h_8 | h_9 | h_22 | h_23 => exact .writes h
  case h_1 | h_12 => exact .bind fun _ => .writes (h.setScratch _ _)
  case h_2 => exact h.writeContext _ _
  case h_3 => exact h.writeQueue _ _
  case h_4 => exact h.writeCmt executes _ _
  case h_5 => exact h.writeDiag _ _
  case h_6 => exact .ite (.writes (h.writeInject _)) .none
  case h_7 => exact h.writeControl _ _
  case h_10 => exact h.writeError _ _
  case h_11 => exact .ite (.writes (h.writePower _)) .none
  case h_13 => exact h.writeImmu _ _
  case h_14 => exact h.writeRange _ _
  case h_15 => exact h.writeTsb _ _
  case h_16 | h_20 => exact .bind fun _ => .some (h.storeTlb _ _ _ _)
  case h_17 | h_21 => exact .writes (h.demap _ _)
  case h_18 => exact h.writeDmmu _ _
  case h_19 => exact .ite (.some (h.storeTlb _ _ _ _)) .none
  case h_24 => exact .ite (.writes (h.setReceive _)) .none
  case h_25 => exact .ite (.writes (h.dispatchVector _)) .none
  case h_26 => exact .none

theorem asiLoad (asi : BitVec 8) (va : Word) : (s.asiLoad asi va).Steady live := by
  refine .ite (.trap (h.setDsfar _)) ?_
  split
  · rename_i found
    exact .ok (h.asiRead _ _ _ found)
  · exact .trap (h.setDsfar _)

theorem asiStore (executes : live) (asi : BitVec 8) (va v : Word) : (s.asiStore asi va v).Steady live := by
  refine .ite (.trap (h.setDsfar _)) ?_
  split
  · rename_i a u found
    refine h.ringStore fun change t ht => ?_
    cases again : t.asiWrite asi (va.setWidth 48).toNat (v ^^^ change) with
    | none => exact h.asiWrite executes _ _ _ _ found
    | some r => exact ht.asiWrite executes _ _ _ _ again
  · rename_i found
    exact h.asiWrite executes _ _ _ _ found
  · exact .trap (h.setDsfar _)

theorem read64 (r : DataReq) : (s.read64 r).Steady live := by
  unfold State.read64
  split <;> [exact .ite (h.asiLoad _ _) (h.memRead _); exact h.memRead _]

theorem write64 (executes : live) (r : DataReq) (v : Word) : (s.write64 r v).Steady live := by
  unfold State.write64
  split <;> [exact .ite (h.asiStore executes _ _ _) (h.memWrite _ _); exact h.memWrite _ _]

end
end State.Steady

theorem tlWritten_le (v : Word) (hyper : Bool) : tlWritten v hyper ≤ maxTl := by
  unfold tlWritten
  have clamp {n top : BitVec 3} (h : top ≤ maxTl) : (if n < top then n else top) ≤ maxTl := by
    split <;> [exact BitVec.le_trans (BitVec.le_of_lt ‹_›) h; exact h]
  cases hyper
  · exact clamp (top := maxPtl) (by decide)
  · exact clamp (top := maxTl) (by decide)

/-- The upper half of PCR stays 0 (spec/10_state.md R88). -/
theorem pcrWritten_high (old v : Word) (hyper : Bool) : (pcrWritten old v hyper).extractLsb' 32 32 = 0 := by
  unfold pcrWritten
  ext i hi
  simp [BitVec.getLsbD_setWidth]

namespace State.Steady

section
variable {live : Prop} {s : State} (h : s.Steady live)
include h

/-! ### Registers and program counters -/

theorem setReg (rd : Reg) (v : Word) : (s.setReg rd v).Steady live := { h with }

theorem setF32 (rd : Reg) (v : Word32) : (s.setF32 rd v).Steady live := { h with }

theorem setPair (d : BitVec 5) (v : Word) : (s.setPair d v).Steady live := { h with }

theorem setF64 (rd : Reg) (v : Word) : (s.setF64 rd v).Steady live := h.setPair _ _

theorem setPairs (d : BitVec 5) (vs : List Word) : (s.setPairs d vs).Steady live := by
  induction vs generalizing s d with
  | nil => exact h
  | cons v rest ih => exact ih (h.setPair d v) _

theorem setCcr (v : BitVec 8) : (s.setCcr v).Steady live := { h with }

theorem setY (v : BitVec 32) : (s.setY v).Steady live := { h with }

theorem setWin (w : Windows) : (s.setWin w).Steady live := { h with }

theorem setGsr (g : Gsr) : (s.setGsr g).Steady live := { h with }

theorem setFrame (t : TrapFrame) : (s.setFrame t).Steady live := { h with }

theorem setTick (v : Word) : (s.setTick v).Steady live := { h with }

theorem setSoftint (v : BitVec 17) : (s.setSoftint v).Steady live := { h with }

theorem setTickCmpr (v : Word) : (s.setTickCmpr v).Steady live := { h with }

theorem setStickCmpr (v : Word) : (s.setStickCmpr v).Steady live := { h with }

theorem withTim (t : Timers) : State.Steady live { s with tim := t } := { h with }

theorem withAsi (v : BitVec 8) : State.Steady live { s with asi := v } := { h with }

theorem withFprs (v : BitVec 3) : State.Steady live { s with fprs := v } := { h with }

theorem withPic (v : Word) : State.Steady live { s with pic := v } := { h with }

theorem withTba (v : BitVec 33) : State.Steady live { s with tba := v } := { h with }

theorem withHtba (v : BitVec 34) : State.Steady live { s with htba := v } := { h with }

theorem withPil (v : BitVec 4) : State.Steady live { s with pil := v } := { h with }

theorem withGl (v : BitVec 2) : State.Steady live { s with gl := v } := { h with }

theorem withHpstate (p : HPState) : State.Steady live { s with hpstate := p } := { h with }

theorem withPcr {v : Word} (high : v.extractLsb' 32 32 = 0) : State.Steady live { s with pcr := v } :=
  { h with pcrReserved := high }

theorem withTl {v : BitVec 3} (level : v ≤ maxTl) : State.Steady live { s with tl := v } := { h with trapLevel := level }

theorem setFsr {f : Fsr} (ftt : f.ftt ≤ 2) : (s.setFsr f).Steady live := { h with trapType := ftt }

theorem setExceptions {ftt : BitVec 3} (hf : ftt ≤ 2) (cexc aexc : BitVec 5) : (s.setExceptions ftt cexc aexc).Steady live :=
  { h with trapType := hf }

theorem setFcc (n v : BitVec 2) : (s.setFcc n v).Steady live := by
  unfold State.setFcc
  split <;> exact { h with }

theorem advance : s.advance.Steady live := h.withPcs h.npcAligned (wordAligned_add_four h.npcAligned)

theorem skip : s.skip.Steady live := h.withPcs (wordAligned_add_four h.npcAligned) (wordAligned_add h.npcAligned rfl)

theorem delayTo {target : Word} (ht : target.extractLsb' 0 2 = 0) : (s.delayTo target).Steady live := h.withPcs h.npcAligned ht

theorem jumpTo {target : Word} (ht : target.extractLsb' 0 2 = 0) : (s.jumpTo target).Steady live :=
  h.withPcs ht (wordAligned_add_four ht)

theorem setPstate (p : PState) : (s.setPstate p).Steady live := by
  have place : (if s.pstate.am && !p.am then s.drawn else s).Steady live := .ite h.drawn h
  refine { place with pcAligned := place.pcAligned, npcAligned := ?_ }
  show (if _ then _ else _ : Word).extractLsb' 0 2 = 0
  split <;> [exact wordAligned_canonical h.npcAligned; exact h.npcAligned]

theorem finish (rd : Reg) (v : Word) : (s.finish rd v).Steady live := .ok (h.setReg _ _).advance

theorem finishCc (rd : Reg) (v : Word) (ccr : BitVec 8) : (s.finishCc rd v ccr).Steady live := .ok ((h.setReg _ _).setCcr _).advance

theorem readReg (rd : Reg) (checks : List (Bool × BitVec 9)) (v : Word) : (s.readReg rd checks v).Steady live :=
  .firstTrap h (h.finish _ _)

theorem writeReg (checks : List (Bool × BitVec 9)) {t : State} (ht : t.Steady live) : (s.writeReg checks t).Steady live :=
  .firstTrap h (.ok ht.advance)

/-! ### Integer instructions -/

theorem alu (rd rs1 : Reg) (op2 : RegImm) (f : Word → Word → Word) : (s.alu rd rs1 op2 f).Steady live := h.finish _ _

theorem aluCc (rd rs1 : Reg) (op2 : RegImm) (f : Word → Word → Word) (cc : Word → Word → Word → BitVec 8) :
    (s.aluCc rd rs1 op2 f cc).Steady live :=
  h.finishCc _ _ _

theorem multiply (rd : Reg) (p : Word) (ccr : BitVec 8) : (s.multiply rd p ccr).Steady live := (h.setY _).finishCc _ _ _

theorem divide (rd rs1 : Reg) (op2 : RegImm) (f : BitVec 32 → Word → Word → Word × Bool) (cc : Word × Bool → BitVec 8) :
    (s.divide rd rs1 op2 f cc).Steady live :=
  .firstTrap h (h.finishCc _ _ _)

theorem mulStep (rd rs1 : Reg) (op2 : RegImm) : (s.mulStep rd rs1 op2).Steady live := (h.setY _).finishCc _ _ _

theorem tagged (rd : Reg) (res : Word) (ccr : BitVec 8) : (s.tagged rd res ccr).Steady live := .firstTrap h (h.finishCc _ _ _)

/-! ### Control transfers -/

theorem transfer {target : Word} {next : State} (hn : next.Steady live) : (s.transfer target next).Steady live := by
  rcases s.transfer_cases target next with e | e | e | e <;> rw [e]
  · exact .ok hn
  · exact .trap h
  · exact .trap (h.setDsfar _)
  · exact .trap (h.setDsfar _)

theorem branch (taken always annul : Bool) {disp : Word} (hd : disp.extractLsb' 0 2 = 0) :
    (s.branch taken always annul disp).Steady live :=
  have target := wordAligned_add h.pcAligned hd
  .ite (h.transfer (.ite (h.jumpTo target) (h.delayTo target))) (.ok (.ite h.skip h.advance))

theorem branchInt (annul : Bool) (cond : ICond) (cc : ICC) {n : Nat} (d : BitVec n) :
    (s.branchInt annul cond cc (branchDisp d)).Steady live :=
  h.branch _ _ _ (wordAligned_branchDisp d)

theorem branchFp (annul : Bool) (cond : FCond) (fcc : BitVec 2) {n : Nat} (d : BitVec n) :
    (s.branchFp annul cond fcc (branchDisp d)).Steady live :=
  .firstTrap h (h.branch _ _ _ (wordAligned_branchDisp d))

theorem jump {target : Word} {next : State} (hn : target.extractLsb' 0 2 = 0 → next.Steady live) :
    (s.jump target next).Steady live := by
  unfold State.jump
  split
  · exact .trap (h.setDsfar _)
  · rename_i aligned
    exact h.transfer (hn (by simpa only [bne_iff_ne, ne_eq, not_not] using aligned))

theorem trapReturn (retry : Bool) : (s.trapReturn retry).Steady live := by
  unfold State.trapReturn
  rcases firstTrap_cases s [(s.tl == 0 && s.level != .user, 0x010), (s.level == .user, 0x011), (s.pstate.tct, 0x074)]
    (.ok () (s.returnFromTrap retry)) with ⟨e, pass⟩ | ⟨tt, -, e⟩ <;> rw [e]
  · have level : s.tl ≠ 0 := by
      intro zero
      simp only [zero, List.forall_mem_cons] at pass
      grind
    exact .ok (h.returnFromTrap retry level)
  · exact .trap h

theorem windowOp (w : Windows) : (s.windowOp w).Steady live := .firstTrap h (.ok (h.setWin _).advance)

/-! ### Floating-point and VIS instructions -/

theorem fpop {α : Type} (r : FpResult α) {write : State → α → State}
    (hw : ∀ u v, u.Steady live → (write u v).Steady live) : (s.fpop r write).Steady live := by
  rcases s.fpop_cases r write with e | e | ⟨_, e⟩ | ⟨v, _, e⟩ <;> rw [e]
  · exact .trap h
  · exact .trap (h.setExceptions (by decide) _ _)
  · exact .trap (h.setExceptions (by decide) _ _)
  · exact .ok (hw _ v (h.setExceptions (by decide) _ _)).advance

theorem fpS (rd : Reg) (r : FpResult Fields) : (s.fpS rd r).Steady live := h.fpop r fun _ _ hu => hu.setF32 _ _

theorem fpD (rd : Reg) (r : FpResult Fields) : (s.fpD rd r).Steady live := h.fpop r fun _ _ hu => hu.setF64 _ _

theorem fpMoveS (rd : Reg) (v : Word32) : (s.fpMoveS rd v).Steady live := h.fpop _ fun _ _ hu => hu.setF32 _ _

theorem fpMoveD (rd : Reg) (v : Word) : (s.fpMoveD rd v).Steady live := h.fpop _ fun _ _ hu => hu.setF64 _ _

theorem fpNone : s.fpNone.Steady live := h.fpop _ fun _ _ hu => hu

theorem fpCompare (n : BitVec 2) (r : FpResult (BitVec 2)) : (s.fpCompare n r).Steady live := h.fpop r fun _ _ hu => hu.setFcc _ _

theorem needsFp {α : Type} {k : Res α} (hk : k.Steady live) : (s.needsFp k).Steady live := .ite hk (.trap h)

theorem visD (rd : Reg) (v : Word) : (s.visD rd v).Steady live := h.needsFp (.ok (h.setF64 _ _).advance)

theorem visS (rd : Reg) (v : Word32) : (s.visS rd v).Steady live := h.needsFp (.ok (h.setF32 _ _).advance)

theorem visInt (rd : Reg) (v : Word) : (s.visInt rd v).Steady live := h.needsFp (h.finish _ _)

theorem edge (rd rs1 rs2 : Reg) (n : Nat) (little cc : Bool) : (s.edge rd rs1 rs2 n little cc).Steady live := h.finishCc _ _ _

theorem array (rd rs1 rs2 : Reg) (k : Nat) : (s.array rd rs1 rs2 k).Steady live := .ite (h.finish _ _) (h.drawn.finish _ _)

/-! ### Loads, stores and atomics -/

theorem align {α : Type} (ea : Word) (n : Nat) {k : Res α} (hk : k.Steady live) : (s.align ea n k).Steady live :=
  .ite hk (.trap (h.setDsfar _))

theorem alignD {α : Type} (ea : Word) (tt : BitVec 9) {k : Res α} (hk : k.Steady live) : (s.alignD ea tt k).Steady live :=
  .ite hk (.trap (h.setDsfar _))

theorem loadInt (rd : Reg) (asi : Option (BitVec 8)) (ea : Word) (n : Nat) (ext : Word → Word) :
    (s.loadInt rd asi ea n ext).Steady live :=
  h.align _ _ (.bind (h.memRead _) fun _ _ hu => hu.finish _ _)

theorem loadExt (rd : Reg) (asi : Option (BitVec 8)) (ea : Word) : (s.loadExt rd asi ea).Steady live :=
  h.align _ _ (.bind (h.read64 _) fun _ _ hu => hu.finish _ _)

theorem storeInt (rd : Reg) (asi : Option (BitVec 8)) (ea : Word) (n : Nat) : (s.storeInt rd asi ea n).Steady live :=
  h.align _ _ (.bind (h.memWrite _ _) fun _ _ hu => .ok hu.advance)

theorem storeExt (executes : live) (rd : Reg) (asi : Option (BitVec 8)) (ea : Word) : (s.storeExt rd asi ea).Steady live :=
  h.align _ _ (.bind (h.write64 executes _ _) fun _ _ hu => .ok hu.advance)

theorem loadPair (rd : Reg) (asi : Option (BitVec 8)) (ea : Word) : (s.loadPair rd asi ea).Steady live :=
  .ite (.trap h) (h.align _ _ (.bind (h.access _) fun _ _ hu =>
    .bind ((hu.settled _ _).loadCached _ _ _) fun _ _ hv => (hv.setReg _ _).finish _ _))

theorem storePair (rd : Reg) (asi : Option (BitVec 8)) (ea : Word) : (s.storePair rd asi ea).Steady live :=
  .ite (.trap h) (h.align _ _ (.bind (h.access _) fun _ _ hu => .bind (hu.storeData _ _ _ _) fun _ _ hv => .ok hv.advance))

theorem loadQuad (rd : Reg) (asi : BitVec 8) (ea : Word) : (s.loadQuad rd asi ea).Steady live :=
  .ite (.trap h) (h.align _ _ (.bind (h.memReadTwin _) fun _ _ hu => (hu.setReg _ _).finish _ _))

theorem atomicInt (rd : Reg) (asi : Option (BitVec 8)) (ea : Word) (n : Nat) (update : Word → Option Word) :
    (s.atomicInt rd asi ea n update).Steady live :=
  h.align _ _ (.bind (h.memAtomic _ _) fun _ _ hu => hu.finish _ _)

theorem prefetchAt (fcn : BitVec 5) (asi : Option (BitVec 8)) (ea : Word) : (s.prefetchAt fcn asi ea).Steady live :=
  .ite (.bind (h.prefetch _) fun _ _ hu => .ok hu.advance) (.ok h.advance)

theorem loadF (rd : Reg) (asi : Option (BitVec 8)) (ea : Word) : (s.loadF rd asi ea).Steady live :=
  h.needsFp (h.align _ _ (.bind (h.memRead _) fun _ _ hu => .ok (hu.setF32 _ _).advance))

theorem loadD (rd : Reg) (asi : Option (BitVec 8)) (ea : Word) : (s.loadD rd asi ea).Steady live :=
  h.needsFp (h.alignD _ _ (.bind (h.read64 _) fun _ _ hu => .ok (hu.setF64 _ _).advance))

theorem storeF (rd : Reg) (asi : Option (BitVec 8)) (ea : Word) : (s.storeF rd asi ea).Steady live :=
  h.needsFp (h.align _ _ (.bind (h.memWrite _ _) fun _ _ hu => .ok hu.advance))

theorem storeD (executes : live) (rd : Reg) (asi : Option (BitVec 8)) (ea : Word) : (s.storeD rd asi ea).Steady live :=
  h.needsFp (h.alignD _ _ (.bind (h.write64 executes _ _) fun _ _ hu => .ok hu.advance))

/-- Check bits written besides what another state `u` decides. -/
theorem storeChecks (u : State) (slots : List CheckSlot) : (u.storeChecks s slots).Steady live := by
  have canonical := State.storeChecks_wf (s := u) slots h.checkBits
  obtain ⟨l, n, e⟩ := u.storeChecks_eq s slots
  rw [e] at canonical ⊢
  exact { h with checkBits := canonical }

theorem setPairsOnly (d : BitVec 5) (vs : List Word) : (s.setPairsOnly d vs).Steady live := by
  have pairs := h.setPairs d vs
  have written : State.Steady live { s.setPairs d vs with fprs := s.fprs } := { pairs with }
  exact .ite written (written.storeChecks _ _)

theorem loadBlock (rd : Reg) (asi : BitVec 8) (ea : Word) : (s.loadBlock rd asi ea).Steady live := by
  refine .ite (.trap h) (h.needsFp (h.align _ _ (.bind (h.memReadBlock _) fun got u hu => ?_)))
  split <;> [exact .ok (hu.setPairs _ _).advance; exact .trap ((hu.setPairsOnly _ _).setDsfsr _).setDsfarUndefined]

theorem storeBlock (rd : Reg) (asi : BitVec 8) (ea : Word) : (s.storeBlock rd asi ea).Steady live :=
  .ite (.trap h) (h.needsFp (h.align _ _ (.bind (h.memWriteBlock _ _) fun _ _ hu => .ok hu.advance)))

theorem loadShort (rd : Reg) (asi : BitVec 8) (ea : Word) : (s.loadShort rd asi ea).Steady live :=
  h.needsFp (h.align _ _ (.bind (h.memRead _) fun _ _ hu => .ok (hu.setF64 _ _).advance))

theorem storeShort (rd : Reg) (asi : BitVec 8) (ea : Word) : (s.storeShort rd asi ea).Steady live :=
  h.needsFp (h.align _ _ (.bind (h.memWrite _ _) fun _ _ hu => .ok hu.advance))

theorem storePartial (rd : Reg) (asi : BitVec 8) (ea mask : Word) : (s.storePartial rd asi ea mask).Steady live :=
  h.needsFp (h.align _ _ (.bind (h.memWritePartial _ _) fun _ _ hu => .ok hu.advance))

/-- A load of FSR keeps `ftt` (spec/42_load_store.md R914). -/
theorem loadFsr (ea : Word) (op : OpClass) (n : Nat) {f : Fsr → Word → Fsr} (keeps : ∀ x v, (f x v).ftt = x.ftt) :
    (s.loadFsr ea op n f).Steady live :=
  h.needsFp (h.align _ _ (.bind (h.memRead _) fun v u hu =>
    .ok (hu.setFsr (f := f u.fsr v) (keeps u.fsr v ▸ hu.trapType)).advance))

theorem storeFsr (ea : Word) (op : OpClass) (n : Nat) : (s.storeFsr ea op n).Steady live :=
  h.needsFp (h.align _ _ (.bind (h.memWrite _ _) fun _ u hu =>
    .ok (hu.setFsr (f := { u.fsr with ftt := 0 }) (show (0 : BitVec 3) ≤ 2 by decide)).advance))

end
end State.Steady

/-! ### Every instruction -/

/-- An instruction of a strand that executes leaves a steady state. -/
theorem State.Steady.exec {s : State} (h : s.Steady True) (i : Instr) : NextSteady True (exec i s) := by
  have live : True := trivial
  delta exec
  cases i with
  -- spec/40_integer.md
  | add | addc | sub | subc | andI | andn | orI | orn | xorI | xnor | mulx => exact (h.alu _ _ _ _).outcome
  | addcc | addccc | subcc | subccc | andcc | andncc | orcc | orncc | xorcc | xnorcc | taddcc | tsubcc =>
    exact (h.aluCc _ _ _ _ _).outcome
  | taddcctv | tsubcctv => exact (h.tagged _ _ _).outcome
  | sll | sllx | srl | srlx | sra | srax | sethi | popc => exact (h.finish _ _).outcome
  | umul | smul | umulcc | smulcc => exact (h.multiply _ _ _).outcome
  | mulscc => exact (h.mulStep _ _ _).outcome
  | udivx | sdivx => exact (Res.Steady.firstTrap h (h.finish _ _)).outcome
  | udiv | sdiv | udivcc | sdivcc => exact (h.divide _ _ _ _ _).outcome
  | movcc => exact (Res.Steady.firstTrap h (.ite (h.finish _ _) (.ok h.advance))).outcome
  | movr => exact (Res.Steady.ite (h.finish _ _) (.ok h.advance)).outcome
  | nop | stbar => exact .next h.advance
  -- spec/41_control_transfer.md
  | bicc | bpcc => exact (h.branchInt _ _ _ _).outcome
  | bpr => exact (h.branch _ _ _ (wordAligned_branchDisp _)).outcome
  | fbfcc | fbpfcc => exact (h.branchFp _ _ _ _).outcome
  | call disp => exact (h.transfer ((h.setReg _ _).delayTo (wordAligned_add h.pcAligned (wordAligned_branchDisp disp)))).outcome
  | jmpl => exact (h.jump fun aligned => (h.setReg _ _).delayTo aligned).outcome
  | returnI => exact (Res.Steady.firstTrap h (h.jump fun aligned => (h.setWin _).delayTo aligned)).outcome
  | tcc | flushw => exact (Res.Steady.firstTrap h (.ok h.advance)).outcome
  | done | retry => exact (h.trapReturn _).outcome
  | save | restore => exact (Res.Steady.firstTrap h ((h.setWin _).finish _ _)).outcome
  | saved | restored | allclean | otherw | normalw | invalw => exact (h.windowOp _).outcome
  -- spec/43_state_access.md
  | rdY | rdCcr | rdAsi | rdTick | rdPc | rdFprs | rdPcr | rdPic | rdGsr | rdSoftint | rdTickCmpr | rdStick | rdStickCmpr
  | rdprTpc | rdprTnpc | rdprTstate | rdprTt | rdprTick | rdprTba | rdprPstate | rdprTl | rdprPil | rdprCwp | rdprCansave
  | rdprCanrestore | rdprCleanwin | rdprOtherwin | rdprWstate | rdprGl | rdhprHpstate | rdhprHtstate | rdhprHintp
  | rdhprHtba | rdhprHver | rdhprHalt | rdhprHstickCmpr => exact (h.readReg _ _ _).outcome
  | wrY => exact (h.writeReg [] (h.setY _)).outcome
  | wrCcr => exact (h.writeReg [] (h.setCcr _)).outcome
  | wrGsr => exact (h.writeReg _ (h.setGsr _)).outcome
  | wrTick | wrStick | wrprTick => exact (h.writeReg _ (h.setTick _)).outcome
  | wrSoftintSet | wrSoftintClr | wrSoftint => exact (h.writeReg _ (h.setSoftint _)).outcome
  | wrTickCmpr => exact (h.writeReg _ (h.setTickCmpr _)).outcome
  | wrStickCmpr => exact (h.writeReg _ (h.setStickCmpr _)).outcome
  | wrhprHintp | wrhprHstickCmpr => exact (h.writeReg _ (h.withTim _)).outcome
  | wrPcr => exact (h.writeReg _ (h.withPcr (pcrWritten_high _ _ _))).outcome
  | wrprTpc | wrprTnpc | wrprTstate | wrprTt | wrhprHtstate => exact (h.writeReg _ (h.setFrame _)).outcome
  | wrprPstate => exact (h.writeReg _ (h.setPstate _)).outcome
  | wrprTl => exact (h.writeReg _ (h.withTl (tlWritten_le _ _))).outcome
  | wrprCwp | wrprCansave | wrprCanrestore | wrprCleanwin | wrprOtherwin | wrprWstate => exact (h.writeReg _ (h.setWin _)).outcome
  | wrAsi => exact (h.writeReg [] (h.withAsi _)).outcome
  | wrFprs => exact (h.writeReg [] (h.withFprs _)).outcome
  | wrPic => exact (h.writeReg _ (h.withPic _)).outcome
  | wrprTba => exact (h.writeReg _ (h.withTba _)).outcome
  | wrprPil => exact (h.writeReg _ (h.withPil _)).outcome
  | wrprGl => exact (h.writeReg _ (h.withGl _)).outcome
  | wrhprHpstate => exact (h.writeReg _ (h.withHpstate _)).outcome
  | wrhprHtba => exact (h.writeReg _ (h.withHtba _)).outcome
  | halt =>
    have halted : State.Steady True { s with run := .halted } := { h with present := .inr (.inr (h.enabled live)) }
    exact (h.writeReg _ (.ite h halted)).outcome
  | sir => exact .ite (.next h.takeSir) (.next (h.takeTrap _))
  | membar => exact .next (State.Steady.ite h.drain h).advance
  | flush => exact .next h.drain.advance
  -- instructions that are illegal in this implementation
  | illtrap | wrhprHver | impdep2 | fmovq | fnegq | fabsq | fsqrtq | faddq | fsubq | fmulq | fdivq | fdmulq | fqtox | fxtoq
  | fqtos | fqtod | fitoq | fstoq | fdtoq | fqtoi | fcmpq | fcmpeq | fmovqcc | fmovrq | ldqf | stqf | ldqfa | stqfa =>
    exact .next (h.takeTrap _)
  -- spec/44_float.md
  | fadds | fsubs | fmuls | fdivs | fsqrts | fxtos | fitos | fdtos => exact (h.fpS _ _).outcome
  | faddd | fsubd | fmuld | fdivd | fsqrtd | fsmuld | fxtod | fitod | fstod => exact (h.fpD _ _).outcome
  | fstoi | fdtoi => exact (h.fpop _ fun _ _ hu => hu.setF32 _ _).outcome
  | fstox | fdtox => exact (h.fpop _ fun _ _ hu => hu.setF64 _ _).outcome
  | fmovs | fnegs | fabss => exact (h.fpMoveS _ _).outcome
  | fmovd | fnegd | fabsd => exact (h.fpMoveD _ _).outcome
  | fcmps | fcmpd | fcmpes | fcmped => exact (h.fpCompare _ _).outcome
  | fmovscc | fmovrs => exact (Res.Steady.ite (h.fpMoveS _ _) h.fpNone).outcome
  | fmovdcc | fmovrd => exact (Res.Steady.ite (h.fpMoveD _ _) h.fpNone).outcome
  -- spec/45_vis.md
  | edge8 | edge8n | edge8l | edge8ln | edge16 | edge16n | edge16l | edge16ln | edge32 | edge32n | edge32l | edge32ln =>
    exact (h.edge _ _ _ _ _ _).outcome
  | array8 | array16 | array32 => exact (h.array _ _ _ _).outcome
  | alignaddress | alignaddressLittle | bmask => exact (h.needsFp ((h.setGsr _).finish _ _)).outcome
  | fcmple16 | fcmpne16 | fcmpgt16 | fcmpeq16 | fcmple32 | fcmpne32 | fcmpgt32 | fcmpeq32 => exact (h.visInt _ _).outcome
  | fmul8x16 | fmul8x16au | fmul8x16al | fmul8sux16 | fmul8ulx16 | fmuld8sux16 | fmuld8ulx16 | fpack32 | fpmerge | bshuffle
  | fexpand | fpadd16 | fpadd32 | fpsub16 | fpsub32 | fzero | fnor | fandnot2 | fnot2 | fandnot1 | fnot1 | fxor | fnand | fand
  | fxnor | fsrc1 | fornot2 | fsrc2 | fornot1 | forD | fone | pdist | faligndata => exact (h.visD _ _).outcome
  | fpack16 | fpackfix | fpadd16s | fpadd32s | fpsub16s | fpsub32s | fzeros | fnors | fandnot2s | fnot2s | fandnot1s | fnot1s
  | fxors | fnands | fands | fxnors | fsrc1s | fornot2s | fsrc2s | fornot1s | forS | fones => exact (h.visS _ _).outcome
  | siam => exact (h.needsFp (.ok (h.setGsr _).advance)).outcome
  -- spec/42_load_store.md
  | ldub | lduh | lduw | ldsb | ldsh | ldsw | lduba | lduha | lduwa | ldsba | ldsha | ldswa => exact (h.loadInt _ _ _ _ _).outcome
  | ldx | ldxa => exact (h.loadExt _ _ _).outcome
  | ldtw => exact (h.loadPair _ _ _).outcome
  | ldtwa => exact (Res.Steady.ite (h.loadQuad _ _ _) (h.loadPair _ _ _)).outcome
  | ldtxa => exact (h.loadQuad _ _ _).outcome
  | stb | sth | stw | stba | stha | stwa => exact (h.storeInt _ _ _ _).outcome
  | stx | stxa => exact (h.storeExt live _ _ _).outcome
  | sttw | sttwa => exact (h.storePair _ _ _).outcome
  | ldstub | swap | ldstuba | swapa | casa | casxa => exact (h.atomicInt _ _ _ _ _).outcome
  | prefetch => exact .ite (.next (h.takeTrap _)) (.ite .refused (h.prefetchAt _ _ _).outcome)
  | prefetcha => exact .ite (.next (h.takeTrap _)) (h.prefetchAt _ _ _).outcome
  | ldf | ldfa => exact (h.loadF _ _ _).outcome
  | lddf => exact (h.loadD _ _ _).outcome
  | stf | stfa => exact (h.storeF _ _ _).outcome
  | stdf => exact (h.storeD live _ _ _).outcome
  | lddfa =>
    refine Res.Steady.outcome ?_
    split <;> [exact h.loadBlock _ _ _; exact h.loadShort _ _ _; exact h.loadD _ _ _]
  | stdfa =>
    refine Res.Steady.outcome ?_
    split <;> [exact h.storeBlock _ _ _; exact h.storeShort _ _ _; exact h.storeD live _ _ _]
  | ldblockf => exact (h.loadBlock _ _ _).outcome
  | stblockf => exact (h.storeBlock _ _ _).outcome
  | ldshortf => exact (h.loadShort _ _ _).outcome
  | stshortf => exact (h.storeShort _ _ _).outcome
  | stpartialf => exact (h.storePartial _ _ _ _).outcome
  | ldfsr => exact (h.loadFsr _ _ _ (f := Fsr.loadLow) fun _ _ => rfl).outcome
  | ldxfsr => exact (h.loadFsr _ _ _ (f := Fsr.loadAll) fun _ _ => rfl).outcome
  | stfsr | stxfsr => exact (h.storeFsr _ _ _).outcome

/-! ### What happens by itself at the start of a step -/

namespace State.Steady

section
variable {live : Prop} {s : State} (h : s.Steady live)
include h

/-! #### Error injection and scrubbing -/

theorem logScrub (b : Nat) (severe : Bool) : (s.logScrub b severe).Steady live :=
  have noted := (h.csrSet (csrL2ErrorStatus + 64 * b)
    (s.csrGet (csrL2ErrorStatus + 64 * b) ||| (if severe then 0x0000002000000000 else 0x0000004000000000))).noteBank b
  { noted with }

theorem reportLink (k : Nat) (fatal : Bool) : (s.reportLink k fatal).Steady live := (h.logScrub _ _).logScrub _ _

theorem spoilLine (k pa : Nat) : (s.spoilLine k pa).Steady live :=
  .ite ((((h.logLink _ _).logDram _ _ _ _).reportL2U _).fillLine _ _ _) h

theorem injectLink (k : Nat) (fatal : Bool) : (s.injectLink k fatal).Steady live := by
  have reported := (h.drawn.logLink k fatal).reportLink k fatal
  exact .ite h (.ite (.ite h (h.countLink _)) (.ite (.ite (h.drawn.linkLine _) h.drawn)
    (.ite (h.drawn.spoilLine _ _) (.ite reported (reported.countLink _)))))

theorem injectLinks (now : Word) : (s.injectLinks now).Steady live :=
  h.foldl fun _ _ hu =>
    have severe := ite (hu.injectLink _ true) hu
    ite (severe.injectLink _ false) severe

theorem injectSoc : s.injectSoc.Steady live := .ite h ((h.drawn.injectLinks _).socErrors _)

theorem injectDram (k : Nat) : (s.injectDram k).Steady live := .ite h (.ite h.drawn (h.drawn.writeDram _ _))

theorem injectMemory : s.injectMemory.Steady live := h.foldl fun _ _ hu => hu.injectDram _

theorem scrubChunk (pa q : Nat) : (s.scrubChunk pa q).Steady live :=
  .ite ((h.logUncorrectable _ _ _ _).logScrub _ _) (.ite ((h.logCorrected _ _ _ _).logScrub _ _) h)

theorem scrubDram (k : Nat) : (s.scrubDram k).Steady live := .ite h (.ite h.drawn (h.drawn.scrubChunk _ _))

theorem scrubMemory : s.scrubMemory.Steady live := h.foldl fun _ _ hu => hu.scrubDram _

theorem forwardScrub (b : Nat) (severe : Bool) : (s.forwardScrub b severe).Steady live := by
  unfold State.forwardScrub
  dsimp only
  refine .ite h ?_
  have told : State.Steady live { s with unreported := s.unreported &&& ~~~((1 : BitVec 16) <<< (if severe then 8 + b else b)) } :=
    { h with }
  exact .ite told (.ite (told.recordDisrupting _ _ _) (told.recordDisrupting _ _ _))

theorem forwardScrubs : s.forwardScrubs.Steady live :=
  .ite h (drawn (h.foldl fun _ _ hu => (hu.forwardScrub _ _).forwardScrub _ _))

theorem realignLinks : s.realignLinks.Steady live := by
  unfold State.realignLinks
  refine .ite h (.ite ?_ h.drawn)
  have cleared := h.drawn.foldl (l := List.range 4)
    (f := fun acc k => if bitAt s.realign k then
      acc.csrSet (csrDramDebugTrigger + 0x1000 * k) (acc.csrGet (csrDramDebugTrigger + 0x1000 * k) &&& ~~~0x2) else acc)
    fun _ _ hu => ite (hu.csrSet _ _) hu
  exact { cleared with }

/-! #### Time and the debug answers -/

theorem settleStatus : s.settleStatus.Steady live := .ite h { h with }

theorem recordCompare (k : BitVec 2) (count : Nat) : (s.recordCompare k count).Steady live := by
  unfold State.recordCompare
  exact .ite h (.ite (h.recordDesr _ _ _ _) ((h.recordDesr _ _ _ _).apart.recordDesr _ _ _ _))

theorem tickBy (n : BitVec 62) : (s.tickBy n).Steady live := by
  unfold State.tickBy
  exact foldl { h with } fun _ _ hu => hu.recordCompare _ _

/-- The strand stops or a pulse goes out. -/
theorem answer (stop : Bool) : (s.answer stop).Steady live := .ite { h with present := .inr (.inl rfl) } { h with }

theorem resetCountDone (action : BitVec 2) (high : BitVec 32) : (s.resetCountDone action high).Steady live :=
  .ite ((h.answer _).answer _) (.ite (((h.answer _).answer _).answer _) (h.answer _))

theorem tcuBy (n : BitVec 62) : (s.tcuBy n).Steady live := by
  unfold State.tcuBy
  dsimp only
  split
  · exact .ite (.ite ((h.csrSet _ _).resetCountDone _ _) (h.csrSet _ _))
      (.ite (.ite (((h.csrSet _ _).answer _).answer _) (h.csrSet _ _)) h)
  · split
    · exact h
    · next stop pulses _ =>
      refine .ite ?_ (h.csrSet _ _)
      have counted := h.csrSet csrCycleCounter
        (BitVec.ofNat 64 (countDown (s.csrGet csrCycleCounter).toNat n))
      cases stop with
      | true => exact { counted with present := .inr (.inl rfl) }
      | false => exact { counted with }

theorem passTime : s.passTime.Steady live := by
  unfold State.passTime
  dsimp only
  have ticked := ite (p := s.ticking = true) (h.tickBy (Config.clocks s.oracle)) h
  exact .ite (drawn (.ite (ticked.tcuBy _) ticked)) h

theorem respondOne (soc stop : Bool) : (s.respondOne soc stop).Steady live := by
  unfold State.respondOne
  exact .ite (h.answer _) (.ite (h.csrSet _ _) (.ite (h.answer _) { h with }))

theorem respond (requests : List (Bool × Bool)) : (s.respond requests).Steady live := h.foldl fun _ _ hu => hu.respondOne _ _

theorem answered : s.answered.Steady live := .ite h ((h.respond _).events _)

theorem begin : s.begin.Steady live := by
  have cleared : State.Steady live { s.apart with taken := none, events := .none, linkLine := none } := { h.apart with }
  exact cleared.settleStatus.passTime.drainFlawed.injectSoc.injectMemory.scrubMemory.forwardScrubs.realignLinks.answered

end
end State.Steady

/-! ### From the fetch to the end of an instruction -/

namespace State.Steady

section
variable {live : Prop} {s : State} (h : s.Steady live)
include h

/-! #### Errors of the register files -/

theorem recordIrf (r : Reg) : (s.recordIrf r).Steady live := (h.setDsfsr _).setDsfarInfo _ _

theorem recordFrf (o : FloatOperand) : (s.recordFrf o).Steady live := (h.setDsfsr _).setDsfarInfo _ _

theorem ofRegisterError {ints : List Reg} {floats : List FloatOperand} {u : State}
    (found : s.registerError ints floats = some u) : u.Steady live := by
  unfold State.registerError at found
  dsimp only at found
  split at found
  · cases found
    exact h.recordIrf _
  · obtain ⟨o, -, rfl⟩ := Option.map_eq_some_iff.mp found
    exact h.recordFrf o

theorem ofArrayError {c : CheckSlot} {u : State} (found : s.arrayError c = some u) : u.Steady live := by
  have report {enable : Nat} {errtype : BitVec 4} {n : Nat} {info : BitVec 48}
      (e : (if s.cerer enable && s.pscce then some ((s.setDsfsr errtype).setDsfarInfo n info) else none) = some u) :
      u.Steady live := by
    split at e
    · cases e
      exact (h.setDsfsr _).setDsfarInfo _ _
    · cases e
  unfold State.arrayError at found
  dsimp only at found
  split at found
  · cases found
  · cases c with
    | int _ | float _ => cases found
    | scratch _ | tick _ | trapStack _ | mmu _ => exact report found

theorem ofReadError {i : Instr} {r : Host.Outcome State Fault Refusal} {u : State} (found : s.readError? i r = some u) :
    u.Steady live := by
  unfold State.readError? at found
  dsimp only at found
  split at found
  · rename_i early
    cases found
    split at early <;> [cases early; exact h.ofRegisterError early]
  · split at found
    · rename_i array
      cases found
      split at array
      · obtain ⟨c, -, bad⟩ := Option.bind_eq_some_iff.mp array
        exact h.ofArrayError bad
      · cases array
    · split at found <;> [cases found; exact h.ofRegisterError found]

theorem protect (i : Instr) {r : Host.Outcome State Fault Refusal} (hr : NextSteady live r) :
    NextSteady live (s.protect i r) := by
  unfold State.protect
  split
  · rename_i found
    exact .next ((h.ofReadError found).takeTrap _)
  · split
    · exact .ite (.next ((hr _ rfl).storeChecks _ _)) hr
    · exact hr

theorem storeTrapChecks (u : State) : (u.storeTrapChecks s).Steady live := .ite h (h.storeChecks _ _)

/-! #### Performance counters -/

/-- The overflow bits are bits 31 and 18 of PCR (spec/10_state.md R88). -/
theorem addEvents (n : BitVec 32 × BitVec 32) : (s.addEvents n).Steady live := by
  have high (ovh ovl : Bool) :
      (s.pcr ||| (if ovh then 0x80000000 else 0) ||| (if ovl then 0x40000 else 0)).extractLsb' 32 32 = 0 := by
    rw [BitVec.extractLsb'_or, BitVec.extractLsb'_or, h.pcrReserved]
    cases ovh <;> cases ovl <;> decide
  exact { h with pcrReserved := high _ _ }

theorem countTrapped (u : State) : (u.countTrapped s).Steady live := .ite (h.addEvents _) h

theorem retire (w : Word32) (i : Instr) {r : Host.Outcome State Fault Refusal} (hr : NextSteady live r) :
    NextSteady live (s.retire w i r) := by
  unfold State.retire
  refine .ite (.next ((h.takeTrap _).countTrapped _)) ?_
  split
  · next t =>
    have ht : t.Steady live := hr t rfl
    exact .ite (.ite hr (.ite (.next ((h.addEvents _).takeTrap _)) (.next (ht.addEvents _)))) (.next (ht.countTrapped _))
  · exact hr

/-! #### Traps besides those of the instruction -/

theorem takeError (tt : BitVec 9) {r : Host.Outcome State Fault Refusal} (hr : NextSteady live r) :
    NextSteady live (s.takeError tt r) := by
  have now : NextSteady live (.next (s.drawn.takeTrap tt)) := .next (h.drawn.takeTrap _)
  refine .ite now ?_
  split
  · next t => exact .ite hr (.ite (.next ((hr t rfl).drawn.takeTrap _)) now)
  · exact now

theorem arbitrate {r : Host.Outcome State Fault Refusal} (hr : NextSteady live r) : NextSteady live (s.arbitrate r) := by
  unfold State.arbitrate
  split
  · exact hr
  · exact .ite hr (.ite (h.takeError _ hr) (.next (h.takeTrap _)))

theorem debugEvents (u : State) : (debugEvents u s).Steady live := .ite h (h.drawn.respond _)

end

section
variable {s : State} (h : s.Steady True)
include h

theorem takeXir : s.takeXir.Steady True :=
  have entered := h.enterRed 3 (offset := 0x60) rfl
  { entered with present := .inr (.inr (h.enabled trivial)) }

theorem instruct : NextSteady True s.instruct := by
  have fetched := h.fetch
  unfold State.instruct
  split
  · next w u e =>
    rw [e] at fetched
    have hu : u.Steady True := fetched
    split
    · next i _ => exact hu.retire w i (.ite (hu.exec i) (hu.protect i (hu.exec i)))
    · exact .next ((hu.takeTrap _).countTrapped _)
  · next tt u e =>
    rw [e] at fetched
    exact .next ((takeTrap fetched tt).countTrapped _)
  · next u e =>
    rw [e] at fetched
    have hu : u.Steady True := fetched
    exact .next { hu with present := .inr (.inr (hu.enabled trivial)) }
  · exact .refused
  · exact fun _ e => nomatch e

theorem active : NextSteady True s.active := by
  have reported : State.Steady True { s with storeError := false } := { h with }
  unfold State.active
  refine .ite (.next (h.takeXir.storeTrapChecks _)) (.ite (.next ((reported.takeTrap _).storeTrapChecks _))
    (.ite (.next ((h.takeTrap _).storeTrapChecks _)) ?_))
  have taken := h.arbitrate h.instruct
  split
  · next t e =>
    have ht : t.Steady True := taken t e
    exact .next ((ht.storeTrapChecks _).debugEvents _)
  · exact taken

end

/-! ### The resets -/

section
variable {live : Prop} {s : State} (h : s.Steady live)
include h

theorem busyMondos : s.busyMondos.Steady live := { h with registers := sparseWf_filter _ h.registers }

theorem warmChip : s.warmChip.Steady live := by
  unfold State.warmChip
  dsimp only
  refine foldl (busyMondos ((((h.csrSet _ _).csrSet _ _).csrSet _ _).csrSet _ _)) fun u k hu => ?_
  have noted : State.Steady live
      { u with realign := if bitAt (u.csrGet (csrDramDebugTrigger + 0x1000 * k)) 1 then u.realign ||| ((1 : BitVec 4) <<< k) else u.realign } :=
    { hu with }
  exact .ite (noted.setLink _ _) noted

/-- The one strand that runs after a warm reset is an enabled one (spec/70_reset_and_hazards.md R2247). -/
theorem warmReset : s.warmReset.Sound := by
  have chip := h.warmChip.drawn
  have checks := (h.storeChecks s [.trapStack 5]).checkBits
  have vector : (s.rstv + 0x20).extractLsb' 0 2 = 0 := wordAligned_rstv s rfl
  have lowest (v : Word) : lowestStrand v &&& ~~~v = 0 := by
    unfold lowestStrand
    rw [BitVec.and_comm v, BitVec.and_assoc, BitVec.and_not_self]
    exact BitVec.and_zero
  refine { chip.toSound with
    memory := wf_dropStores _ h.memory, checkBits := checks, pcAligned := vector
    npcAligned := wordAligned_add_four vector, trapLevel := (show maxTl ≤ maxTl by decide)
    runningEnabled := lowest _, present := ?_ }
  by_cases own : s.cmt.enabledNext &&& ownBit = 0
  · exact .inl (if_neg (by simp [own]))
  · exact .inr (.inr own)

end
end State.Steady

/-! ### A step -/

/-- A halted strand is an enabled one, so it may run. -/
theorem State.Sound.wake {s : State} (h : s.Sound) (halted : s.run = .halted) : State.Sound { s with run := .running } :=
  have enabled : s.cmt.enableStatus &&& ownBit ≠ 0 := by simpa [halted] using h.present
  { h with present := .inr (.inr enabled) }

/-- The parts of a step by what the strand does at its start. -/
theorem State.Sound.cycle {s t : State} (h : s.Sound) (e : s.cycle = .next t) : t.Sound := by
  have begun : s.begin.Sound := h.steady.begin.toSound
  unfold State.cycle at e
  dsimp only at e
  split at e
  · cases e
    exact h
  split at e
  · cases e
    exact begun
  split at e
  · cases e
    exact h.steady.begin.warmReset
  split at e
  · cases e
    exact begun
  · cases e
    exact begun
  · cases e
    exact begun
  · cases e
    exact begun
  · next halted =>
    cases e
    split <;> [exact begun.wake halted; exact begun]
  · next running => exact ((State.Steady.ofRunning begun running).active t e).toSound

end Sys2Proof.Machine

namespace Sys2Proof
open Machine

/-- Settles O57: each field by the values of reset; the strand that runs is the enabled one. -/
theorem resetStateIsSound : Obligations.ResetStateIsSound := by
  obtain ⟨present, nonzero⟩ := ownBit_available
  have available : coreAvailable &&& ownBit ≠ 0 := by rwa [present]
  exact
    { memory := rfl, registers := rfl, checkBits := rfl, badLines := rfl, badChunks := ⟨rfl, rfl⟩, pcAligned := by decide
      npcAligned := by decide, trapLevel := by decide, pcrReserved := by decide, trapType := by decide
      cererReserved := by decide, injectReserved := by decide, decrReserved := by decide, pwrReserved := by decide
      runningEnabled := ownBit_subset available, present := .inr (.inr available) }

/-- Settles O58, by the parts of a step: `State.Steady` for what happens by itself, for each instruction and for the traps. -/
theorem everyStepKeepsTheStateSound : Obligations.EveryStepKeepsTheStateSound := fun _ _ sound next => sound.cycle next

end Sys2Proof

namespace Sys2Proof.Machine

/-! ### What a reset takes from the state before the step -/

/-- The state `t` has the trap stack, the state of the processor and the reset vector of `s`. -/
structure ResetsAs (s t : State) : Prop where
  tl : t.tl = s.tl
  gl : t.gl = s.gl
  traps : t.traps = s.traps
  pstate : t.pstate = s.pstate
  rstVecMask : t.cmt.rstVecMask = s.cmt.rstVecMask
  enable : t.cmt.enable = s.cmt.enable

theorem BackgroundTo.resetsAs {s t : State} (h : BackgroundTo s t) : ResetsAs s t := by
  rw [h.eq]
  exact ⟨rfl, rfl, rfl, rfl, rfl, rfl⟩

namespace ResetsAs

theorem refl (s : State) : ResetsAs s s := ⟨rfl, rfl, rfl, rfl, rfl, rfl⟩

theorem trans {s t u : State} (h : ResetsAs s t) (h' : ResetsAs t u) : ResetsAs s u :=
  ⟨h'.tl.trans h.tl, h'.gl.trans h.gl, h'.traps.trans h.traps, h'.pstate.trans h.pstate, h'.rstVecMask.trans h.rstVecMask,
    h'.enable.trans h.enable⟩

theorem ite {s t u : State} {p : Prop} [Decidable p] (h : ResetsAs s t) (h' : ResetsAs s u) : ResetsAs s (if p then t else u) := by
  split <;> assumption

section
variable {s t : State} (h : ResetsAs s t)
include h

theorem csrSet (pa : Nat) (v : Word) : ResetsAs s (t.csrSet pa v) := h.trans ⟨rfl, rfl, rfl, rfl, rfl, rfl⟩

theorem answer (stop : Bool) : ResetsAs s (t.answer stop) :=
  .ite (h.trans ⟨rfl, rfl, rfl, rfl, rfl, rfl⟩) (h.trans ⟨rfl, rfl, rfl, rfl, rfl, rfl⟩)

theorem resetCountDone (action : BitVec 2) (high : BitVec 32) : ResetsAs s (t.resetCountDone action high) :=
  .ite ((h.answer _).answer _) (.ite (((h.answer _).answer _).answer _) (h.answer _))

theorem tickBy (n : BitVec 62) : ResetsAs s (t.tickBy n) := by
  unfold State.tickBy
  dsimp only
  refine trans ?_ (BackgroundTo.resetsAs (.foldl (.refl _) (fun _ k hu => hu.recordCompare k _) _))
  exact h.trans ⟨rfl, rfl, rfl, rfl, rfl, rfl⟩

theorem tcuBy (n : BitVec 62) : ResetsAs s (t.tcuBy n) := by
  unfold State.tcuBy
  dsimp only
  split
  · exact .ite (.ite ((h.csrSet _ _).resetCountDone _ _) (h.csrSet _ _))
      (.ite (.ite (((h.csrSet _ _).answer _).answer _) (h.csrSet _ _)) h)
  · split
    · exact h
    · exact .ite (h.trans ⟨rfl, rfl, rfl, rfl, rfl, rfl⟩) (h.csrSet _ _)

theorem settleStatus : ResetsAs s t.settleStatus := .ite h (h.trans ⟨rfl, rfl, rfl, rfl, rfl, rfl⟩)

theorem passTime : ResetsAs s t.passTime := by
  unfold State.passTime
  dsimp only
  have ticked := ite (p := t.ticking = true) (h.tickBy (Config.clocks t.oracle)) h
  exact .ite ((ite (ticked.tcuBy _) ticked).trans ⟨rfl, rfl, rfl, rfl, rfl, rfl⟩) h

theorem respondOne (soc stop : Bool) : ResetsAs s (t.respondOne soc stop) := by
  unfold State.respondOne
  exact .ite (h.answer _) (.ite (h.csrSet _ _) (.ite (h.answer _) (h.trans ⟨rfl, rfl, rfl, rfl, rfl, rfl⟩)))

theorem respond (requests : List (Bool × Bool)) : ResetsAs s (t.respond requests) := by
  unfold State.respond
  induction requests generalizing t with
  | nil => exact h
  | cons r rest ih => exact ih (h.respondOne r.1 r.2)

theorem answered : ResetsAs s t.answered := .ite h ((h.respond _).trans ⟨rfl, rfl, rfl, rfl, rfl, rfl⟩)

end

theorem begin (s : State) : ResetsAs s s.begin := by
  have cleared : ResetsAs s { s.apart with taken := none, events := .none, linkLine := none } := ⟨rfl, rfl, rfl, rfl, rfl, rfl⟩
  have background (u : State) :=
    (BackgroundTo.refl u).drainFlawed.injectSoc.injectMemory.scrubMemory.forwardScrubs.realignLinks.resetsAs
  exact (cleared.settleStatus.passTime.trans (background _)).answered

end ResetsAs

/-! ### Which reset a step takes -/

theorem State.active_of_xir {s : State} (pending : s.xirPending = true) : s.active = .next (s.storeTrapChecks s.takeXir) := by
  unfold State.active
  exact if_pos pending

theorem step_of_reset {s : State} {c : ChipReset} (going : s.begin.run ≠ .stopped) (reset : s.begin.chipReset = some c) :
    step s = .next s.begin.warmReset := by
  have before : s.run ≠ .stopped := fun stopped => going (State.begin_stopped stopped)
  unfold step State.cycle
  dsimp only
  rw [if_neg before, if_neg going, reset]

/-- Only registers of the chip and the links that are to be aligned again change. -/
structure ChipTo (s t : State) : Prop where
  eq : t = { s with csr := t.csr, realign := t.realign }

namespace ChipTo

theorem trans {s t u : State} (h : ChipTo s t) (h' : ChipTo t u) : ChipTo s u :=
  ⟨h'.eq.trans (congrArg (fun (x : State) => { x with csr := u.csr, realign := u.realign }) h.eq)⟩

theorem csrSet {s t : State} (h : ChipTo s t) (pa : Nat) (v : Word) : ChipTo s (t.csrSet pa v) := h.trans ⟨rfl⟩

theorem busyMondos {s t : State} (h : ChipTo s t) : ChipTo s t.busyMondos := h.trans ⟨rfl⟩

theorem foldl {α : Type} {f : State → α → State} (hf : ∀ u a, ChipTo u (f u a)) (l : List α) {s t : State} (h : ChipTo s t) :
    ChipTo s (l.foldl f t) := by
  induction l generalizing t with
  | nil => exact h
  | cons a rest ih => exact ih (h.trans (hf t a))

theorem warmChip (s : State) : ChipTo s s.warmChip := by
  have start : ChipTo s s := ⟨rfl⟩
  refine .foldl (fun u k => ?_) _ (busyMondos ((((start.csrSet _ _).csrSet _ _).csrSet _ _).csrSet _ _))
  dsimp only
  split <;> exact ⟨rfl⟩

end ChipTo

theorem State.warmReset_frame (s : State) :
    s.warmReset =
      { s with traps := fileSet s.traps maxTl s.resetFrame, tl := maxTl, gl := 3, pstate := s.pstate.red, hpstate := .reset
               lsu := .reset, pc := s.rstv + 0x20, npc := s.rstv + 0x20 + 4, tim := { s.tim with npt := true }
               cmt := s.warmReset.cmt, run := s.warmReset.run, chipReset := none, xirPending := false, undrained := []
               storeError := false, mem := s.warmReset.mem, csr := s.warmReset.csr, oracle := s.warmReset.oracle
               checks := s.warmReset.checks, realign := s.warmReset.realign } := by
  have chip := (ChipTo.warmChip s).eq
  unfold State.warmReset
  rw [chip]
  rfl

/-- Without stores in the buffer a warm reset drops none. -/
theorem State.warmReset_mem {s : State} (empty : s.undrained = []) : s.warmReset.mem = s.mem := by
  unfold State.warmReset
  dsimp only
  rw [empty, List.take_nil]
  rfl

/-- An externally initiated reset of a running strand (spec/60_traps.md R1382). -/
theorem State.takeXir_frame {s : State} (running : s.run = .running) :
    s.takeXir =
      { s with traps := fileSet s.traps (tlNext s.tl) (s.capture 3), tl := tlNext s.tl, gl := glNext s.gl 3, pstate := s.pstate.red
               hpstate := .reset, lsu := .reset, pc := s.rstv + 0x60, npc := s.rstv + 0x60 + 4, taken := some 3
               xirPending := false } := by
  unfold State.takeXir State.enterRed
  rw [← running]
  rfl

theorem glNext_toNat (gl : BitVec 2) : (glNext gl 3).toNat = min (gl.toNat + 1) 3 := by
  revert gl
  decide

theorem ResetsAs.rstv_eq {s t : State} (h : ResetsAs s t) : t.rstv = if s.cmt.rstVecMask then 0 else 0xFFFFFFFFF0000000 := by
  rw [State.rstv, h.rstVecMask]

theorem ResetsAs.red_eq {s t : State} (h : ResetsAs s t) : t.pstate.red =
    { tct := false, cle := false, tle := s.pstate.tle, pef := true, am := false, priv := true, ie := false } := by
  rw [h.pstate]
  rfl

theorem lsu_reset_word : LsuControl.reset.word = 0 := by decide

/-! ### The statement -/

/-- The registers of the program at power-on (spec/10_state.md R195). -/
theorem reset_reg (r : Reg) : State.reset.reg r = 0 := by
  unfold State.reg
  cases State.reset.slot r <;> simp [IntRegs.get, State.reset]

end Sys2Proof.Machine

namespace Sys2Proof
open Machine

/-- Settles O51: the values of reset are computed; a reset of a running machine by what the start of a step leaves alone. -/
theorem resetsLeaveTheStatedValues : Obligations.ResetsLeaveTheStatedValues := by
  refine ⟨?_, fun s reset running xir => ?_, fun s c going reset => ?_⟩
  case refine_1 =>
    have unset : (0x8000000000000000 : Word) = 2 ^ 63 := by decide +kernel
    exact ⟨reset_reg, fun _ => fileGet_fileOf _ _, rfl, rfl, rfl, rfl, rfl, rfl, rfl, rfl, rfl, rfl, rfl, by decide, by decide,
      rfl, rfl, rfl, rfl, rfl, rfl, rfl, rfl, rfl, by decide, by decide, rfl, rfl, rfl, unset, unset, unset, rfl, rfl, rfl, rfl,
      rfl, rfl, rfl, rfl, rfl, rfl, rfl, rfl, fun _ => fileGet_fileOf _ _, lsu_reset_word, rfl⟩
  case refine_2 =>
    have before := ResetsAs.begin s
    have level : tlNext s.begin.tl = if s.tl < 6 then s.tl + 1 else 6 := by rw [before.tl]; rfl
    obtain ⟨l, n, checked⟩ := State.storeTrapChecks_eq s.begin s.begin.takeXir
    have taken := (step_of_running reset running).trans (State.active_of_xir xir)
    rw [checked, State.takeXir_frame running, level, before.rstv_eq, before.red_eq] at taken
    generalize s.begin = b at *
    refine ⟨_, taken, ?_, fun n other => ?_, rfl, ?_, lsu_reset_word, rfl, rfl⟩
    · exact congrArg TrapFrame.tt (fileGet_fileSet _ _ _)
    · exact (fileGet_fileSet_ne _ _ other).trans (by rw [before.traps])
    · exact (glNext_toNat _).trans (by rw [before.gl])
  case refine_3 =>
    have before := ResetsAs.begin s
    have frame := s.begin.warmReset_frame
    have taken := step_of_reset going reset
    generalize s.begin = b at *
    refine ⟨_, taken, ?_, fun n other => ?_, ?_, before.red_eq, rfl, lsu_reset_word, fun enabled => ?_,
      fun empty a => ?_⟩
    · exact congrArg TrapFrame.tt (fileGet_fileSet _ _ _)
    · exact (fileGet_fileSet_ne _ _ other).trans (by rw [before.traps])
    · rw [← before.rstv_eq]
      exact frame
    · have next : b.cmt.enabledNext = s.cmt.enable := by
        rw [Cmt.enabledNext, before.enable, if_pos (by simpa using enabled)]
      exact ⟨next, next⟩
    · rw [State.readByte, State.warmReset_mem empty]
      rfl

end Sys2Proof

namespace Sys2Proof.Machine

/-! ### Accesses to the registers behind nontranslating ASIs -/

/-- An aligned address passes the check of an access of 8 bytes. -/
theorem aligned_low_bits {ea : Word} (h : ea.toNat % 8 = 0) :
    (ea.extractLsb' 0 6).toNat % 8 = 0 ∧ (ea.extractLsb' 0 3 == 0) = true := by
  have six : (ea.extractLsb' 0 6).toNat = ea.toNat % 2 ^ 6 := by simp
  have three : (ea.extractLsb' 0 3).toNat = ea.toNat % 2 ^ 3 := by simp
  refine ⟨by omega, beq_iff_eq.2 (BitVec.eq_of_toNat_eq ?_)⟩
  rw [three]
  exact h

/-- The ASIs of registers are none of memory (spec/42_load_store.md R960). -/
theorem asiKind_of_isRegisterAsi {asi : BitVec 8} (h : isRegisterAsi asi = true) : asiKind asi = .none := by
  revert asi
  decide +kernel

/-- An ASI that the mode may not use raises privileged_action before any other check of the access (spec/21_asi_map.md R561). -/
theorem State.access_of_restricted {s : State} {r : DataReq} (h : s.restricted r.asi = true) :
    s.access r = .trap 0x037 (s.setDsfar r.va) := by
  unfold State.access
  dsimp only
  split <;> simp [h]

theorem State.read64_of_restricted {s : State} {asi : BitVec 8} (h : s.restricted (some asi) = true) (op : OpClass) (va : Word) :
    s.read64 ⟨op, some asi, va, 8⟩ = .trap 0x037 (s.setDsfar va) := by
  have memory : s.memRead ⟨op, some asi, va, 8⟩ = .trap 0x037 (s.setDsfar va) := by
    rw [State.memRead, State.access_of_restricted h, Res.bind_trap]
  simp [State.read64, State.asiLoad, h, memory]

theorem State.write64_of_restricted {s : State} {asi : BitVec 8} (h : s.restricted (some asi) = true) (op : OpClass) (va v : Word) :
    s.write64 ⟨op, some asi, va, 8⟩ v = .trap 0x037 (s.setDsfar va) := by
  have memory : s.memWrite ⟨op, some asi, va, 8⟩ v = .trap 0x037 (s.setDsfar va) := by
    rw [State.memWrite, State.access_of_restricted h, Res.bind_trap]
  simp [State.write64, State.asiStore, h, memory]

section
variable {s : State} {rs1 : Reg} {addr : AltAddr} (aligned : (s.eaAlt rs1 addr).toNat % 8 = 0)
include aligned

theorem exec_ldxa (rd : Reg) : exec (.ldxa rd rs1 addr) s =
    ((s.read64 ⟨.loadX, some (AltAddr.asi addr s), s.eaAlt rs1 addr, 8⟩).bind fun v s1 => s1.finish rd v).outcome :=
  congrArg Res.outcome (State.align_of_mod _ _ (aligned_low_bits aligned).1)

theorem exec_stxa (rd : Reg) : exec (.stxa rd rs1 addr) s =
    ((s.write64 ⟨.storeX, some (AltAddr.asi addr s), s.eaAlt rs1 addr, 8⟩ (s.reg rd)).bind fun _ s1 => .ok () s1.advance).outcome :=
  congrArg Res.outcome (State.align_of_mod _ _ (aligned_low_bits aligned).1)

/-- LDXA and STXA in a mode that may not use the ASI. -/
theorem traps_of_restricted (h : s.restricted (some (AltAddr.asi addr s)) = true) (rd : Reg) :
    Traps (.ldxa rd rs1 addr) s (s.setDsfar (s.eaAlt rs1 addr)) 0x037 ∧
      Traps (.stxa rd rs1 addr) s (s.setDsfar (s.eaAlt rs1 addr)) 0x037 := by
  constructor
  · rw [Traps, exec_ldxa aligned, State.read64_of_restricted h]
    rfl
  · rw [Traps, exec_stxa aligned, State.write64_of_restricted h]
    rfl

end

/-- An alternate-space instruction accesses the register ASI `asi` at the aligned address `a`, in a mode that may use it. -/
structure AccessesRegister (s : State) (rs1 : Reg) (addr : AltAddr) (asi : BitVec 8) (a : Nat) : Prop where
  named : AltAddr.asi addr s = asi
  place : ((s.eaAlt rs1 addr).setWidth 48).toNat = a
  aligned : (s.eaAlt rs1 addr).toNat % 8 = 0
  permitted : s.restricted (some asi) = false
  register : isRegisterAsi asi = true

/-- A store to the register is legal, and of the value `v` leaves `b v` after the stores that it follows; it moves neither the program
counter nor memory. -/
def StoresAs (s : State) (asi : BitVec 8) (a : Nat) (b : Word → State) : Prop :=
  ∀ v, (∃ c, s.asiWrite asi a v = writes c) ∧ s.ringed.asiWrite asi a v = writes (b v) ∧ (b v).npc = s.npc ∧ (b v).mem = s.mem

namespace AccessesRegister

section
variable {s : State} {rs1 : Reg} {addr : AltAddr} {asi : BitVec 8} {a : Nat} (h : AccessesRegister s rs1 addr asi a)
include h

theorem read64_of_some {v : Word} {b : State} (e : s.asiRead asi a = some (v, b)) (op : OpClass) :
    s.read64 ⟨op, some (AltAddr.asi addr s), s.eaAlt rs1 addr, 8⟩ = .ok v b := by
  simp [State.read64, State.asiLoad, h.named, h.register, h.permitted, h.place, e]

theorem read64_of_none (e : s.asiRead asi a = none) (op : OpClass) :
    s.read64 ⟨op, some (AltAddr.asi addr s), s.eaAlt rs1 addr, 8⟩ = .trap 0x014 (s.setDsfar (s.eaAlt rs1 addr)) := by
  simp [State.read64, State.asiLoad, h.named, h.register, h.permitted, h.place, e]

/-- A store that is not dropped has its effect after the stores of the buffer that it follows (spec/20_memory.md R529). -/
theorem write64_of_ok {v : Word} {b c : State} (clean : s.checksClean = true) (legal : s.asiWrite asi a v = writes c)
    (e : s.ringed.asiWrite asi a v = writes b) (op : OpClass) :
    s.write64 ⟨op, some (AltAddr.asi addr s), s.eaAlt rs1 addr, 8⟩ v = .ok () b := by
  have legal : s.asiWrite asi a v = some (.ok () c) := legal
  have e : s.ringed.asiWrite asi a v = some (.ok () b) := e
  simp [State.write64, State.asiStore, h.named, h.register, h.permitted, h.place, legal, e, State.ringStore_clean _ _ clean]

theorem write64_of_trap {v : Word} {tt : BitVec 9} {b : State} (e : s.asiWrite asi a v = some (.trap tt b)) (op : OpClass) :
    s.write64 ⟨op, some (AltAddr.asi addr s), s.eaAlt rs1 addr, 8⟩ v = .trap tt b := by
  simp [State.write64, State.asiStore, h.named, h.register, h.permitted, h.place, e]

theorem write64_of_refuse {v : Word} {r : Refusal} (e : s.asiWrite asi a v = some (.refuse r)) (op : OpClass) :
    s.write64 ⟨op, some (AltAddr.asi addr s), s.eaAlt rs1 addr, 8⟩ v = .refuse r := by
  simp [State.write64, State.asiStore, h.named, h.register, h.permitted, h.place, e]

theorem write64_of_none {v : Word} (e : s.asiWrite asi a v = none) (op : OpClass) :
    s.write64 ⟨op, some (AltAddr.asi addr s), s.eaAlt rs1 addr, 8⟩ v = .trap 0x014 (s.setDsfar (s.eaAlt rs1 addr)) := by
  simp [State.write64, State.asiStore, h.named, h.register, h.permitted, h.place, e]

/-! ### The four instructions -/

theorem exec_lddfa (enabled : s.fpEnabled = true) (rd : Reg) : exec (.lddfa rd rs1 addr) s =
    ((s.read64 ⟨.loadD, some (AltAddr.asi addr s), s.eaAlt rs1 addr, 8⟩).bind fun v s1 =>
      .ok () (s1.setF64 rd v).advance).outcome := by
  have load : exec (.lddfa rd rs1 addr) s = (s.loadD rd (some (AltAddr.asi addr s)) (s.eaAlt rs1 addr)).outcome := by
    show execLddfa rd rs1 addr s = _
    simp only [execLddfa, asiKind_of_isRegisterAsi (h.named ▸ h.register)]
  rw [load, State.loadD, State.needsFp, if_pos enabled, State.alignD, if_pos (aligned_low_bits h.aligned).2]

theorem exec_stdfa (enabled : s.fpEnabled = true) (rd : Reg) : exec (.stdfa rd rs1 addr) s =
    ((s.write64 ⟨.storeD, some (AltAddr.asi addr s), s.eaAlt rs1 addr, 8⟩ (s.f64 rd)).bind fun _ s1 =>
      .ok () s1.advance).outcome := by
  have store : exec (.stdfa rd rs1 addr) s = (s.storeD rd (some (AltAddr.asi addr s)) (s.eaAlt rs1 addr)).outcome := by
    show execStdfa rd rs1 addr s = _
    simp only [execStdfa, asiKind_of_isRegisterAsi (h.named ▸ h.register)]
  rw [store, State.storeD, State.needsFp, if_pos enabled, State.alignD, if_pos (aligned_low_bits h.aligned).2]

/-- A load of a register gives its value, and leaves the state that the read gives. -/
theorem loads {v : Word} {b : State} (e : s.asiRead asi a = some (v, b)) (npc : b.npc = s.npc) (mem : b.mem = s.mem) (rd : Reg) :
    Writes (.ldxa rd rs1 addr) s b rd v ∧ (s.fpEnabled = true → WritesDouble (.lddfa rd rs1 addr) s b rd v) := by
  refine ⟨writes_of_finish ?_ npc mem, fun enabled => ⟨(b.setF64 rd v).advance, ?_, wroteDouble_setF64 b rd v rfl rfl, ?_, ?_⟩⟩
  · rw [exec_ldxa h.aligned, h.read64_of_some e, Res.bind_ok]
  · rw [h.exec_lddfa enabled, h.read64_of_some e, Res.bind_ok, Res.outcome_ok]
  · simp [State.advance, State.setF64, State.setPair, npc]
  · intro x
    simp [State.readByte, State.setF64, mem]

theorem noLoad (e : s.asiRead asi a = none) (rd : Reg) :
    Traps (.ldxa rd rs1 addr) s (s.setDsfar (s.eaAlt rs1 addr)) 0x014 := by
  rw [Traps, exec_ldxa h.aligned, h.read64_of_none e, Res.bind_trap, Res.outcome_trap]

/-- STXA of a register leaves the state that the write gives. -/
theorem stores {rd : Reg} {b c : State} (clean : s.checksClean = true) (legal : s.asiWrite asi a (s.reg rd) = writes c)
    (e : s.ringed.asiWrite asi a (s.reg rd) = writes b) (npc : b.npc = s.npc) (mem : b.mem = s.mem) :
    Completes (.stxa rd rs1 addr) s b := by
  refine ⟨b.advance, ?_, by simp [State.advance, npc], fun x => by simp [State.readByte, mem]⟩
  rw [exec_stxa h.aligned, h.write64_of_ok clean legal e, Res.bind_ok, Res.outcome_ok]

theorem storesDouble {rd : Reg} {b c : State} (enabled : s.fpEnabled = true) (clean : s.checksClean = true)
    (legal : s.asiWrite asi a (s.f64 rd) = writes c) (e : s.ringed.asiWrite asi a (s.f64 rd) = writes b) (npc : b.npc = s.npc)
    (mem : b.mem = s.mem) : Completes (.stdfa rd rs1 addr) s b := by
  refine ⟨b.advance, ?_, by simp [State.advance, npc], fun x => by simp [State.readByte, mem]⟩
  rw [h.exec_stdfa enabled, h.write64_of_ok clean legal e, Res.bind_ok, Res.outcome_ok]

/-- A legal store of a register, by either instruction. -/
theorem sets {b : Word → State} (e : StoresAs s asi a b) (rd : Reg) (clean : s.checksClean = true) :
    Completes (.stxa rd rs1 addr) s (b (s.reg rd)) ∧ (s.fpEnabled = true → Completes (.stdfa rd rs1 addr) s (b (s.f64 rd))) := by
  obtain ⟨⟨_, legal⟩, written, npc, mem⟩ := e (s.reg rd)
  obtain ⟨⟨_, legalD⟩, writtenD, npcD, memD⟩ := e (s.f64 rd)
  exact ⟨h.stores clean legal written npc mem, fun enabled => h.storesDouble enabled clean legalD writtenD npcD memD⟩

theorem storeTraps {rd : Reg} {tt : BitVec 9} {b : State} (e : s.asiWrite asi a (s.reg rd) = some (.trap tt b)) :
    Traps (.stxa rd rs1 addr) s b tt := by
  rw [Traps, exec_stxa h.aligned, h.write64_of_trap e, Res.bind_trap, Res.outcome_trap]

theorem storeRefused {rd : Reg} {r : Refusal} (e : s.asiWrite asi a (s.reg rd) = some (.refuse r)) :
    exec (.stxa rd rs1 addr) s = .refused r := by
  rw [exec_stxa h.aligned, h.write64_of_refuse e, Res.bind_refuse, Res.outcome_refuse]

theorem noStore {rd : Reg} (e : s.asiWrite asi a (s.reg rd) = none) :
    Traps (.stxa rd rs1 addr) s (s.setDsfar (s.eaAlt rs1 addr)) 0x014 := by
  rw [Traps, exec_stxa h.aligned, h.write64_of_none e, Res.bind_trap, Res.outcome_trap]

end
end AccessesRegister

/-! ### Where the registers are -/

theorem hypScratchpadIndex_eq (k : BitVec 3) : hypScratchpadIndex (8 * k.toNat) = some k := by
  revert k
  decide

theorem scratchpadIndex_eq {k : BitVec 3} (h4 : k ≠ 4) (h5 : k ≠ 5) : scratchpadIndex (8 * k.toNat) = some k := by
  revert k
  decide

theorem queueIndex_eq (k : BitVec 3) : queueIndex (0x3C0 + 8 * k.toNat) = some k := by
  revert k
  decide

theorem queueIndex_below {a : Nat} (h : a < 0x3C0) : queueIndex a = none := if_neg fun inside => by omega

theorem tsbConfigIndex_eq (nonzero : Bool) (j : BitVec 2) :
    tsbConfigIndex ((if nonzero then 0x30 else 0x10) + 8 * j.toNat) = some (nonzero, j) := by
  revert nonzero j
  decide

theorem realRangeIndex_eq (j : BitVec 2) : rangeIndex 0x100 (0x108 + 8 * j.toNat) = some j := by
  revert j
  decide

theorem physOffsetIndex_eq (j : BitVec 2) :
    rangeIndex 0x100 (0x208 + 8 * j.toNat) = none ∧ rangeIndex 0x200 (0x208 + 8 * j.toNat) = some j := by
  revert j
  decide

/-! ### Loads and stores of registers that come in sets -/

/-- A field that stands above `k` zeros. -/
theorem append_zeros_word {n : Nat} (x : BitVec n) (k : Nat) : (x ++ 0#k).setWidth 64 = BitVec.ofNat 64 (x.toNat * 2 ^ k) := by
  refine BitVec.eq_of_toNat_eq ?_
  simp [BitVec.toNat_append, Nat.shiftLeft_eq]

section
variable (s : State)

theorem asiRead_scratchpad {k : BitVec 3} (h4 : k ≠ 4) (h5 : k ≠ 5) :
    s.asiRead 0x20 (8 * k.toNat) = some (fileGet s.scratch k, s) :=
  congrArg (fun i => i.bind fun i => reads s (fileGet s.scratch i)) (scratchpadIndex_eq h4 h5)

theorem asiWrite_scratchpad {k : BitVec 3} (h4 : k ≠ 4) (h5 : k ≠ 5) (v : Word) :
    s.asiWrite 0x20 (8 * k.toNat) v = writes (s.setScratch k v) :=
  congrArg (fun i => i.bind fun i => writes (s.setScratch i v)) (scratchpadIndex_eq h4 h5)

theorem asiRead_hypScratchpad (k : BitVec 3) : s.asiRead 0x4F (8 * k.toNat) = some (fileGet s.scratch k, s) :=
  congrArg (fun i => i.bind fun i => reads s (fileGet s.scratch i)) (hypScratchpadIndex_eq k)

theorem asiWrite_hypScratchpad (k : BitVec 3) (v : Word) : s.asiWrite 0x4F (8 * k.toNat) v = writes (s.setScratch k v) :=
  congrArg (fun i => i.bind fun i => writes (s.setScratch i v)) (hypScratchpadIndex_eq k)

theorem asiRead_queue (k : BitVec 3) :
    s.asiRead 0x25 (0x3C0 + 8 * k.toNat) = some (BitVec.ofNat 64 ((fileGet s.intr.queue k).toNat * 2 ^ 6), s) := by
  rw [← append_zeros_word]
  exact congrArg (fun i => i.bind fun i => reads s ((fileGet s.intr.queue i ++ 0#6 : BitVec 18).setWidth 64)) (queueIndex_eq k)

/-- A head in either mode, a tail in hyperprivileged mode only (spec/61_interrupts_cmt.md R1470). -/
theorem asiWrite_queue (k : BitVec 3) (v : Word) : s.asiWrite 0x25 (0x3C0 + 8 * k.toNat) v =
    if bitAt k 0 && s.level != .hyper then none
    else writes { s with intr := { s.intr with queue := fileSet s.intr.queue k (v.extractLsb' 6 12) } } := by
  show s.writeQueue _ v = _
  rw [State.writeQueue, queueIndex_eq]
  rfl

theorem asiRead_tsbConfig (nonzero : Bool) (j : BitVec 2) : s.asiRead 0x54 ((if nonzero then 0x30 else 0x10) + 8 * j.toNat) =
    some ((fileGet (if nonzero then s.mmu.tsbNonzero else s.mmu.tsbZero) j).word, s) := by
  show s.readTsb _ = _
  rw [State.readTsb, tsbConfigIndex_eq]
  rfl

theorem asiWrite_tsbConfig (nonzero : Bool) (j : BitVec 2) {v : Word} {c : TsbConfig} (config : TsbConfig.ofWord v = some c) :
    s.asiWrite 0x54 ((if nonzero then 0x30 else 0x10) + 8 * j.toNat) v = writes (s.setTsbConfig nonzero j c) := by
  show s.writeTsb _ v = _
  rw [State.writeTsb, tsbConfigIndex_eq, config]

theorem asiWrite_tsbConfig_reserved (nonzero : Bool) (j : BitVec 2) {v : Word} (reserved : TsbConfig.ofWord v = none) :
    s.asiWrite 0x54 ((if nonzero then 0x30 else 0x10) + 8 * j.toNat) v = some (.trap 0x03B s) := by
  show s.writeTsb _ v = _
  rw [State.writeTsb, tsbConfigIndex_eq, reserved]

theorem asiRead_realRange (j : BitVec 2) :
    s.asiRead 0x52 (0x108 + 8 * j.toNat) = some ((fileGet s.mmu.realRange j).word, s) := by
  show s.readRange _ = _
  rw [State.readRange, realRangeIndex_eq]
  rfl

theorem asiWrite_realRange (j : BitVec 2) (v : Word) : s.asiWrite 0x52 (0x108 + 8 * j.toNat) v =
    writes { s with mmu := { s.mmu with realRange := fileSet s.mmu.realRange j (RealRange.ofWord v) } } := by
  show s.writeRange _ v = _
  rw [State.writeRange, realRangeIndex_eq]

theorem asiRead_physOffset (j : BitVec 2) :
    s.asiRead 0x52 (0x208 + 8 * j.toNat) = some (BitVec.ofNat 64 ((fileGet s.mmu.physOffset j).toNat * 2 ^ 13), s) := by
  show s.readRange _ = _
  rw [State.readRange, (physOffsetIndex_eq j).1, (physOffsetIndex_eq j).2, ← append_zeros_word]
  rfl

theorem asiWrite_physOffset (j : BitVec 2) (v : Word) : s.asiWrite 0x52 (0x208 + 8 * j.toNat) v =
    writes { s with mmu := { s.mmu with physOffset := fileSet s.mmu.physOffset j (v.extractLsb' 13 27) } } := by
  show s.writeRange _ v = _
  rw [State.writeRange, (physOffsetIndex_eq j).1, (physOffsetIndex_eq j).2]

end

/-! ### What the registers hold -/

theorem tick_enable_word (b : Bool) : (boolBit b).setWidth 64 = (if b then 1 else 0 : Word) := by
  cases b <;> rfl

theorem PageSize.ofCode_code (p : PageSize) : PageSize.ofCode p.code = some p := by
  cases p <;> rfl

/-- The reserved codes are those of no page size (spec/13_mmu_registers.md R435). -/
theorem PageSize.ofCode_reserved {c : BitVec 4} (h : ∀ p : PageSize, p.code ≠ c) : PageSize.ofCode c = none := by
  have known : ∀ c : BitVec 4, (∃ p : PageSize, p.code = c) ∨ PageSize.ofCode c = none := by
    intro c
    unfold PageSize.ofCode
    split <;> [exact .inl ⟨.k8, rfl⟩; exact .inl ⟨.k64, rfl⟩; exact .inl ⟨.m4, rfl⟩; exact .inl ⟨.m256, rfl⟩; exact .inr rfl]
  exact (known c).resolve_left fun ⟨p, e⟩ => h p e

/-- The field of the page size in a value written to a TSB Config register. -/
theorem pageSize_field (v : Word) : (v.extractLsb' 4 4).toNat = v.toNat / 16 % 16 := by
  simp [Nat.shiftRight_eq_div_pow]

theorem TsbConfig.ofWord_of_code {v : Word} {p : PageSize} (h : v.toNat / 16 % 16 = p.code.toNat) : TsbConfig.ofWord v = some
    { enable := bitAt v 63, useContext0 := bitAt v 62, useContext1 := bitAt v 61, base := v.extractLsb' 13 27,
      raNotPa := bitAt v 8, pageSize := p, tsbSize := v.extractLsb' 0 4 } := by
  have field : v.extractLsb' 4 4 = p.code := BitVec.eq_of_toNat_eq ((pageSize_field v).trans h)
  rw [TsbConfig.ofWord, field, PageSize.ofCode_code, Option.map_some]

theorem TsbConfig.ofWord_reserved {v : Word} (h : ∀ p : PageSize, v.toNat / 16 % 16 ≠ p.code.toNat) : TsbConfig.ofWord v = none := by
  rw [TsbConfig.ofWord, PageSize.ofCode_reserved fun p e => h p (by rw [← pageSize_field, e]), Option.map_none]

/-- CLESR holds nothing where neither DESR nor DFESR does (spec/62_errors_core.md R1625). -/
theorem State.clesr_eq_zero (s : State) : s.clesr = 0 ↔ s.err.desr.f = false ∧ (s.err.dfesr.sba || s.err.dfesr.sbdio) = false := by
  unfold State.clesr
  generalize (s.err.dfesr.sba || s.err.dfesr.sbdio) = deferred
  cases s.err.desr.f <;> cases deferred <;> decide

theorem State.updateClfesr_eq (s : State) (old : BitVec 16) : s.updateClfesr old =
    { s with err := { s.err with clfesr := if s.clesr = 0 then 0 else if old = 0 then s.clesr else s.err.clfesr } } := by
  unfold State.updateClfesr
  split <;> [rfl; (split <;> rfl)]

/-- A load of DESR, which clears it; the first-error register keeps a deferred error (R1615, R1628). -/
theorem State.readDesr_eq (s : State) : s.readDesr =
    (s.err.desr.word, { s with err := { s.err with
      desr := .zero, together := none, clfesr := if s.err.dfesr.sba || s.err.dfesr.sbdio then s.err.clfesr else 0 } }) := by
  rw [State.readDesr, State.updateClfesr_eq]
  simp only [State.clesr_eq_zero]
  cases s.err.dfesr.sba || s.err.dfesr.sbdio <;> simp [Desr.zero]

theorem Cmt.status_of_settled {c : Cmt} (h : c.lag = 0) : c.status = c.running := by
  simp [Cmt.status, h]

/-- A store to CORE_RUNNING once the status has followed the store before (spec/61_interrupts_cmt.md R1515 to R1518). -/
theorem State.storeRunning_of_settled {s : State} (h : s.cmt.lag = 0) (new : Word) :
    s.storeRunning 0 new = writes (s.setRunning new) := by
  simp [State.storeRunning, h]

theorem State.storeRunning_of_lag {s : State} (h : s.cmt.lag ≠ 0) (wrong new : Word) :
    s.storeRunning wrong new = some (.refuse (.unpredictableStore "CORE_RUNNING")) := by
  refine if_pos ?_
  rw [Bool.or_eq_true, bne_iff_ne]
  exact .inl h

theorem State.setRunning_of_settled {s : State} (h : s.cmt.lag = 0) (v : Word) : s.setRunning v =
    let new := if v = 0 then ownBit else v
    { s with
      cmt := { s.cmt with running := new, lag := (s.cmt.running ^^^ new) &&& ~~~ownBit }
      run := if new &&& ownBit = 0 then .parked else s.run } := by
  simp [State.setRunning, Cmt.status_of_settled h]

theorem asiWrite_running {s : State} (settled : s.cmt.lag = 0) (v : Word) : s.asiWrite 0x41 0x50 v = writes
    (let new := if v &&& s.cmt.enableStatus = 0 then ownBit else v &&& s.cmt.enableStatus
     { s with
       cmt := { s.cmt with running := new, lag := (s.cmt.running ^^^ new) &&& ~~~ownBit }
       run := if new &&& ownBit = 0 then .parked else s.run }) := by
  show s.storeRunning 0 _ = _
  rw [State.storeRunning_of_settled settled, State.setRunning_of_settled settled]

/-- One core of a mask to which the cores of a list are added. -/
theorem foldl_cores (enabled : Nat → Bool) {k : Nat} (hk : k < 8) (cores : List Nat) (small : ∀ c ∈ cores, c < 8) (acc : Word) :
    (cores.foldl (fun acc c => if enabled c then acc ||| ((0xFF : Word) <<< (8 * c)) else acc) acc).extractLsb' (8 * k) 8 =
      if enabled k = true ∧ k ∈ cores then 0xFF else acc.extractLsb' (8 * k) 8 := by
  have core : ∀ c < 8, ∀ k < 8, (255#64 <<< (8 * c)).extractLsb' (8 * k) 8 = if c = k then 255#8 else 0#8 := by decide +kernel
  have full (x : BitVec 8) : x ||| 255#8 = 255#8 := BitVec.or_allOnes
  induction cores generalizing acc with
  | nil => simp
  | cons c rest ih =>
    have hc : c < 8 := small c (by simp)
    rw [List.foldl_cons, ih fun d hd => small d (by simp [hd])]
    by_cases same : c = k
    · subst same
      by_cases on : enabled c = true <;> simp [on, BitVec.extractLsb'_or, core c hc c hc, full]
    · by_cases on : enabled c = true <;> simp [on, BitVec.extractLsb'_or, core c hc k hk, same, Ne.symm same]

/-- Only whole bytes of ones enable a core, and only an available one (spec/61_interrupts_cmt.md R1504). -/
theorem wholeCores_core (v : Word) {k : Nat} (hk : k < 8) : (wholeCores v).extractLsb' (8 * k) 8 =
    if v.extractLsb' (8 * k) 8 = 0xFF then coreAvailable.extractLsb' (8 * k) 8 else 0 := by
  have all (x : BitVec 8) : 255#8 &&& x = x := BitVec.allOnes_and
  rw [wholeCores, BitVec.extractLsb'_and,
    foldl_cores (fun c => v.extractLsb' (8 * c) 8 == 0xFF) hk _ (by simp) 0]
  by_cases on : v.extractLsb' (8 * k) 8 = 255#8 <;> simp [on, hk, all]

/-! ### Addresses that are no register -/

section
variable (s : State) {a : Nat} (v : Word)

theorem State.readCmt_above (h : 0x70 ≤ a) : s.readCmt a = none := by
  unfold State.readCmt
  split
  case h_8 => rfl
  all_goals omega

theorem State.writeCmt_above (h : 0x70 ≤ a) : s.writeCmt a v = none := by
  unfold State.writeCmt
  split
  case h_7 => rfl
  all_goals omega

theorem State.readError_above (h : 0x30 ≤ a) : s.readError a = none := by
  unfold State.readError
  split
  case h_7 => rfl
  all_goals omega

theorem State.writeError_above (h : 0x30 ≤ a) : s.writeError a v = none := by
  unfold State.writeError
  split
  case h_3 => rfl
  all_goals omega

theorem hypScratchpadIndex_above (h : 0x40 ≤ a) : hypScratchpadIndex a = none := if_neg (Nat.not_lt.2 h)

end

/-- The ASI is one of registers, but none of them is at the address: neither a load nor a store is legal. -/
structure NoRegister (s : State) (asi : BitVec 8) (a : Nat) : Prop where
  register : isRegisterAsi asi = true
  read : s.asiRead asi a = none
  write : ∀ v, s.asiWrite asi a v = none

theorem noRegister_below {s : State} {asi : BitVec 8} {a : Nat}
    (h : asi = 0x20 ∧ (a = 0x20 ∨ a = 0x28) ∨ asi = 0x21 ∧ a = 0 ∨ asi = 0x25 ∧ a < 0x3C0) : NoRegister s asi a := by
  obtain ⟨rfl, rfl | rfl⟩ | ⟨rfl, rfl⟩ | ⟨rfl, below⟩ := h
  · exact ⟨rfl, rfl, fun _ => rfl⟩
  · exact ⟨rfl, rfl, fun _ => rfl⟩
  · exact ⟨rfl, rfl, fun _ => rfl⟩
  · refine ⟨rfl, ?_, fun v => ?_⟩
    · show s.readQueue a = none
      rw [State.readQueue, queueIndex_below below, Option.bind_none]
    · show s.writeQueue a v = none
      rw [State.writeQueue, queueIndex_below below, Option.bind_none]

theorem noRegister_above {s : State} {asi : BitVec 8} {a : Nat}
    (h : asi = 0x4F ∧ 0x40 ≤ a ∨ asi = 0x41 ∧ 0x70 ≤ a ∨ asi = 0x4C ∧ 0x30 ≤ a ∨ asi = 0x72 ∧ a ≠ 0) : NoRegister s asi a := by
  obtain ⟨rfl, above⟩ | ⟨rfl, above⟩ | ⟨rfl, above⟩ | ⟨rfl, other⟩ := h
  · have none := hypScratchpadIndex_above above
    exact ⟨rfl, congrArg (fun i => i.bind fun i => reads s (fileGet s.scratch i)) none,
      fun v => congrArg (fun i => i.bind fun i => writes (s.setScratch i v)) none⟩
  · exact ⟨rfl, s.readCmt_above above, fun v => s.writeCmt_above v above⟩
  · exact ⟨rfl, s.readError_above above, fun v => s.writeError_above v above⟩
  · exact ⟨rfl, if_neg other, fun _ => if_neg other⟩

/-! ### The statement -/

theorem eaAlt_eq (s : State) (rs1 : Reg) (addr : AltAddr) :
    (if s.pstate.am then BitVec.ofNat 64 ((s.reg rs1 + AltAddr.value addr s).toNat % 2 ^ 32) else s.reg rs1 + AltAddr.value addr s) =
      s.eaAlt rs1 addr := by
  refine BitVec.eq_of_toNat_eq ?_
  rw [State.eaAlt, maskAddr_toNat]
  split
  · rw [BitVec.toNat_ofNat]
    omega
  · rfl

/-- The modes that may use a register ASI (spec/21_asi_map.md R561). -/
theorem State.restricted_eq_false {s : State} {asi : BitVec 8} (h : s.level = .hyper ∨ (s.level = .priv ∧ asi < 0x30)) :
    s.restricted (some asi) = false := by
  rcases h with h | ⟨h, low⟩
  · simp [State.restricted, h]
  · have below : ¬(0x30 : BitVec 8) ≤ asi := BitVec.not_le.2 low
    simp only [State.restricted, h, below, decide_false, Bool.false_and]

end Sys2Proof.Machine

namespace Sys2Proof
open Machine

/-- Settles O34: each register by what a load and a store of its ASI do at its address, with the accesses of `AccessesRegister`. -/
theorem registerAsisReadAndWriteRegisters : Obligations.RegisterAsisReadAndWriteRegisters := by
  intro s rd rs1 addr k j sum ea asi a load store u gives reg sets noLoad noStore context mmu err cmt aligned
  have address : ea = s.eaAlt rs1 addr := eaAlt_eq s rs1 addr
  have place : ((s.eaAlt rs1 addr).setWidth 48).toNat = a := by rw [← address]; exact BitVec.toNat_setWidth _ _
  have named : AltAddr.asi addr s = asi := rfl
  clear_value a asi ea
  subst address
  have put (h : AccessesRegister s rs1 addr asi a) {b : Word → State} (e : StoresAs s asi a b) : sets b := h.sets e rd
  have both (h : AccessesRegister s rs1 addr asi a) {v : Word} {b : Word → State} (r : s.asiRead asi a = some (v, s))
      (e : StoresAs s asi a b) : reg v ∧ sets b := ⟨h.loads r rfl rfl rd, put h e⟩
  have readOnly (h : AccessesRegister s rs1 addr asi a) {v : Word} (r : s.asiRead asi a = some (v, s))
      (e : s.asiWrite asi a (s.reg rd) = none) : reg v ∧ noStore := ⟨h.loads r rfl rfl rd, h.noStore e⟩
  refine ⟨fun level low => ?_, fun level high low => ?_, fun level => ?_, fun level => ?_⟩
  · refine traps_of_restricted aligned ?_ rd
    simp only [named, State.restricted, level, low, decide_true]
  · refine traps_of_restricted aligned ?_ rd
    simp only [named, State.restricted, level, low, high, decide_true, Bool.and_true]
  · have h (register : isRegisterAsi asi = true) : AccessesRegister s rs1 addr asi a :=
      ⟨named, place, aligned, State.restricted_eq_false level, register⟩
    refine ⟨?_, ?_, ?_, ?_, ?_, ?_, ?_⟩
    -- Scratchpad and context registers.
    · rintro (rfl | ⟨rfl, h4, h5⟩) rfl
      · exact both (h rfl) (asiRead_hypScratchpad s k)
          fun v => ⟨⟨_, asiWrite_hypScratchpad s k v⟩, asiWrite_hypScratchpad _ k v, rfl, rfl⟩
      · exact both (h rfl) (asiRead_scratchpad s h4 h5)
          fun v => ⟨⟨_, asiWrite_scratchpad s h4 h5 v⟩, asiWrite_scratchpad _ h4 h5 v, rfl, rfl⟩
    · rintro rfl rfl
      exact both (h rfl) rfl fun _ => ⟨⟨_, rfl⟩, rfl, rfl, rfl⟩
    · rintro rfl rfl
      exact both (h rfl) rfl fun _ => ⟨⟨_, rfl⟩, rfl, rfl, rfl⟩
    · rintro rfl rfl
      exact both (h rfl) rfl fun _ => ⟨⟨_, rfl⟩, rfl, rfl, rfl⟩
    · rintro rfl rfl
      exact both (h rfl) rfl fun _ => ⟨⟨_, rfl⟩, rfl, rfl, rfl⟩
    -- Interrupt queues.
    · rintro rfl rfl
      refine ⟨(h rfl).loads (asiRead_queue s k) rfl rfl rd, fun writable => ?_, fun tail priv => ?_⟩
      · have allowed : ¬(bitAt k 0 && s.level != .hyper) = true := by rcases writable with e | e <;> simp [e]
        exact put (h rfl) fun v => ⟨⟨_, (asiWrite_queue s k v).trans (if_neg allowed)⟩,
          (asiWrite_queue s.ringed k v).trans (if_neg allowed), rfl, rfl⟩
      · exact (h rfl).noStore ((asiWrite_queue s k _).trans (if_pos (by simp [tail, priv])))
    · intro outside
      obtain ⟨register, noRead, noWrite⟩ := noRegister_below (s := s) outside
      exact ⟨(h register).noLoad noRead rd, (h register).noStore (noWrite _)⟩
  · have h (register : isRegisterAsi asi = true) : AccessesRegister s rs1 addr asi a :=
      ⟨named, place, aligned, State.restricted_eq_false (.inl level), register⟩
    refine ⟨?_, ?_, ?_, ?_, ?_, ?_, ?_, ?_, ?_, ?_, ?_, ?_⟩
    -- LSU_CONTROL_REG, the watchpoints and INTR_RECEIVE.
    · rintro rfl rfl
      exact both (h rfl) rfl fun _ => ⟨⟨_, rfl⟩, rfl, rfl, rfl⟩
    · rintro rfl rfl
      exact both (h rfl) rfl fun _ => ⟨⟨_, rfl⟩, rfl, rfl, rfl⟩
    · rintro rfl rfl
      exact both (h rfl) rfl fun _ => ⟨⟨_, rfl⟩, rfl, rfl, rfl⟩
    · rintro rfl rfl
      exact both (h rfl) rfl fun _ => ⟨⟨_, rfl⟩, rfl, rfl, rfl⟩
    -- TSB Config registers, ranges and offsets.
    · rintro rfl nonzero rfl
      intro c code config
      have word : BitVec.ofNat 4 (code c.pageSize) = c.pageSize.code := by cases c.pageSize <;> rfl
      have codes (p : PageSize) : code p = p.code.toNat := by cases p <;> rfl
      refine ⟨?_, fun p clean size => ?_, fun reserved => ?_⟩
      · rw [word]
        exact (h rfl).loads (asiRead_tsbConfig s nonzero j) rfl rfl rd
      · have config := TsbConfig.ofWord_of_code (size.trans (codes p))
        have written (t : State) := asiWrite_tsbConfig t nonzero j config
        cases nonzero <;> exact (h rfl).stores clean (written s) (written s.ringed) rfl rfl
      · have none := TsbConfig.ofWord_reserved fun p => codes p ▸ reserved p
        exact (h rfl).storeTraps (asiWrite_tsbConfig_reserved s nonzero j none)
    · rintro rfl rfl
      exact both (h rfl) (asiRead_realRange s j) fun v => ⟨⟨_, asiWrite_realRange s j v⟩, asiWrite_realRange _ j v, rfl, rfl⟩
    · rintro rfl rfl
      exact both (h rfl) (asiRead_physOffset s j) fun v => ⟨⟨_, asiWrite_physOffset s j v⟩, asiWrite_physOffset _ j v, rfl, rfl⟩
    -- CERER, SETER and DESR.
    · rintro rfl rfl
      exact both (h rfl) rfl fun _ => ⟨⟨_, rfl⟩, rfl, rfl, rfl⟩
    · rintro rfl rfl
      exact both (h rfl) rfl fun _ => ⟨⟨_, rfl⟩, rfl, rfl, rfl⟩
    · rintro rfl rfl
      exact ⟨(h rfl).loads (congrArg some s.readDesr_eq) rfl rfl rd, (h rfl).noStore rfl⟩
    -- The CMT registers, in the order of their addresses.
    · rintro rfl
      refine ⟨?_, ?_, ?_, ?_, ?_, ?_, ?_⟩
      · rintro rfl
        exact readOnly (h rfl) rfl rfl
      · rintro rfl
        exact readOnly (h rfl) rfl rfl
      · rintro rfl
        exact ⟨(h rfl).loads rfl rfl rfl rd, wholeCores, fun v c hc => wholeCores_core v hc,
          put (h rfl) fun _ => ⟨⟨_, rfl⟩, rfl, rfl, rfl⟩⟩
      · rintro rfl
        exact both (h rfl) rfl fun _ => ⟨⟨_, rfl⟩, rfl, rfl, rfl⟩
      · rintro rfl
        refine ⟨?_, put (h rfl) fun _ => ⟨⟨_, rfl⟩, rfl, rfl, rfl⟩⟩
        rw [← tick_enable_word]
        exact (h rfl).loads rfl rfl rfl rd
      · rintro rfl
        refine ⟨(h rfl).loads rfl rfl rfl rd, fun settled clean => ⟨?_, fun enabled => ?_⟩, fun lag => ?_⟩
        · exact (h rfl).stores clean (asiWrite_running settled _) (asiWrite_running (s := s.ringed) settled _) rfl rfl
        · exact (h rfl).storesDouble enabled clean (asiWrite_running settled _) (asiWrite_running (s := s.ringed) settled _) rfl rfl
        · exact (h rfl).storeRefused (State.storeRunning_of_lag lag 0 _)
      · rintro rfl
        exact readOnly (h rfl) rfl rfl
    · intro outside
      obtain ⟨register, noRead, noWrite⟩ := noRegister_above (s := s) outside
      exact ⟨(h register).noLoad noRead rd, (h register).noStore (noWrite _)⟩

end Sys2Proof


namespace Sys2Proof.Machine

/-! ### Page numbers (spec/12_mmu_translation.md R304) -/

section
variable {w : Nat} (p : PageSize) (m n : BitVec w)

theorem PageSize.toNat_clear : (p.clear n).toNat = n.toNat / 2 ^ p.shift * 2 ^ p.shift := by
  have fits : n.toNat / 2 ^ p.shift * 2 ^ p.shift < 2 ^ w := (Nat.div_mul_le_self _ _).trans_lt n.isLt
  simp [PageSize.clear, Nat.shiftRight_eq_div_pow, Nat.shiftLeft_eq, Nat.mod_eq_of_lt fits]

theorem PageSize.same_iff : p.same m n = true ↔ m.toNat / 2 ^ p.shift = n.toNat / 2 ^ p.shift := by
  simp [PageSize.same, ← BitVec.toNat_inj, Nat.shiftRight_eq_div_pow]

@[simp] theorem PageSize.same_clear : p.same (p.clear m) n = p.same m n := by
  rw [Bool.eq_iff_iff, PageSize.same_iff, PageSize.same_iff, PageSize.toNat_clear, Nat.mul_div_cancel _ (Nat.two_pow_pos _)]

end

/-- The page size of a TTE, by its code and the number of address bits inside the page. -/
theorem PageSize.ofCode_of_width {d : Word} {width : Nat}
    (h : (d.toNat % 16, width) ∈ [(0, 13), (1, 16), (3, 22), (5, 28)]) :
    ∃ p : PageSize, PageSize.ofCode (d.extractLsb' 0 4) = some p ∧ width = 13 + p.shift := by
  have field : (d.extractLsb' 0 4).toNat = d.toNat % 16 := by simp
  have known (p : PageSize) (code : d.toNat % 16 = p.code.toNat) : PageSize.ofCode (d.extractLsb' 0 4) = some p := by
    rw [BitVec.eq_of_toNat_eq (field.trans code), PageSize.ofCode_code]
  simp only [List.mem_cons, Prod.mk.injEq, List.not_mem_nil, or_false] at h
  obtain ⟨code, rfl⟩ | ⟨code, rfl⟩ | ⟨code, rfl⟩ | ⟨code, rfl⟩ := h
  · exact ⟨.k8, known _ code, rfl⟩
  · exact ⟨.k64, known _ code, rfl⟩
  · exact ⟨.m4, known _ code, rfl⟩
  · exact ⟨.m256, known _ code, rfl⟩

theorem Request.toNat_page (q : Request) : q.page.toNat = q.va.toNat / 2 ^ 13 := by
  have := q.va.isLt
  simp [Request.page, Nat.shiftRight_eq_div_pow]
  omega

/-- The bits of `x` above the page size's and those of `y` inside the page. -/
theorem toNat_splice {w : Nat} (x y : BitVec w) (k : Nat) :
    ((x &&& (BitVec.allOnes w <<< k)) ||| (y &&& ~~~(BitVec.allOnes w <<< k))).toNat =
      x.toNat / 2 ^ k * 2 ^ k + y.toNat % 2 ^ k := by
  rw [← Nat.shiftLeft_eq, Nat.shiftLeft_add_eq_or_of_lt (Nat.mod_lt _ (Nat.two_pow_pos k)), ← Nat.shiftRight_eq_div_pow]
  refine Nat.eq_of_testBit_eq fun i => ?_
  rw [BitVec.testBit_toNat]
  have beyond (z : BitVec w) (h : ¬i < w) : z.getLsbD i = false := BitVec.getLsbD_of_ge _ _ (Nat.not_lt.1 h)
  by_cases low : i < k
  · by_cases inside : i < w <;> simp [low, inside, beyond, Nat.testBit_shiftLeft, Nat.testBit_mod_two_pow, BitVec.testBit_toNat]
  · have above : k ≤ i := Nat.not_lt.1 low
    by_cases inside : i < w <;>
      simp [low, inside, above, beyond, Nat.testBit_shiftLeft, Nat.testBit_shiftRight, BitVec.testBit_toNat]

/-- The physical address that an entry gives: its page and the offset of the address in it (R313). -/
theorem TlbEntry.translate_pa (e : TlbEntry) (va : BitVec 48) : (e.translate va).pa =
    BitVec.ofNat 40 (e.pa.toNat / 2 ^ e.size.shift * 2 ^ (13 + e.size.shift) + va.toNat % 2 ^ (13 + e.size.shift)) := by
  have page : (va.extractLsb' 13 27).toNat = va.toNat / 2 ^ 13 % 2 ^ 27 := by simp [Nat.shiftRight_eq_div_pow]
  have offset : (va.extractLsb' 0 13).toNat = va.toNat % 2 ^ 13 := by simp
  have bound := e.pa.isLt
  refine BitVec.eq_of_toNat_eq ?_
  rw [TlbEntry.translate, BitVec.toNat_append, ← Nat.shiftLeft_add_eq_or_of_lt (BitVec.isLt _), toNat_splice, page, offset,
    Nat.shiftLeft_eq, BitVec.toNat_ofNat]
  cases e.size <;> simp only [PageSize.shift] <;> omega

/-! ### Searching and writing a TLB (R311, R388, R390) -/

section
variable {n : Nat}

theorem mem_tlbIndices (i : BitVec n) : i ∈ tlbIndices n :=
  List.mem_map.2 ⟨i.toNat, List.mem_range.2 i.isLt, by simp⟩

theorem nodup_tlbIndices (n : Nat) : (tlbIndices n).Nodup := by
  refine List.nodup_range.map_on fun a ha b hb same => ?_
  have numbers := congrArg BitVec.toNat same
  rwa [BitVec.toNat_ofNat, BitVec.toNat_ofNat, Nat.mod_eq_of_lt (List.mem_range.1 ha), Nat.mod_eq_of_lt (List.mem_range.1 hb)]
    at numbers

variable {tlb : File n TlbEntry} {test : TlbEntry → Bool}

theorem tlbFind_eq_nil : tlbFind tlb test = [] ↔ ∀ i, test (fileGet tlb i) = false := by
  simp [tlbFind, List.filter_eq_nil_iff, mem_tlbIndices]

theorem tlbFind_eq_singleton {i : BitVec n} (found : test (fileGet tlb i) = true)
    (only : ∀ j, j ≠ i → test (fileGet tlb j) = false) : tlbFind tlb test = [i] := by
  have alone : tlbFind tlb test = (tlbIndices n).filter (· == i) := by
    refine List.filter_congr fun j _ => ?_
    by_cases same : j = i
    · simp [same, found]
    · simp [same, only]
  rw [alone, List.filter_beq, List.count_eq_one_of_mem (nodup_tlbIndices n) (mem_tlbIndices i), List.replicate_one]

/-- What sets a used bit changes nothing but used bits. -/
theorem fileGet_tlbSetUsed (tlb : File n TlbEntry) (i j : BitVec n) :
    ∃ u, fileGet (tlbSetUsed tlb i) j = (fileGet tlb j).setUsed u := by
  unfold tlbSetUsed
  split
  · exact ⟨false, fileGet_map _ _ _⟩
  · by_cases same : j = i
    · exact ⟨true, by rw [same, fileGet_fileSet]⟩
    · exact ⟨(fileGet tlb j).used, fileGet_fileSet_ne _ _ same⟩

/-- An automatic write leaves the new entry at one place and autodemaps the others. -/
theorem tlbWrite_entries (tlb : File n TlbEntry) (page : BitVec 35) (new : TlbEntry) : ∃ i,
    (∃ u, fileGet (tlbWrite tlb none page new) i = new.setUsed u) ∧ ∀ j, j ≠ i → ∃ u,
      fileGet (tlbWrite tlb none page new) j =
        (if (fileGet tlb j).demappedBy new page then (fileGet tlb j).invalidate else fileGet tlb j).setUsed u := by
  let clean := tlb.map (fun e => if e.demappedBy new page then e.invalidate else e)
  refine ⟨tlbVictim clean, ?_, fun j other => ?_⟩
  · obtain ⟨u, entry⟩ := fileGet_tlbSetUsed (fileSet clean (tlbVictim clean) new) (tlbVictim clean) (tlbVictim clean)
    exact ⟨u, by rwa [fileGet_fileSet] at entry⟩
  · obtain ⟨u, entry⟩ := fileGet_tlbSetUsed (fileSet clean (tlbVictim clean) new) (tlbVictim clean) j
    exact ⟨u, by rwa [fileGet_fileSet_ne _ _ other, fileGet_map] at entry⟩

end

section
variable (e : TlbEntry) (pid : BitVec 3) (q : Request) (c : BitVec 13 × BitVec 13)

@[simp] theorem TlbEntry.hits_setUsed (u : Bool) : (e.setUsed u).hits pid q c = e.hits pid q c := rfl

@[simp] theorem TlbEntry.translate_setUsed (u : Bool) (va : BitVec 48) : (e.setUsed u).translate va = e.translate va := rfl

@[simp] theorem TlbEntry.hits_invalidate : e.invalidate.hits pid q c = false := rfl

theorem TlbEntry.hits_iff : e.hits pid q c = true ↔ e.valid = true ∧ e.pid = pid ∧ e.real = q.real ∧
    e.size.same e.va q.page = true ∧ (e.real = true ∨ e.context = c.1 ∨ e.context = c.2) := by
  simp only [TlbEntry.hits, Bool.and_eq_true, Bool.or_eq_true, beq_iff_eq, and_assoc, or_assoc]

theorem TlbEntry.demappedBy_iff (new : TlbEntry) (page : BitVec 35) : e.demappedBy new page = true ↔
    e.pid = new.pid ∧ e.real = new.real ∧ (new.real = true ∨ e.context = new.context) ∧ e.size.same e.va page = true := by
  simp only [TlbEntry.demappedBy, Bool.and_eq_true, Bool.or_eq_true, beq_iff_eq, and_assoc]

end

/-- The new entry alone answers, where it answers and every entry that answered before is one that its write demaps. -/
theorem tlbWrite_hits {n : Nat} {tlb : File n TlbEntry} {page : BitVec 35} {new : TlbEntry} {pid : BitVec 3} {q : Request}
    {c : BitVec 13 × BitVec 13} (hit : new.hits pid q c = true)
    (old : ∀ j, (fileGet tlb j).hits pid q c = true → (fileGet tlb j).demappedBy new page = true) :
    ∃ u, (tlbFind (tlbWrite tlb none page new) (fun e => e.hits pid q c)).map (fileGet (tlbWrite tlb none page new)) =
      [new.setUsed u] := by
  obtain ⟨i, ⟨u, written⟩, others⟩ := tlbWrite_entries tlb page new
  refine ⟨u, ?_⟩
  rw [tlbFind_eq_singleton (i := i) (by rw [written, TlbEntry.hits_setUsed, hit]), List.map_singleton, written]
  intro j other
  obtain ⟨v, kept⟩ := others j other
  rw [kept, TlbEntry.hits_setUsed]
  split
  · exact TlbEntry.hits_invalidate _ _ _ _
  · rename_i stays
    exact Bool.eq_false_iff.2 fun h => stays (old j h)

/-! ### Looking up the TLB of a side -/

/-- The TLB of a side after an automatic write. -/
def State.withEntry (s : State) (side : Side) (page : BitVec 35) (new : TlbEntry) : State :=
  match side with
  | .inst => { s with itlb := tlbWrite s.itlb none page new }
  | .data => { s with dtlb := tlbWrite s.dtlb none page new }

section
variable {s : State} {side : Side} {q : Request}

/-- Every entry of the ITLB has a number among those of the DTLB. -/
theorem extract_setWidth_six (i : BitVec 6) : (i.setWidth 7).extractLsb' 0 6 = i := by
  revert i
  decide

theorem State.tlbMatches_eq_nil :
    s.tlbMatches side q = [] ↔ ∀ i, (s.tlbEntry side i).hits s.mmu.pid q (s.contexts q.ctx) = false := by
  cases side with
  | inst =>
    rw [State.tlbMatches, List.map_eq_nil_iff, tlbFind_eq_nil]
    exact ⟨fun h i => h _, fun h i => extract_setWidth_six i ▸ h (i.setWidth 7)⟩
  | data =>
    rw [State.tlbMatches, List.map_eq_nil_iff, tlbFind_eq_nil]
    exact Iff.rfl

theorem State.tlbMatches_withEntry {page : BitVec 35} {new : TlbEntry} (hit : new.hits s.mmu.pid q (s.contexts q.ctx) = true)
    (old : ∀ i, (s.tlbEntry side i).hits s.mmu.pid q (s.contexts q.ctx) = true →
      (s.tlbEntry side i).demappedBy new page = true) :
    ∃ u, (s.withEntry side page new).tlbMatches side q = [new.setUsed u] := by
  cases side with
  | inst => exact tlbWrite_hits hit fun j => extract_setWidth_six j ▸ old (j.setWidth 7)
  | data => exact tlbWrite_hits hit old

theorem State.lookup_of_no_match (va : Word) (h : s.tlbMatches side q = []) : s.lookup side va q = .ok none s := by
  rw [State.lookup, h]

theorem State.entryError_of_sound (va : Word) {e : TlbEntry} (tag : e.tagBad = false) (data : e.dataBad = false) :
    s.entryError side va e = none := by
  cases side <;> simp [State.entryError, tag, data]

theorem State.lookup_withEntry (va : Word) {page : BitVec 35} {new : TlbEntry} (tag : new.tagBad = false)
    (data : new.dataBad = false) (hit : new.hits s.mmu.pid q (s.contexts q.ctx) = true)
    (old : ∀ i, (s.tlbEntry side i).hits s.mmu.pid q (s.contexts q.ctx) = true →
      (s.tlbEntry side i).demappedBy new page = true) :
    (s.withEntry side page new).lookup side va q =
      .ok (some (new.translate q.va)) ((s.withEntry side page new).tlbUse side q) := by
  obtain ⟨u, found⟩ := State.tlbMatches_withEntry hit old
  have sound : (s.withEntry side page new).entryError side va (new.setUsed u) = none :=
    State.entryError_of_sound va tag data
  simp only [State.lookup, found, sound, TlbEntry.translate_setUsed]

/-- A demap of all pages of the partition (R385) leaves no entry that answers. -/
theorem State.tlbMatches_demapAll (s : State) (side : Side) (q : Request) : (s.demap side 0x80).tlbMatches side q = [] := by
  have dropped (e : TlbEntry) (ctx : Option (BitVec 13)) : e.demapHits s.mmu.pid 0x80 ctx = (e.pid == s.mmu.pid) := by
    simp [TlbEntry.demapHits]
  have gone (e : TlbEntry) (ctx : Option (BitVec 13)) :
      (if e.demapHits s.mmu.pid 0x80 ctx then e.invalidate else e).hits s.mmu.pid q (s.contexts q.ctx) = false := by
    rw [dropped]
    split
    · rfl
    · rename_i other
      exact Bool.eq_false_iff.2 fun h => other (beq_iff_eq.2 ((TlbEntry.hits_iff _ _ _ _).1 h).2.1)
  refine State.tlbMatches_eq_nil.2 fun i => ?_
  cases side with
  | inst =>
    show TlbEntry.hits (fileGet (s.itlb.map _) _) _ _ _ = false
    rw [fileGet_map]
    exact gone _ _
  | data =>
    show TlbEntry.hits (fileGet (s.dtlb.map _) _) _ _ _ = false
    rw [fileGet_map]
    exact gone _ _

end

/-! ### Stores to the Data In registers and demaps (R385, R391) -/

/-- The ASIs of the Data In register and of the demap of a side, as the statement lists them. -/
theorem asiWrite_dataIn {side : Side} {dataIn demap : BitVec 8}
    (h : (side, dataIn, demap) ∈ [(Side.data, 0x5C, 0x5F), (Side.inst, 0x54, 0x57)]) (s : State) (d : Word) :
    isRegisterAsi dataIn = true ∧ s.asiWrite dataIn 0 d = some (s.storeTlb side none false d) := by
  simp only [List.mem_cons, Prod.mk.injEq, List.not_mem_nil, or_false] at h
  obtain ⟨rfl, rfl, rfl⟩ | ⟨rfl, rfl, rfl⟩ := h <;> exact ⟨rfl, rfl⟩

theorem asiWrite_demapAll {side : Side} {dataIn demap : BitVec 8}
    (h : (side, dataIn, demap) ∈ [(Side.data, 0x5C, 0x5F), (Side.inst, 0x54, 0x57)]) (s : State) (v : Word) :
    isRegisterAsi demap = true ∧ s.asiWrite demap 0x80 v = writes (s.demap side 0x80) := by
  simp only [List.mem_cons, Prod.mk.injEq, List.not_mem_nil, or_false] at h
  obtain ⟨rfl, rfl, rfl⟩ | ⟨rfl, rfl, rfl⟩ := h <;> exact ⟨rfl, rfl⟩

/-- A hyperprivileged access of a register ASI at the address that `rs2` holds, which PSTATE.am does not cut. -/
theorem accessesRegister_of_hyper {s : State} {asi : BitVec 8} {rs2 : Reg} {a : Nat} (hyper : s.hpstate.hpriv = true)
    (register : isRegisterAsi asi = true) (address : (s.reg rs2).toNat = a) (small : a < 2 ^ 32) (aligned : a % 8 = 0) :
    AccessesRegister s 0 (.immAsi asi rs2) asi a := by
  have effective : (s.eaAlt 0 (.immAsi asi rs2)).toNat = a := by
    have sum : s.reg 0 + s.reg rs2 = s.reg rs2 := BitVec.zero_add _
    rw [State.eaAlt, AltAddr.value, sum, maskAddr_toNat, address, Nat.mod_eq_of_lt small, ite_self]
  have level : s.level = .hyper := if_pos hyper
  refine ⟨rfl, ?_, by rw [effective, aligned], State.restricted_eq_false (.inl level), register⟩
  rw [BitVec.toNat_setWidth, effective, Nat.mod_eq_of_lt (small.trans (by decide))]

theorem State.storeTlb_automatic {s : State} {side : Side} {real : Bool} {d : Word} {size : PageSize}
    (code : PageSize.ofCode (d.extractLsb' 0 4) = some size) : s.storeTlb side none real d =
      .ok () (s.withEntry side (s.tag side).va (s.storedEntry side real size d)) := by
  cases side <;> simp only [State.storeTlb, code] <;> rfl

theorem State.injectsTlb_of_not_injecting {s : State} (h : s.injecting = false) (side : Side) :
    s.injectsTlb side = (false, false) := by
  cases side <;> simp [State.injectsTlb, State.injects, h]

/-- The page of an entry that a store forms, whether or not it keeps the bits inside the page. -/
theorem State.storedEntry_page (s : State) (side : Side) (real : Bool) (size : PageSize) (d : Word) :
    (s.storedEntry side real size d).pa.toNat / 2 ^ size.shift = d.toNat % 2 ^ 40 / 2 ^ (13 + size.shift) := by
  have field : (d.extractLsb' 13 27).toNat / 2 ^ size.shift = d.toNat % 2 ^ 40 / 2 ^ (13 + size.shift) := by
    rw [Nat.pow_add, ← Nat.div_div_eq_div_mul]
    refine congrArg (· / _) ?_
    rw [BitVec.extractLsb'_toNat, Nat.shiftRight_eq_div_pow]
    omega
  show (if Config.tlbKeepsLowPa then d.extractLsb' 13 27 else size.clear (d.extractLsb' 13 27)).toNat / _ = _
  split
  · exact field
  · rw [PageSize.toNat_clear, Nat.mul_div_cancel _ (Nat.two_pow_pos _), field]

/-- The nucleus request for an address. -/
abbrev nucleusRequest (va : Word) : Request := ⟨va.setWidth 48, false, .nucleus, va.setWidth 48⟩

/-- What an entry stored through Data In answers for an address of its page, and that no other entry does (R311, R313, R390). -/
theorem State.lookup_stored {s : State} {side : Side} {d va : Word} {size : PageSize} (sound : s.injecting = false)
    (context : (s.tag side).context = 0) (valid : bitAt d 63 = true)
    (inPage : va.toNat % 2 ^ 48 / 2 ^ (13 + size.shift) = (s.tag side).va.toNat * 2 ^ 13 / 2 ^ (13 + size.shift))
    (autodemap : va.toNat % 2 ^ 48 / 2 ^ 13 = (s.tag side).va.toNat ∨ s.tlbMatches side (nucleusRequest va) = []) :
    ∃ u, (s.withEntry side (s.tag side).va (s.storedEntry side false size d)).lookup side va (nucleusRequest va) =
      .ok (some { pa := BitVec.ofNat 40
                    (d.toNat % 2 ^ 40 / 2 ^ (13 + size.shift) * 2 ^ (13 + size.shift) + va.toNat % 2 ^ (13 + size.shift)),
                  nfo := bitAt d 62, ie := bitAt d 12, e := bitAt d 11, cp := bitAt d 10, p := bitAt d 8, w := bitAt d 6 })
        u := by
  have page : (nucleusRequest va).page.toNat = va.toNat % 2 ^ 48 / 2 ^ 13 := by
    rw [Request.toNat_page, BitVec.toNat_setWidth]
  have named : size.same (s.tag side).va (nucleusRequest va).page = true := by
    rw [PageSize.same_iff, page, Nat.div_div_eq_div_mul, ← Nat.pow_add, inPage, Nat.pow_add, ← Nat.div_div_eq_div_mul,
      Nat.mul_div_cancel _ (Nat.two_pow_pos 13)]
  have injected := State.injectsTlb_of_not_injecting sound side
  have hit : (s.storedEntry side false size d).hits s.mmu.pid (nucleusRequest va) (s.contexts .nucleus) = true :=
    (TlbEntry.hits_iff _ _ _ _).2 ⟨valid, rfl, rfl, (PageSize.same_clear _ _ _).trans named, .inr (.inl context)⟩
  have old (i : BitVec 7) (h : (s.tlbEntry side i).hits s.mmu.pid (nucleusRequest va) (s.contexts .nucleus) = true) :
      (s.tlbEntry side i).demappedBy (s.storedEntry side false size d) (s.tag side).va = true := by
    rcases autodemap with own | none
    · have samePage : (nucleusRequest va).page = (s.tag side).va := BitVec.eq_of_toNat_eq (page.trans own)
      obtain ⟨-, pid, virtual, inside, nucleus⟩ := (TlbEntry.hits_iff _ _ _ _).1 h
      refine (TlbEntry.demappedBy_iff _ _ _).2 ⟨pid, virtual, .inr ?_, samePage ▸ inside⟩
      rcases nucleus with real | zero | zero
      · rw [virtual] at real
        cases real
      · exact zero.trans context.symm
      · exact zero.trans context.symm
    · rw [State.tlbMatches_eq_nil.1 none i] at h
      cases h
  have offset : (va.setWidth 48).toNat % 2 ^ (13 + size.shift) = va.toNat % 2 ^ (13 + size.shift) := by
    rw [BitVec.toNat_setWidth]
    exact Nat.mod_mod_of_dvd _ (Nat.pow_dvd_pow 2 (by cases size <;> decide))
  have pa : ((s.storedEntry side false size d).translate (va.setWidth 48)).pa = BitVec.ofNat 40
      (d.toNat % 2 ^ 40 / 2 ^ (13 + size.shift) * 2 ^ (13 + size.shift) + va.toNat % 2 ^ (13 + size.shift)) := by
    rw [TlbEntry.translate_pa, ← offset, ← State.storedEntry_page s side false]
    rfl
  rw [← pa]
  exact ⟨_, State.lookup_withEntry va (congrArg Prod.fst injected) (congrArg Prod.snd injected) hit old⟩

/-- No entry answers after a demap of all pages. -/
theorem State.lookup_demapAll (s : State) (side : Side) (va : Word) (q : Request) :
    (s.demap side 0x80).lookup side va q = .ok none (s.demap side 0x80) :=
  State.lookup_of_no_match va (s.tlbMatches_demapAll side q)

/-! ### The TTE of a tablewalk (R341; spec/13_mmu_registers.md R438) -/

/-- The low `k` bits of a 40-bit number. -/
theorem toNat_and_mask (x : BitVec 40) {k : Nat} (h : k < 40) :
    (x &&& ((1#40 <<< k) - 1#40)).toNat = x.toNat % 2 ^ k := by
  have bound : 2 ^ k < 2 ^ 40 := Nat.pow_lt_pow_right (by decide) h
  have one : (1#40 <<< k).toNat = 2 ^ k := by
    rw [BitVec.toNat_shiftLeft, Nat.shiftLeft_eq]
    exact (congrArg (· % 2 ^ 40) (Nat.one_mul _)).trans (Nat.mod_eq_of_lt bound)
  have mask : ((1#40 <<< k) - 1#40).toNat = 2 ^ k - 1 := by
    rw [BitVec.toNat_sub_of_le (BitVec.le_def.2 (one ▸ Nat.two_pow_pos k)), one]
    rfl
  rw [BitVec.toNat_and, mask, Nat.and_two_pow_sub_one_eq_mod]

theorem toNat_tsbPointer (q : Request) (c : TsbConfig) : (tsbPointer q.page c).toNat =
    c.base.toNat / 2 ^ c.tsbSize.toNat * 2 ^ c.tsbSize.toNat * 2 ^ 13 +
      q.va.toNat / 2 ^ (13 + c.pageSize.shift) % 2 ^ (9 + c.tsbSize.toNat) * 16 := by
  have size := c.tsbSize.isLt
  have base := c.base.isLt
  have narrow : q.page.toNat / 2 ^ c.pageSize.shift < 2 ^ 40 :=
    (Nat.div_le_self _ _).trans_lt (q.page.isLt.trans (by decide))
  generalize hn : c.tsbSize.toNat = n at *
  have index : ((q.page >>> c.pageSize.shift).setWidth 40 &&& ((1#40 <<< (9 + n)) - 1#40)).toNat =
      q.va.toNat / 2 ^ (13 + c.pageSize.shift) % 2 ^ (9 + n) := by
    rw [toNat_and_mask _ (by omega), BitVec.toNat_setWidth, BitVec.toNat_ushiftRight, Nat.shiftRight_eq_div_pow,
      Nat.mod_eq_of_lt narrow, Request.toNat_page, Nat.div_div_eq_div_mul, ← Nat.pow_add]
  have below : q.va.toNat / 2 ^ (13 + c.pageSize.shift) % 2 ^ (9 + n) * 16 < 2 ^ (13 + n) := calc
    _ < 2 ^ (9 + n) * 16 := Nat.mul_lt_mul_of_pos_right (Nat.mod_lt _ (Nat.two_pow_pos _)) (by decide)
    _ = 2 ^ (13 + n) := by ring
  have fits : 2 ^ (13 + n) ≤ 2 ^ 40 := Nat.pow_le_pow_right (by decide) (by omega)
  have start : ((((c.base >>> n) <<< n) ++ 0#13 : PAddr)).toNat = (c.base.toNat / 2 ^ n) <<< (13 + n) := by
    have whole : c.base.toNat / 2 ^ n * 2 ^ n < 2 ^ 27 := (Nat.div_mul_le_self _ _).trans_lt base
    rw [BitVec.toNat_append, BitVec.toNat_shiftLeft, BitVec.toNat_ushiftRight, BitVec.toNat_ofNat, Nat.shiftRight_eq_div_pow,
      Nat.shiftLeft_eq, Nat.shiftLeft_eq, Nat.shiftLeft_eq, Nat.mod_eq_of_lt whole, Nat.pow_add, ← Nat.mul_assoc,
      Nat.mul_right_comm, Nat.zero_mod, Nat.or_zero]
  have shifted : (((q.page >>> c.pageSize.shift).setWidth 40 &&& ((1#40 <<< (9 + n)) - 1#40)) <<< 4).toNat =
      q.va.toNat / 2 ^ (13 + c.pageSize.shift) % 2 ^ (9 + n) * 16 := by
    rw [BitVec.toNat_shiftLeft, index, Nat.shiftLeft_eq, Nat.mod_eq_of_lt (below.trans_le fits)]
  show ((((c.base >>> c.tsbSize.toNat) <<< c.tsbSize.toNat) ++ 0#13 : PAddr) |||
    (((q.page >>> c.pageSize.shift).setWidth 40 &&& ((1#40 <<< (9 + c.tsbSize.toNat)) - 1#40)) <<< 4)).toNat = _
  rw [hn, BitVec.toNat_or, start, shifted, ← Nat.shiftLeft_add_eq_or_of_lt below, Nat.shiftLeft_eq, Nat.pow_add,
    Nat.mul_assoc, Nat.mul_comm (2 ^ n)]

theorem wordOfBytes_concat (bs : List Byte) (b : Byte) :
    wordOfBytes (bs ++ [b]) = BitVec.ofNat 64 (256 * (wordOfBytes bs).toNat + b.toNat) := by
  have apart : wordOfBytes bs <<< 8 &&& b.setWidth 64 = 0#64 := by
    ext i hi
    by_cases low : i < 8
    · simp [low]
    · simp [low, BitVec.getLsbD_of_ge b i (Nat.not_lt.1 low)]
  rw [wordOfBytes, List.foldl_append]
  show wordOfBytes bs <<< 8 ||| b.setWidth 64 = _
  rw [← BitVec.add_eq_or_of_and_eq_zero _ _ apart]
  refine BitVec.eq_of_toNat_eq ?_
  have := b.isLt
  simp [Nat.shiftLeft_eq]
  omega

/-- Bytes of memory as a number (spec/20_memory.md R520). -/
theorem wordOfBytes_readBytes (s : State) (pa n : Nat) :
    wordOfBytes (s.readBytes pa n) = BitVec.ofNat 64 (bigEndianAt s pa n) := by
  induction n with
  | zero => rfl
  | succ n ih =>
    have next : s.readBytes pa (n + 1) = s.readBytes pa n ++ [s.readByte (pa + n)] := by
      simp [State.readBytes, List.range_succ]
    rw [next, wordOfBytes_concat, ih, bigEndianAt]
    refine BitVec.eq_of_toNat_eq ?_
    simp only [BitVec.toNat_ofNat]
    omega

/-- A TTE in memory with which nothing is wrong and to which no store is in the buffer. -/
theorem State.readTte_plain {s : State} {pa : PAddr} (side : Side) (q : Request) (memory : isIo pa.toNat = false)
    (plain : s.plainLine pa.toNat = true) (uniform : s.l2Uniform = true)
    (settled : s.pendingIn pa.toNat 16 (fun _ => true) = false) : s.readTte side q pa =
      .ok (BitVec.ofNat 64 (bigEndianAt s pa.toNat 8), BitVec.ofNat 64 (bigEndianAt s (pa.toNat + 8) 8)) s := by
  have low : bitAt pa 39 = false := by
    have below : pa.toNat < 2 ^ 39 := by simpa [isIo] using memory
    exact Nat.testBit_lt_two_pow below
  have bytes : s.globalBytes pa.toNat = (s.readBytes pa.toNat 16, s) := by simp [State.globalBytes, settled]
  have tag : (s.readBytes pa.toNat 16).take 8 = s.readBytes pa.toNat 8 := rfl
  have data : (s.readBytes pa.toNat 16).drop 8 = s.readBytes (pa.toNat + 8) 8 := rfl
  simp only [State.readTte, low, uniform, plain, bytes, tag, data, wordOfBytes_readBytes, Bool.not_true, Bool.false_eq_true,
    if_true, if_false]

/-! ### The page of a TTE (R343) -/

theorem tlbIndices_find {n : Nat} {p : BitVec n → Bool} {j : BitVec n} (fits : p j = true)
    (first : ∀ k, k < j → p k = false) : (tlbIndices n).find? p = some j := by
  have place : (List.range (2 ^ n)).find? (p ∘ BitVec.ofNat n) = some j.toNat := by
    refine List.find?_range_eq_some.2 ⟨by simpa using fits, List.mem_range.2 j.isLt, fun k below => ?_⟩
    have small : k % 2 ^ n = k := Nat.mod_eq_of_lt (below.trans j.isLt)
    simpa using first (BitVec.ofNat n k) (by simpa [BitVec.lt_def, small] using below)
  rw [tlbIndices, List.find?_map, place]
  simp

/-- The last 8-Kbyte page of a page. -/
theorem PageSize.toNat_last (p : PageSize) (x : BitVec 27) : (x ||| ~~~(p.clear (BitVec.allOnes 27))).toNat =
    x.toNat / 2 ^ p.shift * 2 ^ p.shift + 2 ^ p.shift - 1 := by
  have ones : p.clear (BitVec.allOnes 27) = BitVec.allOnes 27 <<< p.shift := by cases p <;> decide
  have inside : (BitVec.allOnes 27).toNat % 2 ^ p.shift = 2 ^ p.shift - 1 := by cases p <;> decide
  have splice : x ||| ~~~(BitVec.allOnes 27 <<< p.shift) = (x &&& (BitVec.allOnes 27 <<< p.shift)) |||
      (BitVec.allOnes 27 &&& ~~~(BitVec.allOnes 27 <<< p.shift)) := by
    rw [BitVec.allOnes_and]
    generalize BitVec.allOnes 27 <<< p.shift = m
    ext i
    cases bit : x[i] <;> simp [bit]
  rw [ones, splice, toNat_splice, inside, ← Nat.add_sub_assoc (Nat.two_pow_pos _)]

/-- The range holds all of a page of this size (R343). -/
def RealRange.Holds (r : RealRange) (size : PageSize) (page : BitVec 27) : Prop :=
  r.enable = true ∧ r.low.toNat ≤ page.toNat / 2 ^ size.shift * 2 ^ size.shift ∧
    page.toNat / 2 ^ size.shift * 2 ^ size.shift + 2 ^ size.shift - 1 ≤ r.high.toNat

theorem State.rangeOffset_first {s : State} {size : PageSize} {page : BitVec 27} {j : BitVec 2}
    (holds : (fileGet s.mmu.realRange j).Holds size page)
    (first : ∀ k, k < j → ¬(fileGet s.mmu.realRange k).Holds size page) :
    s.rangeOffset (size.clear page) (page ||| ~~~(size.clear (BitVec.allOnes 27))) = some (fileGet s.mmu.physOffset j) := by
  have test (k : BitVec 2) : ((fileGet s.mmu.realRange k).enable && decide ((fileGet s.mmu.realRange k).low ≤ size.clear page) &&
      decide (page ||| ~~~(size.clear (BitVec.allOnes 27)) ≤ (fileGet s.mmu.realRange k).high)) = true ↔
        (fileGet s.mmu.realRange k).Holds size page := by
    rw [Bool.and_eq_true, Bool.and_eq_true, decide_eq_true_iff, decide_eq_true_iff, BitVec.le_def, BitVec.le_def,
      PageSize.toNat_clear, PageSize.toNat_last, and_assoc, RealRange.Holds]
  rw [State.rangeOffset, List.head?_filter,
    tlbIndices_find ((test j).2 holds) fun k below => Bool.eq_false_iff.2 fun h => first k below ((test k).1 h), Option.map_some]

theorem State.ttePage_physical {s : State} {c : TsbConfig} (physical : c.raNotPa = false) (size : PageSize) (data : Word) :
    s.ttePage c size data = some (size.clear (data.extractLsb' 13 27)) := by
  simp [State.ttePage, physical]

theorem State.ttePage_real {s : State} {c : TsbConfig} {size : PageSize} {data : Word} {j : BitVec 2} (real : c.raNotPa = true)
    (upper : data.extractLsb' 40 16 = 0) (holds : (fileGet s.mmu.realRange j).Holds size (data.extractLsb' 13 27))
    (first : ∀ k, k < j → ¬(fileGet s.mmu.realRange k).Holds size (data.extractLsb' 13 27)) :
    s.ttePage c size data = some (size.clear (data.extractLsb' 13 27 + fileGet s.mmu.physOffset j)) := by
  rw [State.ttePage, real, upper]
  exact congrArg (Option.map fun offset => size.clear (data.extractLsb' 13 27 + offset)) (State.rangeOffset_first holds first)

/-! ### The hardware tablewalk (R340 to R344) -/

/-- A TTE of a page of this size answers (R341). -/
theorem tteMatches_iff {c : TsbConfig} {context : BitVec 13} {q : Request} {tag data : Word} {size : PageSize}
    (code : PageSize.ofCode (data.extractLsb' 0 4) = some size) : tteMatches c context q tag data = true ↔
      bitAt data 63 = true ∧ tag.extractLsb' 61 3 = 0 ∧ tag.extractLsb' 42 6 = 0 ∧ c.pageSize.shift ≤ size.shift ∧
        (context = 0 ∨ c.useContext0 = true ∨ c.useContext1 = true ∨ tag.extractLsb' 48 13 = context) ∧
        tag.extractLsb' 0 42 >>> (size.shift - 9) = (sext48 q.va).extractLsb' 22 42 >>> (size.shift - 9) := by
  simp only [tteMatches, code, Bool.and_eq_true, Bool.or_eq_true, beq_iff_eq, decide_eq_true_iff, and_assoc, or_assoc]

theorem tteMatches_of_invalid {data : Word} (invalid : bitAt data 63 = false) (c : TsbConfig) (context : BitVec 13) (q : Request)
    (tag : Word) : tteMatches c context q tag data = false := by
  unfold tteMatches
  split <;> simp [invalid]

/-- The tag of a TTE names the page of the address, as numbers. -/
theorem tteTag_iff {q : Request} {tag : Word} (size : PageSize) :
    tag.extractLsb' 0 42 >>> (size.shift - 9) = (sext48 q.va).extractLsb' 22 42 >>> (size.shift - 9) ↔
      tag.toNat % 2 ^ 42 * 2 ^ 22 / 2 ^ max (13 + size.shift) 22 = (q.va.signExtend 64).toNat / 2 ^ max (13 + size.shift) 22 := by
  have width : max (13 + size.shift) 22 = 22 + (size.shift - 9) := by omega
  have high : ((sext48 q.va).extractLsb' 22 42).toNat = (q.va.signExtend 64).toNat / 2 ^ 22 := by
    have := (q.va.signExtend 64).isLt
    rw [BitVec.extractLsb'_toNat, Nat.shiftRight_eq_div_pow, sext48, Nat.mod_eq_of_lt (by omega)]
  have low : (tag.extractLsb' 0 42).toNat = tag.toNat % 2 ^ 42 := by simp
  rw [← BitVec.toNat_inj, BitVec.toNat_ushiftRight, BitVec.toNat_ushiftRight, Nat.shiftRight_eq_div_pow,
    Nat.shiftRight_eq_div_pow, high, low, width, Nat.pow_add, ← Nat.div_div_eq_div_mul, ← Nat.div_div_eq_div_mul,
    Nat.mul_div_cancel _ (Nat.two_pow_pos 22)]

/-- The entry that a tablewalk loads (R344). -/
def State.walkedEntry (s : State) (side : Side) (q : Request) (c : TsbConfig) (size : PageSize) (tag data : Word)
    (pa : BitVec 27) : TlbEntry :=
  { valid := true, used := true, pid := s.mmu.pid, real := false, va := size.clear q.page, context := s.walkContext q c tag,
    pa := pa, nfo := bitAt data 62, ie := bitAt data 12, e := bitAt data 11, cp := bitAt data 10, p := bitAt data 8,
    w := bitAt data 6, size := size, tagBad := (s.injectsTlb side).1, dataBad := (s.injectsTlb side).2 }

/-- Its physical address is the page that the walk found with the offset of the address in it. -/
theorem State.walkedEntry_pa (s : State) (side : Side) (q : Request) (c : TsbConfig) (size : PageSize) (tag data : Word)
    (page : BitVec 27) : ((s.walkedEntry side q c size tag data (size.clear page)).translate q.va).pa =
      BitVec.ofNat 40 (page.toNat / 2 ^ size.shift * 2 ^ (13 + size.shift) + q.va.toNat % 2 ^ (13 + size.shift)) := by
  have pages : (size.clear page).toNat / 2 ^ size.shift = page.toNat / 2 ^ size.shift := by
    rw [PageSize.toNat_clear, Nat.mul_div_cancel _ (Nat.two_pow_pos _)]
  rw [TlbEntry.translate_pa, ← pages]
  rfl

theorem State.loadTte_eq (s : State) (side : Side) (q : Request) (c : TsbConfig) (size : PageSize) (tag data : Word)
    (pa : BitVec 27) : s.loadTte side q c size tag data pa =
      (s.setTag side ⟨q.tagPage, s.walkContext q c tag⟩).withEntry side q.page (s.walkedEntry side q c size tag data pa) := by
  cases side <;> rfl

theorem State.setTag_answers (s : State) (side : Side) (t : TagAccess) (q : Request) (e : TlbEntry) :
    e.hits (s.setTag side t).mmu.pid q ((s.setTag side t).contexts q.ctx) = e.hits s.mmu.pid q (s.contexts q.ctx) := by
  cases side <;> cases q.ctx <;> rfl

theorem State.tlbMatches_setTag (s : State) (side : Side) (t : TagAccess) (q : Request) :
    (s.setTag side t).tlbMatches side q = s.tlbMatches side q := by
  cases side <;> cases h : q.ctx <;> simp only [State.tlbMatches, h] <;> rfl

theorem State.walkReads_of_no_error {α : Type} {s : State} (clean : s.checks = []) (side : Side) (entries : List (BitVec 3))
    (k : Res α) : s.walkReads side entries k = k := by
  have none : entries.find? (fun i => s.checkOf (.mmu i) != 0) = none := by simp [State.checkOf_nil _ clean]
  rw [State.walkReads, State.walkError, none]

/-- A tablewalk for `q` reads one TTE, `tag` and `data`, from the TSB `i`, the one that is enabled for its context. -/
structure WalkReads (s : State) (side : Side) (q : Request) (i : BitVec 2) (c : TsbConfig) (tag data : Word) : Prop where
  checks : s.checks = []
  config : fileGet (s.tsbSet (s.contexts q.ctx).1) i = c
  only : ∀ j, (fileGet (s.tsbSet (s.contexts q.ctx).1) j).enable = decide (j = i)
  read : s.drawn.readTte side q (tsbPointer q.page c) = .ok (tag, data) s.drawn

theorem State.searchTsbs_of_none_enabled {s : State} {context : BitVec 13} {order : List (BitVec 2)} (side : Side) (q : Request)
    (parallel : Bool) (off : ∀ j ∈ order, (fileGet (s.tsbSet context) j).enable = false) :
    s.searchTsbs side q context parallel order = .ok [] s := by
  induction order with
  | nil => rfl
  | cons j rest ih =>
    have skipped := ih fun k hk => off k (List.mem_cons_of_mem _ hk)
    simp [State.searchTsbs, off j List.mem_cons_self, skipped]

/-- Both orders read each TSB once (R342). -/
theorem State.tsbOrder_once (s : State) (i : BitVec 2) : s.tsbOrder.Nodup ∧ i ∈ s.tsbOrder := by
  unfold State.tsbOrder
  split <;> exact ⟨by decide, by revert i; decide⟩

/-- A request that no entry answers traps or starts a tablewalk (R340). -/
theorem State.translate_of_miss {s : State} {side : Side} {q : Request} (va : Word) (miss : s.tlbMatches side q = []) :
    s.translate side va q =
      if q.real then s.tagTrap side q (if side = .inst then 0x03E else 0x03F)
      else if s.walkEnabled then (s.walk side q).bind fun _ s2 => (s2.lookup side va q).bind fun again s3 =>
        match again with
        | some t => .ok t s3
        | none => s3.tagTrap side q (if side = .inst then 0x009 else 0x031)
      else s.tagTrap side q (if side = .inst then 0x064 else 0x068) := by
  rw [State.translate, State.lookup_of_no_match va miss, Res.bind_ok]
  cases side <;> cases s.walkEnabled <;> rfl

/-- The context that the walk stores is one of those that the request offers (R311, R342). -/
theorem State.walkContext_answers {s : State} {q : Request} {c : TsbConfig} {tag : Word}
    (context : (s.contexts q.ctx).1 = 0 ∨ c.useContext0 = true ∨ c.useContext1 = true ∨
      tag.extractLsb' 48 13 = (s.contexts q.ctx).1) :
    s.walkContext q c tag = (s.contexts q.ctx).1 ∨ s.walkContext q c tag = (s.contexts q.ctx).2 := by
  unfold State.walkContext
  dsimp only
  split
  · exact .inl (Eq.symm ‹_›)
  · split
    · exact .inl rfl
    · split
      · exact .inr rfl
      · rename_i nonzero no0 no1
        exact .inl (((context.resolve_left nonzero).resolve_left no0).resolve_left no1)

/-- A TTE that is loaded over entries none of which answers is what then answers (R344). -/
theorem State.lookup_loadTte {s : State} {side : Side} {q : Request} {c : TsbConfig} {size : PageSize} {tag data : Word}
    {pa : BitVec 27} (va : Word) (miss : s.tlbMatches side q = []) (virtual : q.real = false) (sound : s.injecting = false)
    (context : (s.contexts q.ctx).1 = 0 ∨ c.useContext0 = true ∨ c.useContext1 = true ∨
      tag.extractLsb' 48 13 = (s.contexts q.ctx).1) :
    (s.loadTte side q c size tag data pa).lookup side va q =
      .ok (some ((s.walkedEntry side q c size tag data pa).translate q.va))
        ((s.loadTte side q c size tag data pa).tlbUse side q) := by
  have injected := State.injectsTlb_of_not_injecting sound side
  have own : (s.walkedEntry side q c size tag data pa).hits s.mmu.pid q (s.contexts q.ctx) = true :=
    (TlbEntry.hits_iff _ _ _ _).2 ⟨rfl, rfl, virtual.symm, (PageSize.same_clear _ _ _).trans (beq_self_eq_true _),
      .inr (State.walkContext_answers context)⟩
  have empty (t : TagAccess) : (s.setTag side t).tlbMatches side q = [] := (State.tlbMatches_setTag _ _ _ _).trans miss
  rw [State.loadTte_eq]
  exact State.lookup_withEntry va (congrArg Prod.fst injected) (congrArg Prod.snd injected)
    ((State.setTag_answers _ _ _ _ _).trans own) fun i answered =>
      absurd answered (Bool.eq_false_iff.1 (State.tlbMatches_eq_nil.1 (empty _) i))

namespace WalkReads

section
variable {s : State} {side : Side} {q : Request} {i : BitVec 2} {c : TsbConfig} {tag data : Word}
  (h : WalkReads s side q i c tag data)
include h

theorem walkEnabled : s.walkEnabled = true := by
  have on := (h.only i).trans (decide_eq_true rfl)
  rw [State.walkEnabled, Bool.or_eq_true, Vector.any_eq_true, Vector.any_eq_true]
  unfold State.tsbSet at on
  split at on
  · exact .inl ⟨i.toNat, i.isLt, on⟩
  · exact .inr ⟨i.toNat, i.isLt, on⟩

theorem searchTsbs_of_once (parallel : Bool) {order : List (BitVec 2)} (once : order.Nodup) (listed : i ∈ order) :
    s.drawn.searchTsbs side q (s.contexts q.ctx).1 parallel order =
      .ok (if tteMatches c (s.contexts q.ctx).1 q tag data then [(c, tag, data)] else []) s.drawn := by
  induction order with
  | nil => cases listed
  | cons j rest ih =>
    obtain ⟨away, once⟩ := List.nodup_cons.1 once
    have enabled : (fileGet (s.drawn.tsbSet (s.contexts q.ctx).1) j).enable = decide (j = i) := h.only j
    rw [State.searchTsbs]
    by_cases here : j = i
    · subst here
      have others : s.drawn.searchTsbs side q (s.contexts q.ctx).1 parallel rest = .ok [] s.drawn :=
        State.searchTsbs_of_none_enabled side q parallel fun k hk =>
          (h.only k).trans (decide_eq_false fun same => away (same ▸ hk))
      have config : fileGet (s.drawn.tsbSet (s.contexts q.ctx).1) j = c := h.config
      rw [enabled, decide_eq_true rfl, config, h.read]
      cases answers : tteMatches c (s.contexts q.ctx).1 q tag data <;> cases parallel <;> simp [answers, others]
    · have later : i ∈ rest := (List.mem_cons.1 listed).resolve_left (Ne.symm here)
      simp [enabled, here, ih once later]

theorem search : s.drawn.searchTsbs side q (s.contexts q.ctx).1 (bitAt s.mmu.hwtw 0) s.tsbOrder =
    .ok (if tteMatches c (s.contexts q.ctx).1 q tag data then [(c, tag, data)] else []) s.drawn :=
  h.searchTsbs_of_once _ (s.tsbOrder_once i).1 (s.tsbOrder_once i).2

/-- A TTE that is not valid answers nothing (R341). -/
theorem walk_of_invalid (invalid : bitAt data 63 = false) :
    s.walk side q = s.drawn.tagTrap side q (if side = .inst then 0x009 else 0x031) := by
  have search := h.search
  rw [tteMatches_of_invalid invalid] at search
  simp only [State.walk, State.walkReads_of_no_error h.checks, search]
  cases side <;> rfl

theorem walk_of_match {size : PageSize} {page : BitVec 27}
    (answers : tteMatches c (s.contexts q.ctx).1 q tag data = true)
    (executable : side = .inst → bitAt data 7 = true) (code : PageSize.ofCode (data.extractLsb' 0 4) = some size)
    (place : s.ttePage c size data = some page) :
    s.walk side q = .ok () (s.drawn.drawn.loadTte side q c size tag data page) := by
  have search := h.search
  rw [answers, if_pos rfl] at search
  have place : s.drawn.ttePage c size data = some page := place
  have permitted : (decide (side = .inst) && !bitAt data 7) = false := by
    cases side <;> simp [executable]
  have clean : s.drawn.checks = [] := h.checks
  simp only [State.walk, State.walkReads_of_no_error h.checks, search, Res.bind_ok, List.length_singleton,
    if_pos Nat.one_lt_two, List.getElem?_cons_zero, permitted, Bool.false_eq_true, if_false, code,
    State.walkReads_of_no_error clean, place]

theorem translate_of_match {size : PageSize} {page : BitVec 27} (va : Word) (miss : s.tlbMatches side q = [])
    (virtual : q.real = false) (sound : s.injecting = false)
    (answers : tteMatches c (s.contexts q.ctx).1 q tag data = true)
    (executable : side = .inst → bitAt data 7 = true) (code : PageSize.ofCode (data.extractLsb' 0 4) = some size)
    (place : s.ttePage c size data = some page) :
    s.translate side va q = .ok ((s.walkedEntry side q c size tag data page).translate q.va)
      ((s.drawn.drawn.loadTte side q c size tag data page).tlbUse side q) := by
  obtain ⟨-, -, -, -, context, -⟩ := (tteMatches_iff code).1 answers
  have again := State.lookup_loadTte (s := s.drawn.drawn) (side := side) (size := size) (data := data) (pa := page) va miss
    virtual sound context
  simp only [State.translate_of_miss va miss, virtual, h.walkEnabled, h.walk_of_match answers executable code place,
    Bool.false_eq_true, if_false, if_true, Res.bind_ok, again]
  rfl

end
end WalkReads

/-- No entry of an array is in error, and software injects none (spec/62_errors_core.md R1586, R1640). -/
theorem State.not_injecting_of_clean {s : State} (clean : s.checksClean = true) : s.checks = [] ∧ s.injecting = false := by
  simp only [State.checksClean, Bool.and_eq_true, List.isEmpty_iff, Bool.not_eq_true'] at clean
  exact clean.1

/-! ### The parts of the statement -/

/-- A trap of the MMU that writes Tag Access (R370) changes nothing else that the program sees. -/
theorem State.tagTrap_records {α : Type} {s : State} {side : Side} {q : Request} {tt : BitVec 9} {r : Res α}
    (trapped : r = s.tagTrap side q tt) : ∃ u, r = .trap tt u ∧ u.tag side = ⟨q.tagPage, s.tagContext q⟩ ∧
      u.dtlb = s.dtlb ∧ u.itlb = s.itlb ∧ u.regs = s.regs ∧ u.mem = s.mem := by
  cases side <;> exact ⟨_, trapped, rfl, rfl, rfl, rfl, rfl⟩

theorem State.walkEnabled_eq_false {s : State}
    (off : ∀ j, (fileGet s.mmu.tsbZero j).enable = false ∧ (fileGet s.mmu.tsbNonzero j).enable = false) :
    s.walkEnabled = false := by
  have entry {f : File 2 TsbConfig} (h : ∀ j, (fileGet f j).enable = false) : f.any (fun c => c.enable) = false := by
    rw [Vector.any_eq_false]
    intro k hk on
    have small : (BitVec.ofNat 2 k).toNat = k := Nat.mod_eq_of_lt hk
    have := h (BitVec.ofNat 2 k)
    simp only [fileGet, small, on] at this
    cases this
  rw [State.walkEnabled, entry fun j => (off j).1, entry fun j => (off j).2]
  rfl

/-- STXA by a register ASI of the MMU that completes in `t` and changes the TLB and the Tag Access register of one side only. -/
def StoresTlb (s : State) (side : Side) (asi : BitVec 8) (rd rs2 : Reg) (t : State) : Prop :=
  exec (.stxa rd 0 (.immAsi asi rs2)) s = .next t ∧
  (if side = .data then t.itlb = s.itlb ∧ t.mmu.itag = s.mmu.itag else t.dtlb = s.dtlb ∧ t.mmu.dtag = s.mmu.dtag) ∧
  t = { s.ringed with dtlb := t.dtlb, itlb := t.itlb, mmu := { s.mmu with itag := t.mmu.itag, dtag := t.mmu.dtag },
                      pc := s.npc, npc := s.npc + 4 }

section
variable {s : State} {side : Side} {dataIn demap : BitVec 8} (rd : Reg) (hyper : s.hpstate.hpriv = true)
  (clean : s.checksClean = true) (listed : (side, dataIn, demap) ∈ [(Side.data, 0x5C, 0x5F), (Side.inst, 0x54, 0x57)])
include hyper clean listed

theorem storesTlb_dataIn {size : PageSize} (code : PageSize.ofCode ((s.reg rd).extractLsb' 0 4) = some size) :
    StoresTlb s side dataIn rd 0 (({ s.ringed with pc := s.npc, npc := s.npc + 4 } : State).withEntry side (s.tag side).va
      (s.ringed.storedEntry side false size (s.reg rd))) := by
  have access := accessesRegister_of_hyper (rs2 := 0) (a := 0) hyper (asiWrite_dataIn listed s (s.reg rd)).1 rfl
    (by decide) (by decide)
  have written (t : State) : t.asiWrite dataIn 0 (s.reg rd) = writes _ :=
    (asiWrite_dataIn listed t (s.reg rd)).2.trans (congrArg some (State.storeTlb_automatic code))
  obtain ⟨t, ran, rfl, -⟩ :=
    access.stores clean (written s) (written s.ringed) (by cases side <;> rfl) (by cases side <;> rfl)
  cases side <;> exact ⟨ran, ⟨rfl, rfl⟩, rfl⟩

theorem storesTlb_demapAll {rs2 : Reg} (all : s.reg rs2 = 0x80) :
    StoresTlb s side demap rd rs2 (({ s.ringed with pc := s.npc, npc := s.npc + 4 } : State).demap side 0x80) := by
  have written (t : State) : t.asiWrite demap 0x80 (s.reg rd) = writes (t.demap side 0x80) :=
    (asiWrite_demapAll listed t (s.reg rd)).2
  have access := accessesRegister_of_hyper (a := 0x80) hyper (asiWrite_demapAll listed s 0).1 (congrArg BitVec.toNat all)
    (by decide) (by decide)
  obtain ⟨t, ran, rfl, -⟩ :=
    access.stores clean (written s) (written s.ringed) (by cases side <;> rfl) (by cases side <;> rfl)
  cases side <;> exact ⟨ran, ⟨rfl, rfl⟩, rfl⟩

end

/-! ### What a tablewalk leaves unchanged (R344, R370) -/

/-- An operation that writes only the TLB and the Tag Access register of one side, and draws free values. -/
def OnlySide (side : Side) (s u : State) : Prop :=
  match side with
  | .inst => ∃ itlb itag oracle, u = { s with itlb := itlb, mmu := { s.mmu with itag := itag }, oracle := oracle }
  | .data => ∃ dtlb dtag oracle, u = { s with dtlb := dtlb, mmu := { s.mmu with dtag := dtag }, oracle := oracle }

theorem OnlySide.trans {side : Side} {s t u : State} (h : OnlySide side s t) (h' : OnlySide side t u) : OnlySide side s u := by
  cases side with
  | inst =>
    obtain ⟨_, _, _, rfl⟩ := h
    obtain ⟨_, _, _, rfl⟩ := h'
    exact ⟨_, _, _, rfl⟩
  | data =>
    obtain ⟨_, _, _, rfl⟩ := h
    obtain ⟨_, _, _, rfl⟩ := h'
    exact ⟨_, _, _, rfl⟩

theorem OnlySide.frame {side : Side} {s u : State} (h : OnlySide side s u) :
    (if decide (side = .inst) = true then u.dtlb = s.dtlb ∧ u.mmu.dtag = s.mmu.dtag
      else u.itlb = s.itlb ∧ u.mmu.itag = s.mmu.itag) ∧
    u = { s with dtlb := u.dtlb, itlb := u.itlb, mmu := { s.mmu with itag := u.mmu.itag, dtag := u.mmu.dtag },
                 oracle := u.oracle } := by
  cases side with
  | inst =>
    obtain ⟨_, _, _, rfl⟩ := h
    exact ⟨⟨rfl, rfl⟩, rfl⟩
  | data =>
    obtain ⟨_, _, _, rfl⟩ := h
    exact ⟨⟨rfl, rfl⟩, rfl⟩

theorem State.onlySide_drawn (s : State) (side : Side) : OnlySide side s s.drawn := by
  cases side <;> exact ⟨_, _, _, rfl⟩

theorem State.onlySide_setTag (s : State) (side : Side) (t : TagAccess) : OnlySide side s (s.setTag side t) := by
  cases side <;> exact ⟨_, _, _, rfl⟩

theorem State.onlySide_withEntry (s : State) (side : Side) (page : BitVec 35) (new : TlbEntry) :
    OnlySide side s (s.withEntry side page new) := by
  cases side <;> exact ⟨_, _, _, rfl⟩

theorem State.onlySide_tlbUse (s : State) (side : Side) (q : Request) : OnlySide side s (s.tlbUse side q) := by
  cases side <;> exact ⟨_, _, _, rfl⟩

theorem State.onlySide_walk (s : State) (side : Side) (q : Request) (c : TsbConfig) (size : PageSize) (tag data : Word)
    (pa : BitVec 27) : OnlySide side s ((s.drawn.drawn.loadTte side q c size tag data pa).tlbUse side q) := by
  rw [State.loadTte_eq]
  exact (s.onlySide_drawn side).trans <| (s.drawn.onlySide_drawn side).trans <| (State.onlySide_setTag _ _ _).trans <|
    (State.onlySide_withEntry _ _ _ _).trans (State.onlySide_tlbUse _ _ _)

end Sys2Proof.Machine

namespace Sys2Proof
open Machine

/-- Settles O53: a store or a TTE that is loaded demaps whatever it would answer together with (`tlbWrite_hits`), and the
tablewalk by the one TTE that it reads (`WalkReads`). -/
theorem storedPagesTranslateUntilDemapped : Obligations.StoredPagesTranslateUntilDemapped := by
  refine ⟨fun s side dataIn demap listed hyper clean => ?_, fun s side va q miss => ?_⟩
  case refine_1 =>
    have sound := (State.not_injecting_of_clean clean).2
    refine ⟨fun rd va width context valid codes inPage autodemap => ?_, fun rd rs2 all => ?_⟩
    · obtain ⟨size, code, rfl⟩ := PageSize.ofCode_of_width codes
      obtain ⟨u, answer⟩ := State.lookup_stored (s := { s.ringed with pc := s.npc, npc := s.npc + 4 }) (side := side)
        sound context valid inPage autodemap
      exact ⟨_, u, storesTlb_dataIn rd hyper clean listed code, by cases side <;> rfl, answer⟩
    · exact ⟨_, storesTlb_demapAll rd hyper clean listed all, fun va q => State.lookup_demapAll _ _ va q⟩
  case refine_2 =>
    intro inst context traps
    refine ⟨fun real => State.tagTrap_records (s := s) ?_, fun virtual off => State.tagTrap_records (s := s) ?_, fun i => ?_⟩
    · simp only [State.translate_of_miss va miss, real, if_true]
      cases side <;> rfl
    · simp only [State.translate_of_miss va miss, virtual, State.walkEnabled_eq_false off, Bool.false_eq_true, if_false]
      cases side <;> rfl
    · intro set c n pointer tag data virtual clean only memory plain uniform settled
      obtain ⟨checks, sound⟩ := State.not_injecting_of_clean clean
      have address : (tsbPointer q.page c).toNat = pointer := toNat_tsbPointer q c
      have read := State.readTte_plain (s := s.drawn) (pa := tsbPointer q.page c) side q (address ▸ memory) (address ▸ plain)
        uniform (address ▸ settled)
      rw [address] at read
      have reads : WalkReads s side q i c tag data := ⟨checks, rfl, only, read⟩
      refine ⟨fun invalid => State.tagTrap_records (s := s.drawn) ?_, fun width page => ?_⟩
      · simp only [State.translate_of_miss va miss, virtual, reads.walkEnabled, reads.walk_of_invalid invalid]
        cases side <;> rfl
      · intro real inPage fits valid executable version reserved codes large context named place
        obtain ⟨size, code, rfl⟩ := PageSize.ofCode_of_width codes
        have inside : inPage = 2 ^ size.shift := congrArg (2 ^ ·) (Nat.add_sub_cancel_left 13 _)
        have holds (j : BitVec 2) : fits j ↔ (fileGet s.mmu.realRange j).Holds size real := by
          simp only [fits, inside, RealRange.Holds]
        have answers : tteMatches c (s.contexts q.ctx).1 q tag data = true :=
          (tteMatches_iff code).2
            ⟨valid, version, reserved, Nat.le_of_add_le_add_left large, context, (tteTag_iff size).2 named⟩
        have loaded : s.ttePage c size data = some (size.clear page) := by
          obtain ⟨physical, rfl⟩ | ⟨ranges, upper, j, fit, first, rfl⟩ := place
          · exact State.ttePage_physical physical size data
          · exact State.ttePage_real ranges upper ((holds j).1 fit) fun k below h => first k below ((holds k).2 h)
        have translated := reads.translate_of_match va miss virtual sound answers
          (fun isInst => executable (decide_eq_true isInst)) code loaded
        rw [inside, ← s.walkedEntry_pa side q c size tag data page]
        exact ⟨_, translated, (s.onlySide_walk side q c size tag data (size.clear page)).frame⟩

end Sys2Proof

namespace Sys2Proof.Machine

/-! ### Lines whose reads change no data (spec/63_errors_l2_dram.md R1723) -/

/-- The right check bits name no nibble in error (spec/67_ecc_jtag.md R2113). -/
theorem qecNibble_zero : qecNibble 0 = none := by decide +kernel

/-- Signalling ECC names none either (spec/67_ecc_jtag.md R2123). -/
theorem qecNibble_poison : qecNibble poisonSyndrome = none := by decide +kernel

theorem MemLine.keeps_none : MemLine.none.Keeps := by
  refine ⟨rfl, fun q n e found => ?_⟩
  rw [MemLine.none, fileGet_fileOf, qecNibble_zero] at found
  cases found

theorem MemLine.Keeps.tidy {l : MemLine} (h : l.Keeps) : l.tidy.Keeps := by
  unfold MemLine.tidy
  split <;> [exact MemLine.keeps_none; exact h]

/-- Check bits that name no data nibble keep a line as it is, whichever chunks they are given to. -/
theorem MemLine.Keeps.withSyndromes {l : MemLine} (h : l.Keeps) (chunks : BitVec 4) {mask : BitVec 16}
    (names : qecNibble mask = Option.none) : (l.withSyndromes chunks mask).Keeps := by
  refine ⟨h.1, List.foldlRecOn _ _
    (motive := fun (f : File 2 (BitVec 16)) => ∀ q n e, qecNibble (fileGet f q) = some (n, e) → 32 ≤ n) h.2 ?_⟩
  intro f hf k _ q n e found
  split at found
  · by_cases same : q = BitVec.ofNat 2 k
    · rw [same, fileGet_fileSet, names] at found
      cases found
    · exact hf q n e (fileGet_fileSet_ne f mask same ▸ found)
  · exact hf q n e found

theorem mem_of_sparseFind {β : Type} {m : List (Nat × β)} {a : Nat} {v : β} (h : sparseFind m a = some v) : (a, v) ∈ m := by
  induction m with
  | nil => cases h
  | cons c rest ih =>
    unfold sparseFind at h
    split at h
    · rename_i same
      cases h
      exact same ▸ List.mem_cons_self
    · exact List.mem_cons_of_mem _ (ih h)

theorem mem_of_mem_sparsePut {β : Type} [DecidableEq β] {d v : β} {m : List (Nat × β)} {a : Nat} {x : Nat × β}
    (h : x ∈ sparsePut d m a v) : x = (a, v) ∨ x ∈ m := by
  unfold sparsePut at h
  split at h
  · exact .inr (List.mem_filter.1 h).1
  · exact mem_sparseInsert h

/-- What is known of a line, listed or not, where no read changes data. -/
theorem State.KeepsData.line {s : State} (h : s.KeepsData) (pa : Nat) : (s.line pa).Keeps := by
  unfold State.line sparseGet
  cases found : sparseFind s.notData (pa / 64) with
  | none => exact MemLine.keeps_none
  | some l => exact h.2 _ (mem_of_sparseFind found)

theorem State.KeepsData.putLine {s : State} (h : s.KeepsData) (pa : Nat) {l : MemLine} (hl : l.Keeps) :
    (s.putLine pa l).KeepsData := by
  refine ⟨h.1, fun c listed => ?_⟩
  rcases mem_of_mem_sparsePut listed with rfl | before
  · dsimp only
    split
    · exact hl.tidy
    · split <;> exact MemLine.keeps_none
  · exact h.2 c before

/-- A line that keeps its data makes no memory controller correct a data nibble. -/
theorem MemLine.Keeps.miscorrected {s : State} {pa q : Nat} (h : (s.line pa).Keeps) (t : State) (chunk : Nat) :
    t.miscorrected chunk (s.syndrome pa q) = [] := by
  unfold State.miscorrected
  split
  · rfl
  · rename_i found
    exact if_pos (h.2 _ _ _ found)

theorem State.mcuOf_lt (s : State) (pa : Nat) : s.mcuOf pa < 4 := by
  have bank : s.bankOf pa < 8 := BitVec.isLt _
  unfold State.mcuOf
  omega

/-! ### The stores that are left in the buffer -/

/-- The bytes below the stores of the buffer change, but not where those stores write. -/
theorem cancelCells_addrs (m : List Host.Cell) (later : List PendingStore) (cells : List Host.Cell) :
    (cancelCells m later cells).1.map PendingStore.addrs = later.map PendingStore.addrs := by
  induction later generalizing cells with
  | nil => rfl
  | cons p rest ih => simp [cancelCells, ih, PendingStore.addrs]

theorem State.putUnder_addrs (s : State) (cells : List Host.Cell) :
    (s.putUnder cells).undrained.map PendingStore.addrs = s.undrained.map PendingStore.addrs := by
  unfold State.putUnder
  split
  · rfl
  · simp [cancelCells_addrs]

theorem keepPending_sublist (n : Nat) (ps : List PendingStore) : (keepPending n ps).Sublist ps := by
  induction ps generalizing n with
  | nil => exact .refl _
  | cons p rest ih =>
    unfold keepPending
    dsimp only
    split <;> [exact (ih _).cons _; exact (ih _).cons_cons _]

/-! ### What the translation of a data access may change -/

/-- All that the translation of a data access may write: the D-TLB with its Tag Access register, the store buffer, memory with what
is known of its lines, the registers of the chip, the records of errors with their debug events and the reset they ask for, and the
place in the free values. -/
def WalkFrame (s t : State) : Prop :=
  t = { s with dtlb := t.dtlb, mmu := { s.mmu with dtag := t.mmu.dtag }, oracle := t.oracle, csr := t.csr, err := t.err,
               undrained := t.undrained, notData := t.notData, events := t.events, chipReset := t.chipReset, mem := t.mem,
               linkLine := t.linkLine }

theorem WalkFrame.trans {s t u : State} (h : WalkFrame s t) (h' : WalkFrame t u) : WalkFrame s u :=
  Eq.trans h' (congrArg (fun (x : State) =>
    { x with dtlb := u.dtlb, mmu := { x.mmu with dtag := u.mmu.dtag }, oracle := u.oracle, csr := u.csr, err := u.err,
             undrained := u.undrained, notData := u.notData, events := u.events, chipReset := u.chipReset, mem := u.mem,
             linkLine := u.linkLine }) h)

/-- The change from `s` to `t` is one that the translation of a data access may make: it writes nothing else, it adds no store to
the buffer, and where the state keeps its data that stays so, with memory and the stores that remain as they were. `BackgroundTo`,
which covers whatever happens behind the registers, lets more fields change and says nothing of the data. -/
structure WalksTo (s t : State) : Prop where
  frame : WalkFrame s t
  addrs : (t.undrained.map PendingStore.addrs).Sublist (s.undrained.map PendingStore.addrs)
  keeps : s.KeepsData → t.KeepsData ∧ t.undrained.Sublist s.undrained ∧ t.mem = s.mem

namespace WalksTo

theorem refl (s : State) : WalksTo s s := ⟨rfl, .refl _, fun k => ⟨k, .refl _, rfl⟩⟩

theorem trans {s t u : State} (h : WalksTo s t) (h' : WalksTo t u) : WalksTo s u where
  frame := h.frame.trans h'.frame
  addrs := h'.addrs.trans h.addrs
  keeps k := by
    obtain ⟨kept, stores, mem⟩ := h.keeps k
    obtain ⟨kept', stores', mem'⟩ := h'.keeps kept
    exact ⟨kept', stores'.trans stores, mem'.trans mem⟩

/-- A change of the D-TLB, of a record or of the place in the free values. -/
theorem ofRecord {s t : State} (frame : WalkFrame s t) (csr : t.csr = s.csr := by rfl) (mem : t.mem = s.mem := by rfl)
    (stores : t.undrained = s.undrained := by rfl) (lines : t.notData = s.notData := by rfl) : WalksTo s t := by
  refine ⟨frame, by rw [stores], fun k => ⟨?_, by rw [stores], mem⟩⟩
  simpa only [State.KeepsData, State.InjectsNone, State.csrGet, lines, csr] using k

/-- A change that is made only where some read may change data. -/
theorem ofNotKeeping {s t : State} (moves : ¬s.KeepsData) (frame : WalkFrame s t)
    (addrs : t.undrained.map PendingStore.addrs = s.undrained.map PendingStore.addrs) : WalksTo s t :=
  ⟨frame, by rw [addrs], fun k => absurd k moves⟩

section
variable {s t : State} (h : WalksTo s t)
include h

theorem ite {u : State} (p : Prop) [Decidable p] (h' : WalksTo s u) : WalksTo s (if p then t else u) := by
  split <;> assumption

/-- A sequence of changes, one for each entry of a list. -/
theorem foldl {α : Type} {f : State → α → State} (hf : ∀ u a, WalksTo s u → WalksTo s (f u a)) (l : List α) :
    WalksTo s (l.foldl f t) :=
  List.foldlRecOn l f h fun u hu a _ => hf u a hu

/-! #### Registers of the chip -/

/-- A register of the chip that is none of those which inject errors into DRAM. -/
theorem csrSet {pa : Nat} (other : pa % 0x1000 ≠ 0x290) (v : Word) : WalksTo s (t.csrSet pa v) := by
  refine h.trans ⟨rfl, .refl _, fun k => ⟨⟨fun j hj => ?_, k.2⟩, .refl _, rfl⟩⟩
  rw [State.csrGet_csrSet_ne]
  · exact k.1 j hj
  · rw [csrDramErrorInject]
    omega

/-- A register of one of the L2 banks. -/
theorem csrSetBank {base : Nat} (aligned : base % 64 = 0) (b : Nat) (v : Word) : WalksTo s (t.csrSet (base + 64 * b) v) :=
  h.csrSet (by omega) v

/-- A register of one of the memory controllers. -/
theorem csrSetMcu {base : Nat} (other : base % 0x1000 ≠ 0x290) (k : Nat) (v : Word) :
    WalksTo s (t.csrSet (base + 0x1000 * k) v) :=
  h.csrSet (by omega) v

/-! #### Records of errors -/

theorem drawn : WalksTo s t.drawn := h.trans (.ofRecord rfl)

theorem err (e : ErrRegs) : WalksTo s { t with err := e } := h.trans (.ofRecord rfl)

theorem events (e : DebugEvents) : WalksTo s { t with events := e } := h.trans (.ofRecord rfl)

theorem chipReset (r : Option ChipReset) : WalksTo s { t with chipReset := r } := h.trans (.ofRecord rfl)

theorem linkLine (l : Option (Nat × Bool)) : WalksTo s { t with linkLine := l } := h.trans (.ofRecord rfl)

theorem updateClfesr (old : BitVec 16) : WalksTo s (t.updateClfesr old) := (h.err _).ite _ ((h.err _).ite _ h)

theorem recordDesr (k : Nat) (sre : Bool) (errtype : BitVec 5) (addr : BitVec 11) :
    WalksTo s (t.recordDesr k sre errtype addr) := by
  refine .ite (updateClfesr ?_ _) _ h
  exact (h.drawn.ite (t.err.together.isSome = true) h).trans (.ofRecord rfl)

theorem recordDisrupting (k : Nat) (sre : Bool) (errtype : BitVec 5) : WalksTo s (t.recordDisrupting k sre errtype) :=
  (h.drawn.recordDesr _ _ _ _).ite _ h

theorem noteBank (b : Nat) : WalksTo s (t.noteBank b) := (h.events _).ite _ h

theorem noteL2 (pa : Nat) : WalksTo s (t.noteL2 pa) := h.noteBank _

theorem logDram (pa : Nat) (one write fill : Bool) : WalksTo s (t.logDram pa one write fill) :=
  ((h.csrSetBank (by decide) _ _).noteL2 _).ite _
    (((h.drawn.csrSetBank (by decide) _ _).drawn.csrSetBank (by decide) _ _).noteL2 _)

theorem logNotData (pa : Nat) (write : Bool) : WalksTo s (t.logNotData pa write) :=
  ((h.csrSetBank (by decide) _ _).ite _ (h.csrSetBank (by decide) _ _)).noteL2 pa

theorem noteMcu (k : Nat) : WalksTo s (t.noteMcu k) := ((h.csrSetMcu (by decide) _ _).events _).ite _ h

theorem logOutOfBounds (pa : Nat) : WalksTo s (t.logOutOfBounds pa) := (h.csrSetMcu (by decide) _ _).noteMcu _

theorem logMcu (k bit : Nat) (severe : Bool) (y : BitVec 16) (a : Option Nat) : WalksTo s (t.logMcu k bit severe y a) := by
  refine ((h.csrSetMcu (by decide) _ _).noteMcu k).ite _ (noteMcu ?_ k)
  cases a with
  | none => exact h.csrSetMcu (by decide) _ _
  | some a => exact (h.csrSetMcu (by decide) _ _).csrSetMcu (by decide) _ _

theorem reportL2U (pa : Nat) : WalksTo s (t.reportL2U pa) := (h.recordDisrupting _ _ _).ite _ h

theorem reportL2C (pa : Nat) : WalksTo s (t.reportL2C pa) := (h.recordDisrupting _ _ _).ite _ h

/-! #### Errors of the SOC and of the links -/

theorem socSyndrome {reg : Nat} (other : reg % 0x1000 ≠ 0x290) (entries : List Nat) (shift : Nat) (fields : Nat → Word × Word)
    (logged : Word) : WalksTo s (t.socSyndrome reg entries shift fields logged) := by
  unfold State.socSyndrome
  split <;> [exact h; exact h.ite _ (h.drawn.csrSet other _)]

theorem socPacket (asking : Word) : WalksTo s (t.socPacket asking) :=
  h.ite _ ((h.recordDisrupting _ _ _).ite _ ((h.recordDisrupting _ _ _).ite _
    ((h.drawn.recordDisrupting _ _ _).ite _ (h.drawn.recordDisrupting _ _ _))))

theorem socRequest (entries : Word) : WalksTo s (t.socRequest entries) :=
  h.ite _ (((h.csrSet (by decide) _).csrSet (by decide) _).socPacket _)

theorem socErrors (errors : Word) : WalksTo s (t.socErrors errors) := by
  refine h.ite _ (.ite (chipReset (csrSet ?_ (by decide) _) _) _ (socRequest ?_ _)) <;>
    exact (((h.csrSet (by decide) _).socSyndrome (by decide) _ _ _ _).socSyndrome (by decide) _ _ _ _).events _

theorem logLink (k : Nat) (fatal : Bool) : WalksTo s (t.logLink k fatal) := by
  unfold State.logLink
  exact (h.drawn.csrSetMcu (by decide) _ _).drawn.logMcu _ _ _ _ _

theorem countLink (k : Nat) : WalksTo s (t.countLink k) :=
  (h.socErrors _).ite _ (((h.csrSetMcu (by decide) _ _).socErrors _).ite _ (h.csrSetMcu (by decide) _ _))

theorem countCorrected (k : Nat) : WalksTo s (t.countCorrected k) :=
  h.ite _ (((h.csrSetMcu (by decide) _ _).socErrors _).ite _ (h.csrSetMcu (by decide) _ _))

theorem logRetry (k : Nat) (first : BitVec 16) (second : Option (BitVec 16)) : WalksTo s (t.logRetry k first second) :=
  h.csrSetMcu (by decide) _ _

theorem logLocation (k n : Nat) : WalksTo s (t.logLocation k n) := h.ite _ (h.csrSetMcu (by decide) _ _)

theorem logLinked (pa : Nat) : WalksTo s (t.logLinked pa) := by
  unfold State.logLinked
  split
  · exact h
  · rename_i fatal _
    have logged := (h.logLink (t.mcuOf pa) fatal).linkLine none
    exact logged.ite _ (logged.countLink _)

/-! #### Lines of memory with bad data -/

/-- What is known of a line, where the state that the change begins with keeps its data. -/
theorem line (k : s.KeepsData) (pa : Nat) : (t.line pa).Keeps := (h.keeps k).1.line pa

theorem putLine (pa : Nat) {l : MemLine} (hl : s.KeepsData → l.Keeps) : WalksTo s (t.putLine pa l) where
  frame := h.frame.trans rfl
  addrs := h.addrs
  keeps k := by
    obtain ⟨kept, stores, mem⟩ := h.keeps k
    exact ⟨kept.putLine pa (hl k), stores, mem⟩

/-- Bytes below the stores of the buffer change, but none where the state keeps its data. -/
theorem putUnder {cells : List Host.Cell} (nothing : s.KeepsData → cells = []) : WalksTo s (t.putUnder cells) := by
  by_cases empty : cells = []
  · rw [State.putUnder, if_pos empty]
    exact h
  · have frame : WalkFrame t (t.putUnder cells) := by
      rw [State.putUnder, if_neg empty]
      rfl
    exact ⟨h.frame.trans frame, t.putUnder_addrs cells ▸ h.addrs, fun k => absurd (nothing k) empty⟩

/-- Chunks of a line are written to DRAM, with the right check bits where software injects no errors. -/
theorem writeDram (pa : Nat) (chunks : BitVec 4) : WalksTo s (t.writeDram pa chunks) := by
  unfold State.writeDram
  dsimp only
  split
  · exact h
  · split
    · exact h.putLine _ fun k => (h.line k pa).withSyndromes _ qecNibble_zero
    · rename_i injects
      have moves : ¬t.KeepsData := fun k => injects (by simp [k.1 _ (t.mcuOf_lt pa)])
      refine h.trans ?_
      split <;> exact .ofNotKeeping moves rfl rfl

/-- Bytes of a line of DRAM change, but none where the state keeps its data. -/
theorem putDram (pa : Nat) {cells : List Host.Cell} (nothing : s.KeepsData → cells = []) : WalksTo s (t.putDram pa cells) := by
  refine (h.putUnder nothing).ite _ (h.ite _ (h.putLine _ fun k => ⟨?_, (h.line k pa).2⟩))
  rw [nothing k, List.foldl_nil, (h.line k pa).1, List.filter_nil]

theorem evict (pa : Nat) : WalksTo s (t.evict pa) := by
  have out (unknown : Bool) (k : s.KeepsData) :
      MemLine.Keeps { t.line pa with resident := false, marks := 0, dirty := false, unknown := unknown, dram := [] } :=
    ⟨rfl, (h.line k pa).2⟩
  unfold State.evict
  dsimp only
  split
  · exact h.putLine _ (out _)
  · split
    · exact (h.putUnder fun k => (h.line k pa).1).putLine _ (out _)
    · exact (h.putLine _ fun k => (out _ k).withSyndromes _ qecNibble_poison).writeDram _ _

theorem aged (pa : Nat) : WalksTo s (t.aged pa) := h.ite _ ((h.evict pa).ite _ ((h.drawn.evict pa).ite _ h.drawn))

theorem logUncorrectable (pa q bit : Nat) (a : Option Nat) : WalksTo s (t.logUncorrectable pa q bit a) := by
  unfold State.logUncorrectable
  exact (h.logMcu _ _ _ _ _).logRetry _ _ _

/-- A corrected error: the nibble that the controller corrects is one of data only where the state does not keep its data. -/
theorem logCorrected (pa q bit : Nat) (a : Option Nat) : WalksTo s (t.logCorrected pa q bit a) := by
  unfold State.logCorrected
  dsimp only
  split
  · exact h
  · exact (((((h.logLocation _ _).logMcu _ _ _ _ _).putDram _ fun k => (h.line k pa).miscorrected _ _).writeDram _ _).logRetry
      _ _ _).countCorrected _

theorem logMemory (pa : Nat) : WalksTo s (t.logMemory pa) :=
  (h.logOutOfBounds pa).ite _ (.foldl (.foldl (h.logLinked pa) (fun _ _ hu => hu.logUncorrectable ..) _)
    (fun _ _ hu => hu.logCorrected ..) _)

theorem fillLine (pa : Nat) (bad : BitVec 16) (spoilt : Bool) : WalksTo s (t.fillLine pa bad spoilt) :=
  h.ite _ (h.putLine _ fun k => ⟨(h.line k pa).1, (h.line k pa).2⟩)

theorem fillReport (pa : Nat) (bad fixed : BitVec 16) : WalksTo s (t.fillReport pa bad fixed) :=
  have first := h.ite (bad = 0) ((h.logDram pa false false true).reportL2U pa)
  first.ite _ ((first.logDram _ _ _ _).reportL2C _)

theorem storedOrFree (known : Bool) (pa n : Nat) : WalksTo s (t.storedOrFree known pa n).2 := by
  unfold State.storedOrFree
  split <;> [exact h; exact h.drawn.drawn]

theorem waitLine (pa : Nat) : WalksTo s (t.waitLine pa).2 := by
  unfold State.waitLine
  dsimp only
  split
  · exact h.aged pa
  · exact (((h.aged pa).logMemory pa).fillReport _ _ _).fillLine _ _ _

/-! #### The store buffer and the D-TLB -/

/-- A TTE is read below the stores that are still in the buffer, of which some may leave it (spec/20_memory.md R529). -/
theorem globalBytes (pa : Nat) : WalksTo s (t.globalBytes pa).2 := by
  have fewer := keepPending_sublist t.oracle t.undrained
  unfold State.globalBytes
  split
  · exact h
  · exact h.trans ⟨rfl, fewer.map _, fun k => ⟨k, fewer, rfl⟩⟩

theorem setTag (a : TagAccess) : WalksTo s (t.setTag .data a) := h.trans (.ofRecord rfl)

theorem tlbUse (q : Request) : WalksTo s (t.tlbUse .data q) := h.trans (.ofRecord rfl)

theorem loadTte (q : Request) (c : TsbConfig) (size : PageSize) (tag data : Word) (pa : BitVec 27) :
    WalksTo s (t.loadTte .data q c size tag data pa) := h.trans (.ofRecord rfl)

end
end WalksTo

/-! ### The translation of a data access -/

/-- Where a part of an access completes, it has changed no more than a translation may. -/
def Res.Walks {α : Type} (s : State) (x : Res α) : Prop := ∀ a t, x = .ok a t → WalksTo s t

namespace Res.Walks

section
variable {α β : Type} {s t : State}

theorem ok (h : WalksTo s t) (a : α) : (Res.ok a t).Walks s := fun _ _ e => by cases e; exact h

theorem trap (tt : BitVec 9) : (Res.trap tt t : Res α).Walks s := fun _ _ e => nomatch e

theorem refuse (r : Refusal) : (Res.refuse r : Res α).Walks s := fun _ _ e => nomatch e

theorem bind {x : Res α} {k : α → State → Res β} (hx : x.Walks s) (hk : ∀ a u, WalksTo s u → (k a u).Walks s) :
    (x.bind k).Walks s := by
  intro b v e
  obtain ⟨a, u, hu, hv⟩ := Res.bind_eq_ok.1 e
  exact hk a u (hx a u hu) b v hv

theorem ite {x y : Res α} (hx : x.Walks s) (p : Prop) [Decidable p] (hy : y.Walks s) : (if p then x else y).Walks s := by
  split <;> assumption

theorem tagTrap (q : Request) (tt : BitVec 9) : (t.tagTrap .data q tt : Res α).Walks s := .trap tt

theorem walkReads {k : Res α} (hk : k.Walks s) (entries : List (BitVec 3)) : (t.walkReads .data entries k).Walks s := by
  unfold State.walkReads
  split <;> [exact .trap _; exact hk]

variable (h : WalksTo s t)
include h

theorem lookup (va : Word) (q : Request) : (t.lookup .data va q).Walks s := by
  unfold State.lookup
  split
  · exact .ok h _
  · split <;> [exact .trap _; exact .ok (h.tlbUse _) _]
  · exact .ite (.trap _) _ (.ok (h.tlbUse q).drawn _)

theorem badWalk (pa : Nat) (inst : Bool) (tag : State → State) : (t.badWalk pa inst tag).Walks s := by
  unfold State.badWalk
  dsimp only
  split
  · exact .ok (h.waitLine pa) _
  · split
    · split <;> exact .trap _
    · exact .ok (((h.waitLine pa).logNotData _ _).storedOrFree _ _ _) _

theorem readTte (q : Request) (pa : PAddr) : (t.readTte .data q pa).Walks s :=
  .ite (.ok h.drawn.drawn _) _ (.ite (.refuse _) _ (.ite (.ok (h.globalBytes _) _) _
    (.bind (badWalk h _ _ _) fun _ _ hu => .ok hu _)))

theorem searchTsbs (q : Request) (context : BitVec 13) (parallel : Bool) (order : List (BitVec 2)) :
    (t.searchTsbs .data q context parallel order).Walks s := by
  induction order generalizing t with
  | nil => exact .ok h _
  | cons i rest ih =>
    exact .ite (ih h) _ (.bind (readTte h _ _) fun _ _ hu =>
      .ite (ih hu) _ (.ite (.ok hu _) _ (.bind (ih hu) fun _ _ hv => .ok hv _)))

theorem walk (q : Request) : (t.walk .data q).Walks s := by
  refine .walkReads (.bind (searchTsbs h.drawn _ _ _ _) fun found u hu => ?_) _
  dsimp only
  split
  · exact .tagTrap _ _
  · refine .ite (.tagTrap _ _) _ ?_
    split
    · exact .tagTrap _ _
    · refine .walkReads ?_ _
      split
      · exact .tagTrap _ _
      · exact .ok (hu.drawn.loadTte _ _ _ _ _ _) _

theorem translate (va : Word) (q : Request) : (t.translate .data va q).Walks s := by
  refine .bind (lookup h _ _) fun hit u hu => ?_
  cases hit with
  | some _ => exact .ok hu _
  | none =>
    refine .ite (.tagTrap _ _) _ (.ite (.tagTrap _ _) _ (.bind (walk hu _) fun _ v hv =>
      .bind (lookup hv _ _) fun again w hw => ?_))
    cases again with
    | some _ => exact .ok hw _
    | none => exact .tagTrap _ _

theorem routed (r : DataReq) (sp : AsiSpace) (route : Route) : (t.routed r sp route).Walks s := by
  cases route with
  | bypass => exact .ok h _
  | virt | real => exact translate h _ _

end
end Res.Walks

/-- An access that passes its checks has been translated, and the checks after that leave the state alone. -/
theorem State.routed_of_access {s s1 : State} {r : DataReq} {l : Located} (h : s.access r = .ok l s1) :
    ∃ sp t, s.routed r sp (s.route sp) = .ok t s1 := by
  unfold State.access at h
  dsimp only at h
  split at h
  · cases h
  · rename_i sp _
    obtain ⟨t, u, routed, rest⟩ := Res.bind_eq_ok.1 (firstTrap_eq_ok h).1
    split at rest
    · cases rest
    · cases (firstTrap_eq_ok (firstTrap_eq_ok rest).1).1
      exact ⟨sp, t, routed⟩

theorem State.access_walks {s s1 : State} {r : DataReq} {l : Located} (h : s.access r = .ok l s1) : WalksTo s s1 := by
  obtain ⟨sp, t, routed⟩ := State.routed_of_access h
  exact Res.Walks.routed (.refl s) _ _ _ _ _ routed

/-! ### Accesses that are not translated (spec/12_mmu_translation.md R353) -/

/-- A load finds no error in a store buffer without one. -/
theorem State.rawError_of_clean {s : State} (clean : s.undrained.all PendingStore.clean = true) (pa n : Nat) :
    s.rawError pa n = none := by
  unfold State.rawError State.rawHit
  split
  · rfl
  · rename_i p found
    split at found
    · cases found
    · rename_i q first
      have right : q.ecc = 0 := by
        have := List.all_eq_true.1 clean q (List.mem_of_find?_eq_some first)
        simp only [PendingStore.clean, Bool.and_eq_true, beq_iff_eq] at this
        exact this.1
      split at found
      · cases found
        simp [right]
      · cases found

theorem State.bufferError_of_clean {s : State} (clean : s.undrained.all PendingStore.clean = true) (r : DataReq)
    (t : Translation) : s.bufferError r t = none := by
  simp [State.bufferError, State.rawError_of_clean clean]

/-- An atomic to memory is to a cacheable address. -/
theorem ncPage_atomic_bypass {va : Word} (memory : bitAt va 39 = false) : ncPage .atomic (bypass (va.setWidth 48)) = false := by
  have half : bitAt (bypass (va.setWidth 48)).pa 39 = false := by simpa [bypass, bitAt] using memory
  have cp : (bypass (va.setWidth 48)).cp = !bitAt (bypass (va.setWidth 48)).pa 39 := rfl
  simp [ncPage, cp, half]

/-- An access of hyperprivileged mode that is not translated passes every check, where no PA watchpoint is enabled and no store of
the buffer is in error. -/
theorem State.access_of_bypass {s : State} {r : DataReq} {sp : AsiSpace} (hyper : s.hpstate.hpriv = true)
    (mode : s.lsu.mode ≠ 2) (clean : s.undrained.all PendingStore.clean = true) (space : s.space r.asi = some sp)
    (direct : s.route sp = .bypass) (legal : r.legal = true) (faults : sp.noFault = false)
    (cacheable : ncPage r.op (bypass (r.va.setWidth 48)) = false) :
    s.access r = .ok ⟨r.va.toNat % 2 ^ 40, sp.little⟩ s := by
  have level : s.level = .hyper := if_pos hyper
  have unrestricted : s.restricted r.asi = false := by
    unfold State.restricted
    split <;> simp [level]
  have noVaWatch : s.watchFirst r sp .bypass = false := by simp [State.watchFirst, State.vaWatch]
  have noPaWatch (pa : PAddr) : s.paWatch r pa = false := by simp only [State.paWatch, beq_eq_false_iff_ne.2 mode, Bool.false_and]
  have place : ((bypass (r.va.setWidth 48)).pa).toNat = r.va.toNat % 2 ^ 40 := by
    simp [bypass]
  unfold State.access
  simp only [space, direct, unrestricted, noVaWatch, legal, State.routed, Res.bind_ok, State.bufferError_of_clean clean,
    noPaWatch, cacheable, faults, firstTrap_false, firstTrap_nil, ← place]
  simp [bypass, firstTrap]

/-- The space of an implicit access, and of one with ASI_PRIMARY, ASI_SECONDARY or their little-endian forms, in hyperprivileged
mode. -/
theorem State.space_of_plain {s : State} (hyper : s.hpstate.hpriv = true) {asi : Option (BitVec 8)}
    (plain : asi = none ∨ asi = some 0x80 ∨ asi = some 0x81 ∨ asi = some 0x88 ∨ asi = some 0x89) :
    ∃ sp, s.space asi = some sp ∧ s.route sp = .bypass ∧ sp.noFault = false ∧
      sp.little = asi.elim s.pstate.cle (bitAt · 3) := by
  have direct (ctx : Ctx) (little : Bool) : s.route ⟨ctx, false, false, false, false, little⟩ = .bypass := by
    simp [State.route, hyper]
  rcases plain with rfl | rfl | rfl | rfl | rfl <;> exact ⟨_, rfl, direct _ _, rfl, rfl⟩

end Sys2Proof.Machine

namespace Sys2Proof
open Machine

/-- Settles O29: every step of a translation makes only changes that `WalksTo` allows, and the checks around it make none; an access
that is not translated passes them by `State.access_of_bypass`. -/
theorem checksOfAnAccessChangeNoData : Obligations.ChecksOfAnAccessChangeNoData := by
  refine ⟨fun s s1 r l passes => ?_, fun s op asi va n hyper mode clean ops => ?_⟩
  · have walks := State.access_walks passes
    refine ⟨walks.frame, walks.addrs, fun kept => ?_⟩
    obtain ⟨-, stores, mem⟩ := walks.keeps kept
    exact ⟨stores, fun a => by rw [State.readByte, mem, State.readByte]⟩
  · intro little plain
    obtain ⟨sp, space, direct, faults, order⟩ := State.space_of_plain hyper plain
    obtain ⟨ordinary, cacheable⟩ : op.allows .ordinary = true ∧ ncPage op (bypass (va.setWidth 48)) = false := by
      rcases ops with rfl | rfl | rfl | rfl | rfl | rfl | rfl | rfl | rfl | rfl | ⟨rfl, memory⟩
      any_goals exact ⟨rfl, rfl⟩
      exact ⟨rfl, ncPage_atomic_bypass memory⟩
    have legal : (⟨op, asi, va, n⟩ : DataReq).legal = true := by
      rcases plain with rfl | rfl | rfl | rfl | rfl
      · rfl
      all_goals exact ordinary
    have little_eq : sp.little = little := order.trans (by cases asi <;> rfl)
    rw [← little_eq]
    exact State.access_of_bypass hyper mode clean space direct legal faults cacheable

end Sys2Proof

namespace Sys2Proof

/-! ### The parts of joined bit vectors -/

theorem append_eq_iff {a b : Nat} {x : BitVec a} {y : BitVec b} {z : BitVec (a + b)} :
    x ++ y = z ↔ z.extractLsb' b a = x ∧ z.extractLsb' 0 b = y := by
  constructor
  · rintro rfl
    exact ⟨extract_append_high x y, extract_append_low x y⟩
  · rintro ⟨rfl, rfl⟩
    exact BitVec.extractLsb'_append_extractLsb'

theorem append3_eq_iff {a b c : Nat} {x : BitVec a} {y : BitVec b} {u : BitVec c} {z : BitVec (a + (b + c))} :
    x ++ (y ++ u) = z ↔ z.extractLsb' (b + c) a = x ∧ z.extractLsb' c b = y ∧ z.extractLsb' 0 c = u := by
  rw [append_eq_iff, eq_comm (a := z.extractLsb' 0 (b + c)), append_eq_iff, BitVec.extractLsb'_extractLsb'_of_le (by omega),
    BitVec.extractLsb'_extractLsb'_of_le (by omega)]

theorem append4_eq_iff {a b c d : Nat} {x : BitVec a} {y : BitVec b} {u : BitVec c} {v : BitVec d}
    {z : BitVec (a + (b + (c + d)))} :
    x ++ (y ++ (u ++ v)) = z ↔
      z.extractLsb' (b + (c + d)) a = x ∧ z.extractLsb' (c + d) b = y ∧ z.extractLsb' d c = u ∧ z.extractLsb' 0 d = v := by
  rw [append_eq_iff, eq_comm (a := z.extractLsb' 0 (b + (c + d))), append3_eq_iff,
    BitVec.extractLsb'_extractLsb'_of_le (by omega), BitVec.extractLsb'_extractLsb'_of_le (by omega),
    BitVec.extractLsb'_extractLsb'_of_le (by omega)]

theorem bitOf_eq_false {b : BitVec 1} : bitOf b = false ↔ b = 0 := by revert b; decide

theorem bitOf_eq_true {b : BitVec 1} : bitOf b = true ↔ b = 1 := beq_iff_eq

@[simp] theorem bitFrom_bitOf (b : BitVec 1) : bitFrom (bitOf b) = b := by revert b; decide

/-! ### A condition is read from its own bits alone (spec/30_encoding.md R627 to R629) -/

theorem ICond.ofBits_eq_iff {b : BitVec 4} {c : ICond} : ICond.ofBits b = c ↔ b = c.bits := by
  constructor
  · rintro rfl; revert b; decide
  · rintro rfl; exact ICond.ofBits_bits c

theorem ICond.bits_ofBits (b : BitVec 4) : (ICond.ofBits b).bits = b := (ICond.ofBits_eq_iff.1 rfl).symm

theorem FCond.ofBits_eq_iff {b : BitVec 4} {c : FCond} : FCond.ofBits b = c ↔ b = c.bits := by
  constructor
  · rintro rfl; revert b; decide
  · rintro rfl; exact FCond.ofBits_bits c

theorem FCond.bits_ofBits (b : BitVec 4) : (FCond.ofBits b).bits = b := (FCond.ofBits_eq_iff.1 rfl).symm

theorem RCond.ofBits_eq_iff {b : BitVec 3} {c : RCond} : RCond.ofBits b = some c ↔ b = c.bits := by
  constructor
  · revert b c; decide
  · rintro rfl; exact RCond.ofBits_bits c

theorem ICC.ofBits_eq_iff {b : BitVec 2} {c : ICC} : ICC.ofBits b = some c ↔ b = c.bits := by
  constructor
  · revert b c; decide
  · rintro rfl; exact ICC.ofBits_bits c

theorem CondSel.ofBits_eq_iff {sel : BitVec 3} {b : BitVec 4} {c : CondSel} :
    CondSel.ofBits sel b = some c ↔ sel = c.selBits ∧ b = c.condBits := by
  constructor
  · intro h
    unfold CondSel.ofBits at h
    split at h
    case isTrue fp =>
      cases h
      exact ⟨(append_eq_iff.2 ⟨fp, rfl⟩).symm, FCond.ofBits_eq_iff.1 rfl⟩
    case isFalse int =>
      obtain ⟨cc, hcc, rfl⟩ := Option.map_eq_some_iff.1 h
      refine ⟨(append_eq_iff.2 ⟨?_, ICC.ofBits_eq_iff.1 hcc⟩).symm, ICond.ofBits_eq_iff.1 rfl⟩
      exact bitOf_eq_true.1 (Bool.eq_true_of_not_eq_false (mt bitOf_eq_false.1 int))
  · rintro ⟨rfl, rfl⟩
    exact CondSel.ofBits_bits c

/-! ### An operand is read from its own bits alone (R622, R631, R632, R635, R665 to R667) -/

theorem ifZero_eq_ok {empty : Bool} {i j : Instr} : ifZero empty i = .ok j ↔ empty = true ∧ i = j := by
  cases empty <;> simp [ifZero]

theorem ifSome_eq_ok {α : Type} {o : Option α} {k : α → Decoded} {i : Instr} :
    ifSome o k = .ok i ↔ ∃ a, o = some a ∧ k a = .ok i := by
  cases o <;> simp [ifSome]

section
variable {low : BitVec 14} {r : Reg}

theorem RegImm.exists {p : RegImm → Prop} : (∃ o, p o) ↔ (∃ r, p (.reg r)) ∨ ∃ v, p (.imm v) :=
  ⟨fun | ⟨.reg r, h⟩ => .inl ⟨r, h⟩ | ⟨.imm v, h⟩ => .inr ⟨v, h⟩, fun | .inl ⟨_, h⟩ => ⟨_, h⟩ | .inr ⟨_, h⟩ => ⟨_, h⟩⟩

theorem RegImm.bits_reg_eq_iff : (RegImm.reg r).bits = low ↔ iBit low = false ∧ mid8Of low = 0 ∧ rs2Of low = r :=
  append3_eq_iff.trans (and_congr_left' bitOf_eq_false.symm)

theorem RegImm.bits_imm_eq_iff {v : BitVec 13} : (RegImm.imm v).bits = low ↔ iBit low = true ∧ simm13Of low = v :=
  append_eq_iff.trans (and_congr_left' bitOf_eq_true.symm)

theorem withRegImm_eq_ok {k : RegImm → Instr} {i : Instr} :
    withRegImm low k = .ok i ↔ ∃ o : RegImm, o.bits = low ∧ k o = i := by
  cases h : iBit low <;> simp [withRegImm, ifZero_eq_ok, RegImm.exists, RegImm.bits_reg_eq_iff, RegImm.bits_imm_eq_iff, h,
    and_assoc]

theorem Shift32.exists {p : Shift32 → Prop} : (∃ c, p c) ↔ (∃ r, p (.reg r)) ∨ ∃ n, p (.imm n) :=
  ⟨fun | ⟨.reg r, h⟩ => .inl ⟨r, h⟩ | ⟨.imm n, h⟩ => .inr ⟨n, h⟩, fun | .inl ⟨_, h⟩ => ⟨_, h⟩ | .inr ⟨_, h⟩ => ⟨_, h⟩⟩

theorem Shift32.bits_reg_eq_iff : (Shift32.reg r).bits = low ↔
    iBit low = false ∧ xBit low = false ∧ low.extractLsb' 5 7 = 0 ∧ rs2Of low = r :=
  append4_eq_iff.trans (and_congr bitOf_eq_false.symm (and_congr_left' bitOf_eq_false.symm))

theorem Shift32.bits_imm_eq_iff {n : BitVec 5} : (Shift32.imm n).bits = low ↔
    iBit low = true ∧ xBit low = false ∧ low.extractLsb' 5 7 = 0 ∧ low.extractLsb' 0 5 = n :=
  append4_eq_iff.trans (and_congr bitOf_eq_true.symm (and_congr_left' bitOf_eq_false.symm))

theorem Shift64.exists {p : Shift64 → Prop} : (∃ c, p c) ↔ (∃ r, p (.reg r)) ∨ ∃ n, p (.imm n) :=
  ⟨fun | ⟨.reg r, h⟩ => .inl ⟨r, h⟩ | ⟨.imm n, h⟩ => .inr ⟨n, h⟩, fun | .inl ⟨_, h⟩ => ⟨_, h⟩ | .inr ⟨_, h⟩ => ⟨_, h⟩⟩

theorem Shift64.bits_reg_eq_iff : (Shift64.reg r).bits = low ↔
    iBit low = false ∧ xBit low = true ∧ low.extractLsb' 5 7 = 0 ∧ rs2Of low = r :=
  append4_eq_iff.trans (and_congr bitOf_eq_false.symm (and_congr_left' bitOf_eq_true.symm))

theorem Shift64.bits_imm_eq_iff {n : BitVec 6} : (Shift64.imm n).bits = low ↔
    iBit low = true ∧ xBit low = true ∧ low.extractLsb' 6 6 = 0 ∧ low.extractLsb' 0 6 = n :=
  append4_eq_iff.trans (and_congr bitOf_eq_true.symm (and_congr_left' bitOf_eq_true.symm))

/-- The count of a shift, whose `x` bit says of how many bits it is. -/
theorem shift_eq_ok {k32 : Shift32 → Instr} {k64 : Shift64 → Instr} {i : Instr} :
    (if xBit low then withShift64 low k64 else withShift32 low k32) = .ok i ↔
      (∃ c : Shift32, c.bits = low ∧ k32 c = i) ∨ ∃ c : Shift64, c.bits = low ∧ k64 c = i := by
  cases x : xBit low <;> cases h : iBit low <;>
    simp [withShift32, withShift64, ifZero_eq_ok, Shift32.exists, Shift32.bits_reg_eq_iff, Shift32.bits_imm_eq_iff,
      Shift64.exists, Shift64.bits_reg_eq_iff, Shift64.bits_imm_eq_iff, x, h, and_assoc]

theorem altAddrOf_eq_iff {a : AltAddr} : altAddrOf low = a ↔ a.bits = low := by
  constructor
  · rintro rfl
    unfold altAddrOf
    split
    case isTrue asiReg => exact append_eq_iff.2 ⟨bitOf_eq_true.1 asiReg, rfl⟩
    case isFalse immAsi => exact append3_eq_iff.2 ⟨bitOf_eq_false.1 (Bool.eq_false_of_not_eq_true immAsi), rfl, rfl⟩
  · rintro rfl
    exact altAddrOf_bits a

theorem CasAsi.exists {p : CasAsi → Prop} : (∃ a, p a) ↔ (∃ asi, p (.immAsi asi)) ∨ p .asiReg :=
  ⟨fun | ⟨.immAsi a, h⟩ => .inl ⟨a, h⟩ | ⟨.asiReg, h⟩ => .inr h, fun | .inl ⟨_, h⟩ => ⟨_, h⟩ | .inr h => ⟨_, h⟩⟩

theorem CasAsi.bits_immAsi_eq_iff {asi : BitVec 8} :
    CasAsi.bits r (.immAsi asi) = low ↔ iBit low = false ∧ mid8Of low = asi ∧ rs2Of low = r :=
  append3_eq_iff.trans (and_congr_left' bitOf_eq_false.symm)

theorem CasAsi.bits_asiReg_eq_iff : CasAsi.bits r .asiReg = low ↔ iBit low = true ∧ mid8Of low = 0 ∧ rs2Of low = r :=
  append3_eq_iff.trans (and_congr_left' bitOf_eq_true.symm)

theorem withCasAsi_eq_ok {k : CasAsi → Reg → Instr} {i : Instr} :
    withCasAsi low k = .ok i ↔ ∃ r a, CasAsi.bits r a = low ∧ k a r = i := by
  cases h : iBit low <;> simp [withCasAsi, ifZero_eq_ok, CasAsi.exists, CasAsi.bits_immAsi_eq_iff, CasAsi.bits_asiReg_eq_iff, h,
    and_assoc]

theorem RegImm11.exists {p : RegImm11 → Prop} : (∃ o, p o) ↔ (∃ r, p (.reg r)) ∨ ∃ v, p (.imm v) :=
  ⟨fun | ⟨.reg r, h⟩ => .inl ⟨r, h⟩ | ⟨.imm v, h⟩ => .inr ⟨v, h⟩, fun | .inl ⟨_, h⟩ => ⟨_, h⟩ | .inr ⟨_, h⟩ => ⟨_, h⟩⟩

theorem RegImm11.bits_reg_eq_iff {cc : BitVec 2} : RegImm11.bits cc (.reg r) = low ↔
    iBit low = false ∧ low.extractLsb' 11 2 = cc ∧ low.extractLsb' 5 6 = 0 ∧ rs2Of low = r :=
  append4_eq_iff.trans (and_congr_left' bitOf_eq_false.symm)

theorem RegImm11.bits_imm_eq_iff {cc : BitVec 2} {v : BitVec 11} : RegImm11.bits cc (.imm v) = low ↔
    iBit low = true ∧ low.extractLsb' 11 2 = cc ∧ low.extractLsb' 0 11 = v :=
  append3_eq_iff.trans (and_congr_left' bitOf_eq_true.symm)

theorem decodeMovcc_eq_ok {rd rs1 : Reg} {i : Instr} : decodeMovcc rd rs1 low = .ok i ↔
    ∃ c o, c.selBits.extractLsb' 2 1 ++ c.condBits = rs1 ∧ RegImm11.bits (c.selBits.extractLsb' 0 2) o = low ∧
      .movcc rd c o = i := by
  have rs1_iff (c : CondSel) : c.selBits.extractLsb' 2 1 ++ c.condBits = rs1 ↔
      rs1.extractLsb' 4 1 = c.selBits.extractLsb' 2 1 ∧ rs1.extractLsb' 0 4 = c.condBits := append_eq_iff
  have sel_iff (c : CondSel) : rs1.extractLsb' 4 1 ++ low.extractLsb' 11 2 = c.selBits ↔
      rs1.extractLsb' 4 1 = c.selBits.extractLsb' 2 1 ∧ low.extractLsb' 11 2 = c.selBits.extractLsb' 0 2 :=
    append_eq_iff.trans (and_congr eq_comm eq_comm)
  cases h : iBit low <;> simp [decodeMovcc, ifZero_eq_ok, ifSome_eq_ok, CondSel.ofBits_eq_iff, sel_iff, rs1_iff, RegImm11.exists,
    RegImm11.bits_reg_eq_iff, RegImm11.bits_imm_eq_iff, h, and_assoc, and_left_comm]

theorem RegImm10.exists {p : RegImm10 → Prop} : (∃ o, p o) ↔ (∃ r, p (.reg r)) ∨ ∃ v, p (.imm v) :=
  ⟨fun | ⟨.reg r, h⟩ => .inl ⟨r, h⟩ | ⟨.imm v, h⟩ => .inr ⟨v, h⟩, fun | .inl ⟨_, h⟩ => ⟨_, h⟩ | .inr ⟨_, h⟩ => ⟨_, h⟩⟩

theorem RegImm10.bits_reg_eq_iff {rc : BitVec 3} : RegImm10.bits rc (.reg r) = low ↔
    iBit low = false ∧ low.extractLsb' 10 3 = rc ∧ low.extractLsb' 5 5 = 0 ∧ rs2Of low = r :=
  append4_eq_iff.trans (and_congr_left' bitOf_eq_false.symm)

theorem RegImm10.bits_imm_eq_iff {rc : BitVec 3} {v : BitVec 10} : RegImm10.bits rc (.imm v) = low ↔
    iBit low = true ∧ low.extractLsb' 10 3 = rc ∧ low.extractLsb' 0 10 = v :=
  append3_eq_iff.trans (and_congr_left' bitOf_eq_true.symm)

theorem decodeMovr_eq_ok {rd rs1 : Reg} {i : Instr} :
    decodeMovr rd rs1 low = .ok i ↔ ∃ c o, RegImm10.bits c.bits o = low ∧ .movr rd rs1 c o = i := by
  cases h : iBit low <;> simp [decodeMovr, ifZero_eq_ok, ifSome_eq_ok, RCond.ofBits_eq_iff, RegImm10.exists,
    RegImm10.bits_reg_eq_iff, RegImm10.bits_imm_eq_iff, h, and_assoc]

theorem TrapNum.exists {p : TrapNum → Prop} : (∃ o, p o) ↔ (∃ r, p (.reg r)) ∨ ∃ n, p (.imm n) :=
  ⟨fun | ⟨.reg r, h⟩ => .inl ⟨r, h⟩ | ⟨.imm n, h⟩ => .inr ⟨n, h⟩, fun | .inl ⟨_, h⟩ => ⟨_, h⟩ | .inr ⟨_, h⟩ => ⟨_, h⟩⟩

theorem TrapNum.bits_reg_eq_iff {cc : BitVec 2} : TrapNum.bits cc (.reg r) = low ↔
    iBit low = false ∧ low.extractLsb' 11 2 = cc ∧ low.extractLsb' 5 6 = 0 ∧ rs2Of low = r :=
  append4_eq_iff.trans (and_congr_left' bitOf_eq_false.symm)

theorem TrapNum.bits_imm_eq_iff {cc : BitVec 2} {n : BitVec 8} : TrapNum.bits cc (.imm n) = low ↔
    iBit low = true ∧ low.extractLsb' 11 2 = cc ∧ low.extractLsb' 8 3 = 0 ∧ low.extractLsb' 0 8 = n :=
  append4_eq_iff.trans (and_congr_left' bitOf_eq_true.symm)

theorem decodeTcc_eq_ok {rd rs1 : Reg} {i : Instr} : decodeTcc rd rs1 low = .ok i ↔
    ∃ c cc o, 0#1 ++ c.bits = rd ∧ TrapNum.bits cc.bits o = low ∧ .tcc c cc rs1 o = i := by
  have rd_iff (c : ICond) : 0#1 ++ c.bits = rd ↔ rd.extractLsb' 4 1 = 0 ∧ ICond.ofBits (rd.extractLsb' 0 4) = c :=
    append_eq_iff.trans (and_congr_right' ICond.ofBits_eq_iff.symm)
  cases h : iBit low <;> simp [decodeTcc, ite_eq_iff, ifZero_eq_ok, ifSome_eq_ok, ICC.ofBits_eq_iff, rd_iff, TrapNum.exists,
    TrapNum.bits_reg_eq_iff, TrapNum.bits_imm_eq_iff, h, and_assoc]
end

/-! ### A word is that of the instruction it decodes to

The proofs unfold `encode` by `encode.eq_def`: its equations, one for each of 340 rows, are costly to make in every proof. -/

/-- A decoder's answer for the word `w`, if it is an instruction, is one whose word is `w`. -/
def ReadsBack (w : Word32) (d : Decoded) : Prop := ∀ i, d = .ok i → encode i = w

section
variable {w : Word32} {low : BitVec 14}

@[simp] theorem readsBack_error (e : DecodeError) : ReadsBack w (.error e) := fun _ h => nomatch h

@[simp] theorem readsBack_ok (i : Instr) : ReadsBack w (.ok i) ↔ encode i = w :=
  ⟨fun h => h i rfl, fun h _ e => Except.ok.inj e ▸ h⟩

@[simp] theorem readsBack_ite (p : Prop) [Decidable p] (d e : Decoded) :
    ReadsBack w (if p then d else e) ↔ (p → ReadsBack w d) ∧ (¬p → ReadsBack w e) := by
  by_cases h : p <;> simp [h]

@[simp] theorem readsBack_ifZero (empty : Bool) (i : Instr) :
    ReadsBack w (ifZero empty i) ↔ (empty = true → encode i = w) := by
  simp [ifZero]

@[simp] theorem readsBack_ifSome {α : Type} (o : Option α) (k : α → Decoded) :
    ReadsBack w (ifSome o k) ↔ ∀ a, o = some a → ReadsBack w (k a) := by
  cases o <;> simp [ifSome]

@[simp] theorem readsBack_withRegImm (k : RegImm → Instr) :
    ReadsBack w (withRegImm low k) ↔ ∀ o : RegImm, o.bits = low → encode (k o) = w := by
  simp [ReadsBack, withRegImm_eq_ok]

@[simp] theorem readsBack_withCasAsi (k : CasAsi → Reg → Instr) :
    ReadsBack w (withCasAsi low k) ↔ ∀ r a, CasAsi.bits r a = low → encode (k a r) = w := by
  simp only [ReadsBack, withCasAsi_eq_ok]
  exact ⟨fun h r a bits => h _ ⟨r, a, bits, rfl⟩, fun h _ ⟨r, a, bits, e⟩ => e ▸ h r a bits⟩

@[simp] theorem bits_altAddrOf : (altAddrOf low).bits = low := altAddrOf_eq_iff.1 rfl
end

/-- The word of an FMOVcc by its fields, R671. -/
theorem fmtOpf_fmovcc {rd rs1 : Reg} {opf : BitVec 9} {rs2 : Reg} {code : BitVec 6} {sel : BitVec 3} {cond : BitVec 4}
    (zero : rs1.extractLsb' 4 1 = 0) (hcond : rs1.extractLsb' 0 4 = cond) (hsel : opf.extractLsb' 6 3 = sel)
    (hcode : opf.extractLsb' 0 6 = code) :
    fmtOpf 0x35 rd (0#1 ++ cond) (sel ++ code) rs2 = fmtOpf 0x35 rd rs1 opf rs2 := by
  rw [show 0#1 ++ cond = rs1 from append_eq_iff.2 ⟨zero, hcond⟩, show sel ++ code = opf from append_eq_iff.2 ⟨hsel, hcode⟩]

/-- The word of an FMOVr by its fields, R671. -/
theorem fmtOpf_fmovr {rd rs1 : Reg} {opf : BitVec 9} {rs2 : Reg} {code : BitVec 5} {c : BitVec 3}
    (zero : opf.extractLsb' 8 1 = 0) (hcode : opf.extractLsb' 0 5 = code) (cond : opf.extractLsb' 5 3 = c) :
    fmtOpf 0x35 rd rs1 (0#1 ++ (c ++ code)) rs2 = fmtOpf 0x35 rd rs1 opf rs2 := by
  rw [show 0#1 ++ (c ++ code) = opf from append3_eq_iff.2 ⟨zero, cond, hcode⟩]

section
variable (rd rs1 : Reg) (low : BitVec 14) (opf : BitVec 9) (rs2 : Reg)

theorem decodeVis_readsBack : ReadsBack (fmtOpf 0x36 rd rs1 opf rs2) (decodeVis rd rs1 opf rs2) := by
  unfold decodeVis
  split
  -- opf 0x081, SIAM, whose mode is in rs2
  case h_82 =>
    simp only [readsBack_ifZero, Bool.and_eq_true, beq_iff_eq]
    rintro ⟨⟨rfl, rfl⟩, zero⟩
    exact congrArg (fmtOpf 0x36 0 0 0x081) (append_eq_iff.2 ⟨zero, rfl⟩)
  all_goals simp +contextual [encode.eq_def]

theorem decodeFpop1_readsBack : ReadsBack (fmtOpf 0x34 rd rs1 opf rs2) (decodeFpop1 rd rs1 opf rs2) := by
  unfold decodeFpop1
  split
  all_goals simp +contextual [encode.eq_def]

theorem decodeFmov_readsBack : ReadsBack (fmtOpf 0x35 rd rs1 opf rs2) (decodeFmov rd rs1 opf rs2) := by
  unfold decodeFmov
  dsimp only
  split
  case isTrue fmovcc =>
    simp only [Bool.and_eq_true, Bool.or_eq_true, decide_eq_true_eq] at fmovcc
    obtain ⟨code, zero⟩ := fmovcc
    split
    case h_1 one => simpa [encode.eq_def, CondSel.ofBits_eq_iff] using fun c sel cond => fmtOpf_fmovcc zero cond sel one
    case h_2 two => simpa [encode.eq_def, CondSel.ofBits_eq_iff] using fun c sel cond => fmtOpf_fmovcc zero cond sel two
    case h_3 one two =>
      have three := code.resolve_left (not_or.2 ⟨one, two⟩)
      exact (readsBack_ok _).2 (fmtOpf_fmovcc zero rfl rfl three)
  case isFalse fmovr =>
    split
    case isTrue zero =>
      split
      case h_1 five => simpa [encode.eq_def, RCond.ofBits_eq_iff] using fun c => fmtOpf_fmovr zero five
      case h_2 six => simpa [encode.eq_def, RCond.ofBits_eq_iff] using fun c => fmtOpf_fmovr zero six
      case h_3 seven => simpa [encode.eq_def] using fmtOpf_fmovr zero seven rfl
      case h_4 => exact readsBack_error _
    case isFalse => exact readsBack_error _

theorem decodeFpop2_readsBack : ReadsBack (fmtOpf 0x35 rd rs1 opf rs2) (decodeFpop2 rd rs1 opf rs2) := by
  have fcc_fields (zero : rd.extractLsb' 2 3 = 0#3) : 0#3 ++ rd.extractLsb' 0 2 = rd := append_eq_iff.2 ⟨zero, rfl⟩
  unfold decodeFpop2
  split
  -- no compare
  case h_7 => exact decodeFmov_readsBack _ _ _ _
  all_goals simp +contextual [encode.eq_def, fcc_fields]

@[simp] theorem decodeRdAsr_readsBack : ReadsBack (fmt3 2#2 rd 0x28#6 rs1 low) (decodeRdAsr rd rs1 low) := by
  have membar (imm : iBit low = true) (zero : low.extractLsb' 7 6 = 0#6) :
      1#1 ++ (0#6 ++ (low.extractLsb' 4 3 ++ low.extractLsb' 0 4)) = low :=
    append4_eq_iff.2 ⟨bitOf_eq_true.1 imm, zero, rfl, rfl⟩
  unfold decodeRdAsr
  split
  all_goals simp +contextual [encode.eq_def, membar]

@[simp] theorem decodeRdPr_readsBack : ReadsBack (fmt3 2#2 rd 0x2A#6 rs1 low) (decodeRdPr rd rs1 low) := by
  unfold decodeRdPr
  split
  all_goals simp +contextual [encode.eq_def]

@[simp] theorem decodeRdHpr_readsBack : ReadsBack (fmt3 2#2 rd 0x29#6 rs1 low) (decodeRdHpr rd rs1 low) := by
  unfold decodeRdHpr
  split
  all_goals simp +contextual [encode.eq_def]

@[simp] theorem decodeWrAsr_readsBack : ReadsBack (fmt3 2#2 rd 0x30#6 rs1 low) (decodeWrAsr rd rs1 low) := by
  have sir (imm : iBit low = true) : 1#1 ++ simm13Of low = low := RegImm.bits_imm_eq_iff.2 ⟨imm, rfl⟩
  unfold decodeWrAsr
  split
  all_goals simp +contextual [encode.eq_def, sir]

@[simp] theorem decodeWrPr_readsBack : ReadsBack (fmt3 2#2 rd 0x32#6 rs1 low) (decodeWrPr rd rs1 low) := by
  unfold decodeWrPr
  split
  all_goals simp +contextual [encode.eq_def]

@[simp] theorem decodeWrHpr_readsBack : ReadsBack (fmt3 2#2 rd 0x33#6 rs1 low) (decodeWrHpr rd rs1 low) := by
  unfold decodeWrHpr
  split
  all_goals simp +contextual [encode.eq_def]

@[simp] theorem decodeSaved_readsBack : ReadsBack (fmt3 2#2 rd 0x31#6 rs1 low) (decodeSaved rd rs1 low) := by
  unfold decodeSaved
  split
  all_goals simp +contextual [encode.eq_def]

@[simp] theorem decodeDone_readsBack : ReadsBack (fmt3 2#2 rd 0x3E#6 rs1 low) (decodeDone rd rs1 low) := by
  unfold decodeDone
  split
  all_goals simp +contextual [encode.eq_def]

@[simp] theorem decodeMovcc_readsBack : ReadsBack (fmt3 2#2 rd 0x2C#6 rs1 low) (decodeMovcc rd rs1 low) := by
  intro i h
  obtain ⟨c, o, rfl, rfl, rfl⟩ := decodeMovcc_eq_ok.1 h
  rfl

@[simp] theorem decodeMovr_readsBack : ReadsBack (fmt3 2#2 rd 0x2F#6 rs1 low) (decodeMovr rd rs1 low) := by
  intro i h
  obtain ⟨c, o, rfl, rfl⟩ := decodeMovr_eq_ok.1 h
  rfl

@[simp] theorem decodeTcc_readsBack : ReadsBack (fmt3 2#2 rd 0x3A#6 rs1 low) (decodeTcc rd rs1 low) := by
  intro i h
  obtain ⟨c, cc, o, rfl, rfl, rfl⟩ := decodeTcc_eq_ok.1 h
  rfl

theorem shift_readsBack {w : Word32} {k32 : Shift32 → Instr} {k64 : Shift64 → Instr}
    (short : ∀ c : Shift32, c.bits = low → encode (k32 c) = w) (long : ∀ c : Shift64, c.bits = low → encode (k64 c) = w) :
    ReadsBack w (if xBit low then withShift64 low k64 else withShift32 low k32) := by
  intro i h
  obtain ⟨c, bits, rfl⟩ | ⟨c, bits, rfl⟩ := shift_eq_ok.1 h
  · exact short c bits
  · exact long c bits

theorem decodeArith_readsBack (op3 : BitVec 6) : ReadsBack (fmt3 2#2 rd op3 rs1 low) (decodeArith rd op3 rs1 low) := by
  have fmtOpf_fields (op3 : BitVec 6) : fmtOpf op3 rd rs1 (opfOf low) (rs2Of low) = fmt3 2 rd op3 rs1 low :=
    congrArg (fmt3 2 rd op3 rs1) (append_eq_iff.2 ⟨rfl, rfl⟩)
  unfold decodeArith
  split
  -- op3 0x25 to 0x27, the shifts
  case h_36 | h_37 | h_38 => exact shift_readsBack low (fun _ h => h ▸ rfl) (fun _ h => h ▸ rfl)
  -- op3 0x34 to 0x36, FPop1, FPop2 and VIS, and 0x37, IMPDEP2
  case h_51 => exact fmtOpf_fields _ ▸ decodeFpop1_readsBack _ _ _ _
  case h_52 => exact fmtOpf_fields _ ▸ decodeFpop2_readsBack _ _ _ _
  case h_53 => exact fmtOpf_fields _ ▸ decodeVis_readsBack _ _ _ _
  case h_54 => exact (readsBack_ok _).2 (congrArg₂ (fmt3 2 rd 0x37) (extract_append_high ..) (extract_append_low ..))
  all_goals simp +contextual [encode.eq_def]

/-- The row of a class of ASIs, which the word's own ASI chooses. -/
theorem asiRow_readsBack {w : Word32} {p : Bool} {i : Instr} {d : Decoded}
    (row : 0#1 ++ (mid8Of low ++ rs2Of low) = low → encode i = w) (other : ReadsBack w d) :
    ReadsBack w (if !iBit low && p then .ok i else d) := by
  rw [readsBack_ite, readsBack_ok, Bool.and_eq_true, Bool.not_eq_true']
  exact ⟨fun ⟨reg, _⟩ => row (append3_eq_iff.2 ⟨bitOf_eq_false.1 reg, rfl, rfl⟩), fun _ => other⟩

@[simp] theorem decodeLdtwa_readsBack : ReadsBack (fmt3 3#2 rd 0x13#6 rs1 low) (decodeLdtwa rd rs1 low) :=
  asiRow_readsBack _ (congrArg (fmt3 3 rd 0x13 rs1)) (by simp [encode.eq_def])

@[simp] theorem decodeLddfa_readsBack : ReadsBack (fmt3 3#2 rd 0x33#6 rs1 low) (decodeLddfa rd rs1 low) :=
  have row := congrArg (fmt3 3 rd 0x33 rs1)
  asiRow_readsBack _ row (asiRow_readsBack _ row (by simp [encode.eq_def]))

@[simp] theorem decodeStdfa_readsBack : ReadsBack (fmt3 3#2 rd 0x37#6 rs1 low) (decodeStdfa rd rs1 low) :=
  asiRow_readsBack _ (congrArg (fmt3 3 rd 0x37 rs1)) (asiRow_readsBack _ (congrArg (fmt3 3 rd 0x37 rs1))
    (asiRow_readsBack _ (congrArg (fmt3 3 rd 0x37 rs1)) (by simp [encode.eq_def])))

theorem decodeMem_readsBack (op3 : BitVec 6) : ReadsBack (fmt3 3#2 rd op3 rs1 low) (decodeMem rd op3 rs1 low) := by
  unfold decodeMem
  split
  -- op3 0x21 and 0x25, the loads and stores of the FSR, split once more on rd
  case h_32 | h_36 => split <;> simp +contextual [encode.eq_def]
  all_goals simp +contextual [encode.eq_def]
end

theorem decodeFmt2_readsBack (rd : BitVec 5) (op2 : BitVec 3) (low : BitVec 22) :
    ReadsBack (fmt2 rd op2 low) (decodeFmt2 rd op2 low) := by
  have rd_fields : rd.extractLsb' 4 1 ++ rd.extractLsb' 0 4 = rd := append_eq_iff.2 ⟨rfl, rfl⟩
  have low_fields : low.extractLsb' 20 2 ++ (low.extractLsb' 19 1 ++ low.extractLsb' 0 19) = low :=
    append3_eq_iff.2 ⟨rfl, rfl, rfl⟩
  unfold decodeFmt2
  dsimp only
  split
  -- op2 1, BPcc
  case h_2 =>
    simp only [readsBack_ifSome, readsBack_ok, ICC.ofBits_eq_iff]
    intro cc hcc
    simp [encode.eq_def, ICond.bits_ofBits, ← hcc, rd_fields, low_fields]
  -- op2 3, BPr
  case h_4 =>
    rw [readsBack_ite]
    refine ⟨fun zero => ?_, fun _ => readsBack_error _⟩
    simp only [readsBack_ifSome, readsBack_ok, RCond.ofBits_eq_iff]
    intro rc hrc
    have cond_fields : 0#1 ++ rc.bits = rd.extractLsb' 0 4 := append_eq_iff.2 ⟨zero, hrc⟩
    have bpr_fields : low.extractLsb' 20 2 ++ (low.extractLsb' 19 1 ++ (low.extractLsb' 14 5 ++ low.extractLsb' 0 14)) = low :=
      append4_eq_iff.2 ⟨rfl, rfl, rfl, rfl⟩
    simp only [encode.eq_def, cond_fields, bitFrom_bitOf, rd_fields, extract_append_high, extract_append_low, bpr_fields]
    rfl
  -- op2 4, NOP and SETHI
  case h_5 => split <;> simp_all [encode.eq_def]
  all_goals simp [encode.eq_def, ICond.bits_ofBits, FCond.bits_ofBits, rd_fields, low_fields]

theorem fmt2_fields {w : Word32} (op : opField w = 0) : fmt2 (rdField w) (op2Field w) (low22Field w) = w := by
  rw [fmt2, rdField, op2Field, low22Field]
  exact append4_eq_iff.2 ⟨op, rfl, rfl, rfl⟩

theorem fmt3_fields {w : Word32} {op : BitVec 2} (h : opField w = op) :
    fmt3 op (rdField w) (op3Field w) (rs1Field w) (low14Field w) = w := by
  simp (disch := decide) only [fmt3, ← h, opField, rdField, op3Field, rs1Field, low14Field,
    BitVec.extractLsb'_append_extractLsb'_eq_extractLsb']
  exact BitVec.extractLsb'_eq_self

/-- A word that decodes is that of the instruction it decodes to. -/
theorem decode_readsBack (w : Word32) : ReadsBack w (decode w) := by
  unfold decode
  split
  case h_1 op => simpa only [fmt2_fields op] using decodeFmt2_readsBack (rdField w) (op2Field w) (low22Field w)
  case h_2 op => exact (readsBack_ok _).2 (append_eq_iff.2 ⟨op, rfl⟩)
  case h_3 op => simpa only [fmt3_fields op] using decodeArith_readsBack (rdField w) (rs1Field w) (low14Field w) (op3Field w)
  case h_4 not0 not1 not2 =>
    have op : ∀ op : BitVec 2, op ≠ 0 → op ≠ 1 → op ≠ 2 → op = 3#2 := by decide
    simpa only [fmt3_fields (op _ not0 not1 not2)] using
      decodeMem_readsBack (rdField w) (rs1Field w) (low14Field w) (op3Field w)

/-! ### The word of a well-formed instruction decodes to it -/

section
variable (rd : Reg) (op3 : BitVec 6) (rs1 : Reg) (low : BitVec 14) (opf : BitVec 9) (rs2 : Reg)

theorem decode_arith : decode (fmt3 2 rd op3 rs1 low) = decodeArith rd op3 rs1 low := by
  unfold decode
  simp

theorem decode_mem : decode (fmt3 3 rd op3 rs1 low) = decodeMem rd op3 rs1 low := by
  unfold decode
  simp

theorem decode_fpop1 : decode (fmtOpf 0x34 rd rs1 opf rs2) = decodeFpop1 rd rs1 opf rs2 := by
  calc decode (fmtOpf 0x34 rd rs1 opf rs2)
    _ = decodeFpop1 rd rs1 (opfOf (opf ++ rs2)) (rs2Of (opf ++ rs2)) := decode_arith ..
    _ = decodeFpop1 rd rs1 opf rs2 := by rw [opfOf_append, rs2Of_append]

theorem decode_fpop2 : decode (fmtOpf 0x35 rd rs1 opf rs2) = decodeFpop2 rd rs1 opf rs2 := by
  calc decode (fmtOpf 0x35 rd rs1 opf rs2)
    _ = decodeFpop2 rd rs1 (opfOf (opf ++ rs2)) (rs2Of (opf ++ rs2)) := decode_arith ..
    _ = decodeFpop2 rd rs1 opf rs2 := by rw [opfOf_append, rs2Of_append]

theorem decode_vis : decode (fmtOpf 0x36 rd rs1 opf rs2) = decodeVis rd rs1 opf rs2 := by
  calc decode (fmtOpf 0x36 rd rs1 opf rs2)
    _ = decodeVis rd rs1 (opfOf (opf ++ rs2)) (rs2Of (opf ++ rs2)) := decode_arith ..
    _ = decodeVis rd rs1 opf rs2 := by rw [opfOf_append, rs2Of_append]
end

theorem decode_call (disp : BitVec 30) : decode (encode (.call disp)) = .ok (.call disp) := by
  simp [decode, encode.eq_def]

theorem decode_fmt2 (rd : BitVec 5) (op2 : BitVec 3) (low : BitVec 22) :
    decode (fmt2 rd op2 low) = decodeFmt2 rd op2 low := by
  unfold decode
  simp

/-! #### Branches, R626 -/

section
variable (annul p : Bool) (disp : BitVec 19)

theorem decode_bpcc (c : ICond) (cc : ICC) : decode (encode (.bpcc annul c cc p disp)) = .ok (.bpcc annul c cc p disp) := by
  obtain ⟨ha, hc⟩ := append_eq_iff.1 (rfl : bitFrom annul ++ c.bits = _)
  obtain ⟨hcc, hp, hd⟩ := append3_eq_iff.1 (rfl : cc.bits ++ (bitFrom p ++ disp) = _)
  simp [encode.eq_def, decode_fmt2, decodeFmt2, ifSome, ha, hc, hcc, hp, hd]

theorem decode_bicc (c : ICond) (disp : BitVec 22) : decode (encode (.bicc annul c disp)) = .ok (.bicc annul c disp) := by
  obtain ⟨ha, hc⟩ := append_eq_iff.1 (rfl : bitFrom annul ++ c.bits = _)
  simp [encode.eq_def, decode_fmt2, decodeFmt2, ha, hc]

theorem decode_bpr (c : RCond) (rs1 : Reg) (disp : BitVec 16) :
    decode (encode (.bpr annul c p rs1 disp)) = .ok (.bpr annul c p rs1 disp) := by
  obtain ⟨ha, hc⟩ := append_eq_iff.1 (rfl : bitFrom annul ++ (0#1 ++ c.bits) = _)
  obtain ⟨hz, hb⟩ := append_eq_iff.1 (rfl : 0#1 ++ c.bits = _)
  obtain ⟨hi, hp, hr, lo⟩ :=
    append4_eq_iff.1 (rfl : disp.extractLsb' 14 2 ++ (bitFrom p ++ (rs1 ++ disp.extractLsb' 0 14)) = _)
  have hd : disp.extractLsb' 14 2 ++ disp.extractLsb' 0 14 = disp := append_eq_iff.2 ⟨rfl, rfl⟩
  simp [encode.eq_def, decode_fmt2, decodeFmt2, ifSome, ha, hc, hz, hb, hi, hp, hr, lo, hd]

theorem decode_fbpfcc (c : FCond) (fcc : BitVec 2) :
    decode (encode (.fbpfcc annul c fcc p disp)) = .ok (.fbpfcc annul c fcc p disp) := by
  obtain ⟨ha, hc⟩ := append_eq_iff.1 (rfl : bitFrom annul ++ c.bits = _)
  obtain ⟨hcc, hp, hd⟩ := append3_eq_iff.1 (rfl : fcc ++ (bitFrom p ++ disp) = _)
  simp [encode.eq_def, decode_fmt2, decodeFmt2, ha, hc, hcc, hp, hd]

theorem decode_fbfcc (c : FCond) (disp : BitVec 22) : decode (encode (.fbfcc annul c disp)) = .ok (.fbfcc annul c disp) := by
  obtain ⟨ha, hc⟩ := append_eq_iff.1 (rfl : bitFrom annul ++ c.bits = _)
  simp [encode.eq_def, decode_fmt2, decodeFmt2, ha, hc]
end

theorem decode_sethi {rd : Reg} {imm : BitVec 22} (h : (Instr.sethi rd imm).wellFormed = true) :
    decode (encode (.sethi rd imm)) = .ok (.sethi rd imm) := by
  simp_all [encode.eq_def, decode_fmt2, decodeFmt2, Instr.wellFormed, imp_iff_not_or]

/-! #### Compares and conditional moves of FPop2, R671 -/

theorem ifZero_fcc (k : BitVec 2 → Instr) (fcc : BitVec 2) :
    ifZero ((0#3 ++ fcc).extractLsb' 2 3 == 0) (k ((0#3 ++ fcc).extractLsb' 0 2)) = .ok (k fcc) := by
  rw [extract_append_high, extract_append_low]
  rfl

/-- The opf of the compares of FPop2. -/
def compareOpfs : List (BitVec 9) := [0x051, 0x052, 0x055, 0x056, 0x053, 0x057]

/-- A word of FPop2 that is no compare is a conditional move. -/
theorem decode_fmov {opf : BitVec 9} (h : opf ∉ compareOpfs) (rd rs1 rs2 : Reg) :
    decode (fmtOpf 0x35 rd rs1 opf rs2) = decodeFmov rd rs1 opf rs2 := by
  rw [decode_fpop2]
  unfold decodeFpop2
  split
  case h_7 => rfl
  all_goals exact absurd (by decide) h

section
variable (rd rs1 rs2 : Reg)

theorem decode_fmovcc (cond : BitVec 4) (sel : BitVec 3) {code : BitVec 6} (h : code = 1 ∨ code = 2 ∨ code = 3) :
    decode (fmtOpf 0x35 rd (0#1 ++ cond) (sel ++ code) rs2) =
      if code = 1 then ifSome (CondSel.ofBits sel cond) fun c => .ok (.fmovscc rd c rs2)
      else if code = 2 then ifSome (CondSel.ofBits sel cond) fun c => .ok (.fmovdcc rd c rs2)
      else .ok (.fmovqcc rd cond sel rs2) := by
  obtain ⟨zero, hcond⟩ := append_eq_iff.1 (rfl : 0#1 ++ cond = _)
  obtain ⟨hsel, hcode⟩ := append_eq_iff.1 (rfl : sel ++ code = _)
  have other : sel ++ code ∉ compareOpfs := by
    rcases h with rfl | rfl | rfl <;> revert sel <;> decide
  simp only [decode_fmov other, decodeFmov, zero, hcond, hsel, hcode]
  rcases h with rfl | rfl | rfl <;> rfl

theorem decode_fmovr (cond : BitVec 3) {code : BitVec 5} (h : code = 5 ∨ code = 6 ∨ code = 7) :
    decode (fmtOpf 0x35 rd rs1 (0#1 ++ (cond ++ code)) rs2) =
      if code = 5 then ifSome (RCond.ofBits cond) fun c => .ok (.fmovrs rd rs1 c rs2)
      else if code = 6 then ifSome (RCond.ofBits cond) fun c => .ok (.fmovrd rd rs1 c rs2)
      else .ok (.fmovrq rd rs1 cond rs2) := by
  obtain ⟨zero, hcond, hcode⟩ := append3_eq_iff.1 (rfl : 0#1 ++ (cond ++ code) = _)
  have other : 0#1 ++ (cond ++ code) ∉ compareOpfs := by
    rcases h with rfl | rfl | rfl <;> revert cond <;> decide
  have fmovcc : ∀ code' : BitVec 6, code' ∈ [1#6, 2#6, 3#6] → (0#1 ++ (cond ++ code)).extractLsb' 0 6 ≠ code' := by
    rcases h with rfl | rfl | rfl <;> revert cond <;> decide
  have ne1 := fmovcc 1 (by decide)
  have ne2 := fmovcc 2 (by decide)
  have ne3 := fmovcc 3 (by decide)
  simp only [decode_fmov other, decodeFmov, zero, hcond, hcode, ne1, ne2, ne3]
  rcases h with rfl | rfl | rfl <;> rfl
end

/-! #### Classes of ASIs, R635 -/

theorem AltAddr.avoids_or {a : AltAddr} {p q : BitVec 8 → Bool} :
    a.avoids (fun asi => p asi || q asi) = (a.avoids p && a.avoids q) := by
  cases a <;> simp [avoids]

theorem asiRow_of_avoids {a : AltAddr} {p : BitVec 8 → Bool} (h : a.avoids p = true) :
    (!iBit a.bits && p (mid8Of a.bits)) = false := by
  cases a with
  | immAsi asi rs2 =>
    obtain ⟨-, asi_eq, -⟩ := append3_eq_iff.1 (rfl : (AltAddr.immAsi asi rs2).bits = _)
    simp_all [AltAddr.avoids, mid8Of]
  | asiReg v =>
    obtain ⟨one, -⟩ := append_eq_iff.1 (rfl : (AltAddr.asiReg v).bits = _)
    simp [iBit, bitOf, one]

theorem decodeLdtwa_bits (rd rs1 : Reg) {a : AltAddr} (h : a.avoids isTwinxAsi = true) :
    decodeLdtwa rd rs1 a.bits = .ok (.ldtwa rd rs1 a) := by
  simp [decodeLdtwa, asiRow_of_avoids h]

theorem decodeLddfa_bits (rd rs1 : Reg) {a : AltAddr} (h : a.avoids (fun asi => isBlockAsi asi || isShortAsi asi) = true) :
    decodeLddfa rd rs1 a.bits = .ok (.lddfa rd rs1 a) := by
  rw [AltAddr.avoids_or, Bool.and_eq_true] at h
  obtain ⟨block, short⟩ := h
  simp [decodeLddfa, asiRow_of_avoids block, asiRow_of_avoids short]

theorem decodeStdfa_bits (rd rs1 : Reg) {a : AltAddr}
    (h : a.avoids (fun asi => isBlockAsi asi || isPartialAsi asi || isShortAsi asi) = true) :
    decodeStdfa rd rs1 a.bits = .ok (.stdfa rd rs1 a) := by
  rw [AltAddr.avoids_or, AltAddr.avoids_or, Bool.and_eq_true, Bool.and_eq_true] at h
  obtain ⟨⟨block, part⟩, short⟩ := h
  simp [decodeStdfa, asiRow_of_avoids block, asiRow_of_avoids part, asiRow_of_avoids short]

/-- No ASI is in two of the classes of STDFA. -/
theorem asiClasses_disjoint : ∀ asi, (isShortAsi asi = true → isBlockAsi asi = false ∧ isPartialAsi asi = false) ∧
    (isPartialAsi asi = true → isBlockAsi asi = false) := by decide +kernel

section
variable (rd rs1 : Reg) {asi : BitVec 8} (rs2 : Reg)

theorem immAsi_fields (asi : BitVec 8) (rs2 : Reg) :
    iBit (0#1 ++ (asi ++ rs2)) = false ∧ mid8Of (0#1 ++ (asi ++ rs2)) = asi ∧ rs2Of (0#1 ++ (asi ++ rs2)) = rs2 :=
  CasAsi.bits_immAsi_eq_iff.1 rfl

theorem decodeLdtwa_twinx (h : isTwinxAsi asi = true) :
    decodeLdtwa rd rs1 (0#1 ++ (asi ++ rs2)) = .ok (.ldtxa rd rs1 asi rs2) := by
  obtain ⟨reg, hasi, hrs2⟩ := immAsi_fields asi rs2
  simp [decodeLdtwa, reg, hasi, hrs2, h]

theorem decodeLddfa_block (h : isBlockAsi asi = true) :
    decodeLddfa rd rs1 (0#1 ++ (asi ++ rs2)) = .ok (.ldblockf rd rs1 asi rs2) := by
  obtain ⟨reg, hasi, hrs2⟩ := immAsi_fields asi rs2
  simp [decodeLddfa, reg, hasi, hrs2, h]

theorem decodeLddfa_short (h : isShortAsi asi = true) :
    decodeLddfa rd rs1 (0#1 ++ (asi ++ rs2)) = .ok (.ldshortf rd rs1 asi rs2) := by
  obtain ⟨reg, hasi, hrs2⟩ := immAsi_fields asi rs2
  obtain ⟨block, -⟩ := (asiClasses_disjoint asi).1 h
  simp [decodeLddfa, reg, hasi, hrs2, block, h]

theorem decodeStdfa_block (h : isBlockAsi asi = true) :
    decodeStdfa rd rs1 (0#1 ++ (asi ++ rs2)) = .ok (.stblockf rd rs1 asi rs2) := by
  obtain ⟨reg, hasi, hrs2⟩ := immAsi_fields asi rs2
  simp [decodeStdfa, reg, hasi, hrs2, h]

theorem decodeStdfa_partial (h : isPartialAsi asi = true) :
    decodeStdfa rd rs1 (0#1 ++ (asi ++ rs2)) = .ok (.stpartialf rd rs1 asi rs2) := by
  obtain ⟨reg, hasi, hrs2⟩ := immAsi_fields asi rs2
  simp [decodeStdfa, reg, hasi, hrs2, (asiClasses_disjoint asi).2 h, h]

theorem decodeStdfa_short (h : isShortAsi asi = true) :
    decodeStdfa rd rs1 (0#1 ++ (asi ++ rs2)) = .ok (.stshortf rd rs1 asi rs2) := by
  obtain ⟨reg, hasi, hrs2⟩ := immAsi_fields asi rs2
  obtain ⟨block, part⟩ := (asiClasses_disjoint asi).1 h
  simp [decodeStdfa, reg, hasi, hrs2, block, part, h]
end

/-! #### Words of one form each -/

theorem decode_altAddr {rd : Reg} {op3 : BitVec 6} {rs1 : Reg} {k : AltAddr → Instr}
    (h : ∀ low, decodeMem rd op3 rs1 low = .ok (k (altAddrOf low))) (a : AltAddr) :
    decode (fmt3 3 rd op3 rs1 a.bits) = .ok (k a) := by
  rw [decode_mem, h, altAddrOf_bits]

theorem decode_membar (cmask : BitVec 3) (mmask : BitVec 4) :
    decode (encode (.membar cmask mmask)) = .ok (.membar cmask mmask) := by
  obtain ⟨imm, zero, hc, hm⟩ := append4_eq_iff.1 (rfl : 1#1 ++ (0#6 ++ (cmask ++ mmask)) = _)
  calc decode (encode (.membar cmask mmask))
    _ = decodeRdAsr 0 0x0F (1#1 ++ (0#6 ++ (cmask ++ mmask))) := decode_arith ..
    _ = .ok (.membar cmask mmask) := by simp [decodeRdAsr, iBit, bitOf, ifZero, imm, zero, hc, hm]

theorem decode_sir (v : BitVec 13) : decode (encode (.sir v)) = .ok (.sir v) := by
  obtain ⟨imm, hv⟩ := append_eq_iff.1 (rfl : 1#1 ++ v = _)
  calc decode (encode (.sir v))
    _ = decodeWrAsr 0x0F 0 (1#1 ++ v) := decode_arith ..
    _ = .ok (.sir v) := by simp [decodeWrAsr, iBit, bitOf, simm13Of, imm, hv]

theorem decode_siam (mode : BitVec 3) : decode (encode (.siam mode)) = .ok (.siam mode) := by
  obtain ⟨zero, hmode⟩ := append_eq_iff.1 (rfl : 0#2 ++ mode = _)
  calc decode (encode (.siam mode))
    _ = decodeVis 0 0 0x081 (0#2 ++ mode) := decode_vis ..
    _ = .ok (.siam mode) := by simp [decodeVis, ifZero, zero, hmode]

theorem decode_impdep2 (rd : Reg) (rest : BitVec 19) : decode (encode (.impdep2 rd rest)) = .ok (.impdep2 rd rest) := by
  have fields : rest.extractLsb' 14 5 ++ rest.extractLsb' 0 14 = rest := append_eq_iff.2 ⟨rfl, rfl⟩
  exact (decode_arith ..).trans (congrArg (fun rest => (.ok (.impdep2 rd rest) : Decoded)) fields)

/-! #### Every instruction -/

theorem decode_encode {i : Instr} (h : i.wellFormed = true) : decode (encode i) = .ok i := by
  cases i
  case illtrap | nop => exact (decode_fmt2 ..).trans rfl
  case bpcc => exact decode_bpcc ..
  case bicc => exact decode_bicc ..
  case bpr => exact decode_bpr ..
  case fbpfcc => exact decode_fbpfcc ..
  case fbfcc => exact decode_fbfcc ..
  case sethi => exact decode_sethi h
  case call => exact decode_call _
  case add | andI | orI | xorI | sub | andn | orn | xnor | addc | mulx | umul | smul | subc | udivx | udiv | sdiv | addcc |
      andcc | orcc | xorcc | subcc | andncc | orncc | xnorcc | addccc | umulcc | smulcc | subccc | udivcc | sdivcc | taddcc |
      tsubcc | taddcctv | tsubcctv | mulscc | sdivx | popc | jmpl | returnI | save | restore | wrY | wrCcr | wrAsi | wrTick |
      wrFprs | wrPcr | wrPic | wrGsr | wrSoftintSet | wrSoftintClr | wrSoftint | wrTickCmpr | wrStick | wrStickCmpr | wrprTpc |
      wrprTnpc | wrprTstate | wrprTt | wrprTick | wrprTba | wrprPstate | wrprTl | wrprPil | wrprCwp | wrprCansave |
      wrprCanrestore | wrprCleanwin | wrprOtherwin | wrprWstate | wrprGl | wrhprHpstate | wrhprHtstate | wrhprHintp | wrhprHtba
      | wrhprHver | halt | wrhprHstickCmpr | flush =>
    exact (decode_arith ..).trans (withRegImm_bits ..)
  case sll | srl | sra => exact (decode_arith ..).trans (shift_eq_ok.2 (.inl ⟨_, rfl, rfl⟩))
  case sllx | srlx | srax => exact (decode_arith ..).trans (shift_eq_ok.2 (.inr ⟨_, rfl, rfl⟩))
  case movcc => exact (decode_arith ..).trans (decodeMovcc_eq_ok.2 ⟨_, _, rfl, rfl, rfl⟩)
  case movr => exact (decode_arith ..).trans (decodeMovr_eq_ok.2 ⟨_, _, rfl, rfl⟩)
  case tcc => exact (decode_arith ..).trans (decodeTcc_eq_ok.2 ⟨_, _, _, rfl, rfl, rfl⟩)
  case done | retry | saved | restored | allclean | otherw | normalw | invalw | flushw | rdY | rdCcr | rdAsi | rdTick | rdPc |
      rdFprs | rdPcr | rdPic | rdGsr | rdSoftint | rdTickCmpr | rdStick | rdStickCmpr | stbar | rdprTpc | rdprTnpc | rdprTstate
      | rdprTt | rdprTick | rdprTba | rdprPstate | rdprTl | rdprPil | rdprCwp | rdprCansave | rdprCanrestore | rdprCleanwin |
      rdprOtherwin | rdprWstate | rdprGl | rdhprHpstate | rdhprHtstate | rdhprHintp | rdhprHtba | rdhprHver | rdhprHalt |
      rdhprHstickCmpr =>
    exact (decode_arith ..).trans rfl
  case fmovs | fmovd | fnegs | fnegd | fabss | fabsd | fsqrts | fsqrtd | fadds | faddd | fsubs | fsubd | fmuls | fmuld | fdivs |
      fdivd | fsmuld | fstox | fdtox | fxtos | fxtod | fitos | fdtos | fitod | fstod | fstoi | fdtoi | fmovq | fnegq | fabsq |
      fsqrtq | faddq | fsubq | fmulq | fdivq | fdmulq | fqtox | fxtoq | fqtos | fqtod | fitoq | fstoq | fdtoq | fqtoi =>
    exact (decode_fpop1 ..).trans rfl
  case fcmpq | fcmpeq => exact (decode_fpop2 ..).trans rfl
  case lduw | ldub | lduh | ldtw | stw | stb | sth | sttw | ldsw | ldsb | ldsh | ldx | ldstub | stx | swap | ldf | lddf | stf |
      stdf | ldfsr | ldxfsr | stfsr | stxfsr | ldqf | stqf | prefetch =>
    exact (decode_mem ..).trans (withRegImm_bits ..)
  case casa | casxa => exact (decode_mem ..).trans (withCasAsi_eq_ok.2 ⟨_, _, rfl, rfl⟩)
  case lduwa | lduba | lduha | stwa | stba | stha | sttwa | ldswa | ldsba | ldsha | ldxa | ldstuba | stxa | swapa | ldfa | stfa
      | ldqfa | stqfa | prefetcha =>
    exact decode_altAddr (fun _ => rfl) _
  case fcmps fcc rs1 rs2 => exact (decode_fpop2 ..).trans (ifZero_fcc (.fcmps · rs1 rs2) fcc)
  case fcmpd fcc rs1 rs2 => exact (decode_fpop2 ..).trans (ifZero_fcc (.fcmpd · rs1 rs2) fcc)
  case fcmpes fcc rs1 rs2 => exact (decode_fpop2 ..).trans (ifZero_fcc (.fcmpes · rs1 rs2) fcc)
  case fcmped fcc rs1 rs2 => exact (decode_fpop2 ..).trans (ifZero_fcc (.fcmped · rs1 rs2) fcc)
  case fmovscc | fmovdcc => exact (decode_fmovcc _ _ _ _ (by decide)).trans (ifSome_eq_ok.2 ⟨_, CondSel.ofBits_bits _, rfl⟩)
  case fmovqcc => exact decode_fmovcc _ _ _ _ (by decide)
  case fmovrs | fmovrd => exact (decode_fmovr _ _ _ _ (by decide)).trans (ifSome_eq_ok.2 ⟨_, RCond.ofBits_bits _, rfl⟩)
  case fmovrq => exact decode_fmovr _ _ _ _ (by decide)
  case siam => exact decode_siam _
  case impdep2 => exact decode_impdep2 ..
  case membar => exact decode_membar ..
  case sir => exact decode_sir _
  case ldtwa => exact (decode_mem ..).trans (decodeLdtwa_bits _ _ h)
  case lddfa => exact (decode_mem ..).trans (decodeLddfa_bits _ _ h)
  case stdfa => exact (decode_mem ..).trans (decodeStdfa_bits _ _ h)
  case ldtxa => exact (decode_mem ..).trans (decodeLdtwa_twinx _ _ _ h)
  case ldblockf => exact (decode_mem ..).trans (decodeLddfa_block _ _ _ h)
  case ldshortf => exact (decode_mem ..).trans (decodeLddfa_short _ _ _ h)
  case stblockf => exact (decode_mem ..).trans (decodeStdfa_block _ _ _ h)
  case stpartialf => exact (decode_mem ..).trans (decodeStdfa_partial _ _ _ h)
  case stshortf => exact (decode_mem ..).trans (decodeStdfa_short _ _ _ h)
  -- what is left is VIS, R675
  all_goals exact (decode_vis ..).trans rfl

/-- The instruction of a word may be read off its encoding. -/
theorem decode_of_encode {w : Word32} {i : Instr} (wf : i.wellFormed = true) (h : encode i = w) : decode w = .ok i :=
  h ▸ decode_encode wf

/-- Settles O56: a word by `decode_readsBack`, through the decoders' branches; an instruction by `decode_encode`, row by row. -/
theorem decodeAndEncodeAgree : Obligations.DecodeAndEncodeAgree :=
  ⟨fun _ => decode_encode, fun w i h => ⟨decode_wellFormed h, decode_readsBack w i h⟩⟩

/-- Settles O55: each word is the encoding of a well-formed instruction. -/
theorem wordsDecodeToTheirInstructions : Obligations.WordsDecodeToTheirInstructions := by
  unfold Obligations.WordsDecodeToTheirInstructions
  and_intros
  all_goals exact decode_of_encode rfl rfl

end Sys2Proof

namespace Sys2Proof.Machine

/-! ### The condition codes of a subtraction (spec/40_integer.md R701) -/

/-- N, Z, V and C of `x - y` at any width: `sub_cc` sets each half of CCR in this way. -/
def subNzvc {w : Nat} (x y : BitVec w) : BitVec 4 :=
  nzvc (x - y).msb (x - y == 0) (x.msb != y.msb && (x - y).msb != x.msb)
    ((!x.msb && y.msb) || ((x - y).msb && (!x.msb || y.msb)))

theorem subCc_eq (a b : Word) : subCc a b (a - b) = subNzvc a b ++ subNzvc (a.setWidth 32) (b.setWidth 32) := by
  have bit31 (v : Word) : bitAt v 31 = (v.setWidth 32).msb := by simp [bitAt, BitVec.msb_eq_getLsbD_last]
  have bit63 (v : Word) : bitAt v 63 = v.msb := (BitVec.msb_eq_getLsbD_last v).symm
  have low : (a - b).setWidth 32 = a.setWidth 32 - b.setWidth 32 := by bv_omega
  simp only [subCc, subNzvc, bit31, bit63, low]
  rfl

section
variable {n : Nat} (x y : BitVec (n + 1))

theorem sub_beq_zero : (x - y == 0) = decide (x.toInt = y.toInt) := by
  rw [Bool.eq_iff_iff, beq_iff_eq, decide_eq_true_eq, BitVec.toInt_inj, BitVec.sub_eq_iff_eq_add]
  exact iff_of_eq (congrArg (x = ·) (BitVec.zero_add y))

theorem toNat_sub_cases : (x.toNat < y.toNat ∧ (x - y).toNat = 2 * 2 ^ n - (y.toNat - x.toNat)) ∨
    (y.toNat ≤ x.toNat ∧ (x - y).toNat = x.toNat - y.toNat) := by
  rcases Nat.lt_or_ge x.toNat y.toNat with h | h
  · exact .inl ⟨h, pow_succ' 2 n ▸ BitVec.toNat_sub_of_lt h⟩
  · exact .inr ⟨h, BitVec.toNat_sub_of_le h⟩

/-- The carry of a subtraction is a borrow. -/
theorem borrow_eq : ((!x.msb && y.msb) || ((x - y).msb && (!x.msb || y.msb))) = decide (x.toNat < y.toNat) := by
  have hx := x.isLt
  have hy := y.isLt
  rw [pow_succ'] at hx hy
  rw [Bool.eq_iff_iff]
  simp only [Bool.or_eq_true, Bool.and_eq_true, Bool.not_eq_true', BitVec.msb_eq_decide, decide_eq_true_eq,
    decide_eq_false_iff_not, Nat.add_sub_cancel]
  obtain ⟨h, e⟩ | ⟨h, e⟩ := toNat_sub_cases x y <;> rw [e] <;> omega

/-- The sign of a difference is the wrong one where the subtraction overflows. -/
theorem negative_bne_overflow : ((x - y).msb != (x.msb != y.msb && (x - y).msb != x.msb)) = decide (x.toInt < y.toInt) := by
  have flags : ∀ d a b : Bool, (d != (a != b && d != a)) = ((a != b) ^^ (!a && b || d && (!a || b))) := by decide
  rw [flags, borrow_eq]
  exact BitVec.slt_eq_ult.symm
end

/-! ### The conditions on an integer condition code (spec/30_encoding.md R627) -/

/-- The conditions on the code `f` compare `x` with `y`, signed, and `m` with `n`, unsigned. -/
def Compares (f : BitVec 4) (x y : Int) (m n : Nat) : Prop :=
  ICond.holds .a f = true ∧ ICond.holds .n f = false ∧
  ICond.holds .e f = decide (x = y) ∧ ICond.holds .ne f = decide (x ≠ y) ∧
  ICond.holds .l f = decide (x < y) ∧ ICond.holds .ge f = decide (y ≤ x) ∧
  ICond.holds .le f = decide (x ≤ y) ∧ ICond.holds .g f = decide (y < x) ∧
  ICond.holds .cs f = decide (m < n) ∧ ICond.holds .cc f = decide (n ≤ m) ∧
  ICond.holds .leu f = decide (m ≤ n) ∧ ICond.holds .gu f = decide (n < m)

theorem bitAt_nzvc (n z v c : Bool) : bitAt (nzvc n z v c) 3 = n ∧ bitAt (nzvc n z v c) 2 = z ∧ bitAt (nzvc n z v c) 1 = v ∧
    bitAt (nzvc n z v c) 0 = c := by
  revert n z v c; decide

theorem compares_of_bits {f : BitVec 4} {x y : Int} {m n : Nat} (zero : bitAt f 2 = decide (x = y))
    (less : (bitAt f 3 != bitAt f 1) = decide (x < y)) (borrow : bitAt f 0 = decide (m < n)) (same : x = y ↔ m = n) :
    Compares f x y m n := by
  simp only [Compares, ICond.holds, zero, less, borrow]
  and_intros
  all_goals grind

theorem compares_subNzvc {n : Nat} (x y : BitVec (n + 1)) : Compares (subNzvc x y) x.toInt y.toInt x.toNat y.toNat := by
  obtain ⟨hn, hz, hv, hc⟩ := bitAt_nzvc (x - y).msb (x - y == 0) (x.msb != y.msb && (x - y).msb != x.msb)
    ((!x.msb && y.msb) || ((x - y).msb && (!x.msb || y.msb)))
  apply compares_of_bits
  case zero => exact hz.trans (sub_beq_zero x y)
  case less => rw [subNzvc, hn, hv, negative_bne_overflow]
  case borrow => exact hc.trans (borrow_eq x y)
  case same => exact BitVec.toInt_inj.trans BitVec.toNat_inj.symm

/-! ### The conditions on a register (R629) -/

theorem beq_zero_eq_toInt (v : Word) : (v == 0) = decide (v.toInt = 0) := by
  rw [Bool.eq_iff_iff, beq_iff_eq, decide_eq_true_eq, ← BitVec.toInt_inj]
  rfl

theorem bitAt_63_eq_toInt (v : Word) : bitAt v 63 = decide (v.toInt < 0) :=
  (BitVec.msb_eq_getLsbD_last v).symm.trans BitVec.msb_eq_toInt

theorem RCond.holds_eq_toInt (v : Word) :
    RCond.holds .z v = decide (v.toInt = 0) ∧ RCond.holds .lez v = decide (v.toInt ≤ 0) ∧
    RCond.holds .lz v = decide (v.toInt < 0) ∧ RCond.holds .nz v = decide (v.toInt ≠ 0) ∧
    RCond.holds .gz v = decide (0 < v.toInt) ∧ RCond.holds .gez v = decide (0 ≤ v.toInt) := by
  simp only [RCond.holds, beq_zero_eq_toInt, bitAt_63_eq_toInt]
  and_intros
  all_goals grind

end Sys2Proof.Machine

namespace Sys2Proof
open Machine

/-- Settles O11: each half of SUBcc's codes is that of a subtraction of its own width (`subCc_eq`). -/
theorem conditionsCompareNumbers : Obligations.ConditionsCompareNumbers := by
  refine ⟨fun a b => ?_, fun f => ⟨rfl, rfl, rfl, rfl⟩, RCond.holds_eq_toInt⟩
  rw [subCc_eq]
  intro codes _
  have xcc : codes.extractLsb' 4 4 = subNzvc a b := extract_append_high _ _
  have icc : codes.extractLsb' 0 4 = subNzvc (a.setWidth 32) (b.setWidth 32) := extract_append_low _ _
  rw [xcc, icc, ← BitVec.toNat_setWidth, ← BitVec.toNat_setWidth]
  exact ⟨compares_subNzvc a b, compares_subNzvc (a.setWidth 32) (b.setWidth 32)⟩

end Sys2Proof

namespace Sys2Proof.Machine

/-! ### The condition codes of a result (spec/40_integer.md R701) -/

theorem bitAt_31_eq_toInt (v : Word) : bitAt v 31 = decide ((v.setWidth 32).toInt < 0) := by
  rw [← BitVec.msb_eq_toInt]
  simp [bitAt, BitVec.msb_eq_getLsbD_last]

theorem beq_zero_eq_toNat {w : Nat} (v : BitVec w) : (v == 0#w) = decide (v.toNat = 0) := by
  rw [Bool.eq_iff_iff, beq_iff_eq, decide_eq_true_eq, ← BitVec.toNat_inj, BitVec.toNat_zero]

/-- CCR is xcc above icc, each N Z V C (spec/10_state.md R65). -/
theorem bitAt_codes (n z v c n' z' v' c' : Bool) :
    let f := nzvc n z v c ++ nzvc n' z' v' c'
    bitAt f 3 = n' ∧ bitAt f 2 = z' ∧ bitAt f 1 = v' ∧ bitAt f 0 = c' ∧
    bitAt f 7 = n ∧ bitAt f 6 = z ∧ bitAt f 5 = v ∧ bitAt f 4 = c := by
  obtain ⟨hn, hz, hv, hc⟩ := bitAt_nzvc n z v c
  obtain ⟨hn', hz', hv', hc'⟩ := bitAt_nzvc n' z' v' c'
  simp only [bitAt] at *
  simp only [BitVec.getLsbD_append]
  exact ⟨hn', hz', hv', hc', hn, hz, hv, hc⟩

/-! ### Sums and differences with a carry in, measured exactly -/

/-- N, Z, V and C of a sum `res` of `x` and `y` at any width: `add_cc` sets each half of CCR in this way. -/
def sumNzvc {w : Nat} (x y res : BitVec w) : BitVec 4 :=
  nzvc res.msb (res == 0#w) (x.msb == y.msb && res.msb != x.msb) ((x.msb && y.msb) || (!res.msb && (x.msb || y.msb)))

/-- N, Z, V and C of a difference `res` of `x` and `y`, as `sub_cc` sets them. -/
def differenceNzvc {w : Nat} (x y res : BitVec w) : BitVec 4 :=
  nzvc res.msb (res == 0#w) (x.msb != y.msb && res.msb != x.msb) ((!x.msb && y.msb) || (res.msb && (!x.msb || y.msb)))

/-- The codes of `res` where `signed` is the exact signed result, and `outside` says that the exact unsigned one does not fit. -/
def exactNzvc {w : Nat} (res : BitVec w) (signed : Int) (outside : Prop) [Decidable outside] : BitVec 4 :=
  nzvc (decide (res.toInt < 0)) (decide (res.toNat = 0))
    (!decide (-(2 ^ (w - 1) : Int) ≤ signed ∧ signed < (2 ^ (w - 1) : Int))) (decide outside)

theorem addCc_eq_sumNzvc (a b res : Word) :
    addCc a b res = sumNzvc a b res ++ sumNzvc (a.setWidth 32) (b.setWidth 32) (res.setWidth 32) := by
  simp only [addCc, sumNzvc, bitAt_31_eq_toInt, bitAt_63_eq_toInt, BitVec.msb_eq_toInt]
  rfl

theorem subCc_eq_differenceNzvc (a b res : Word) :
    subCc a b res = differenceNzvc a b res ++ differenceNzvc (a.setWidth 32) (b.setWidth 32) (res.setWidth 32) := by
  simp only [subCc, differenceNzvc, bitAt_31_eq_toInt, bitAt_63_eq_toInt, BitVec.msb_eq_toInt]
  rfl

theorem toInt_cases {n : Nat} (x : BitVec (n + 1)) : (x.toNat < 2 ^ n ∧ x.toInt = x.toNat) ∨
    (2 ^ n ≤ x.toNat ∧ x.toNat < 2 * 2 ^ n ∧ x.toInt = x.toNat - 2 * (2 ^ n : Nat)) := by
  have range := x.isLt
  rw [BitVec.toInt_eq_toNat_cond]
  rw [pow_succ'] at *
  split <;> push_cast <;> omega

theorem toInt_complement {n : Nat} (y : BitVec (n + 1)) : (~~~y).toInt = -y.toInt - 1 := by
  have hy := toInt_cases y
  have hn := toInt_cases (~~~y)
  rw [BitVec.toNat_not, pow_succ'] at hn
  omega

section
variable {n : Nat} {x y res : BitVec (n + 1)} {c : Nat} (bit : c ≤ 1)

section
variable (sum : res = x + y + BitVec.ofNat (n + 1) c)
include bit sum

/-- A sum wraps at most once. -/
theorem toNat_sum_cases : res.toNat = x.toNat + y.toNat + c ∨ res.toNat + 2 * 2 ^ n = x.toNat + y.toNat + c := by
  have hx := x.isLt
  have hy := y.isLt
  have one := Nat.one_le_two_pow (n := n)
  have wraps : res.toNat = (x.toNat + y.toNat + c) % (2 * 2 ^ n) := by
    simp [sum, pow_succ']
  rw [pow_succ'] at hx hy
  rcases Nat.lt_or_ge (x.toNat + y.toNat + c) (2 * 2 ^ n) with small | large
  · exact .inl (wraps.trans (Nat.mod_eq_of_lt small))
  · rw [Nat.mod_eq_sub_mod large, Nat.mod_eq_of_lt (by omega)] at wraps
    omega

/-- A sum overflows where its sign is not the one that both operands have. -/
theorem sum_overflow : (x.msb == y.msb && res.msb != x.msb) =
    !decide (-(2 ^ n : Int) ≤ x.toInt + y.toInt + c ∧ x.toInt + y.toInt + c < (2 ^ n : Int)) := by
  have wraps := toNat_sum_cases bit sum
  have hx := toInt_cases x
  have hy := toInt_cases y
  have hres := toInt_cases res
  rw [Bool.eq_iff_iff]
  simp only [BitVec.msb_eq_toInt, Bool.and_eq_true, beq_iff_eq, bne_iff_ne, decide_eq_decide, ne_eq, Bool.not_eq_true',
    decide_eq_false_iff_not]
  zify at *
  omega

/-- The carry of a sum is the bit that the width does not hold. -/
theorem sum_carry : ((x.msb && y.msb) || (!res.msb && (x.msb || y.msb))) =
    decide (2 ^ (n + 1) ≤ x.toNat + y.toNat + c) := by
  have wraps := toNat_sum_cases bit sum
  have hx := x.isLt
  have hy := y.isLt
  rw [Bool.eq_iff_iff]
  rw [pow_succ'] at *
  simp only [BitVec.msb_eq_decide, Bool.or_eq_true, Bool.and_eq_true, Bool.not_eq_true', decide_eq_true_eq,
    decide_eq_false_iff_not, Nat.add_sub_cancel]
  omega

theorem sumNzvc_eq_exactNzvc :
    sumNzvc x y res = exactNzvc res (x.toInt + y.toInt + c) (2 ^ (n + 1) ≤ x.toNat + y.toNat + c) := by
  rw [sumNzvc, exactNzvc, sum_overflow bit sum, sum_carry bit sum, BitVec.msb_eq_toInt, beq_zero_eq_toNat]
  rfl

end

section
variable (difference : res = x - y - BitVec.ofNat (n + 1) c)
include bit difference

/-- A difference is the sum with the complement, whose carry in is the missing borrow. -/
theorem eq_add_not_add : res = x + ~~~y + BitVec.ofNat (n + 1) (1 - c) := by
  have complement : ~~~y = -y - 1 := by rw [BitVec.neg_eq_not_add]; exact (add_sub_cancel_right _ _).symm
  have borrow : BitVec.ofNat (n + 1) (1 - c) = 1 - BitVec.ofNat (n + 1) c := by
    obtain rfl | rfl := Nat.le_one_iff_eq_zero_or_eq_one.1 bit <;> simp
  rw [difference, complement, borrow]
  abel

theorem differenceNzvc_eq_exactNzvc :
    differenceNzvc x y res = exactNzvc res (x.toInt - y.toInt - c) (x.toNat < y.toNat + c) := by
  have sum := eq_add_not_add bit difference
  have complemented : (~~~y).toNat = 2 ^ (n + 1) - 1 - y.toNat := BitVec.toNat_not
  have overflow : (x.msb != y.msb && res.msb != x.msb) =
      !decide (-(2 ^ n : Int) ≤ x.toInt - y.toInt - c ∧ x.toInt - y.toInt - c < (2 ^ n : Int)) := by
    have signed : x.toInt - y.toInt - c = x.toInt + (~~~y).toInt + (1 - c : Nat) := by
      rw [toInt_complement]; omega
    rw [signed, ← sum_overflow (Nat.sub_le 1 c) sum, BitVec.msb_not]
    cases x.msb <;> cases y.msb <;> rfl
  have borrow : ((!x.msb && y.msb) || (res.msb && (!x.msb || y.msb))) = decide (x.toNat < y.toNat + c) := by
    have unsigned : x.toNat < y.toNat + c ↔ ¬2 ^ (n + 1) ≤ x.toNat + (~~~y).toNat + (1 - c) := by omega
    rw [decide_eq_decide.2 unsigned, decide_not, ← sum_carry (Nat.sub_le 1 c) sum, BitVec.msb_not]
    cases x.msb <;> cases y.msb <;> cases res.msb <;> rfl
  rw [differenceNzvc, exactNzvc, overflow, borrow, BitVec.msb_eq_toInt, beq_zero_eq_toNat]
  rfl

end
end

theorem logicCc_eq_divCc (res : Word) : logicCc res = divCc res false := rfl

/-- N and Z of a division tell the sign and the zero of both halves, V of icc the clamp. -/
theorem divCc_eq (res : Word) (ovf : Bool) :
    divCc res ovf = nzvc (decide (res.toInt < 0)) (decide (res.toNat = 0)) false false ++
      nzvc (decide ((res.setWidth 32).toInt < 0)) (decide (res.toNat % 2 ^ 32 = 0)) ovf false := by
  rw [← BitVec.toNat_setWidth, ← beq_zero_eq_toNat, ← beq_zero_eq_toNat, ← bitAt_31_eq_toInt, ← bitAt_63_eq_toInt]
  rfl

end Sys2Proof.Machine

namespace Sys2Proof
open Machine

/-- Settles O3: each half of the codes is that of a sum or a difference of its own width, since the low half of a result is the
result of the low halves; a difference is a sum with the complement (`eq_add_not_add`). -/
theorem conditionCodesMeasureTheExactResult : Obligations.ConditionCodesMeasureTheExactResult := by
  intro a b cin c fits a32 b32
  have bit : c ≤ 1 := by cases cin <;> decide
  refine ⟨?_, ?_, fun res ovf => ?_⟩
  · intro res f
    have low : res.setWidth 32 = a32 + b32 + BitVec.ofNat 32 c := by
      simp [res, a32, b32, BitVec.setWidth_add, BitVec.setWidth_ofNat_of_le]
    have codes : f = _ := addCc_eq_sumNzvc a b res
    rw [sumNzvc_eq_exactNzvc bit rfl, sumNzvc_eq_exactNzvc bit low, exactNzvc, exactNzvc, BitVec.toNat_setWidth] at codes
    rw [codes]
    exact bitAt_codes ..
  · intro res f
    have low : res.setWidth 32 = a32 - b32 - BitVec.ofNat 32 c := by
      simp [res, a32, b32, BitVec.sub_eq_add_neg, BitVec.setWidth_add, BitVec.setWidth_neg_of_le, BitVec.setWidth_ofNat_of_le]
    have codes : f = _ := subCc_eq_differenceNzvc a b res
    rw [differenceNzvc_eq_exactNzvc bit rfl, differenceNzvc_eq_exactNzvc bit low, exactNzvc, exactNzvc,
      BitVec.toNat_setWidth] at codes
    rw [codes]
    exact bitAt_codes ..
  · intro tells
    have told (v : Bool) : tells (divCc res v) v := by
      show bitAt _ 3 = _ ∧ _
      rw [divCc_eq]
      exact bitAt_codes ..
    rw [logicCc_eq_divCc]
    exact ⟨told false, told ovf⟩

end Sys2Proof

namespace Sys2Proof.Machine

/-! ### The word and the end of an integer instruction (spec/40_integer.md section 1) -/

section
variable {i : Instr} {s : State} {rd rs1 : Reg} {v : Word}

theorem hasOp3_of_encode {op : BitVec 2} {op3 : BitVec 6} {low : BitVec 14} (word : encode i = fmt3 op rd op3 rs1 low) :
    HasOp3 i op op3 := by
  rw [HasOp3, word]
  exact ⟨opField_fmt3 .., op3Field_fmt3 ..⟩

theorem completes_of_advance (run : exec i s = .next s.advance) : Completes i s s := ⟨_, run, rfl, fun _ => rfl⟩

theorem hasOp3_and_writes {op3 : BitVec 6} {low : BitVec 14} (word : encode i = fmt3 2 rd op3 rs1 low)
    (run : exec i s = (s.finish rd v).outcome) : HasOp3 i 2 op3 ∧ Writes i s s rd v :=
  ⟨hasOp3_of_encode word, writes_of_finish run rfl rfl⟩

theorem hasOp3_and_writes_codes {op3 : BitVec 6} {low : BitVec 14} {codes : BitVec 8} (word : encode i = fmt3 2 rd op3 rs1 low)
    (run : exec i s = (s.finishCc rd v codes).outcome) : HasOp3 i 2 op3 ∧ Writes i s { s with ccr := codes } rd v :=
  ⟨hasOp3_of_encode word, writes_of_finishCc run rfl rfl⟩

end

theorem carryIn_eq (ccr : BitVec 8) : carryIn ccr = if bitAt ccr 0 then 1 else 0 := by
  revert ccr; decide

end Sys2Proof.Machine

namespace Sys2Proof
open Machine

/-- Settles O1: each instruction ends in `finish` with the value of its rule. -/
theorem plainArithmeticWritesItsResult : Obligations.PlainArithmeticWritesItsResult := by
  intro s rd rs1 o a b carry
  have product : BitVec.ofNat 64 (a.toNat * b.toNat) = a * b := rfl
  have carry_eq : carry = carryIn s.ccr := (carryIn_eq s.ccr).symm
  rw [product, carry_eq]
  refine ⟨?_, ?_, ?_, ?_, ?_, ?_, ?_, ?_, ?_, ?_, ?_⟩
  all_goals exact hasOp3_and_writes rfl rfl

/-- Settles O2: each instruction ends in `finishCc` with the value and the codes of its rule. -/
theorem flagArithmeticWritesResultAndCodes : Obligations.FlagArithmeticWritesResultAndCodes := by
  intro s rd rs1 o a b carry does
  have carry_eq : carry = carryIn s.ccr := (carryIn_eq s.ccr).symm
  rw [carry_eq]
  refine ⟨?_, ?_, ?_, ?_, ?_, ?_, ?_, ?_, ?_, ?_⟩
  all_goals exact hasOp3_and_writes_codes rfl rfl

end Sys2Proof

namespace Sys2Proof.Machine

/-! ### Shifts by arithmetic (R725 to R730) -/

theorem Shift32.count_reg (r : Reg) (s : State) : Shift32.count (.reg r) s = (s.reg r).toNat % 32 := by
  simp [Shift32.count, BitVec.extractLsb']

theorem Shift64.count_reg (r : Reg) (s : State) : Shift64.count (.reg r) s = (s.reg r).toNat % 64 := by
  simp [Shift64.count, BitVec.extractLsb']

theorem shiftLeft_eq_mul (a : Word) (n : Nat) : a <<< n = BitVec.ofNat 64 (a.toNat * 2 ^ n) := by
  apply BitVec.eq_of_toNat_eq
  simp [Nat.shiftLeft_eq]

theorem toNat_ushiftRight_eq_div {w : Nat} (a : BitVec w) (n : Nat) : (a >>> n).toNat = a.toNat / 2 ^ n := by
  rw [BitVec.toNat_ushiftRight, Nat.shiftRight_eq_div_pow]

theorem toInt_sshiftRight_eq_div {w : Nat} (a : BitVec w) (n : Nat) : (a.sshiftRight n).toInt = a.toInt / 2 ^ n := by
  rw [BitVec.toInt_sshiftRight, Int.shiftRight_eq_div_pow]
  push_cast
  rfl

theorem bitAt_eq_bitOf {w : Nat} (v : BitVec w) (k : Nat) : bitAt v k = bitOf (v.extractLsb' k 1) := by
  have bitOf_eq : ∀ b : BitVec 1, bitOf b = b.getLsbD 0 := by decide
  rw [bitOf_eq, BitVec.getLsbD_extractLsb']
  rfl

theorem bitAt_12_fmt3 (op : BitVec 2) (rd : Reg) (op3 : BitVec 6) (rs1 : Reg) (low : BitVec 14) :
    bitAt (fmt3 op rd op3 rs1 low) 12 = xBit low := by
  rw [bitAt_eq_bitOf, fmt3, extract_append_within _ _ (by decide), extract_append_within _ _ (by decide),
    extract_append_within _ _ (by decide), extract_append_within _ _ (by decide), xBit]

theorem Shift32.xBit_bits (c : Shift32) : xBit c.bits = false := by
  cases c with
  | reg r => exact (Shift32.bits_reg_eq_iff.1 rfl).2.1
  | imm n => exact (Shift32.bits_imm_eq_iff.1 rfl).2.1

theorem Shift64.xBit_bits (c : Shift64) : xBit c.bits = true := by
  cases c with
  | reg r => exact (Shift64.bits_reg_eq_iff.1 rfl).2.1
  | imm n => exact (Shift64.bits_imm_eq_iff.1 rfl).2.1

theorem shift_writes {i : Instr} {s : State} {rd rs1 : Reg} {v : Word} {op3 : BitVec 6} {low : BitVec 14} {x : Bool}
    (word : encode i = fmt3 2 rd op3 rs1 low) (width : xBit low = x) (run : exec i s = (s.finish rd v).outcome) :
    HasOp3 i 2 op3 ∧ bitAt (encode i) 12 = x ∧ Writes i s s rd v :=
  ⟨hasOp3_of_encode word, by rw [word, bitAt_12_fmt3, width], writes_of_finish run rfl rfl⟩

end Sys2Proof.Machine

namespace Sys2Proof
open Machine

/-- Settles O4: each shift is the product or the quotient by the power of two that its count names. -/
theorem shiftsMultiplyAndDivide : Obligations.ShiftsMultiplyAndDivide := by
  intro s rd rs1 c32 c64 a n m does
  have hn : Shift32.count c32 s = n := by
    cases c32 with
    | reg r => exact Shift32.count_reg r s
    | imm v => rfl
  have hm : Shift64.count c64 s = m := by
    cases c64 with
    | reg r => exact Shift64.count_reg r s
    | imm v => rfl
  have srl : ((a.setWidth 32) >>> n).setWidth 64 = BitVec.ofNat 64 (a.toNat % 2 ^ 32 / 2 ^ n) := by
    rw [← BitVec.toNat_setWidth, ← toNat_ushiftRight_eq_div, BitVec.ofNat_toNat]
  have srlx : a >>> m = BitVec.ofNat 64 (a.toNat / 2 ^ m) := by
    rw [← toNat_ushiftRight_eq_div, BitVec.ofNat_toNat, BitVec.setWidth_eq]
  have sra : (((a.setWidth 32).sshiftRight n).signExtend 64) = BitVec.ofInt 64 ((a.setWidth 32).toInt / 2 ^ n) :=
    congrArg (BitVec.ofInt 64) (toInt_sshiftRight_eq_div _ n)
  have srax : a.sshiftRight m = BitVec.ofInt 64 (a.toInt / 2 ^ m) := by
    rw [← toInt_sshiftRight_eq_div, BitVec.ofInt_toInt]
  rw [← shiftLeft_eq_mul, ← shiftLeft_eq_mul, ← srl, ← srlx, ← sra, ← srax, ← hn, ← hm]
  have short : xBit c32.bits = false := Shift32.xBit_bits c32
  have long : xBit c64.bits = true := Shift64.xBit_bits c64
  exact ⟨shift_writes rfl short rfl, shift_writes rfl long rfl, shift_writes rfl short rfl, shift_writes rfl long rfl,
    shift_writes rfl short rfl, shift_writes rfl long rfl⟩

end Sys2Proof

namespace Sys2Proof.Machine

/-! ### SETHI, NOP and POPC (R732 to R735) -/

theorem foldl_count {α : Type} (p : α → Bool) (l : List α) (n : Nat) :
    l.foldl (fun acc i => if p i then acc + 1 else acc) n = n + (l.filter p).length := by
  induction l generalizing n with
  | nil => rfl
  | cons i rest ih =>
    rw [List.foldl_cons, ih, List.filter_cons]
    split
    · rw [List.length_cons]; omega
    · rfl

theorem popcount_eq (v : Word) : popcount v = ((List.range 64).filter (fun i => bitAt v i)).length :=
  (foldl_count _ _ 0).trans (Nat.zero_add _)

/-- What the `op` = 2 map says of a word. -/
theorem decode_eq_decodeArith {w : Word32} (op : opField w = 2) :
    decode w = decodeArith (rdField w) (op3Field w) (rs1Field w) (low14Field w) := by
  rw [← decode_arith, fmt3_fields op]

end Sys2Proof.Machine

namespace Sys2Proof
open Machine

/-- Settles O5: POPC counts as the filter does (`popcount_eq`), and its decoder refuses a word whose `rs1` is not 0. -/
theorem sethiNopAndPopulationCount : Obligations.SethiNopAndPopulationCount := by
  refine ⟨fun s rd imm22 => ⟨op2Field_fmt2 .., ?_⟩, fun s => ⟨rfl, completes_of_advance rfl⟩, fun s rd o => ?_,
    fun w op op3 rs1 => ?_⟩
  · rw [← append_zeros_word imm22 10]
    exact writes_of_finish rfl rfl rfl
  · rw [← popcount_eq]
    exact hasOp3_and_writes rfl rfl
  · have refused : decode w = .error .reservedField := by
      rw [decode_eq_decodeArith op, op3]
      exact if_neg rs1
    exact ⟨_, refused⟩

end Sys2Proof

namespace Sys2Proof.Machine

/-! ### Products (R740 to R746) -/

theorem toNat_low32 (v : Word) : (low32 v).toNat = v.toNat % 2 ^ 32 := by
  rw [low32, BitVec.toNat_setWidth, BitVec.toNat_setWidth]
  omega

theorem low32_mul_low32 (a b : Word) : low32 a * low32 b = BitVec.ofNat 64 ((a.toNat % 2 ^ 32) * (b.toNat % 2 ^ 32)) := by
  rw [← toNat_low32, ← toNat_low32]
  rfl

theorem slow32_mul_slow32 (a b : Word) :
    slow32 a * slow32 b = BitVec.ofInt 64 ((a.setWidth 32).toInt * (b.setWidth 32).toInt) :=
  (BitVec.ofInt_mul _ _).symm

theorem high_half_eq (p : Word) : p.extractLsb' 32 32 = BitVec.ofNat 32 (p.toNat / 2 ^ 32) := by
  rw [← Nat.shiftRight_eq_div_pow]
  rfl

theorem multiply_writes {i : Instr} {s : State} {rd rs1 : Reg} {p : Word} {codes : BitVec 8} {op3 : BitVec 6}
    {low : BitVec 14} (word : encode i = fmt3 2 rd op3 rs1 low) (run : exec i s = (s.multiply rd p codes).outcome) :
    HasOp3 i 2 op3 ∧ Writes i s { s with y := BitVec.ofNat 32 (p.toNat / 2 ^ 32), ccr := codes } rd p := by
  rw [← high_half_eq]
  exact ⟨hasOp3_of_encode word, writes_of_finishCc (b := s.setY _) run rfl rfl⟩

end Sys2Proof.Machine

namespace Sys2Proof
open Machine

/-- Settles O6: the products of the extended halves are exact, and every one ends in `multiply`. -/
theorem productsGoToRegisterAndY : Obligations.ProductsGoToRegisterAndY := by
  intro s rd rs1 o a b u p high
  have unsigned : u = low32 a * low32 b := (low32_mul_low32 a b).symm
  have signed : p = slow32 a * slow32 b := (slow32_mul_slow32 a b).symm
  rw [unsigned, signed]
  exact ⟨multiply_writes rfl rfl, multiply_writes rfl rfl, multiply_writes rfl rfl, multiply_writes rfl rfl⟩

end Sys2Proof

namespace Sys2Proof.Machine

/-! ### The multiply step (R746) -/

theorem toNat_append_eq_add {n m : Nat} (x : BitVec n) (y : BitVec m) : (x ++ y).toNat = x.toNat * 2 ^ m + y.toNat := by
  rw [BitVec.toNat_append, ← Nat.shiftLeft_add_eq_or_of_lt y.isLt, Nat.shiftLeft_eq]

theorem toNat_boolBit (b : Bool) : (boolBit b).toNat = if b then 1 else 0 := by cases b <;> rfl

/-- The most significant bit of a number of `n + 1` bits says whether `2 ^ n` is in it. -/
theorem bitAt_last {n : Nat} (v : BitVec (n + 1)) : bitAt v n = decide (2 ^ n ≤ v.toNat) :=
  (BitVec.msb_eq_getLsbD_last v).symm.trans (BitVec.msb_eq_decide v)

theorem bitAt_icc (s : State) {k : Nat} (low : k < 4) : bitAt (s.icc .icc) k = bitAt s.ccr k := by
  simp [State.icc, bitAt, low]

/-- The first operand of the step: the upper bits of the low half of the source, below `icc.n` xor `icc.v`. -/
def stepOperand (s : State) (a : Word) : BitVec 32 :=
  boolBit (bitAt s.ccr 3 != bitAt s.ccr 1) ++ a.extractLsb' 1 31

theorem toNat_stepOperand (s : State) (a : Word) :
    (stepOperand s a).toNat = (if bitAt s.ccr 3 != bitAt s.ccr 1 then 2 ^ 31 else 0) + a.toNat % 2 ^ 32 / 2 := by
  rw [stepOperand, toNat_append_eq_add, toNat_boolBit, BitVec.extractLsb'_toNat, Nat.shiftRight_eq_div_pow]
  split <;> omega

/-- The second operand: the low half of the other source, if the last bit of Y says so. -/
def stepAddend (s : State) (b : Word) : BitVec 32 := if bitAt s.y 0 then b.setWidth 32 else 0

theorem toNat_stepAddend (s : State) (b : Word) :
    (stepAddend s b).toNat = if bitAt s.y 0 then b.toNat % 2 ^ 32 else 0 := by
  unfold stepAddend
  split
  · exact BitVec.toNat_setWidth ..
  · rfl

/-- The partial sum of 33 bits. -/
def stepSum (op1 op2 : BitVec 32) : BitVec 33 := op1.setWidth 33 + op2.setWidth 33

theorem toNat_stepSum (op1 op2 : BitVec 32) : (stepSum op1 op2).toNat = op1.toNat + op2.toNat := by
  unfold stepSum
  bv_omega

/-- The codes of the step. -/
def stepCodes (op1 op2 : BitVec 32) : BitVec 8 :=
  let sum := stepSum op1 op2
  let res : BitVec 32 := sum.setWidth 32
  let v := bitAt op1 31 == bitAt op2 31 && bitAt res 31 != bitAt op1 31
  nzvc false (sum.setWidth 64 == 0#64) false false ++ nzvc (bitAt res 31) (res == 0#32) v (bitAt sum 32)

/-- What the codes say of the two operands as numbers. -/
theorem stepCodes_eq (op1 op2 : BitVec 32) :
    let sum := op1.toNat + op2.toNat
    let res := sum % 2 ^ 32
    let top := fun n : Nat => decide (2 ^ 31 ≤ n)
    stepCodes op1 op2 = nzvc false (sum == 0) false false ++
      nzvc (top res) (res == 0) (top op1.toNat == top op2.toNat && top res != top op1.toNat) (decide (2 ^ 32 ≤ sum)) := by
  intro sum res top
  have exact33 : (stepSum op1 op2).toNat = sum := toNat_stepSum op1 op2
  have exact64 : ((stepSum op1 op2).setWidth 64).toNat = sum := (BitVec.toNat_setWidth_of_le (by decide)).trans exact33
  have low : ((stepSum op1 op2).setWidth 32).toNat = res := by rw [BitVec.toNat_setWidth, exact33]
  simp only [stepCodes, bitAt_last, beq_zero_eq_toNat, exact33, exact64, low]
  rfl

theorem mulStep_eq (s : State) (rd rs1 : Reg) (o : RegImm) :
    let op1 := stepOperand s (s.reg rs1)
    let op2 := stepAddend s (RegImm.value o s)
    s.mulStep rd rs1 o = (s.setY ((s.reg rs1).extractLsb' 0 1 ++ s.y.extractLsb' 1 31)).finishCc rd
      ((stepSum op1 op2).setWidth 64) (stepCodes op1 op2) := by
  have operand : stepOperand s (s.reg rs1) =
      boolBit (bitAt (s.icc .icc) 3 != bitAt (s.icc .icc) 1) ++ (s.reg rs1).extractLsb' 1 31 := by
    rw [bitAt_icc s (by decide), bitAt_icc s (by decide)]
    rfl
  rw [operand]
  rfl

theorem shiftedY_eq (a : Word) (y : Word32) :
    a.extractLsb' 0 1 ++ y.extractLsb' 1 31 = BitVec.ofNat 32 (a.toNat % 2 * 2 ^ 31 + y.toNat / 2) := by
  apply BitVec.eq_of_toNat_eq
  rw [toNat_append_eq_add, BitVec.extractLsb'_toNat, BitVec.extractLsb'_toNat, BitVec.toNat_ofNat]
  simp only [Nat.shiftRight_eq_div_pow]
  omega

end Sys2Proof.Machine

namespace Sys2Proof
open Machine

/-- Settles O7: the partial sum of the two operands as numbers (`toNat_stepSum`), and the codes that look at it (`stepCodes_eq`). -/
theorem multiplyStepAddsAndShifts : Obligations.MultiplyStepAddsAndShifts := by
  intro s rd rs1 o a b op1 op2 sum res top icc
  have hop1 : (stepOperand s a).toNat = op1 := toNat_stepOperand s a
  have hop2 : (stepAddend s b).toNat = op2 := toNat_stepAddend s b
  have value : BitVec.ofNat 64 sum = (stepSum (stepOperand s a) (stepAddend s b)).setWidth 64 := by
    rw [← BitVec.ofNat_toNat, toNat_stepSum, hop1, hop2]
  have codes : nzvc false (sum == 0) false false ++ icc = stepCodes (stepOperand s a) (stepAddend s b) := by
    rw [stepCodes_eq, hop1, hop2]
  have run : exec (.mulscc rd rs1 o) s = (s.mulStep rd rs1 o).outcome := rfl
  rw [mulStep_eq] at run
  rw [codes, ← shiftedY_eq, value]
  exact ⟨hasOp3_of_encode rfl, writes_of_finishCc run rfl rfl⟩

end Sys2Proof

namespace Sys2Proof.Machine

/-! ### Instructions with a check before their end -/

section
variable {i : Instr} {s : State} {p : Bool} {tt : BitVec 9} {k : Res Unit}
  (run : exec i s = (firstTrap s [(p, tt)] k).outcome)
include run

theorem exec_of_check_false (pass : p = false) : exec i s = k.outcome := by rw [run, pass]; rfl

theorem traps_of_check (fail : p = true) : Traps i s s tt := by rw [Traps, run, fail]; rfl

end

/-! ### Quotients (R747 to R753) -/

theorem toInt_slow32 (v : Word) : (slow32 v).toInt = (v.setWidth 32).toInt := BitVec.toInt_signExtend_of_le (by decide)

theorem low_half_beq_zero (b : Word) : (b.setWidth 32 == 0#32) = decide (b.toNat % 2 ^ 32 = 0) := by
  rw [beq_zero_eq_toNat, BitVec.toNat_setWidth]

theorem udiv_eq_ofNat (a b : Word) : a / b = BitVec.ofNat 64 (a.toNat / b.toNat) := by
  rw [← BitVec.toNat_udiv, BitVec.ofNat_toNat, BitVec.setWidth_eq]

theorem sdiv_eq_ofInt (a b : Word) : a.sdiv b = BitVec.ofInt 64 (a.toInt.tdiv b.toInt) := by
  apply BitVec.eq_of_toInt_eq
  rw [BitVec.toInt_sdiv, BitVec.toInt_ofInt]

theorem udivResult_eq (y : Word32) (a b : Word) :
    let q := (y.toNat * 2 ^ 32 + a.toNat % 2 ^ 32) / (b.toNat % 2 ^ 32)
    let overflow := decide (0xFFFFFFFF < q)
    udivResult y a b = (if overflow then 0xFFFFFFFF else BitVec.ofNat 64 q, overflow) := by
  intro q overflow
  have quotient : ((y ++ a.setWidth 32 : Word) / low32 b).toNat = q := by
    rw [BitVec.toNat_udiv, toNat_append_eq_add, toNat_low32, BitVec.toNat_setWidth]
  have word : BitVec.ofNat 64 q = (y ++ a.setWidth 32 : Word) / low32 b := by
    rw [← quotient, BitVec.ofNat_toNat, BitVec.setWidth_eq]
  simp only [udivResult, quotient, word, overflow]
  split <;> simp [*]

theorem clampSigned_eq (q : Int) :
    (if q > 0x7FFFFFFF then (0x7FFFFFFF, true) else if q < -0x80000000 then (0xFFFFFFFF80000000, true)
      else (BitVec.ofInt 64 q, false) : Word × Bool) =
    (if 0x7FFFFFFF < q then 0x7FFFFFFF else if q < -0x80000000 then 0xFFFFFFFF80000000 else BitVec.ofInt 64 q,
      decide (0x7FFFFFFF < q ∨ q < -0x80000000)) := by
  by_cases high : 0x7FFFFFFF < q
  · simp [high]
  · by_cases low : q < -0x80000000 <;> simp [high, low]

theorem sdivResult_eq (y : Word32) (a b : Word) :
    let q := (y ++ a.setWidth 32 : Word).toInt.tdiv (b.setWidth 32).toInt
    sdivResult y a b =
      (if 0x7FFFFFFF < q then 0x7FFFFFFF else if q < -0x80000000 then 0xFFFFFFFF80000000 else BitVec.ofInt 64 q,
        decide (0x7FFFFFFF < q ∨ q < -0x80000000)) := by
  intro q
  rw [← clampSigned_eq, sdivResult, toInt_slow32]

section
variable {i : Instr} {s : State} {rd rs1 : Reg} {o : RegImm} {f : Word32 → Word → Word → Word × Bool}
  {cc : Word × Bool → BitVec 8} (run : exec i s = (s.divide rd rs1 o f cc).outcome)
include run

theorem divide_writes {v : Word} {overflow : Bool} {codes : BitVec 8}
    (result : f s.y (s.reg rs1) (RegImm.value o s) = (v, overflow)) (told : cc (v, overflow) = codes)
    (divisor : (RegImm.value o s).toNat % 2 ^ 32 ≠ 0) : Writes i s { s with ccr := codes } rd v := by
  have passes := exec_of_check_false run (by rw [low_half_beq_zero, decide_eq_false divisor])
  rw [result, told] at passes
  exact writes_of_finishCc passes rfl rfl

theorem divide_traps (zero : (RegImm.value o s).toNat % 2 ^ 32 = 0) : Traps i s s 0x028 :=
  traps_of_check run (by rw [low_half_beq_zero, decide_eq_true zero])

end

end Sys2Proof.Machine

namespace Sys2Proof
open Machine

/-- Settles O8: the 32-bit results are the clamped quotients of the rules (`udivResult_eq`, `sdivResult_eq`), behind one
check of the divisor; what a trap leaves is `State.takeTrap_keeps`. -/
theorem divisionsWriteTheQuotientOrTrap : Obligations.DivisionsWriteTheQuotientOrTrap := by
  intro s rd rs1 o a b uq uovf u sq sovf q
  have unsigned : udivResult s.y a b = (u, uovf) := udivResult_eq s.y a b
  have signed : sdivResult s.y a b = (q, sovf) := sdivResult_eq s.y a b
  obtain ⟨regs, y, ccr, -⟩ := s.takeTrap_keeps 0x028
  refine ⟨⟨hasOp3_of_encode rfl, fun divisor => ?_⟩, ⟨hasOp3_of_encode rfl, fun divisor => ?_⟩,
    ⟨hasOp3_of_encode rfl, divide_writes rfl unsigned rfl⟩, ⟨hasOp3_of_encode rfl, divide_writes rfl unsigned rfl⟩,
    ⟨hasOp3_of_encode rfl, divide_writes rfl signed rfl⟩, ⟨hasOp3_of_encode rfl, divide_writes rfl signed rfl⟩,
    fun zero => ⟨traps_of_check rfl (beq_iff_eq.2 zero), traps_of_check rfl (beq_iff_eq.2 zero)⟩,
    fun zero => ⟨divide_traps rfl zero, divide_traps rfl zero, divide_traps rfl zero, divide_traps rfl zero⟩,
    rfl, rfl, regs, y, ccr⟩
  · rw [← udiv_eq_ofNat]
    exact writes_of_finish (exec_of_check_false rfl (beq_eq_false_iff_ne.2 divisor)) rfl rfl
  · rw [← sdiv_eq_ofInt]
    exact writes_of_finish (exec_of_check_false rfl (beq_eq_false_iff_ne.2 divisor)) rfl rfl

end Sys2Proof

namespace Sys2Proof.Machine

/-! ### Tagged operations (R755 to R758) -/

theorem tagCc_eq (a b : Word) (codes : BitVec 8) :
    tagCc a b codes = if decide (a.toNat % 4 ≠ 0 ∨ b.toNat % 4 ≠ 0) then codes ||| 2 else codes := by
  have tag (v : Word) : (v.extractLsb' 0 2 != 0#2) = decide (v.toNat % 4 ≠ 0) := by
    rw [bne, beq_zero_eq_toNat, BitVec.extractLsb'_toNat, ← decide_not]
    rfl
  rw [Bool.decide_or, ← tag, ← tag]
  rfl

theorem tagged_writes_or_traps {i : Instr} {s : State} {rd : Reg} {v : Word} {codes : BitVec 8}
    (run : exec i s = (s.tagged rd v codes).outcome) :
    (bitAt codes 1 = false → Writes i s { s with ccr := codes } rd v) ∧ (bitAt codes 1 = true → Traps i s s 0x023) :=
  ⟨fun fits => writes_of_finishCc (exec_of_check_false run fits) rfl rfl, fun overflows => traps_of_check run overflows⟩

/-! ### Conditional moves (R760, R761), and their selectors (spec/30_encoding.md R665, R667, R629) -/

theorem writes_or_completes_of_ite {i : Instr} {s : State} {rd : Reg} {v : Word} {holds : Bool}
    (run : exec i s = (if holds then s.finish rd v else .ok () s.advance : Res Unit).outcome) :
    (holds = true → Writes i s s rd v) ∧ (holds = false → Completes i s s) := by
  constructor
  · rintro rfl
    exact writes_of_finish run rfl rfl
  · rintro rfl
    exact completes_of_advance run

theorem CondSel.ofBits_reserved {sel : BitVec 3} (integer : bitAt sel 2 = true) (reserved : bitAt sel 0 = true)
    (cond : BitVec 4) : CondSel.ofBits sel cond = none := by
  revert sel cond; decide

theorem decodeMovcc_reserved {w : Word32} (integer : bitAt w 18 = true) (reserved : bitAt w 11 = true) (rd : Reg) :
    decodeMovcc rd (rs1Field w) (low14Field w) = .error .reservedOpcode := by
  have integer' : bitAt ((rs1Field w).extractLsb' 4 1 ++ (low14Field w).extractLsb' 11 2) 2 = true := by
    rw [bitAt, BitVec.getLsbD_append]
    simpa [bitAt, rs1Field] using integer
  have reserved' : bitAt ((rs1Field w).extractLsb' 4 1 ++ (low14Field w).extractLsb' 11 2) 0 = true := by
    rw [bitAt, BitVec.getLsbD_append]
    simpa [bitAt, low14Field] using reserved
  rw [decodeMovcc, CondSel.ofBits_reserved integer' reserved', ifSome]

theorem RCond.ofBits_reserved {code : BitVec 3} (reserved : code.extractLsb' 0 2 = 0) : RCond.ofBits code = none := by
  revert code; decide

theorem decodeMovr_reserved {w : Word32} (reserved : w.extractLsb' 10 2 = 0) (rd rs1 : Reg) :
    decodeMovr rd rs1 (low14Field w) = .error .reservedOpcode := by
  have within : ((low14Field w).extractLsb' 10 3).extractLsb' 0 2 = w.extractLsb' 10 2 := by
    apply BitVec.eq_of_getLsbD_eq
    intro k h
    simp [low14Field, h, show k < 3 by omega]
  rw [decodeMovr, RCond.ofBits_reserved (within.trans reserved), ifSome]

end Sys2Proof.Machine

namespace Sys2Proof
open Machine

/-- Settles O9: `tagCc` adds the tag bits to the codes of the sum or the difference (`tagCc_eq`). -/
theorem taggedArithmeticChecksTags : Obligations.TaggedArithmeticChecksTags := by
  intro s rd rs1 o a b tagged codes add sub
  have hadd : add = tagCc a b (addCc a b (a + b)) := (tagCc_eq ..).symm
  have hsub : sub = tagCc a b (subCc a b (a - b)) := (tagCc_eq ..).symm
  rw [hadd, hsub]
  exact ⟨hasOp3_and_writes_codes rfl rfl, hasOp3_and_writes_codes rfl rfl, ⟨hasOp3_of_encode rfl, tagged_writes_or_traps rfl⟩,
    ⟨hasOp3_of_encode rfl, tagged_writes_or_traps rfl⟩, rfl, rfl⟩

/-- Settles O10: after its check each move is one choice (`writes_or_completes_of_ite`); a reserved selector or condition decodes
to none. -/
theorem conditionalMovesWriteOnTheirCondition : Obligations.ConditionalMovesWriteOnTheirCondition := by
  refine ⟨fun s rd c o => ?_, fun s rd rs1 rc o => ?_, fun w op => ⟨fun op3 integer reserved => ?_, fun op3 reserved => ?_⟩⟩
  · intro src i
    have source : src = RegImm11.value o s := by cases o <;> rfl
    have run : exec i s = (firstTrap s [(CondSel.isFp c && !s.fpEnabled, 0x020)]
      (if CondSel.holds c s then s.finish rd (RegImm11.value o s) else .ok () s.advance)).outcome := rfl
    rw [source]
    refine ⟨hasOp3_of_encode rfl, fun fp off => traps_of_check run (by simp [fp, off]), fun usable => ?_⟩
    exact writes_or_completes_of_ite (exec_of_check_false run (by rcases usable with int | on <;> simp [*]))
  · intro src i
    have source : src = RegImm10.value o s := by cases o <;> rfl
    rw [source]
    exact ⟨hasOp3_of_encode rfl, writes_or_completes_of_ite rfl⟩
  · refine ⟨.reservedOpcode, ?_⟩
    rw [decode_eq_decodeArith op, op3]
    exact decodeMovcc_reserved integer reserved _
  · refine ⟨.reservedOpcode, ?_⟩
    rw [decode_eq_decodeArith op, op3]
    exact decodeMovr_reserved reserved _ _

end Sys2Proof

namespace Sys2Proof.Machine

/-! ### Targets of transfers (spec/41_control_transfer.md R800, R801; spec/20_memory.md R508) -/

/-- A word displacement counts words. -/
theorem branchDisp_eq_ofInt {n : Nat} (d : BitVec n) : branchDisp d = BitVec.ofInt 64 (4 * d.toInt) := by
  rw [branchDisp, BitVec.shiftLeft_eq_mul_twoPow, BitVec.ofInt_mul, BitVec.mul_comm]
  rfl

theorem maskAddr_eq_ofNat (am : Bool) (a : Word) :
    maskAddr am a = if am then BitVec.ofNat 64 (a.toNat % 2 ^ 32) else a := by
  cases am with
  | false => rfl
  | true =>
    show low32 a = BitVec.ofNat 64 (a.toNat % 2 ^ 32)
    rw [← toNat_low32, BitVec.ofNat_toNat, BitVec.setWidth_eq]

/-- The PC as CALL and JMPL write it: word-aligned, and under PSTATE.am its low half (spec/10_state.md R60, R63). -/
theorem State.pcValue_eq (s : State) :
    s.pcValue = if s.pstate.am then BitVec.ofNat 64 (s.pc.toNat % 2 ^ 32 / 4 * 4)
      else ((s.pc.extractLsb' 2 46 ++ 0#2 : BitVec 48).signExtend 64) := by
  unfold State.pcValue maskAddr
  split
  · have low : (sext48 (s.pc.extractLsb' 2 46 ++ 0#2)).setWidth 32 = s.pc.extractLsb' 2 30 ++ 0#2 := by
      apply BitVec.eq_of_getLsbD_eq
      intro k hk
      rw [sext48, BitVec.getLsbD_setWidth, BitVec.getLsbD_signExtend, BitVec.getLsbD_append, BitVec.getLsbD_append]
      simp [hk, show k < 48 by omega, show k < 64 by omega, show k - 2 < 46 by omega, show k - 2 < 30 by omega]
    rw [low, append_zeros_word, BitVec.extractLsb'_toNat, Nat.shiftRight_eq_div_pow]
    congr 1
    omega
  · rfl

theorem State.jump_eq (s : State) (target : Word) (next : State) :
    s.jump target next = if target.toNat % 4 = 0 then s.transfer target next else .trap 0x034 (s.setDsfar target) := by
  simp only [State.jump, bne_iff_ne, ne_eq, wordAligned_iff, ite_not]

theorem State.fetchRoute_beq_real (s : State) :
    (s.fetchRoute == .real) = (!s.hpstate.hpriv && !s.hpstate.red && !s.lsu.im) := by
  unfold State.fetchRoute
  cases s.hpstate.hpriv <;> cases s.hpstate.red <;> cases s.lsu.im <;> rfl

theorem goes_of_next {i : Instr} {s b : State} {pc npc : Word} (run : exec i s = .next { b with pc := pc, npc := npc })
    (memory : b.mem = s.mem) : Goes i s b pc npc :=
  ⟨_, run, rfl, fun a => congrArg (sparseGet dramInitial · a) memory⟩

/-! ### What a transfer does (R803, R845) -/

theorem State.transfer_of_reachable {s : State} {target : Word} (reach : Reachable s target) (next : State) :
    s.transfer target next = .ok () next := by
  obtain ⟨tct, masked | inside⟩ := reach <;> simp [State.transfer, *]

/-- The trap type of a target outside the address space (R845). -/
def State.rangeTrap (s : State) : BitVec 9 :=
  if !s.hpstate.hpriv && !s.hpstate.red && !s.lsu.im then 0x02D else 0x02E

/-- What a taken transfer to `target` raises instead of executing (R803, R845). -/
def TransferRaises (i : Instr) (s : State) (target : Word) : Prop :=
  (s.pstate.tct = true → Traps i s s 0x074) ∧
  (s.pstate.tct = false → s.pstate.am = false → outOfRange target = true → Traps i s (s.setDsfar target) s.rangeTrap)

theorem transferRaises_of_transfer {i : Instr} {s : State} {target : Word} {next : State}
    (run : exec i s = (s.transfer target next).outcome) : TransferRaises i s target := by
  refine ⟨fun tct => ?_, fun tct am hole => ?_⟩
  · rw [Traps, run, State.transfer, if_pos tct]
    rfl
  · rw [Traps, run, State.rangeTrap, ← State.fetchRoute_beq_real]
    simp [State.transfer, tct, am, hole]

section
variable {i : Instr} {s : State} {holds always annul : Bool} {n : Nat} {d : BitVec n}
  (run : exec i s = (s.branch holds always annul (branchDisp d)).outcome)
include run

/-- A branch by its condition: on, over the delay instruction, or to its target with or without it (R801). -/
theorem branch_goes :
    let target := s.pc + BitVec.ofInt 64 (4 * d.toInt)
    (holds = false → Goes i s s (if annul then s.npc + 4 else s.npc) (if annul then s.npc + 8 else s.npc + 4)) ∧
    (holds = true → Reachable s target →
      Goes i s s (if always && annul then target else s.npc) (if always && annul then target + 4 else target)) := by
  rw [branchDisp_eq_ofInt] at run
  constructor
  · rintro rfl
    exact goes_of_next (run.trans (by cases annul <;> rfl)) rfl
  · rintro rfl reach
    rw [State.branch, if_pos rfl, State.transfer_of_reachable reach] at run
    exact goes_of_next (run.trans (by cases always && annul <;> rfl)) rfl

theorem branch_raises (taken : holds = true) : TransferRaises i s (s.pc + BitVec.ofInt 64 (4 * d.toInt)) := by
  rw [taken, State.branch, if_pos rfl, branchDisp_eq_ofInt] at run
  exact transferRaises_of_transfer run

end

/-! ### Branches that need the floating-point unit (R808, R809), and words that are no branch (spec/30_encoding.md R626) -/

section
variable {i : Instr} {s : State} {k : Res Unit} (run : exec i s = (firstTrap s [(!s.fpEnabled, 0x020)] k).outcome)
include run

theorem exec_of_fpEnabled (on : s.fpEnabled = true) : exec i s = k.outcome := exec_of_check_false run (by rw [on]; rfl)

theorem traps_of_fpDisabled (off : s.fpEnabled = false) : Traps i s s 0x020 := traps_of_check run (by rw [off]; rfl)

end

theorem decode_eq_decodeFmt2 {w : Word32} (op : opField w = 0) :
    decode w = decodeFmt2 (rdField w) (op2Field w) (low22Field w) := by
  rw [← decode_fmt2, fmt2_fields op]

theorem ifSome_of_eq_none {α : Type} {o : Option α} (reserved : o = none) (k : α → Decoded) :
    ifSome o k = .error .reservedOpcode := by
  rw [reserved]
  rfl

theorem ICC.ofBits_reserved {code : BitVec 2} (reserved : bitAt code 0 = true) : ICC.ofBits code = none := by
  revert code; decide

theorem decodeFmt2_bpcc_reserved {w : Word32} (reserved : bitAt w 20 = true) (rd : BitVec 5) :
    decodeFmt2 rd 1 (low22Field w) = .error .reservedOpcode := by
  have code : bitAt ((low22Field w).extractLsb' 20 2) 0 = true := by simpa [bitAt, low22Field] using reserved
  exact ifSome_of_eq_none (ICC.ofBits_reserved code) _

theorem decodeFmt2_bpr_reserved {w : Word32} (reserved : bitAt w 28 = true ∨ w.extractLsb' 25 2 = 0) (low : BitVec 22) :
    ∃ e, decodeFmt2 (rdField w) 3 low = .error e := by
  by_cases zero : ((rdField w).extractLsb' 0 4).extractLsb' 3 1 = 0
  · have not28 : bitAt w 28 = false := by
      rw [bitAt_eq_bitOf, bitOf_eq_false, ← zero]
      ext k hk
      simp [rdField, show k = 0 by omega]
    have cond : (((rdField w).extractLsb' 0 4).extractLsb' 0 3).extractLsb' 0 2 = 0 := by
      rw [← reserved.resolve_left (by simp [not28])]
      ext k hk
      simp [rdField, show k < 5 by omega]
    exact ⟨_, (if_pos zero).trans (ifSome_of_eq_none (RCond.ofBits_reserved cond) _)⟩
  · exact ⟨_, if_neg zero⟩

end Sys2Proof.Machine

namespace Sys2Proof
open Machine

/-- Settles O12: each of the five is one `State.branch` (`branch_goes`), the floating-point ones after their check; the decoder
refuses the reserved selectors. -/
theorem branchesFollowTheirCondition : Obligations.BranchesFollowTheirCondition := by
  intro s annul p c cc rc rs1 f n d22 d19 d16 does codes
  have codes_eq : codes = s.icc cc := by cases cc <;> rfl
  rw [codes_eq]
  refine ⟨⟨opField_fmt2 .., op2Field_fmt2 .., branch_goes rfl⟩, ⟨opField_fmt2 .., op2Field_fmt2 .., branch_goes rfl⟩,
    ⟨opField_fmt2 .., op2Field_fmt2 .., branch_goes rfl⟩,
    fun on => ⟨⟨opField_fmt2 .., op2Field_fmt2 .., branch_goes (exec_of_fpEnabled rfl on)⟩,
      ⟨opField_fmt2 .., op2Field_fmt2 .., branch_goes (exec_of_fpEnabled rfl on)⟩⟩,
    fun off => ⟨traps_of_fpDisabled rfl off, traps_of_fpDisabled rfl off⟩,
    fun w op => ⟨fun op2 reserved => ?_, fun op2 reserved => ?_⟩⟩
  · rw [decode_eq_decodeFmt2 op, op2]
    exact ⟨_, decodeFmt2_bpcc_reserved reserved _⟩
  · rw [decode_eq_decodeFmt2 op, op2]
    exact decodeFmt2_bpr_reserved reserved _

end Sys2Proof

namespace Sys2Proof.Machine

/-! ### Jumps and links (R810, R811, R846) -/

section
variable {i : Instr} {s : State} {target : Word} {next : State} (run : exec i s = (s.jump target next).outcome)
include run

theorem jump_traps (misaligned : target.toNat % 4 ≠ 0) : Traps i s (s.setDsfar target) 0x034 := by
  rw [Traps, run, State.jump_eq, if_neg misaligned]
  rfl

theorem exec_of_jump_aligned (aligned : target.toNat % 4 = 0) : exec i s = (s.transfer target next).outcome := by
  rw [run, State.jump_eq, if_pos aligned]

end

theorem exec_call (s : State) (d : BitVec 30) :
    let target := s.pc + BitVec.ofInt 64 (4 * d.toInt)
    exec (.call d) s = (s.transfer target ((s.setReg 15 s.pcValue).delayTo target)).outcome := by
  rw [← branchDisp_eq_ofInt]
  rfl

/-- RETURN with a window to go to is a jump that moves to it (R812). -/
theorem exec_returnI {s : State} (window : s.win.canrestore ≠ 0) (rs1 : Reg) (o : RegImm) :
    exec (.returnI rs1 o) s = (s.jump (s.ea rs1 o) ((s.setWin s.win.previous).delayTo (s.ea rs1 o))).outcome :=
  exec_of_check_false rfl (beq_eq_false_iff_ne.2 window)

theorem linksTo_of_transfer {i : Instr} {s : State} {rd : Reg} {v target : Word}
    (run : exec i s = (s.transfer target ((s.setReg rd v).delayTo target)).outcome) (reach : Reachable s target) :
    LinksTo i s rd v target := by
  rw [State.transfer_of_reachable reach] at run
  exact ⟨_, run, wroteReg_setReg s rd v rfl rfl rfl, rfl, fun _ => rfl⟩

end Sys2Proof.Machine

namespace Sys2Proof
open Machine

/-- Settles O13: every taken transfer ends in `State.transfer` (`transferRaises_of_transfer`), the jumps after the check of their
alignment. -/
theorem takenTransfersTrapBeforeTheyExecute : Obligations.TakenTransfersTrapBeforeTheyExecute := by
  intro s annul p c cc rc fc n rs1 rd o d22 d19 d16 d30 range raises rel sum jump
  have target : jump = s.ea rs1 o := (maskAddr_eq_ofNat ..).symm
  rw [target]
  refine ⟨branch_raises rfl, branch_raises rfl, branch_raises rfl, fun on => branch_raises (exec_of_fpEnabled rfl on),
    fun on => branch_raises (exec_of_fpEnabled rfl on), transferRaises_of_transfer (exec_call s d30),
    jump_traps rfl, fun aligned => transferRaises_of_transfer (exec_of_jump_aligned rfl aligned), fun window => ⟨?_, ?_⟩⟩
  · exact jump_traps (exec_returnI window rs1 o)
  · exact fun aligned => transferRaises_of_transfer (exec_of_jump_aligned (exec_returnI window rs1 o) aligned)

/-- Settles O14: both end in a transfer that writes `State.pcValue` to their register (`linksTo_of_transfer`). -/
theorem callAndJumpLinkAndTransfer : Obligations.CallAndJumpLinkAndTransfer := by
  intro s d30 rd rs1 o link target jump
  have link_eq : link = s.pcValue := s.pcValue_eq.symm
  have jump_eq : jump = s.ea rs1 o := (maskAddr_eq_ofNat ..).symm
  rw [link_eq, jump_eq]
  exact ⟨⟨opField_call d30, linksTo_of_transfer (exec_call s d30)⟩, hasOp3_of_encode rfl,
    fun aligned => linksTo_of_transfer (exec_of_jump_aligned rfl aligned)⟩

end Sys2Proof

namespace Sys2Proof.Machine

/-! ### Instructions that move the window (R840, R841) -/

theorem exec_save_checks (s : State) (rd rs1 : Reg) (o : RegImm) :
    exec (.save rd rs1 o) s = (firstTrap s [(s.win.cansave == 0, s.win.spill)]
      (firstTrap s [(s.win.cleanwin - s.win.canrestore == 0, 0x024)]
        ((s.setWin s.win.next).finish rd (s.reg rs1 + RegImm.value o s)))).outcome := rfl

/-- SAVE with a window that can be saved looks for a clean one. -/
theorem exec_save_clean {s : State} (window : s.win.cansave ≠ 0) (rd rs1 : Reg) (o : RegImm) :
    exec (.save rd rs1 o) s = (firstTrap s [(s.win.cleanwin - s.win.canrestore == 0, 0x024)]
      ((s.setWin s.win.next).finish rd (s.reg rs1 + RegImm.value o s))).outcome :=
  exec_of_check_false (exec_save_checks s rd rs1 o) (beq_eq_false_iff_ne.2 window)

theorem exec_save {s : State} (window : s.win.cansave ≠ 0) (clean : s.win.cleanwin ≠ s.win.canrestore) (rd rs1 : Reg)
    (o : RegImm) :
    exec (.save rd rs1 o) s = ((s.setWin s.win.next).finish rd (s.reg rs1 + RegImm.value o s)).outcome :=
  exec_of_check_false (exec_save_clean window rd rs1 o) (beq_eq_false_iff_ne.2 (sub_ne_zero.2 clean))

theorem exec_restore {s : State} (window : s.win.canrestore ≠ 0) (rd rs1 : Reg) (o : RegImm) :
    exec (.restore rd rs1 o) s = ((s.setWin s.win.previous).finish rd (s.reg rs1 + RegImm.value o s)).outcome :=
  exec_of_check_false rfl (beq_eq_false_iff_ne.2 window)

/-! ### The register windows overlap (spec/10_state.md R51) -/

section
variable {gl : BitVec 2} {cwp : BitVec 3}

/-- The out registers of a window are the in registers of the next one. -/
theorem regSlot_in_next (k : BitVec 3) : regSlot gl (cwp + 1) (3#2 ++ k) = regSlot gl cwp (1#2 ++ k) := by
  revert gl cwp k; decide

theorem regSlot_global (cwp' : BitVec 3) (k : BitVec 3) : regSlot gl cwp' (0#2 ++ k) = regSlot gl cwp (0#2 ++ k) := by
  revert gl cwp cwp' k; decide

/-- The window whose local or in register lies at a place. -/
def RegSlot.window : RegSlot → Option (BitVec 3)
  | .windowLocal i | .inout i => some (i.extractLsb' 3 3)
  | .zero | .global _ => none

theorem regSlot_window_of_le {r : Reg} (upper : 16 ≤ r.toNat) : (regSlot gl cwp r).window = some cwp := by
  revert gl cwp r; decide +kernel

theorem regSlot_next_window (r : Reg) : (regSlot gl (cwp + 1) r).window ≠ some cwp := by
  revert gl cwp r; decide +kernel

/-- A window shares no local and no in register with the next one. -/
theorem lt_of_regSlot_eq_next {r r' : Reg} (shared : regSlot gl cwp r = regSlot gl (cwp + 1) r') : r.toNat < 16 := by
  by_contra upper
  have window := regSlot_window_of_le (gl := gl) (cwp := cwp) (Nat.le_of_not_lt upper)
  exact regSlot_next_window r' (shared ▸ window)

end

end Sys2Proof.Machine

namespace Sys2Proof
open Machine

/-- Settles O15: SAVE and RESTORE end in `finish` in the window they move to, RETURN in a jump; where the registers of a window
lie is `regSlot`. -/
theorem windowsMoveAndOverlap : Obligations.WindowsMoveAndOverlap := by
  refine ⟨fun s rd rs1 o => ?_, fun s => ?_⟩
  · intro v target next previous
    have target_eq : target = s.ea rs1 o := (maskAddr_eq_ofNat ..).symm
    rw [target_eq]
    refine ⟨⟨hasOp3_of_encode rfl, fun window clean => ?_⟩, ⟨hasOp3_of_encode rfl, fun window => ?_⟩,
      ⟨hasOp3_of_encode rfl, fun window aligned reach => ?_⟩⟩
    · exact writes_of_finish (b := s.setWin s.win.next) (exec_save window clean rd rs1 o) rfl rfl
    · exact writes_of_finish (b := s.setWin s.win.previous) (exec_restore window rd rs1 o) rfl rfl
    · have run := exec_of_jump_aligned (exec_returnI window rs1 o) aligned
      rw [State.transfer_of_reachable reach] at run
      exact goes_of_next run rfl
  · intro t
    refine ⟨fun k => ⟨?_, ?_⟩, fun r r' => regSlot_inj, fun r r' => lt_of_regSlot_eq_next, s.reg_setReg⟩
    · exact congrArg s.regs.get (regSlot_in_next k)
    · exact congrArg s.regs.get (regSlot_global _ k)

end Sys2Proof

namespace Sys2Proof.Machine

/-! ### Window traps (R842, R843), and their entry (spec/60_exceptions.md R1340 step 3) -/

/-- The vectors of WSTATE are spaced by four trap types. -/
theorem wstate_vectors (w : BitVec 6) :
    (w.extractLsb' 0 3 ++ 0#2).setWidth 9 = BitVec.ofNat 9 (4 * (w.toNat % 8)) ∧
    (w.extractLsb' 3 3 ++ 0#2).setWidth 9 = BitVec.ofNat 9 (4 * (w.toNat / 8)) := by
  revert w; decide

theorem Windows.spill_eq (w : Windows) : w.spill =
    if w.otherwin = 0 then 0x080 + BitVec.ofNat 9 (4 * (w.wstate.toNat % 8))
    else 0x0A0 + BitVec.ofNat 9 (4 * (w.wstate.toNat / 8)) := by
  obtain ⟨normal, other⟩ := wstate_vectors w.wstate
  rw [Windows.spill, normal, other]
  rfl

theorem Windows.fill_eq (w : Windows) : w.fill =
    if w.otherwin = 0 then 0x0C0 + BitVec.ofNat 9 (4 * (w.wstate.toNat % 8))
    else 0x0E0 + BitVec.ofNat 9 (4 * (w.wstate.toNat / 8)) := by
  obtain ⟨normal, other⟩ := wstate_vectors w.wstate
  rw [Windows.fill, normal, other]
  rfl

/-- The eight vectors from a base on take 32 trap types. -/
theorem vector_mem : ∀ base ∈ [0x080#9, 0x0A0, 0x0C0, 0x0E0], ∀ v : BitVec 3,
    base ≤ base + (v ++ 0#2).setWidth 9 ∧ base + (v ++ 0#2).setWidth 9 ≤ base + 0x1F := by
  decide

theorem Windows.spill_mem (w : Windows) : 0x080 ≤ w.spill ∧ w.spill ≤ 0x0BF := by
  unfold Windows.spill
  split
  · obtain ⟨above, below⟩ := vector_mem 0x080 (by decide) (w.wstate.extractLsb' 0 3)
    exact ⟨above, BitVec.le_trans below (by decide)⟩
  · obtain ⟨above, below⟩ := vector_mem 0x0A0 (by decide) (w.wstate.extractLsb' 3 3)
    exact ⟨BitVec.le_trans (by decide) above, below⟩

theorem Windows.fill_mem (w : Windows) : 0x0C0 ≤ w.fill ∧ w.fill ≤ 0x0FF := by
  unfold Windows.fill
  split
  · obtain ⟨above, below⟩ := vector_mem 0x0C0 (by decide) (w.wstate.extractLsb' 0 3)
    exact ⟨above, BitVec.le_trans below (by decide)⟩
  · obtain ⟨above, below⟩ := vector_mem 0x0E0 (by decide) (w.wstate.extractLsb' 3 3)
    exact ⟨BitVec.le_trans (by decide) above, below⟩

/-- Every way of entry moves the window alike. -/
theorem State.takeTrap_win (s : State) (tt : BitVec 9) : (s.takeTrap tt).win = trapWindow tt s.win := by
  rcases s.takeTrap_cases tt with ⟨_, h⟩ | ⟨_, h⟩ | ⟨_, h⟩ | ⟨_, h⟩ | ⟨_, h⟩ <;> rw [h] <;> rfl

section
variable {tt : BitVec 9}

theorem trapWindow_spill (spill : 0x080 ≤ tt ∧ tt ≤ 0x0BF) (w : Windows) :
    trapWindow tt w = { w with cwp := w.cwp + w.cansave + 2 } :=
  if_pos (by rwa [Bool.and_eq_true, decide_eq_true_eq, decide_eq_true_eq])

theorem trapWindow_fill (fill : 0x0C0 ≤ tt ∧ tt ≤ 0x0FF) (w : Windows) : trapWindow tt w = { w with cwp := w.cwp - 1 } := by
  have notSpill : ¬tt ≤ 0x0BF := by bv_omega
  exact (if_neg (by simpa using fun _ => notSpill)).trans
    (if_pos (by rwa [Bool.and_eq_true, decide_eq_true_eq, decide_eq_true_eq]))

theorem trapPriority_of_window (window : 0x080 ≤ tt ∧ tt ≤ 0x0FF) : trapPriority tt = 9 * 16 :=
  if_pos (by rwa [Bool.and_eq_true, decide_eq_true_eq, decide_eq_true_eq])

theorem trapPriority_of_software (software : 0x100 ≤ tt) : trapPriority tt = 16 * 16 + 2 := by
  revert tt; decide +kernel

/-- Window traps and software traps go to privileged mode, but for those of Tcc that only hyperprivileged mode can take. -/
theorem trapToPriv_of_le (above : 0x080 ≤ tt) : trapToPriv tt = decide (tt.toNat < 0x180) := by
  revert tt; decide +kernel

end

theorem completes_or_traps_of_check {i : Instr} {s : State} {p : Bool} {tt : BitVec 9}
    (run : exec i s = (firstTrap s [(p, tt)] (.ok () s.advance)).outcome) :
    (p = false → Completes i s s) ∧ (p = true → Traps i s s tt) :=
  ⟨fun passes => completes_of_advance (exec_of_check_false run passes), fun fails => traps_of_check run fails⟩

end Sys2Proof.Machine

namespace Sys2Proof
open Machine

/-- Settles O16: the trap types are `Windows.spill` and `Windows.fill`, which lie where `trapWindow` moves to the window to be
spilled or filled. -/
theorem windowTrapsSelectVectorAndWindow : Obligations.WindowTrapsSelectVectorAndWindow := by
  intro s rd rs1 o normal other spill fill enters
  have spill_eq : spill = s.win.spill := s.win.spill_eq.symm
  have fill_eq : fill = s.win.fill := s.win.fill_eq.symm
  obtain ⟨flushes, spills⟩ := completes_or_traps_of_check (rfl : exec .flushw s = _)
  obtain ⟨spill_le, le_spill⟩ := s.win.spill_mem
  obtain ⟨fill_le, le_fill⟩ := s.win.fill_mem
  rw [spill_eq, fill_eq]
  refine ⟨fun full => traps_of_check (exec_save_checks s rd rs1 o) (beq_iff_eq.2 full),
    fun window dirty => traps_of_check (exec_save_clean window rd rs1 o) (beq_iff_eq.2 (sub_eq_zero.2 dirty)),
    fun empty => ⟨traps_of_check rfl (beq_iff_eq.2 empty), traps_of_check rfl (beq_iff_eq.2 empty)⟩,
    hasOp3_of_encode rfl, fun free => flushes (bne_eq_false_iff_eq.2 free), fun used => spills (bne_iff_ne.2 used),
    ?_, ?_, s.takeTrap_win 0x024, ?_, ?_, ?_, ?_⟩
  · exact (s.takeTrap_win _).trans (trapWindow_spill ⟨spill_le, le_spill⟩ _)
  · exact (s.takeTrap_win _).trans (trapWindow_fill ⟨fill_le, le_fill⟩ _)
  · exact trapPriority_of_window ⟨spill_le, by bv_omega⟩
  · exact trapPriority_of_window ⟨by bv_omega, le_fill⟩
  · exact (trapToPriv_of_le spill_le).trans (decide_eq_true (by bv_omega))
  · exact (trapToPriv_of_le (by bv_omega)).trans (decide_eq_true (by bv_omega))

end Sys2Proof

namespace Sys2Proof.Machine

/-! ### Privileged window instructions (R850 to R856) -/

theorem windowOp_completes_or_traps {i : Instr} {s : State} {w : Windows} (run : exec i s = (s.windowOp w).outcome) :
    (s.level ≠ .user → Completes i s { s with win := w }) ∧ (s.level = .user → Traps i s s 0x011) := by
  refine ⟨fun privileged => ?_, fun user => traps_of_check run (beq_iff_eq.2 user)⟩
  exact ⟨_, exec_of_check_false run (beq_eq_false_iff_ne.2 privileged), rfl, fun _ => rfl⟩

/-- RESTORED counts one more clean window, seven at most. -/
theorem cleanwin_eq_min (c : BitVec 3) : (if c < 7 then c + 1 else c) = BitVec.ofNat 3 (min (c.toNat + 1) 7) := by
  revert c; decide

end Sys2Proof.Machine

namespace Sys2Proof
open Machine

/-- Settles O17: each of the six is one `State.windowOp`. -/
theorem windowControlInstructions : Obligations.WindowControlInstructions := by
  intro s w does
  rw [← cleanwin_eq_min]
  exact ⟨⟨rfl, windowOp_completes_or_traps rfl⟩, ⟨rfl, windowOp_completes_or_traps rfl⟩,
    ⟨rfl, windowOp_completes_or_traps rfl⟩, ⟨rfl, windowOp_completes_or_traps rfl⟩,
    ⟨rfl, windowOp_completes_or_traps rfl⟩, ⟨rfl, windowOp_completes_or_traps rfl⟩⟩

end Sys2Proof

namespace Sys2Proof.Machine

/-! ### Trap returns (R830 to R832) -/

/-- GL is held to MAXPTL, which only the value 3 exceeds (R832). -/
theorem returnGl_eq (toHyper : Bool) (gl : BitVec 2) :
    returnGl toHyper gl = if toHyper then gl else if gl = 3 then 2 else gl := by
  revert toHyper gl; decide

section
variable {i : Instr} {s : State} {retry : Bool} (run : exec i s = (s.trapReturn retry).outcome)
include run

theorem trapReturn_user (user : s.level = .user) : Traps i s s 0x011 := by
  rw [Traps, run, State.trapReturn, user, bne, beq_self_eq_true, Bool.not_true, Bool.and_false]
  rfl

theorem trapReturn_noTrap (privileged : s.level ≠ .user) (tl : s.tl = 0) : Traps i s s 0x010 := by
  rw [Traps, run, State.trapReturn, tl, bne, beq_eq_false_iff_ne.2 privileged]
  rfl

section
variable (privileged : s.level ≠ .user) (tl : s.tl ≠ 0)
include privileged tl

/-- In a trap handler above nonprivileged mode only PSTATE.tct can stop the return. -/
theorem exec_trapReturn :
    exec i s = (firstTrap s [(s.pstate.tct, 0x074)] (.ok () (s.returnFromTrap retry))).outcome := by
  rw [run, State.trapReturn, beq_eq_false_iff_ne.2 tl, beq_eq_false_iff_ne.2 privileged]
  rfl

theorem exec_trapReturn_of_tct_false (tct : s.pstate.tct = false) :
    let f := s.frame
    exec i s = .next { s.returnFromTrap retry with
      gl := if s.hpstate.hpriv && f.hpstate.hpriv then f.gl else if f.gl = 3 then 2 else f.gl } := by
  intro f
  rw [exec_of_check_false (exec_trapReturn run privileged tl) tct, ← returnGl_eq]
  rfl

end
end

end Sys2Proof.Machine

namespace Sys2Proof
open Machine

/-- Settles O18: the checks of `State.trapReturn` in the order of their priorities, then `State.returnFromTrap`. -/
theorem trapReturnsRestoreTheSavedState : Obligations.TrapReturnsRestoreTheSavedState := by
  intro s f address pc npc hyper b
  refine ⟨rfl, rfl, fun user => ⟨trapReturn_user rfl user, trapReturn_user rfl user⟩,
    fun privileged tl => ⟨trapReturn_noTrap rfl privileged tl, trapReturn_noTrap rfl privileged tl⟩,
    fun privileged tl tct => ⟨traps_of_check (exec_trapReturn rfl privileged tl) tct,
      traps_of_check (exec_trapReturn rfl privileged tl) tct⟩,
    fun privileged tl tct => ⟨goes_of_next (exec_trapReturn_of_tct_false (retry := false) rfl privileged tl tct) rfl,
      goes_of_next (exec_trapReturn_of_tct_false (retry := true) rfl privileged tl tct) rfl⟩⟩

end Sys2Proof

namespace Sys2Proof.Machine

/-! ### Software traps (R815) -/

theorem append_low7_eq (k : BitVec 2) (n : Word) :
    k ++ n.extractLsb' 0 7 = BitVec.ofNat 9 (128 * k.toNat + n.toNat % 128) := by
  apply BitVec.eq_of_toNat_eq
  rw [toNat_append_eq_add, BitVec.extractLsb'_toNat, BitVec.toNat_ofNat, Nat.shiftRight_zero]
  omega

theorem State.softwareTrap_eq (s : State) (n : Word) :
    s.softwareTrap n = if s.level = .user ∨ n.toNat / 128 % 2 = 0 then BitVec.ofNat 9 (0x100 + n.toNat % 128)
      else BitVec.ofNat 9 (0x180 + n.toNat % 128) := by
  have bit7 : bitAt n 7 = decide (n.toNat / 128 % 2 = 1) := Nat.testBit_eq_decide_div_mod_eq
  simp only [State.softwareTrap, append_low7_eq, bit7, Bool.or_eq_true, beq_iff_eq, Bool.not_eq_true', decide_eq_false_iff_not,
    Nat.mod_two_ne_one]
  rfl

theorem State.le_softwareTrap (s : State) (n : Word) : 0x100 ≤ s.softwareTrap n := by
  have base (k : BitVec 2) (upper : 2 ≤ k.toNat) (low : BitVec 7) : 0x100#9 ≤ k ++ low := by
    rw [BitVec.le_def, toNat_append_eq_add]
    exact (Nat.mul_le_mul_right (2 ^ 7) upper).trans (Nat.le_add_right _ _)
  unfold State.softwareTrap
  split
  · exact base 2 (by decide) _
  · exact base 3 (by decide) _

end Sys2Proof.Machine

namespace Sys2Proof
open Machine

/-- Settles O19: Tcc is one check with the type `State.softwareTrap`, which is 0x100 or more. -/
theorem softwareTrapsSelectTheirType : Obligations.SoftwareTrapsSelectTheirType := by
  intro s c cc rs1 o n tt i
  have number : n = s.reg rs1 + TrapNum.value o s := by
    cases o with
    | reg r => rfl
    | imm v => exact congrArg (s.reg rs1 + ·) (BitVec.ofNat_toNat ..)
  have type : tt = s.softwareTrap n := (s.softwareTrap_eq n).symm
  rw [type]
  obtain ⟨completes, traps⟩ := completes_or_traps_of_check (rfl : exec i s = _)
  rw [← number] at traps
  exact ⟨hasOp3_of_encode rfl, completes, traps, trapPriority_of_software (s.le_softwareTrap n),
    trapToPriv_of_le (BitVec.le_trans (by decide) (s.le_softwareTrap n))⟩

/-- Settles O20: the meaning of each of them is the trap entry alone. -/
theorem unimplementedInstructionsAreIllegal : Obligations.UnimplementedInstructionsAreIllegal := by
  intro s rd rs1 rs2 c22 rest cond opfCc rcond o addr i mem
  have illegal : Traps i s s 0x010 := by
    fin_cases mem
    all_goals rfl
  exact ⟨illegal, rfl, rfl⟩

end Sys2Proof

namespace Sys2Proof.Machine

/-! ### The bytes of an access as numbers (spec/20_memory.md R520) -/

theorem Res.bind_assoc {α β γ : Type} (x : Res α) (f : α → State → Res β) (g : β → State → Res γ) :
    (x.bind f).bind g = x.bind fun a t => (f a t).bind g := by
  cases x <;> rfl

theorem SameMemory.trans {s t u : State} (h : SameMemory s t) (h' : SameMemory t u) : SameMemory s u :=
  fun a => (h' a).trans (h a)

theorem SameMemory.readBytes_eq {s t : State} (h : SameMemory s t) (pa n : Nat) : t.readBytes pa n = s.readBytes pa n :=
  List.map_congr_left fun k _ => h (pa + k)

theorem readBytes_succ (s : State) (pa n : Nat) : s.readBytes pa (n + 1) = s.readBytes pa n ++ [s.readByte (pa + n)] := by
  simp [State.readBytes, List.range_succ]

theorem readBytes_add (s : State) (pa m n : Nat) : s.readBytes pa (m + n) = s.readBytes pa m ++ s.readBytes (pa + m) n := by
  simp [State.readBytes, List.range_add, Nat.add_assoc]

/-- The first of some bytes is the most significant one. -/
theorem wordOfBytes_cons (b : Byte) (bs : List Byte) :
    wordOfBytes (b :: bs) = BitVec.ofNat 64 (256 ^ bs.length * b.toNat + (wordOfBytes bs).toNat) := by
  induction bs using List.reverseRecOn with
  | nil => exact (wordOfBytes_concat [] b).trans (congrArg _ (by simp [wordOfBytes]))
  | append_singleton bs c ih =>
    rw [← List.cons_append, wordOfBytes_concat, ih, wordOfBytes_concat, List.length_append, List.length_singleton, Nat.pow_succ,
      Nat.mul_right_comm]
    refine BitVec.eq_of_toNat_eq ?_
    simp only [BitVec.toNat_ofNat]
    omega

theorem wordOfBytes_reverse_readBytes (s : State) (pa n : Nat) :
    wordOfBytes (s.readBytes pa n).reverse = BitVec.ofNat 64 (littleEndianAt s pa n) := by
  induction n with
  | zero => rfl
  | succ n ih =>
    have length : (s.readBytes pa n).reverse.length = n := by simp [State.readBytes]
    rw [readBytes_succ, List.reverse_append, List.reverse_singleton, List.singleton_append, wordOfBytes_cons, ih, length,
      littleEndianAt]
    refine BitVec.eq_of_toNat_eq ?_
    simp only [BitVec.toNat_ofNat]
    omega

/-- What a load reads: the bytes at its place, in its byte order. -/
theorem wordOfBytes_orderBytes (s : State) (l : Located) (n : Nat) :
    wordOfBytes (orderBytes l.little (s.readBytes l.pa n)) = valueAt s l n := by
  unfold orderBytes valueAt
  split
  · exact wordOfBytes_reverse_readBytes ..
  · exact wordOfBytes_readBytes ..

theorem SameMemory.valueAt_eq {s t : State} (h : SameMemory s t) (l : Located) (n : Nat) : valueAt t l n = valueAt s l n := by
  rw [← wordOfBytes_orderBytes, h.readBytes_eq, wordOfBytes_orderBytes]

/-- What a store writes: the low bytes of its word, in its byte order. -/
theorem orderBytes_bytesOfWord (little : Bool) (n : Nat) (v : Word) : orderBytes little (bytesOfWord n v) = storeImage little n v := by
  cases little with
  | false => rfl
  | true =>
    refine List.ext_getElem (by simp [orderBytes, bytesOfWord, storeImage]) fun k hk _ => ?_
    have below : k < n := by simpa [orderBytes, bytesOfWord] using hk
    simp only [orderBytes, bytesOfWord, storeImage, if_true, List.getElem_reverse, List.getElem_map, List.getElem_range,
      List.length_map, List.length_range]
    congr 1
    omega

@[simp] theorem length_storeImage (little : Bool) (n : Nat) (v : Word) : (storeImage little n v).length = n := by
  unfold storeImage
  split <;> simp

/-- The low bytes of a word, as arithmetic. -/
theorem toNat_lowBytes (n : Nat) (v : Word) : (lowBytes n v).toNat = v.toNat % 2 ^ (8 * n) := by
  induction n generalizing v with
  | zero => simp [lowBytes, bytesOfWord, wordOfBytes, Nat.mod_one]
  | succ n ih =>
    have bytes : bytesOfWord (n + 1) v = bytesOfWord n (v >>> 8) ++ [v.extractLsb' 0 8] := by
      refine List.ext_getElem (by simp [bytesOfWord]) fun k hk _ => ?_
      simp only [bytesOfWord, List.length_map, List.length_range] at hk
      rcases Nat.lt_succ_iff_lt_or_eq.1 hk with below | rfl
      · rw [List.getElem_append_left (by simpa [bytesOfWord] using below)]
        simp only [bytesOfWord, List.getElem_map, List.getElem_range]
        ext j hj
        simp only [BitVec.getElem_extractLsb', BitVec.getLsbD_ushiftRight]
        congr 1
        omega
      · simp [bytesOfWord]
    have low : (v.extractLsb' 0 8).toNat = v.toNat % 256 := by simp
    have shifted : (v >>> 8).toNat = v.toNat / 256 := by simp [Nat.shiftRight_eq_div_pow]
    have split : v.toNat % 2 ^ (8 * (n + 1)) = 256 * (v.toNat / 256 % 2 ^ (8 * n)) + v.toNat % 256 := by
      rw [Nat.mul_succ, Nat.add_comm, Nat.pow_add, Nat.mod_mul, Nat.add_comm]
    have bound : v.toNat % 2 ^ (8 * (n + 1)) < 2 ^ 64 := (Nat.mod_le _ _).trans_lt v.isLt
    have whole : lowBytes (n + 1) v = BitVec.ofNat 64 (v.toNat % 2 ^ (8 * (n + 1))) := by
      rw [lowBytes, bytes, wordOfBytes_concat, ← lowBytes, ih, shifted, low, split]
    rw [whole, BitVec.toNat_ofNat, Nat.mod_eq_of_lt bound]

/-! ### The address of an access (spec/42_load_store.md R873) -/

theorem State.align_eq {α : Type} (s : State) (ea : Word) {n : Nat} (size : n ∣ 64) (k : Res α) :
    s.align ea n k = if ea.toNat % n = 0 then k else .trap 0x034 (s.setDsfar ea) := by
  have low : (ea.extractLsb' 0 6).toNat % n = ea.toNat % n := by
    rw [BitVec.extractLsb'_toNat, Nat.shiftRight_zero]
    exact Nat.mod_mod_of_dvd _ size
  rw [State.align, low]

theorem State.alignD_eq {α : Type} (s : State) (ea : Word) (tt : BitVec 9) (k : Res α) :
    s.alignD ea tt k =
      if ea.toNat % 8 = 0 then k else .trap (if ea.toNat % 8 = 4 then tt else 0x034) (s.setDsfar ea) := by
  have low (v : BitVec 3) : (ea.extractLsb' 0 3 == v) = decide (ea.toNat % 8 = v.toNat) := by
    refine decide_eq_decide.2 (BitVec.toNat_inj.symm.trans ?_)
    rw [BitVec.extractLsb'_toNat, Nat.shiftRight_zero]
  rw [State.alignD, low, low]
  simp

theorem State.needsFp_of_enabled {α : Type} {s : State} (on : s.fpEnabled = true) (k : Res α) : s.needsFp k = k := if_pos on

theorem State.needsFp_of_disabled {α : Type} {s : State} (off : s.fpEnabled = false) (k : Res α) :
    s.needsFp k = .trap 0x020 s := by
  rw [State.needsFp, off]
  rfl

/-- An access with a check of its alignment before the others. -/
theorem accessTraps_of_align {i : Instr} {s : State} {r : DataReq} {k : Res Unit} (size : r.size ∣ 64)
    (run : exec i s = (s.align r.va r.size k).outcome) (first : ∀ tt b, s.access r = .trap tt b → k = .trap tt b) :
    AccessTraps i s r := by
  rw [s.align_eq r.va size] at run
  refine ⟨fun misaligned => ?_, fun aligned tt b fails => ?_⟩
  · rw [Traps, run, if_neg misaligned, Res.outcome_trap]
  · rw [Traps, run, if_pos aligned, first tt b fails, Res.outcome_trap]

theorem State.memRead_of_trap {s b : State} {r : DataReq} {tt : BitVec 9} (fails : s.access r = .trap tt b) :
    s.memRead r = .trap tt b := by
  rw [State.memRead, fails, Res.bind_trap]

theorem State.memWrite_of_trap {s b : State} {r : DataReq} {tt : BitVec 9} (fails : s.access r = .trap tt b) (v : Word) :
    s.memWrite r v = .trap tt b := by
  rw [State.memWrite, fails, Res.bind_trap]

/-- An access of 8 bytes that names no register ASI is one of memory. -/
theorem State.read64_of_memory {s : State} {r : DataReq} (memory : ∀ a, r.asi = some a → isRegisterAsi a = false) :
    s.read64 r = s.memRead r := by
  unfold State.read64
  split
  · rename_i a named
    rw [memory a named]
    rfl
  · rfl

theorem State.write64_of_memory {s : State} {r : DataReq} (memory : ∀ a, r.asi = some a → isRegisterAsi a = false) (v : Word) :
    s.write64 r v = s.memWrite r v := by
  unfold State.write64
  split
  · rename_i a named
    rw [memory a named]
    rfl
  · rfl

/-! ### Loads from memory (spec/42_load_store.md R870) -/

namespace Reaches

section
variable {s s1 : State} {r : DataReq} {l : Located} (reach : Reaches s r l s1)
include reach

theorem frame : WalkFrame s s1 := (State.access_walks reach.passes).frame

theorem npc_eq : s1.npc = s.npc := by rw [reach.frame]
theorem fsr_eq : s1.fsr = s.fsr := by rw [reach.frame]
theorem fregs_eq : s1.fregs = s.fregs := by rw [reach.frame]
theorem fprs_eq : s1.fprs = s.fprs := by rw [reach.frame]

/-- The opcode may use the ASI of an access that passes its checks. -/
theorem legal : r.legal = true := by
  have passes := reach.passes
  unfold State.access at passes
  dsimp only at passes
  split at passes
  · cases passes
  · simpa using (firstTrap_eq_ok passes).2 (!r.legal, 0x014) (by simp)

/-- A load of memory to which no relaxed store is in the store buffer. -/
theorem load {n : Nat} (settled : Settled s1 l.pa n) (va : Word) :
    (s1.settled l n).loadCached va l n = .ok (valueAt s l n) s1 := by
  obtain ⟨newest, cache⟩ := settled
  have stays : s1.settled l n = s1 := by simp [State.settled, State.settle, reach.memory, newest]
  have look : s1.lookL1d l.pa = (false, s1) := by
    rcases cache with off | empty <;> simp [State.lookL1d, *]
  have data : s1.loadData true va l n = .ok (valueAt s1 l n) s1 := by
    simp [State.loadData, State.loadBytes, reach.memory, reach.uniform, reach.populated, newest, wordOfBytes_orderBytes]
  simp [State.loadCached, stays, reach.memory, reach.uniform, look, data, reach.kept.valueAt_eq]

end
end Reaches

section
variable {i : Instr} {s s1 : State} {r : DataReq} {l : Located} (reach : Reaches s r l s1)
include reach

/-- An instruction that reads memory and ends with `done` of what it has read. -/
theorem exec_of_memRead {done : Word → State → State} (settled : Settled s1 l.pa r.size)
    (run : exec i s = ((s.memRead r).bind fun v t => .ok () (done v t).advance).outcome) :
    exec i s = .next (done (valueAt s l r.size) s1).advance := by
  rw [run, State.memRead, reach.passes, Res.bind_ok, reach.load settled, Res.bind_ok, Res.outcome_ok]

theorem writes_of_reaches {rd : Reg} {v : Word} (run : exec i s = .next (s1.setReg rd v).advance) : Writes i s s1 rd v :=
  ⟨_, run, wroteReg_setReg s1 rd v rfl rfl rfl, by simp [State.advance, State.setReg, reach.npc_eq], reach.kept⟩

theorem writesSingle_of_reaches {rd : Reg} {v : Word32} (run : exec i s = .next (s1.setF32 rd v).advance) :
    WritesSingle i s s1 rd v :=
  ⟨_, run, wroteSingle_setF32 s1 rd v rfl rfl, by simp [State.advance, State.setF32, reach.npc_eq], reach.kept⟩

theorem writesDouble_of_reaches {rd : Reg} {v : Word} (run : exec i s = .next (s1.setF64 rd v).advance) :
    WritesDouble i s s1 rd v :=
  ⟨_, run, wroteDouble_setF64 s1 rd v rfl rfl, by simp [State.advance, State.setF64, State.setPair, reach.npc_eq], reach.kept⟩

end

/-- What the integer load `i` of an access `r` does: its traps, and what it writes, `extend` of the value. -/
def LoadsInto (i : Instr) (s : State) (rd : Reg) (r : DataReq) (extend : Word → Word) : Prop :=
  AccessTraps i s r ∧ ∀ (l : Located) (s1 : State), r.va.toNat % r.size = 0 → Reaches s r l s1 → Settled s1 l.pa r.size →
    Writes i s s1 rd (extend (valueAt s l r.size))

theorem loadsInto_of_align {i : Instr} {s : State} {rd : Reg} {r : DataReq} {extend : Word → Word} (size : r.size ∣ 64)
    (run : exec i s = (s.align r.va r.size ((s.memRead r).bind fun v t => t.finish rd (extend v))).outcome) :
    LoadsInto i s rd r extend := by
  refine ⟨accessTraps_of_align size run fun _ _ fails => ?_, fun l s1 aligned reach settled => ?_⟩
  · rw [State.memRead_of_trap fails, Res.bind_trap]
  · rw [s.align_eq r.va size, if_pos aligned] at run
    exact writes_of_reaches reach (exec_of_memRead (done := fun v t => t.setReg rd (extend v)) reach settled run)

/-- An extended load that names no register ASI. -/
theorem loadsInto_of_loadExt {i : Instr} {s : State} {rd : Reg} {asi : Option (BitVec 8)} {ea : Word}
    (memory : ∀ a, asi = some a → isRegisterAsi a = false) (run : exec i s = (s.loadExt rd asi ea).outcome) :
    LoadsInto i s rd ⟨.loadX, asi, ea, 8⟩ id := by
  rw [State.loadExt, State.read64_of_memory memory] at run
  exact loadsInto_of_align (r := ⟨.loadX, asi, ea, 8⟩) (extend := id) (by decide : 8 ∣ 64) run

end Sys2Proof.Machine

namespace Sys2Proof
open Machine

/-- Settles O30: every integer load checks its alignment, reads memory and ends in `finish`. -/
theorem integerLoadsExtendTheirValue : Obligations.IntegerLoadsExtendTheirValue := by
  intro s rd rs1 o x cut ea ax asi signed unsigned does
  have place : ea = s.ea rs1 o := (maskAddr_eq_ofNat ..).symm
  have alternate : ax = s.eaAlt rs1 x := (maskAddr_eq_ofNat ..).symm
  have named : asi = AltAddr.asi x s := rfl
  have loads {i : Instr} {op3 : BitVec 6} {low : BitVec 14} {asi : Option (BitVec 8)} {va : Word} {n : Nat} {extend : Word → Word}
      (word : encode i = fmt3 3 rd op3 rs1 low) (size : n ∣ 64) (run : exec i s = (s.loadInt rd asi va n extend).outcome) :
      HasOp3 i 3 op3 ∧ LoadsInto i s rd ⟨.load, asi, va, n⟩ extend :=
    ⟨hasOp3_of_encode word, loadsInto_of_align (r := ⟨.load, asi, va, n⟩) size run⟩
  rw [place, alternate, named]
  refine ⟨?_, ?_, ?_, ?_, ?_, ?_, ?_, ?_, ?_, ?_, ?_, ?_, ?_, fun memory => ?_⟩
  case refine_7 => exact ⟨hasOp3_of_encode rfl, loadsInto_of_loadExt (fun _ h => nomatch h) rfl⟩
  case refine_14 => exact ⟨hasOp3_of_encode rfl, loadsInto_of_loadExt (fun _ h => by cases h; exact memory) rfl⟩
  all_goals exact loads rfl (by decide) rfl

end Sys2Proof

namespace Sys2Proof.Machine

/-! ### Stores that enter the store buffer (spec/62_errors_core.md R1581) -/

/-- All that a store to memory may change: what stores that leave the buffer change (`DrainsTo`), and the buffer. -/
def StoreFrame (s t : State) : Prop :=
  t = { s with mem := t.mem, notData := t.notData, csr := t.csr, err := t.err, events := t.events, storeError := t.storeError,
               oracle := t.oracle, undrained := t.undrained }

theorem StoreFrame.trans {s t u : State} (h : StoreFrame s t) (h' : StoreFrame t u) : StoreFrame s u :=
  Eq.trans h' (congrArg (fun (x : State) =>
    { x with mem := u.mem, notData := u.notData, csr := u.csr, err := u.err, events := u.events, storeError := u.storeError,
             oracle := u.oracle, undrained := u.undrained }) h)

theorem DrainsTo.storeFrame {s t : State} (h : DrainsTo s t) : StoreFrame s t := by
  unfold DrainsTo at h
  rw [h]
  rfl

theorem State.drainFor_frame (s : State) (also : BitVec 2) : StoreFrame s (s.drainFor also) := by
  have empty : StoreFrame s { s with undrained := [] } := rfl
  unfold State.drainFor
  dsimp only
  split
  · exact empty
  · exact empty.trans (State.drainsTo_drainList ..).storeFrame

theorem State.makeRoom_frame (s : State) : StoreFrame s s.makeRoom := by
  unfold State.makeRoom
  split
  · rfl
  · split
    · rfl
    · exact s.drainFor_frame _

section
variable {s : State} {kind : StoreKind} {flaw : BitVec 7 × Bool} {pa seen : Nat} {cells : List Host.Cell}

theorem State.pushCells_frame : StoreFrame s (s.pushCells kind flaw pa seen cells) := by
  unfold State.pushCells
  split
  · exact s.makeRoom_frame
  · exact s.makeRoom_frame.trans rfl

/-- A store that has room changes memory, the buffer and the place in the free values. -/
theorem State.pushCells_eq (room : HasRoom s 1) : s.pushCells kind flaw pa seen cells =
    { s with mem := memPutCells s.mem cells, undrained := (s.pushCells kind flaw pa seen cells).undrained
             oracle := (s.pushCells kind flaw pa seen cells).oracle } := by
  rw [State.pushCells_of_hasRoom kind flaw pa seen cells room]
  rfl

theorem State.pushCells_mem (room : HasRoom s 1) : (s.pushCells kind flaw pa seen cells).mem = memPutCells s.mem cells := by
  rw [State.pushCells_eq room]

end

/-! ### Stores to memory (spec/42_load_store.md R870) -/

section
variable {i : Instr} {s s1 p : State} {r : DataReq} {l : Located} {n : Nat} {does : Prop} {g : Fsr → Fsr}

/-- A store instruction that ends after its stores, `p`, with another value of FSR. -/
theorem storesWithRoom_of_frame (reach : Reaches s r l s1) (frame : StoreFrame s1 p)
    (run : exec i s = .next (p.setFsr (g p.fsr)).advance) (room : HasRoom s1 n → does) : StoresWithRoom i s s1 n does := by
  refine ⟨⟨_, run, ?_, ?_, ?_, ?_⟩, room⟩
  all_goals simp only [State.advance, State.setFsr]
  all_goals rw [frame]
  · exact reach.npc_eq
  · rw [reach.npc_eq]

/-- The bytes that it leaves, where its stores had room. -/
theorem stores_of_eq {pa : Nat} {bytes : List Byte} (reach : Reaches s r l s1)
    (run : exec i s = .next (p.setFsr (g p.fsr)).advance)
    (stored : p = { s1 with mem := memPutBytes s1.mem pa bytes, undrained := p.undrained, oracle := p.oracle }) :
    Stores i s (s1.setFsr (g s1.fsr)) pa bytes := by
  have mem : p.mem = (s1.writeBytes pa bytes).mem := by rw [stored]; rfl
  obtain ⟨inside, outside⟩ := storedBytes_writeBytes s1 pa bytes (t := (p.setFsr (g p.fsr)).advance) mem
  refine ⟨_, run, ⟨inside, fun a far => (outside a far).trans (reach.kept a)⟩, ?_⟩
  have fsr : p.fsr = s1.fsr := by rw [stored]
  have npc : p.npc = s.npc := by rw [stored]; exact reach.npc_eq
  rw [State.advance, State.setFsr, fsr]
  simp only [npc]
  rw [stored]
  rfl

/-- One store of the buffer, of some bytes at the place of the access. -/
theorem storesWithRoom_of_push {kind : StoreKind} {flaw : BitVec 7 × Bool} {seen : Nat} {bytes : List Byte}
    (reach : Reaches s r l s1) (pushes : p = s1.pushCells kind flaw l.pa seen (cellsFrom l.pa bytes))
    (run : exec i s = .next (p.setFsr (g p.fsr)).advance) :
    StoresWithRoom i s s1 1 (Stores i s (s1.setFsr (g s1.fsr)) l.pa bytes) := by
  refine storesWithRoom_of_frame reach (pushes ▸ State.pushCells_frame) run fun room => stores_of_eq reach run ?_
  rw [pushes, ← memPutCells_cellsFrom]
  exact State.pushCells_eq room

/-- A store of at most 8 bytes that is not a block-initializing one is one store of the buffer. -/
theorem Reaches.storeData (reach : Reaches s r l s1) (ordinary : r.storeKind = .ordinary) (n : Nat) (v : Word) :
    ∃ flaw seen, s1.storeData r l n v =
      .ok () (s1.pushCells .ordinary flaw l.pa seen (cellsFrom l.pa (storeImage l.little n v))) := by
  refine ⟨s1.storeFlaw, (orderBytes l.little (bytesOfWord n v)).length, ?_⟩
  rw [← orderBytes_bytesOfWord]
  simp [State.storeData, reach.memory, State.storeBytes, State.storedBytes, ordinary, State.storeCellsAt, reach.uniform,
    reach.populated]

/-- An instruction that writes memory and ends with another value of FSR. -/
theorem storesWithRoom_of_memWrite {v : Word} (reach : Reaches s r l s1) (ordinary : r.storeKind = .ordinary)
    (run : exec i s = ((s.memWrite r v).bind fun _ t => .ok () (t.setFsr (g t.fsr)).advance).outcome) :
    StoresWithRoom i s s1 1 (Stores i s (s1.setFsr (g s1.fsr)) l.pa (storeImage l.little r.size v)) := by
  obtain ⟨flaw, seen, stores⟩ := reach.storeData ordinary r.size v
  rw [State.memWrite, reach.passes, Res.bind_ok, stores, Res.bind_ok, Res.outcome_ok] at run
  exact storesWithRoom_of_push reach rfl run

end

/-- An access that its opcode may make with a block-initializing ASI is none of a floating-point register (R960). -/
theorem DataReq.storeKind_of_legal {r : DataReq} (legal : r.legal = true) (class_ : r.op.allows .twinInit = false) :
    r.storeKind = .ordinary := by
  obtain ⟨op, asi, va, size⟩ := r
  cases asi with
  | none => rfl
  | some a =>
    refine if_neg fun init => ?_
    have allowed : op.allows (asiKind a) = true := legal
    rw [eq_of_beq init, class_] at allowed
    cases allowed

/-! ### Single and double registers (R905 to R912) -/

/-- The traps of an instruction that needs the floating-point unit, and what it is where that is enabled. -/
theorem traps_of_needsFp {i : Instr} {s : State} {k : Res Unit} (run : exec i s = (s.needsFp k).outcome)
    (off : s.fpEnabled = false) : Traps i s s 0x020 := by
  rw [Traps, run, State.needsFp_of_disabled off, Res.outcome_trap]

theorem exec_of_needsFp {i : Instr} {s : State} {k : Res Unit} (run : exec i s = (s.needsFp k).outcome)
    (on : s.fpEnabled = true) : exec i s = k.outcome := by
  rw [run, State.needsFp_of_enabled on]

/-- The traps of a doubleword access of the unit: its own, `tt`, at a word-aligned address (R873). -/
def DoubleTraps (i : Instr) (s : State) (r : DataReq) (tt : BitVec 9) : Prop :=
  (r.va.toNat % 8 = 4 → Traps i s (s.setDsfar r.va) tt) ∧ (r.va.toNat % 4 ≠ 0 → Traps i s (s.setDsfar r.va) 0x034) ∧
    (r.va.toNat % 8 = 0 → ∀ t b, s.access r = .trap t b → Traps i s b t)

theorem doubleTraps_of_alignD {i : Instr} {s : State} {r : DataReq} {tt : BitVec 9} {k : Res Unit}
    (run : exec i s = (s.alignD r.va tt k).outcome) (first : ∀ t b, s.access r = .trap t b → k = .trap t b) :
    DoubleTraps i s r tt := by
  rw [s.alignD_eq] at run
  refine ⟨fun word => ?_, fun misaligned => ?_, fun aligned t b fails => ?_⟩
  · rw [Traps, run, if_neg (by omega), if_pos word, Res.outcome_trap]
  · rw [Traps, run, if_neg (by omega), if_neg (by omega), Res.outcome_trap]
  · rw [Traps, run, if_pos aligned, first t b fails, Res.outcome_trap]

section
variable {s : State} {x : AltAddr} (block : asiKind (AltAddr.asi x s) ≠ .block) (short : asiKind (AltAddr.asi x s) ≠ .short)
  (rd rs1 : Reg)
include block short

/-- LDDFA with an ASI that makes it no block and no short load (R908). -/
theorem exec_lddfa_ordinary :
    exec (.lddfa rd rs1 x) s = (s.loadD rd (some (AltAddr.asi x s)) (s.eaAlt rs1 x)).outcome := by
  show execLddfa rd rs1 x s = _
  unfold execLddfa
  dsimp only
  split <;> [exact absurd ‹_› block; exact absurd ‹_› short; rfl]

theorem exec_stdfa_ordinary :
    exec (.stdfa rd rs1 x) s = (s.storeD rd (some (AltAddr.asi x s)) (s.eaAlt rs1 x)).outcome := by
  show execStdfa rd rs1 x s = _
  unfold execStdfa
  dsimp only
  split <;> [exact absurd ‹_› block; exact absurd ‹_› short; rfl]

end

section
variable {i : Instr} {s : State} {rd : Reg} {asi : Option (BitVec 8)} {va : Word} (on : s.fpEnabled = true)
include on

theorem loadF_enabled (run : exec i s = (s.loadF rd asi va).outcome) :
    AccessTraps i s ⟨.loadF, asi, va, 4⟩ ∧ ∀ (l : Located) (s1 : State), va.toNat % 4 = 0 → Reaches s ⟨.loadF, asi, va, 4⟩ l s1 →
      Settled s1 l.pa 4 → WritesSingle i s s1 rd ((valueAt s l 4).setWidth 32) := by
  have run := exec_of_needsFp run on
  refine ⟨accessTraps_of_align (by decide : 4 ∣ 64) run fun _ _ fails => ?_, fun l s1 aligned reach settled =>
    writesSingle_of_reaches reach (exec_of_memRead (done := fun v t => t.setF32 rd (v.setWidth 32)) reach settled ?_)⟩
  · rw [State.memRead_of_trap fails, Res.bind_trap]
  · rw [run, s.align_eq va (by decide), if_pos aligned]

theorem storeF_enabled (run : exec i s = (s.storeF rd asi va).outcome) :
    AccessTraps i s ⟨.storeF, asi, va, 4⟩ ∧ ∀ (l : Located) (s1 : State), va.toNat % 4 = 0 → Reaches s ⟨.storeF, asi, va, 4⟩ l s1 →
      StoresWithRoom i s s1 1 (Stores i s s1 l.pa (storeImage l.little 4 ((s.f32 rd).setWidth 64))) := by
  have run := exec_of_needsFp run on
  refine ⟨accessTraps_of_align (by decide : 4 ∣ 64) run fun _ _ fails => ?_, fun l s1 aligned reach =>
    storesWithRoom_of_memWrite (g := id) reach (DataReq.storeKind_of_legal reach.legal rfl) ?_⟩
  · rw [State.memWrite_of_trap fails, Res.bind_trap]
  · rw [run, s.align_eq va (by decide), if_pos aligned]
    rfl

variable (memory : ∀ a, asi = some a → isRegisterAsi a = false)
include memory

theorem loadD_enabled (run : exec i s = (s.loadD rd asi va).outcome) :
    DoubleTraps i s ⟨.loadD, asi, va, 8⟩ 0x035 ∧ ∀ (l : Located) (s1 : State), va.toNat % 8 = 0 →
      Reaches s ⟨.loadD, asi, va, 8⟩ l s1 → Settled s1 l.pa 8 → WritesDouble i s s1 rd (valueAt s l 8) := by
  have run := exec_of_needsFp run on
  rw [State.read64_of_memory memory] at run
  refine ⟨doubleTraps_of_alignD (r := ⟨.loadD, asi, va, 8⟩) run fun _ _ fails => ?_, fun l s1 aligned reach settled =>
    writesDouble_of_reaches reach (exec_of_memRead (done := fun v t => t.setF64 rd v) reach settled ?_)⟩
  · rw [State.memRead_of_trap fails, Res.bind_trap]
  · rw [run, s.alignD_eq, if_pos aligned]

theorem storeD_enabled (run : exec i s = (s.storeD rd asi va).outcome) :
    DoubleTraps i s ⟨.storeD, asi, va, 8⟩ 0x036 ∧ ∀ (l : Located) (s1 : State), va.toNat % 8 = 0 →
      Reaches s ⟨.storeD, asi, va, 8⟩ l s1 → StoresWithRoom i s s1 1 (Stores i s s1 l.pa (storeImage l.little 8 (s.f64 rd))) := by
  have run := exec_of_needsFp run on
  rw [State.write64_of_memory memory] at run
  refine ⟨doubleTraps_of_alignD (r := ⟨.storeD, asi, va, 8⟩) run fun _ _ fails => ?_, fun l s1 aligned reach =>
    storesWithRoom_of_memWrite (g := id) reach (DataReq.storeKind_of_legal reach.legal rfl) ?_⟩
  · rw [State.memWrite_of_trap fails, Res.bind_trap]
  · rw [run, s.alignD_eq, if_pos aligned]
    rfl

end

/-- What holds where the unit is enabled, apart: the traps, and what an access that passes its checks does. -/
theorem enabled_parts {on traps : Prop} {does : Located → State → Prop} (h : on → traps ∧ ∀ l s1, does l s1) :
    (on → traps) ∧ ∀ l s1, on → does l s1 :=
  ⟨fun e => (h e).1, fun l s1 e => (h e).2 l s1⟩

end Sys2Proof.Machine

namespace Sys2Proof
open Machine

/-- Settles O35: each of them needs the unit, checks its alignment and makes one access. -/
theorem floatLoadsAndStoresMoveRegisters : Obligations.FloatLoadsAndStoresMoveRegisters := by
  intro s rd rs1 o x cut ea ax asi checked enabled traps4 traps8 passes loadS loadD storeS storeD plain
  have place : ea = s.ea rs1 o := (maskAddr_eq_ofNat ..).symm
  have alternate : ax = s.eaAlt rs1 x := (maskAddr_eq_ofNat ..).symm
  have named : asi = AltAddr.asi x s := rfl
  have on (h : enabled) : s.fpEnabled = true := by simp [State.fpEnabled, h.1, h.2]
  have check {i : Instr} {op3 : BitVec 6} {low : BitVec 14} {k : Res Unit} (word : encode i = fmt3 3 rd op3 rs1 low)
      (run : exec i s = (s.needsFp k).outcome) : checked i op3 :=
    ⟨hasOp3_of_encode word, fun off => traps_of_needsFp run (by rcases off with h | h <;> simp [State.fpEnabled, h])⟩
  have implicit : ∀ a, (none : Option (BitVec 8)) = some a → isRegisterAsi a = false := fun _ h => nomatch h
  rw [place, alternate, named]
  refine ⟨⟨check rfl rfl, enabled_parts fun e => loadF_enabled (on e) rfl⟩,
    ⟨check rfl rfl, enabled_parts fun e => loadD_enabled (on e) implicit rfl⟩,
    ⟨check rfl rfl, enabled_parts fun e => storeF_enabled (on e) rfl⟩,
    ⟨check rfl rfl, enabled_parts fun e => storeD_enabled (on e) implicit rfl⟩,
    ⟨check rfl rfl, enabled_parts fun e => loadF_enabled (on e) rfl⟩,
    ⟨check rfl rfl, enabled_parts fun e => storeF_enabled (on e) rfl⟩, fun ⟨memory, block, short⟩ => ?_⟩
  have memory : ∀ a, some (AltAddr.asi x s) = some a → isRegisterAsi a = false := fun _ h => by cases h; exact memory
  have load := exec_lddfa_ordinary block short rd rs1
  have store := exec_stdfa_ordinary block short rd rs1
  exact ⟨⟨check rfl load, enabled_parts fun e => loadD_enabled (on e) memory load⟩,
    ⟨check rfl store, enabled_parts fun e => storeD_enabled (on e) memory store⟩⟩

end Sys2Proof

namespace Sys2Proof.Machine

/-! ### FSR (R914 to R917) -/

section
variable {i : Instr} {s : State} {op : OpClass} {ea : Word} {n : Nat} (on : s.fpEnabled = true) (size : n ∣ 64)
include on size

theorem loadFsr_enabled {f : Fsr → Word → Fsr} (run : exec i s = (s.loadFsr ea op n f).outcome) :
    AccessTraps i s ⟨op, none, ea, n⟩ ∧ ∀ (l : Located) (s1 : State), ea.toNat % n = 0 → Reaches s ⟨op, none, ea, n⟩ l s1 →
      Settled s1 l.pa n → Completes i s { s1 with fsr := f s.fsr (valueAt s l n) } := by
  have run := exec_of_needsFp run on
  refine ⟨accessTraps_of_align (r := ⟨op, none, ea, n⟩) size run fun _ _ fails => ?_, fun l s1 aligned reach settled => ?_⟩
  · rw [State.memRead_of_trap fails, Res.bind_trap]
  · rw [s.align_eq ea size, if_pos aligned] at run
    refine ⟨_, exec_of_memRead (done := fun v t => t.setFsr (f t.fsr v)) reach settled run, ?_, reach.kept⟩
    simp [State.advance, State.setFsr, reach.npc_eq, reach.fsr_eq]

theorem storeFsr_enabled (run : exec i s = (s.storeFsr ea op n).outcome) :
    AccessTraps i s ⟨op, none, ea, n⟩ ∧ ∀ (l : Located) (s1 : State), ea.toNat % n = 0 → Reaches s ⟨op, none, ea, n⟩ l s1 →
      StoresWithRoom i s s1 1
        (Stores i s { s1 with fsr := { s.fsr with ftt := 0 } } l.pa (storeImage l.little n s.fsr.word)) := by
  have run := exec_of_needsFp run on
  refine ⟨accessTraps_of_align (r := ⟨op, none, ea, n⟩) size run fun _ _ fails => ?_, fun l s1 aligned reach => ?_⟩
  · rw [State.memWrite_of_trap fails, Res.bind_trap]
  · rw [s.align_eq ea size, if_pos aligned] at run
    rw [← reach.fsr_eq] at run ⊢
    exact storesWithRoom_of_memWrite (r := ⟨op, none, ea, n⟩) (g := fun f => { f with ftt := 0 }) reach rfl run

end

theorem extractLsb'_extractLsb'_within {w lo n k m : Nat} (v : BitVec w) (inside : k + m ≤ n) :
    (v.extractLsb' lo n).extractLsb' k m = v.extractLsb' (lo + k) m := by
  ext j hj
  simp [show k + j < n by omega, Nat.add_assoc]

/-- The parts of a slice that is two joined bit vectors. -/
theorem slice_append {w a b lo : Nat} {v : BitVec w} {x : BitVec a} {y : BitVec b} (h : v.extractLsb' lo (a + b) = x ++ y) :
    v.extractLsb' (lo + b) a = x ∧ v.extractLsb' lo b = y := by
  obtain ⟨high, low⟩ := append_eq_iff.1 h.symm
  rw [extractLsb'_extractLsb'_within _ (by omega)] at high low
  exact ⟨high, low⟩

/-- The image of FSR, field by field (spec/10_state.md R82). -/
theorem Fsr.word_fields (f : Fsr) :
    let w := f.word
    w.extractLsb' 38 26 = 0 ∧ w.extractLsb' 36 2 = f.fcc3 ∧ w.extractLsb' 34 2 = f.fcc2 ∧ w.extractLsb' 32 2 = f.fcc1 ∧
    w.extractLsb' 30 2 = f.rd ∧ w.extractLsb' 28 2 = 0 ∧ w.extractLsb' 23 5 = f.tem ∧ bitAt w 22 = f.ns ∧
    w.extractLsb' 20 2 = 0 ∧ w.extractLsb' 17 3 = 0 ∧ w.extractLsb' 14 3 = f.ftt ∧ w.extractLsb' 12 2 = 0 ∧
    w.extractLsb' 10 2 = f.fcc0 ∧ w.extractLsb' 5 5 = f.aexc ∧ w.extractLsb' 0 5 = f.cexc := by
  have above : f.word.extractLsb' 0 64 = f.word := BitVec.extractLsb'_eq_self
  obtain ⟨above, cexc⟩ := slice_append (b := 5) above
  obtain ⟨above, aexc⟩ := slice_append (b := 5) above
  obtain ⟨above, fcc0⟩ := slice_append (b := 2) above
  obtain ⟨above, low⟩ := slice_append (b := 1) above
  obtain ⟨above, high⟩ := slice_append (b := 1) above
  obtain ⟨above, ftt⟩ := slice_append (b := 3) above
  obtain ⟨above, ver⟩ := slice_append (b := 3) above
  obtain ⟨above, res⟩ := slice_append (b := 2) above
  obtain ⟨above, ns⟩ := slice_append (b := 1) above
  obtain ⟨above, tem⟩ := slice_append (b := 5) above
  obtain ⟨above, upper⟩ := slice_append (b := 2) above
  obtain ⟨above, rd⟩ := slice_append (b := 2) above
  obtain ⟨above, fcc1⟩ := slice_append (b := 2) above
  obtain ⟨above, fcc2⟩ := slice_append (b := 2) above
  obtain ⟨above, fcc3⟩ := slice_append (b := 2) above
  have qne : f.word.extractLsb' 12 2 = 0 := by
    refine (append_eq_iff (x := 0#1) (y := 0#1).2 ⟨?_, ?_⟩).symm
    · rw [extractLsb'_extractLsb'_within _ (by decide)]
      exact high
    · rw [extractLsb'_extractLsb'_within _ (by decide)]
      exact low
  have nonstandard : bitAt f.word 22 = f.ns := by
    rw [bitAt_eq_bitOf]
    exact (congrArg bitOf ns).trans (by cases f.ns <;> rfl)
  exact ⟨above, fcc3, fcc2, fcc1, rd, upper, tem, nonstandard, res, ver, ftt, qne, fcc0, aexc, cexc⟩

/-- A load or store with another register field than 0 and 1 is reserved where that field says which part of FSR is moved. -/
theorem decode_fsr_reserved {w : Word32} (op : opField w = 3) (op3 : op3Field w = 0x21 ∨ op3Field w = 0x25)
    (reserved : 2 ≤ rdField w) : ∃ e, decode w = .error e := by
  have memory : decode w = decodeMem (rdField w) (op3Field w) (rs1Field w) (low14Field w) := by
    rw [decode, op]
    rfl
  have other {d e : Decoded} {none : DecodeError} :
      (match rdField w with | 0 => d | 1 => e | _ => .error none) = .error none := by
    split
    · bv_omega
    · bv_omega
    · rfl
  rcases op3 with load | store
  · exact ⟨_, by rw [memory, load]; exact other⟩
  · exact ⟨_, by rw [memory, store]; exact other⟩

end Sys2Proof.Machine

namespace Sys2Proof
open Machine

/-- Settles O36: each of them needs the unit, checks its alignment and makes one access; the image is read by its slices. -/
theorem fsrLoadsAndStoresMoveItsFields : Obligations.FsrLoadsAndStoresMoveItsFields := by
  refine ⟨fun s s1 rs1 o l => ?_, Fsr.word_fields, fun s rs1 o => ?_, fun w op op3 reserved => decode_fsr_reserved op op3 reserved⟩
  · intro a ea low all on
    have place : ea = s.ea rs1 o := (maskAddr_eq_ofNat ..).symm
    rw [place]
    obtain ⟨traps4, load4⟩ := loadFsr_enabled on (by decide) (rfl : exec (.ldfsr rs1 o) s = _)
    obtain ⟨traps8, load8⟩ := loadFsr_enabled on (by decide) (rfl : exec (.ldxfsr rs1 o) s = _)
    obtain ⟨trapsStore4, store4⟩ := storeFsr_enabled on (by decide) (rfl : exec (.stfsr rs1 o) s = _)
    obtain ⟨trapsStore8, store8⟩ := storeFsr_enabled on (by decide) (rfl : exec (.stxfsr rs1 o) s = _)
    exact ⟨load4 l s1, load8 l s1, store4 l s1, store8 l s1, traps4, traps8, trapsStore4, trapsStore8⟩
  · intro is
    refine ⟨⟨hasOp3_of_encode rfl, rdField_fmt3 ..⟩, ⟨hasOp3_of_encode rfl, rdField_fmt3 ..⟩,
      ⟨hasOp3_of_encode rfl, rdField_fmt3 ..⟩, ⟨hasOp3_of_encode rfl, rdField_fmt3 ..⟩, fun off => ⟨?_, ?_, ?_, ?_⟩⟩
    all_goals exact traps_of_needsFp rfl off

end Sys2Proof

namespace Sys2Proof.Machine

/-! ### Atomics (R921 to R927) -/

/-- What a compare-and-swap compares: the low part of a register with the old value (R926, R927). -/
theorem casUpdate_eq (n : Nat) (compare new old : Word) :
    casUpdate n compare new old = if old.toNat = compare.toNat % 2 ^ (8 * n) then some new else none := by
  rw [casUpdate, ← toNat_lowBytes]
  simp only [BitVec.toNat_inj]

/-- The bytes that an atomic stores in place of `old`: none where its update is none. -/
def updateImage (update : Word → Option Word) (l : Located) (n : Nat) (old : Word) : List Byte :=
  match update old with
  | some v => storeImage l.little n v
  | none => []

section
variable {i : Instr} {s s1 : State} {r : DataReq} {l : Located} (reach : Reaches s r l s1)
  (plain : s1.drain.plainLine l.pa = true)
include reach plain

/-- An atomic drains the store buffer, and then reads and writes memory at once. -/
theorem Reaches.atomic (n : Nat) (update : Word → Option Word) :
    s1.atomic l n update = .ok (valueAt s1.drain l n)
      (s1.drain.writeBytes l.pa (updateImage update l n (valueAt s1.drain l n))) := by
  unfold State.atomic updateImage
  simp only [reach.uniform, plain, wordOfBytes_orderBytes]
  cases update (valueAt s1.drain l n) with
  | none => rfl
  | some v => simp [orderBytes_bytesOfWord]

theorem loadsAndStores_of_atomic {rd : Reg} {update : Word → Option Word}
    (run : exec i s = ((s.memAtomic r update).bind fun old t => t.finish rd old).outcome) :
    LoadsAndStores i s s1.drain rd (valueAt s1.drain l r.size) l.pa (updateImage update l r.size (valueAt s1.drain l r.size)) := by
  have npc : s1.drain.npc = s.npc := by
    rw [show s1.drain.npc = s1.npc by rw [State.drain, s1.drainFor_frame 0], reach.npc_eq]
  rw [State.memAtomic, reach.passes, Res.bind_ok, reach.atomic plain, Res.bind_ok] at run
  refine ⟨_, run, wroteReg_setReg _ rd _ rfl rfl rfl, storedBytes_writeBytes _ _ _ rfl, s1.drain_undrained, ?_⟩
  simp [State.advance, State.setReg, State.writeBytes, npc]

end

/-- What the atomic `i` does, with the bytes that it stores by what it finds. -/
theorem atomic_does {i : Instr} {s : State} {rd : Reg} {asi : Option (BitVec 8)} {va : Word} {n : Nat} {update : Word → Option Word}
    (size : n ∣ 64) (run : exec i s = (s.atomicInt rd asi va n update).outcome) :
    AccessTraps i s ⟨.atomic, asi, va, n⟩ ∧ ∀ (l : Located) (s1 : State), va.toNat % n = 0 →
      Reaches s ⟨.atomic, asi, va, n⟩ l s1 → s1.drain.plainLine l.pa = true →
        LoadsAndStores i s s1.drain rd (valueAt s1.drain l n) l.pa (updateImage update l n (valueAt s1.drain l n)) ∧
        (s1.undrained.all PendingStore.clean = true → s1.drain = { s1 with undrained := [] }) := by
  refine ⟨accessTraps_of_align (r := ⟨.atomic, asi, va, n⟩) size run fun _ _ fails => ?_, fun l s1 aligned reach plain =>
    ⟨loadsAndStores_of_atomic reach plain ?_, State.drain_of_clean⟩⟩
  · rw [State.memAtomic, fails, Res.bind_trap, Res.bind_trap]
  · rw [run, State.atomicInt, s.align_eq va size, if_pos aligned]

/-- The byte that LDSTUB stores (R922). -/
theorem updateImage_ldstub (l : Located) (old : Word) : updateImage (fun _ => some 0xFF) l 1 old = [0xFF] := by
  cases l.little <;> simp [updateImage, storeImage]

theorem updateImage_cas (n : Nat) (compare new : Word) (l : Located) (old : Word) :
    updateImage (casUpdate n compare new) l n old =
      if old.toNat = compare.toNat % 2 ^ (8 * n) then storeImage l.little n new else [] := by
  by_cases found : old.toNat = compare.toNat % 2 ^ (8 * n)
  · simp only [updateImage, casUpdate_eq, if_pos found]
  · simp only [updateImage, casUpdate_eq, if_neg found]

end Sys2Proof.Machine

namespace Sys2Proof
open Machine

/-- Settles O33: each atomic is one `State.atomic` with its own update. -/
theorem atomicsExchangeInOneStep : Obligations.AtomicsExchangeInOneStep := by
  intro s rd rs1 rs2 o x c cut ea ax asi cas does swapped compared
  have place : ea = s.ea rs1 o := (maskAddr_eq_ofNat ..).symm
  have alternate : ax = s.eaAlt rs1 x := (maskAddr_eq_ofNat ..).symm
  have direct : cut (s.reg rs1) = maskAddr s.pstate.am (s.reg rs1) := (maskAddr_eq_ofNat ..).symm
  have named : asi = AltAddr.asi x s := rfl
  have casNamed : cas = CasAsi.asi c s := rfl
  have exchange {i : Instr} {op3 : BitVec 6} {low : BitVec 14} {asi : Option (BitVec 8)} {va : Word} {n : Nat}
      {update : Word → Option Word} {stored : Located → Word → List Byte} (word : encode i = fmt3 3 rd op3 rs1 low) (size : n ∣ 64)
      (run : exec i s = (s.atomicInt rd asi va n update).outcome) (image : ∀ l old, updateImage update l n old = stored l old) :
      does i op3 asi va n stored := by
    obtain ⟨traps, moves⟩ := atomic_does size run
    exact ⟨hasOp3_of_encode word, traps, fun l s1 aligned reach plain => image l _ ▸ moves l s1 aligned reach plain⟩
  rw [place, alternate, direct, named, casNamed]
  exact ⟨exchange rfl (by decide) rfl updateImage_ldstub, exchange rfl (by decide) rfl updateImage_ldstub,
    exchange rfl (by decide) rfl fun _ _ => rfl, exchange rfl (by decide) rfl fun _ _ => rfl,
    exchange rfl (by decide) rfl (updateImage_cas 4 _ _), exchange rfl (by decide) rfl (updateImage_cas 8 _ _)⟩

end Sys2Proof

namespace Sys2Proof.Machine

/-! ### Eight double registers (spec/42_load_store.md R930) -/

theorem State.pair_setPair (s : State) (d p : BitVec 5) (v : Word) : (s.setPair d v).pair p = if p = d then v else s.pair p := by
  unfold State.pair
  rw [State.setPair_fregs]
  split
  · rename_i same
    rw [same, fileGet_fileSet, fileGet_fileSet_ne _ _ (pair_ne d), fileGet_fileSet, join_halves]
  · rename_i other
    have apart (half : BitVec 1) : p ++ half ≠ d ++ 0#1 ∧ p ++ half ≠ d ++ 1#1 :=
      ne_of_pair (by rw [extract_append_high]; exact other)
    rw [fileGet_fileSet_ne _ _ (apart 0#1).2, fileGet_fileSet_ne _ _ (apart 0#1).1, fileGet_fileSet_ne _ _ (apart 1#1).2,
      fileGet_fileSet_ne _ _ (apart 1#1).1]

/-- A register after some have been written, by how far it lies behind the first of them. -/
theorem State.pair_setPairs (s : State) (d p : BitVec 5) (vs : List Word) (fits : vs.length ≤ 32) :
    (s.setPairs d vs).pair p = vs[(p - d).toNat]?.getD (s.pair p) := by
  induction vs generalizing s d with
  | nil => rfl
  | cons v rest ih =>
    rw [List.length_cons] at fits
    rw [State.setPairs, ih _ _ (by omega), State.pair_setPair]
    by_cases same : p = d
    · have behind : (d - (d + 1)).toNat = 31 := by bv_omega
      have start : (d - d).toNat = 0 := by bv_omega
      rw [same, behind, start, List.getElem?_eq_none (by omega), if_pos rfl]
      rfl
    · have next : (p - d).toNat = (p - (d + 1)).toNat + 1 := by bv_omega
      rw [next, List.getElem?_cons_succ, if_neg same]

theorem State.setPairs_eq (s : State) (d : BitVec 5) (vs : List Word) :
    s.setPairs d vs = { s with fregs := (s.setPairs d vs).fregs, fprs := (s.setPairs d vs).fprs } := by
  induction vs generalizing s d with
  | nil => rfl
  | cons v rest ih =>
    rw [State.setPairs, ih]
    rfl

/-- Registers of one half of the file make that half dirty (spec/10_state.md R69). -/
theorem State.setPairs_fprs (s : State) (d : BitVec 5) (v : Word) (rest : List Word) (upper : Bool)
    (half : ∀ k, k < rest.length + 1 → bitAt (d + BitVec.ofNat 5 k) 4 = upper) :
    (s.setPairs d (v :: rest)).fprs = dirty s.fprs upper := by
  have here : bitAt d 4 = upper := by simpa using half 0 (by omega)
  induction rest generalizing s d v with
  | nil => rw [State.setPairs, State.setPairs, State.setPair_fprs, here]
  | cons w rest ih =>
    have next (k : Nat) : d + 1 + BitVec.ofNat 5 k = d + BitVec.ofNat 5 (k + 1) := by
      rw [BitVec.add_assoc, BitVec.ofNat_add, BitVec.add_comm 1]
      rfl
    have first : bitAt (d + 1) 4 = upper := by simpa using half 1 (by simp)
    rw [State.setPairs, ih _ _ _ (fun k hk => by rw [next]; exact half _ (by simpa using hk)) first, State.setPair_fprs, here]
    unfold dirty
    rw [BitVec.or_assoc, BitVec.or_self]

/-- The eight registers of a block are those of its group. -/
theorem group_of_block {first p : BitVec 5} (aligned : first.extractLsb' 0 3 = 0) (inside : (p - first).toNat < 8) :
    p.extractLsb' 3 2 = first.extractLsb' 3 2 := by
  revert first p
  decide +kernel

/-- They lie in one half of the file. -/
theorem half_of_block {first : BitVec 5} (aligned : first.extractLsb' 0 3 = 0) {k : Nat} (inside : k < 8) :
    bitAt (first + BitVec.ofNat 5 k) 4 = bitAt first 4 := by
  have all : ∀ first : BitVec 5, first.extractLsb' 0 3 = 0 → ∀ k : Fin 8,
      bitAt (first + BitVec.ofNat 5 k) 4 = bitAt first 4 := by decide +kernel
  exact all first aligned ⟨k, inside⟩

/-! ### Block loads (R930) -/

theorem State.pendingIn_within {s : State} {pa n pa' n' : Nat} {test : PendingStore → Bool} (h : s.pendingIn pa n test = false)
    (low : pa ≤ pa') (high : pa' + n' ≤ pa + n) : s.pendingIn pa' n' test = false := by
  refine Bool.eq_false_iff.2 fun found => ?_
  obtain ⟨p, mem, tested⟩ := List.any_eq_true.1 found
  obtain ⟨looks, touches⟩ := Bool.and_eq_true_iff.1 tested
  obtain ⟨c, cell, inside⟩ := List.any_eq_true.1 touches
  have outer : p.touches pa n = true := by
    refine List.any_eq_true.2 ⟨c, cell, ?_⟩
    simp only [Bool.and_eq_true, decide_eq_true_eq] at inside ⊢
    omega
  exact Bool.eq_false_iff.1 h (List.any_eq_true.2 ⟨p, mem, by rw [looks, outer]; rfl⟩)

/-- The helper loads of memory with which nothing is wrong and to which no store is in the buffer. -/
theorem State.loadHelpers_plain {s : State} {n pa : Nat} (plain : ∀ k, k < n → s.plainLine (pa + 16 * k) = true)
    (newest : s.pendingIn pa (16 * n) (fun _ => true) = false) :
    (s.loadHelpers pa n).2 = s ∧ (s.loadHelpers pa n).1.flatMap (fun h => h.1) = s.readBytes pa (16 * n) ∧
      ∀ h ∈ (s.loadHelpers pa n).1, h.2 = .good := by
  induction n generalizing pa with
  | zero => exact ⟨rfl, rfl, fun _ h => nomatch h⟩
  | succ n ih =>
    have here : s.globalBytes pa = (s.readBytes pa 16, s) := by
      simp [State.globalBytes, s.pendingIn_within newest (le_refl pa) (by omega : pa + 16 ≤ _)]
    have line : s.plainLine pa = true := plain 0 (by omega)
    obtain ⟨state, bytes, good⟩ := ih (pa := pa + 16)
      (fun k hk => by rw [Nat.add_assoc, Nat.add_comm 16]; exact plain (k + 1) (by omega))
      (s.pendingIn_within newest (by omega) (by omega))
    simp only [State.loadHelpers, line, if_true, here]
    refine ⟨state, ?_, ?_⟩
    · rw [List.flatMap_cons, bytes, ← readBytes_add]
      congr 1
      omega
    · rintro h mem
      rcases List.mem_cons.1 mem with rfl | mem
      · rfl
      · exact good h mem

theorem doublewords_readBytes (s : State) (little : Bool) (pa n : Nat) :
    doublewords little (s.readBytes pa (8 * n)) n = (List.range n).map (fun k => valueAt s ⟨pa + 8 * k, little⟩ 8) := by
  induction n generalizing pa with
  | zero => rfl
  | succ n ih =>
    have length : (s.readBytes pa 8).length = 8 := by simp [State.readBytes]
    have next : (fun k => valueAt s ⟨pa + 8 * k, little⟩ 8) ∘ Nat.succ = fun k => valueAt s ⟨pa + 8 + 8 * k, little⟩ 8 := by
      funext k
      simp only [Function.comp, Nat.mul_succ, Nat.add_assoc, Nat.add_comm 8]
    rw [Nat.mul_succ, Nat.add_comm, readBytes_add, doublewords, List.take_left' length, List.drop_left' length, ih,
      List.range_succ_eq_map, List.map_cons, List.map_map, next]
    exact congrArg (· :: _) (wordOfBytes_orderBytes s ⟨pa, little⟩ 8)

/-- What a block load reads. -/
def blockAt (s : State) (l : Located) : List Word := (List.range 8).map (fun k => valueAt s ⟨l.pa + 8 * k, l.little⟩ 8)

theorem Reaches.memReadBlock {s s1 : State} {r : DataReq} {l : Located} (reach : Reaches s r l s1)
    (plain : ∀ k, k < 4 → s1.plainLine (l.pa + 16 * k) = true) (newest : s1.pendingIn l.pa 64 (fun _ => true) = false) :
    s.memReadBlock r = .ok (blockAt s l, none) s1 := by
  obtain ⟨state, bytes, good⟩ := State.loadHelpers_plain plain newest
  have noError : (s1.loadHelpers l.pa 4).1.findIdx? (fun h => !h.2.fine) = none :=
    List.findIdx?_eq_none_iff.2 fun h mem => by rw [good h mem]; rfl
  have noReport : (s1.loadHelpers l.pa 4).1.any (fun h => h.2 == .corrected) = false :=
    List.any_eq_false.2 fun h mem => by rw [good h mem]; decide
  rw [State.memReadBlock, reach.passes, Res.bind_ok]
  simp only [reach.uniform, noError, noReport, bytes, state]
  have words := doublewords_readBytes s1 l.little l.pa 8
  rw [reach.kept.readBytes_eq] at words ⊢
  simp only [reach.kept.valueAt_eq] at words
  exact congrArg (fun w => Res.ok (w, none) s1) words

/-! ### Block stores (R930, R935) -/

theorem memPutBytes_append (m : List Host.Cell) (pa : Nat) (a b : List Byte) :
    memPutBytes m pa (a ++ b) = memPutBytes (memPutBytes m pa a) (pa + a.length) b := by
  induction a generalizing m pa with
  | nil => rfl
  | cons x rest ih =>
    rw [List.cons_append, memPutBytes, ih, memPutBytes, List.length_cons, Nat.add_assoc, Nat.add_comm 1]

theorem State.storePieces_frame (s : State) (flaw : BitVec 7 × Bool) (pa : Nat) (pieces : List (List Byte)) :
    StoreFrame s (s.storePieces flaw pa pieces) := by
  induction pieces generalizing s pa with
  | nil => rfl
  | cons bs rest ih =>
    unfold State.storePieces
    dsimp only
    split
    · exact State.pushCells_frame
    · exact State.pushCells_frame.trans (ih _ _)

/-- Where no error of the buffer is in question, hardware injects none into a store. -/
theorem State.storeFlaw_of_clean {s : State} (clean : s.checksClean = true) : s.storeFlaw = (0, false) := by
  have none := (State.not_injecting_of_clean clean).2
  simp [State.storeFlaw, State.injects, none]

/-- A store that is in no error where none is in question leaves room for the stores after it, which are in none either. -/
theorem State.hasRoom_pushCells {s : State} {kind : StoreKind} {flaw : BitVec 7 × Bool} {pa seen n : Nat}
    {cells : List Host.Cell} (room : HasRoom s (n + 1)) (flawless : s.checksClean = true → flaw = (0, false)) :
    HasRoom (s.pushCells kind flaw pa seen cells) n ∧
      ((s.pushCells kind flaw pa seen cells).checksClean = true → flaw = (0, false)) := by
  have one : HasRoom s 1 := room.imp (by omega) id
  rw [State.pushCells_of_hasRoom kind flaw pa seen cells one]
  refine ⟨?_, fun clean => ?_⟩
  · rcases room with short | clean
    · left
      have : (s.undrained.take 7).length ≤ s.undrained.length := by simp
      simp only [State.bufferCells, List.length_cons]
      omega
    · right
      rw [flawless clean]
      simp only [State.checksClean, Bool.and_eq_true] at clean ⊢
      refine ⟨clean.1, ?_⟩
      simp only [State.bufferCells, List.all_cons, Bool.and_eq_true]
      exact ⟨rfl, List.all_eq_true.2 fun p mem => List.all_eq_true.1 clean.2 p (List.mem_of_mem_take mem)⟩
  · simp only [State.checksClean, State.bufferCells, List.all_cons, Bool.and_eq_true, PendingStore.clean, State.noted,
      beq_iff_eq, Bool.not_eq_true'] at clean
    exact Prod.ext clean.2.1.1 clean.2.1.2

/-- The stores of a block that have room are all in memory. -/
theorem State.storePieces_eq {s : State} {flaw : BitVec 7 × Bool} {pa : Nat} {pieces : List (List Byte)}
    (eight : ∀ bs ∈ pieces, bs.length = 8) (room : HasRoom s pieces.length) (flawless : s.checksClean = true → flaw = (0, false)) :
    s.storePieces flaw pa pieces =
      { s with mem := memPutBytes s.mem pa pieces.flatten, undrained := (s.storePieces flaw pa pieces).undrained
               oracle := (s.storePieces flaw pa pieces).oracle } := by
  induction pieces generalizing s pa with
  | nil => rfl
  | cons bs rest ih =>
    have one : HasRoom s 1 := room.imp (by rw [List.length_cons]; omega) id
    obtain ⟨more, pushed⟩ := State.hasRoom_pushCells (kind := .block) (pa := pa) (seen := 8) (cells := cellsFrom pa bs) room flawless
    have first := State.pushCells_eq (kind := .block) (flaw := flaw) (pa := pa) (seen := 8) (cells := cellsFrom pa bs) one
    have quiet : (s.pushCells .block flaw pa 8 (cellsFrom pa bs)).storeError = s.storeError := by rw [first]
    have pieces : s.storePieces flaw pa (bs :: rest) =
        (s.pushCells .block flaw pa 8 (cellsFrom pa bs)).storePieces flaw (pa + 8) rest := by
      simp [State.storePieces, quiet]
    rw [pieces, List.flatten_cons, memPutBytes_append, eight bs (by simp),
      ih (fun b mem => eight b (List.mem_cons_of_mem _ mem)) more pushed, State.pushCells_mem one, memPutCells_cellsFrom]
    rw [first]

theorem Reaches.memWriteBlock {s s1 : State} {r : DataReq} {l : Located} (reach : Reaches s r l s1) (vs : List Word) :
    s.memWriteBlock r vs = .ok () (s1.storePieces s1.storeFlaw l.pa (vs.map (storeImage l.little 8))) := by
  rw [State.memWriteBlock, reach.passes, Res.bind_ok]
  simp [reach.memory, reach.uniform, reach.populated, orderBytes_bytesOfWord]

end Sys2Proof.Machine

namespace Sys2Proof.Machine

/-! ### Partial stores (spec/45_vis.md R1280) -/

/-- A byte of memory after a store of the enabled ones of some bytes. -/
theorem sparseGet_memPutCells_enabledCells (m : List Host.Cell) (pa : Nat) (bytes : List (Byte × Bool)) (a : Nat) :
    sparseGet dramInitial (memPutCells m (enabledCells pa bytes)) a =
      if h : pa ≤ a ∧ a < pa + bytes.length then
        if bytes[a - pa].2 then bytes[a - pa].1 else sparseGet dramInitial m a
      else sparseGet dramInitial m a := by
  induction bytes generalizing m pa with
  | nil => rw [dif_neg (by simp)]; rfl
  | cons b rest ih =>
    obtain ⟨byte, on⟩ := b
    have put : memPutCells m (enabledCells pa ((byte, on) :: rest)) =
        memPutCells (if on then memPut m pa byte else m) (enabledCells (pa + 1) rest) := by
      cases on <;> rfl
    rw [put, ih]
    by_cases here : a = pa
    · subst here
      rw [dif_neg (by omega), dif_pos (by simp)]
      cases on <;> simp [memPut]
    · have below : sparseGet dramInitial (if on then memPut m pa byte else m) a = sparseGet dramInitial m a := by
        cases on
        · rfl
        · exact sparseGet_put_ne _ _ _ _ here
      rw [below]
      by_cases later : pa + 1 ≤ a ∧ a < pa + 1 + rest.length
      · rw [dif_pos later, dif_pos (by simp; omega)]
        simp [show a - pa = (a - (pa + 1)) + 1 by omega]
      · rw [dif_neg later, dif_neg (by simp; omega)]

theorem Reaches.memWritePartial {s s1 : State} {r : DataReq} {l : Located} (reach : Reaches s r l s1)
    (bytes : Bool → List (Byte × Bool)) :
    s.memWritePartial r bytes =
      .ok () (s1.pushCells .ordinary s1.storeFlaw l.pa 8 (enabledCells l.pa (bytes l.little))) := by
  rw [State.memWritePartial, reach.passes, Res.bind_ok]
  simp [reach.memory, State.storeCellsAt, reach.uniform, reach.populated]

theorem shortSize_dvd (asi : BitVec 8) : shortSize asi ∣ 64 := by
  unfold shortSize
  split <;> decide

/-! ### The block, short and partial forms, where the unit is enabled -/

section
variable {i : Instr} {s : State} {rd : Reg}

/-- The checks of a block form before those of its access: its first register, and then the unit (decision D70). -/
theorem block_checks {k : Res Unit} (run : exec i s = (if !blockAligned rd then .trap 0x010 s else s.needsFp k).outcome) :
    ((doublePair rd).extractLsb' 0 3 ≠ 0 → Traps i s s 0x010) ∧
      ((doublePair rd).extractLsb' 0 3 = 0 → (s.fpEnabled = false → Traps i s s 0x020) ∧
        (s.fpEnabled = true → exec i s = k.outcome)) := by
  refine ⟨fun misaligned => ?_, fun aligned => ?_⟩
  · rw [Traps, run, blockAligned, beq_false_of_ne misaligned]
    rfl
  · have run : exec i s = (s.needsFp k).outcome := by
      rw [run, blockAligned, aligned]
      rfl
    exact ⟨traps_of_needsFp run, exec_of_needsFp run⟩

section
variable {asi : BitVec 8} {ea : Word} (first : (doublePair rd).extractLsb' 0 3 = 0) (on : s.fpEnabled = true)
include first on

/-- A block load writes the eight registers of its group. -/
theorem loadBlock_enabled (run : exec i s = (s.loadBlock rd asi ea).outcome) :
    AccessTraps i s ⟨.blockLoad, some asi, ea, 64⟩ ∧ ∀ (l : Located) (s1 : State), ea.toNat % 64 = 0 →
      Reaches s ⟨.blockLoad, some asi, ea, 64⟩ l s1 → (∀ k, k < 4 → s1.plainLine (l.pa + 16 * k) = true) →
      s1.pendingIn l.pa 64 (fun _ => true) = false →
      ∃ t, exec i s = .next t ∧
        (∀ k, k < 8 → t.pair (doublePair rd + BitVec.ofNat 5 k) = valueAt s ⟨l.pa + 8 * k, l.little⟩ 8) ∧
        (∀ p : BitVec 5, p.extractLsb' 3 2 ≠ (doublePair rd).extractLsb' 3 2 → t.pair p = s.pair p) ∧
        t.fprs = s.fprs ||| (if bitAt rd 0 then 2 else 1) ∧
        t = { s1 with fregs := t.fregs, fprs := t.fprs, pc := s.npc, npc := s.npc + 4 } ∧ SameMemory s t := by
  have run := ((block_checks run).2 first).2 on
  refine ⟨accessTraps_of_align (r := ⟨.blockLoad, some asi, ea, 64⟩) (by decide : 64 ∣ 64) run fun _ _ fails => ?_,
    fun l s1 aligned reach plain newest => ?_⟩
  · rw [State.memReadBlock, fails, Res.bind_trap, Res.bind_trap]
  · rw [s.align_eq ea (by decide), if_pos aligned, reach.memReadBlock plain newest] at run
    have frame := s1.setPairs_eq (doublePair rd) (blockAt s l)
    have pair (p : BitVec 5) : (s1.setPairs (doublePair rd) (blockAt s l)).advance.pair p =
        (blockAt s l)[(p - doublePair rd).toNat]?.getD (s.pair p) := by
      have before : s1.pair p = s.pair p := by simp only [State.pair, reach.fregs_eq]
      rw [← before]
      exact s1.pair_setPairs _ p _ (by simp [blockAt])
    refine ⟨_, run, fun k inside => ?_, fun p other => ?_, ?_, ?_, ?_⟩
    · have place : (doublePair rd + BitVec.ofNat 5 k - doublePair rd).toNat = k := by bv_omega
      rw [pair, place]
      simp [blockAt, inside]
    · have outside : 8 ≤ (p - doublePair rd).toNat := Nat.le_of_not_lt fun inside => other (group_of_block first inside)
      rw [pair, List.getElem?_eq_none (by simpa [blockAt] using outside)]
      rfl
    · have half := s1.setPairs_fprs (doublePair rd) (valueAt s ⟨l.pa + 8 * 0, l.little⟩ 8) (blockAt s l).tail (bitAt (doublePair rd) 4)
        fun k inside => half_of_block first inside
      rw [← reach.fprs_eq, ← doublePair_upper]
      exact half
    · rw [State.advance]
      simp only
      rw [frame]
      simp only [reach.npc_eq]
    · intro a
      rw [← reach.kept a, State.advance, frame]
      rfl

theorem storeBlock_enabled (run : exec i s = (s.storeBlock rd asi ea).outcome) :
    AccessTraps i s ⟨.blockStore, some asi, ea, 64⟩ ∧ ∀ (l : Located) (s1 : State), ea.toNat % 64 = 0 →
      Reaches s ⟨.blockStore, some asi, ea, 64⟩ l s1 →
      StoresWithRoom i s s1 8 (Stores i s s1 l.pa
        ((List.range 8).flatMap (fun k => storeImage l.little 8 (s.pair (doublePair rd + BitVec.ofNat 5 k))))) := by
  have run := ((block_checks run).2 first).2 on
  refine ⟨accessTraps_of_align (r := ⟨.blockStore, some asi, ea, 64⟩) (by decide : 64 ∣ 64) run fun _ _ fails => ?_,
    fun l s1 aligned reach => ?_⟩
  · rw [State.memWriteBlock, fails, Res.bind_trap, Res.bind_trap]
  · rw [s.align_eq ea (by decide), if_pos aligned, reach.memWriteBlock] at run
    have image : ((s.pairs (doublePair rd)).map (storeImage l.little 8)).flatten =
        (List.range 8).flatMap (fun k => storeImage l.little 8 (s.pair (doublePair rd + BitVec.ofNat 5 k))) := by
      rw [State.pairs, List.map_map, List.flatMap_def]
      rfl
    refine storesWithRoom_of_frame (g := id) reach (s1.storePieces_frame _ _ _) run fun room => ?_
    refine stores_of_eq (g := id) reach run ?_
    have eight : ∀ bs ∈ (s.pairs (doublePair rd)).map (storeImage l.little 8), bs.length = 8 := fun bs mem => by
      obtain ⟨v, _, rfl⟩ := List.mem_map.1 mem
      exact length_storeImage _ _ _
    have fits : HasRoom s1 ((s.pairs (doublePair rd)).map (storeImage l.little 8)).length := by
      simpa [State.pairs] using room
    rw [← image]
    exact State.storePieces_eq eight fits State.storeFlaw_of_clean

end

section
variable {asi : BitVec 8} {ea : Word} (on : s.fpEnabled = true)
include on

theorem loadShort_enabled (run : exec i s = (s.loadShort rd asi ea).outcome) :
    AccessTraps i s ⟨.shortLoad, some asi, ea, shortSize asi⟩ ∧ ∀ (l : Located) (s1 : State), ea.toNat % shortSize asi = 0 →
      Reaches s ⟨.shortLoad, some asi, ea, shortSize asi⟩ l s1 → Settled s1 l.pa (shortSize asi) →
      WritesDouble i s s1 rd (valueAt s l (shortSize asi)) := by
  have run := exec_of_needsFp run on
  refine ⟨accessTraps_of_align (r := ⟨.shortLoad, some asi, ea, shortSize asi⟩) (shortSize_dvd asi) run fun _ _ fails => ?_,
    fun l s1 aligned reach settled => writesDouble_of_reaches reach
      (exec_of_memRead (done := fun v t => t.setF64 rd v) reach settled ?_)⟩
  · rw [State.memRead_of_trap fails, Res.bind_trap]
  · rw [run, s.align_eq ea (shortSize_dvd asi), if_pos aligned]

theorem storeShort_enabled (run : exec i s = (s.storeShort rd asi ea).outcome) :
    AccessTraps i s ⟨.shortStore, some asi, ea, shortSize asi⟩ ∧ ∀ (l : Located) (s1 : State), ea.toNat % shortSize asi = 0 →
      Reaches s ⟨.shortStore, some asi, ea, shortSize asi⟩ l s1 →
      StoresWithRoom i s s1 1 (Stores i s s1 l.pa (storeImage l.little (shortSize asi) (s.f64 rd))) := by
  have run := exec_of_needsFp run on
  refine ⟨accessTraps_of_align (r := ⟨.shortStore, some asi, ea, shortSize asi⟩) (shortSize_dvd asi) run fun _ _ fails => ?_,
    fun l s1 aligned reach => storesWithRoom_of_memWrite (r := ⟨.shortStore, some asi, ea, shortSize asi⟩) (g := id)
      reach (DataReq.storeKind_of_legal reach.legal rfl) ?_⟩
  · rw [State.memWrite_of_trap fails, Res.bind_trap]
  · rw [run, s.align_eq ea (shortSize_dvd asi), if_pos aligned]
    rfl

/-- A partial store changes the bytes that its mask enables, and nothing else. -/
theorem storePartial_enabled {mask : Word} (run : exec i s = (s.storePartial rd asi ea mask).outcome) :
    AccessTraps i s ⟨.partialStore, some asi, ea, 8⟩ ∧ ∀ (l : Located) (s1 : State), ea.toNat % 8 = 0 →
      Reaches s ⟨.partialStore, some asi, ea, 8⟩ l s1 →
      StoresWithRoom i s s1 1 (∃ t, exec i s = .next t ∧
        (∀ j, j < 8 →
          let k := if l.little then j else 7 - j
          t.readByte (l.pa + j) =
            if bitAt mask (k / partialElement asi) then (s.f64 rd).extractLsb' (8 * k) 8 else s.readByte (l.pa + j)) ∧
        (∀ a, ¬(l.pa ≤ a ∧ a < l.pa + 8) → t.readByte a = s.readByte a) ∧
        t = { s1 with mem := t.mem, undrained := t.undrained, oracle := t.oracle, pc := s.npc, npc := s.npc + 4 }) := by
  have run := exec_of_needsFp run on
  refine ⟨accessTraps_of_align (r := ⟨.partialStore, some asi, ea, 8⟩) (by decide : 8 ∣ 64) run fun _ _ fails => ?_,
    fun l s1 aligned reach => ?_⟩
  · rw [State.memWritePartial, fails, Res.bind_trap, Res.bind_trap]
  · rw [s.align_eq ea (by decide), if_pos aligned, reach.memWritePartial] at run
    refine storesWithRoom_of_frame (g := id) reach State.pushCells_frame run fun room => ?_
    have byte (a : Nat) : (s1.pushCells .ordinary s1.storeFlaw l.pa 8
        (enabledCells l.pa (partialBytes (partialElement asi) (s.f64 rd) mask l.little))).advance.readByte a = _ :=
      (congrArg (sparseGet dramInitial · a) (State.pushCells_mem room)).trans
        (sparseGet_memPutCells_enabledCells s1.mem l.pa _ a)
    have before (a : Nat) : sparseGet dramInitial s1.mem a = s.readByte a := reach.kept a
    refine ⟨_, run, fun j inside => ?_, fun a outside => ?_, ?_⟩
    · rw [byte, dif_pos (by simp [partialBytes, inside]), before]
      simp [partialBytes]
    · rw [byte, dif_neg (by simpa [partialBytes] using outside), before]
    · rw [State.advance]
      simp only
      rw [State.pushCells_eq room]
      simp only [reach.npc_eq]

end

end

theorem asiKind_of_isBlockAsi {asi : BitVec 8} (h : isBlockAsi asi = true) : asiKind asi = .block := if_pos h

theorem asiKind_of_isShortAsi {asi : BitVec 8} (h : isShortAsi asi = true) : asiKind asi = .short := by
  revert asi
  decide +kernel

end Sys2Proof.Machine

namespace Sys2Proof
open Machine

/-- Settles O37: each mnemonic runs the shared operation of its form (`loadBlock_enabled`, `storeBlock_enabled` and the like), and an
alternate one with such an ASI in the ASI register runs the same operation. -/
theorem blockShortAndPartialAccesses : Obligations.BlockShortAndPartialAccesses := by
  intro s s1 rd rs1 rs2 x asi l cut named first group cell pairOf blockLoad blockStore short shortLoad shortStore sum alternate
  have sum_eq : sum = s.ea rs1 (.reg rs2) := (maskAddr_eq_ofNat ..).symm
  have alternate_eq : alternate = s.eaAlt rs1 x := (maskAddr_eq_ofNat ..).symm
  have blockLoads {i : Instr} {a : BitVec 8} {ea : Word} (run : exec i s = (s.loadBlock rd a ea).outcome) :
      blockLoad i a ea :=
    ⟨(block_checks run).1, fun aligned => ((block_checks run).2 aligned).1, fun aligned on =>
      (loadBlock_enabled aligned on run).imp_right fun completes => completes l s1⟩
  have blockStores {i : Instr} {a : BitVec 8} {ea : Word} (run : exec i s = (s.storeBlock rd a ea).outcome) :
      blockStore i a ea :=
    ⟨(block_checks run).1, fun aligned => ((block_checks run).2 aligned).1, fun aligned on =>
      (storeBlock_enabled aligned on run).imp_right fun completes => completes l s1⟩
  have shortLoads {i : Instr} {a : BitVec 8} {ea : Word} (run : exec i s = (s.loadShort rd a ea).outcome) :
      shortLoad i a ea :=
    ⟨traps_of_needsFp run, fun on => (loadShort_enabled on run).imp_right fun completes => completes l s1⟩
  have shortStores {i : Instr} {a : BitVec 8} {ea : Word} (run : exec i s = (s.storeShort rd a ea).outcome) :
      shortStore i a ea :=
    ⟨traps_of_needsFp run, fun on => (storeShort_enabled on run).imp_right fun completes => completes l s1⟩
  refine ⟨blockLoads (by rw [sum_eq]; rfl), blockStores (by rw [sum_eq]; rfl), fun block => ?_,
    shortLoads (by rw [sum_eq]; rfl), shortStores (by rw [sum_eq]; rfl), fun short => ?_, ?_⟩
  · have kind : asiKind (AltAddr.asi x s) = .block := asiKind_of_isBlockAsi block
    refine ⟨blockLoads ?_, blockStores ?_⟩
    · rw [alternate_eq, exec, execLddfa, kind]
      rfl
    · rw [alternate_eq, exec, execStdfa, kind]
      rfl
  · have kind : asiKind (AltAddr.asi x s) = .short := asiKind_of_isShortAsi short
    refine ⟨shortLoads ?_, shortStores ?_⟩
    · rw [alternate_eq, exec, execLddfa, kind]
      rfl
    · rw [alternate_eq, exec, execStdfa, kind]
      rfl
  · have run : exec (.stpartialf rd rs1 asi rs2) s = (s.storePartial rd asi (cut (s.reg rs1)) (s.reg rs2)).outcome := by
      rw [show cut (s.reg rs1) = maskAddr s.pstate.am (s.reg rs1) from (maskAddr_eq_ofNat ..).symm]
      rfl
    exact ⟨traps_of_needsFp run, fun on => (storePartial_enabled on run).imp_right fun completes => completes l s1⟩

end Sys2Proof

namespace Sys2Proof.Machine

/-! ### What a prefetch of a line leaves alone (spec/63_errors_l2_dram.md R1685, R1714) -/

/-- The change from `s` to `t` is one that a read of a line with bad data may make: of memory with what is known of its lines, the
registers of the chip, the records of errors with their debug events and the reset they ask for, and the place in the free values;
what the buffer keeps of memory may change, but no store leaves it. `WalksTo` says what becomes of the data; it lets the D-TLB
change and stores leave. -/
structure LineTo (s t : State) : Prop where
  frame : t = { s with notData := t.notData, csr := t.csr, err := t.err, events := t.events, chipReset := t.chipReset,
                       oracle := t.oracle, mem := t.mem, undrained := t.undrained, linkLine := t.linkLine }
  addrs : t.undrained.map PendingStore.addrs = s.undrained.map PendingStore.addrs

namespace LineTo

theorem refl (s : State) : LineTo s s := ⟨rfl, rfl⟩

theorem trans {s t u : State} (h : LineTo s t) (h' : LineTo t u) : LineTo s u :=
  ⟨Eq.trans h'.frame (congrArg (fun (x : State) =>
    { x with notData := u.notData, csr := u.csr, err := u.err, events := u.events, chipReset := u.chipReset,
             oracle := u.oracle, mem := u.mem, undrained := u.undrained, linkLine := u.linkLine }) h.frame),
    h'.addrs.trans h.addrs⟩

section
variable {s t : State} (h : LineTo s t)
include h

theorem ite {u : State} (p : Prop) [Decidable p] (h' : LineTo s u) : LineTo s (if p then t else u) := by
  split <;> assumption

/-- A sequence of changes, one for each entry of a list. -/
theorem foldl {α : Type} {f : State → α → State} (hf : ∀ u a, LineTo s u → LineTo s (f u a)) (l : List α) :
    LineTo s (l.foldl f t) :=
  List.foldlRecOn l f h fun u hu a _ => hf u a hu

/-! #### Records of errors -/

theorem drawn : LineTo s t.drawn := h.trans ⟨rfl, rfl⟩

theorem csrSet (pa : Nat) (v : Word) : LineTo s (t.csrSet pa v) := h.trans ⟨rfl, rfl⟩

theorem err (e : ErrRegs) : LineTo s { t with err := e } := h.trans ⟨rfl, rfl⟩

theorem events (e : DebugEvents) : LineTo s { t with events := e } := h.trans ⟨rfl, rfl⟩

theorem chipReset (r : Option ChipReset) : LineTo s { t with chipReset := r } := h.trans ⟨rfl, rfl⟩

theorem linkLine (l : Option (Nat × Bool)) : LineTo s { t with linkLine := l } := h.trans ⟨rfl, rfl⟩

theorem updateClfesr (old : BitVec 16) : LineTo s (t.updateClfesr old) := (h.err _).ite _ ((h.err _).ite _ h)

theorem recordDesr (k : Nat) (sre : Bool) (errtype : BitVec 5) (addr : BitVec 11) : LineTo s (t.recordDesr k sre errtype addr) := by
  refine .ite (updateClfesr ?_ _) _ h
  exact (h.drawn.ite (t.err.together.isSome = true) h).trans ⟨rfl, rfl⟩

theorem recordDisrupting (k : Nat) (sre : Bool) (errtype : BitVec 5) : LineTo s (t.recordDisrupting k sre errtype) :=
  (h.drawn.recordDesr _ _ _ _).ite _ h

theorem noteL2 (pa : Nat) : LineTo s (t.noteL2 pa) := (h.events _).ite _ h

theorem logDram (pa : Nat) (one write fill : Bool) : LineTo s (t.logDram pa one write fill) :=
  ((h.csrSet _ _).noteL2 _).ite _ (((h.drawn.csrSet _ _).drawn.csrSet _ _).noteL2 _)

theorem logNotData (pa : Nat) (write : Bool) : LineTo s (t.logNotData pa write) :=
  ((h.csrSet _ _).ite _ (h.csrSet _ _)).noteL2 pa

theorem noteMcu (k : Nat) : LineTo s (t.noteMcu k) := ((h.csrSet _ _).events _).ite _ h

theorem logMcu (k bit : Nat) (severe : Bool) (y : BitVec 16) (a : Option Nat) : LineTo s (t.logMcu k bit severe y a) := by
  refine ((h.csrSet _ _).noteMcu k).ite _ (noteMcu ?_ k)
  cases a with
  | none => exact h.csrSet _ _
  | some a => exact (h.csrSet _ _).csrSet _ _

theorem reportL2U (pa : Nat) : LineTo s (t.reportL2U pa) := (h.recordDisrupting _ _ _).ite _ h

theorem reportL2C (pa : Nat) : LineTo s (t.reportL2C pa) := (h.recordDisrupting _ _ _).ite _ h

theorem reportCorrected (pa k : Nat) (errtype : BitVec 5) : LineTo s (t.reportCorrected pa k errtype) :=
  (h.recordDisrupting _ _ _).ite _ h

/-! #### Errors of the SOC and of the links -/

theorem socSyndrome (reg : Nat) (entries : List Nat) (shift : Nat) (fields : Nat → Word × Word) (logged : Word) :
    LineTo s (t.socSyndrome reg entries shift fields logged) := by
  unfold State.socSyndrome
  split <;> [exact h; exact h.ite _ (h.drawn.csrSet _ _)]

theorem socRequest (entries : Word) : LineTo s (t.socRequest entries) := by
  have packet {u : State} (hu : LineTo s u) (asking : Word) : LineTo s (u.socPacket asking) :=
    hu.ite _ ((hu.recordDisrupting _ _ _).ite _ ((hu.recordDisrupting _ _ _).ite _
      ((hu.drawn.recordDisrupting _ _ _).ite _ (hu.drawn.recordDisrupting _ _ _))))
  exact h.ite _ (packet ((h.csrSet _ _).csrSet _ _) _)

theorem socErrors (errors : Word) : LineTo s (t.socErrors errors) := by
  refine h.ite _ (.ite (chipReset (csrSet ?_ _ _) _) _ (socRequest ?_ _)) <;>
    exact (((h.csrSet _ _).socSyndrome _ _ _ _ _).socSyndrome _ _ _ _ _).events _

theorem countLink (k : Nat) : LineTo s (t.countLink k) :=
  (h.socErrors _).ite _ (((h.csrSet _ _).socErrors _).ite _ (h.csrSet _ _))

theorem countCorrected (k : Nat) : LineTo s (t.countCorrected k) :=
  h.ite _ (((h.csrSet _ _).socErrors _).ite _ (h.csrSet _ _))

theorem logRetry (k : Nat) (first : BitVec 16) (second : Option (BitVec 16)) : LineTo s (t.logRetry k first second) :=
  h.csrSet _ _

theorem logLocation (k n : Nat) : LineTo s (t.logLocation k n) := h.ite _ (h.csrSet _ _)

theorem logLinked (pa : Nat) : LineTo s (t.logLinked pa) := by
  unfold State.logLinked
  split
  · exact h
  · rename_i fatal _
    have link : LineTo s (t.logLink (t.mcuOf pa) fatal) := by
      unfold State.logLink
      exact (h.drawn.csrSet _ _).drawn.logMcu _ _ _ _ _
    have logged := link.linkLine none
    exact logged.ite _ (logged.countLink _)

/-! #### Lines of memory with bad data -/

theorem putLine (pa : Nat) (l : MemLine) : LineTo s (t.putLine pa l) := h.trans ⟨rfl, rfl⟩

theorem putUnder (cells : List Host.Cell) : LineTo s (t.putUnder cells) := by
  refine h.trans ⟨?_, t.putUnder_addrs cells⟩
  unfold State.putUnder
  split <;> rfl

theorem writeDram (pa : Nat) (chunks : BitVec 4) : LineTo s (t.writeDram pa chunks) :=
  h.ite _ ((h.putLine _ _).ite _ (((h.putLine _ _).csrSet _ _).ite _ (h.putLine _ _)))

theorem putDram (pa : Nat) (cells : List Host.Cell) : LineTo s (t.putDram pa cells) :=
  (h.putUnder cells).ite _ (h.ite _ (h.putLine _ _))

theorem evict (pa : Nat) : LineTo s (t.evict pa) :=
  (h.putLine _ _).ite _ (((h.putUnder _).putLine _ _).ite _ ((h.putLine _ _).writeDram _ _))

theorem aged (pa : Nat) : LineTo s (t.aged pa) := h.ite _ ((h.evict pa).ite _ ((h.drawn.evict pa).ite _ h.drawn))

theorem logUncorrectable (pa q bit : Nat) (a : Option Nat) : LineTo s (t.logUncorrectable pa q bit a) := by
  unfold State.logUncorrectable
  exact (h.logMcu _ _ _ _ _).logRetry _ _ _

theorem logCorrected (pa q bit : Nat) (a : Option Nat) : LineTo s (t.logCorrected pa q bit a) := by
  unfold State.logCorrected
  dsimp only
  split
  · exact h
  · exact (((((h.logLocation _ _).logMcu _ _ _ _ _).putDram _ _).writeDram _ _).logRetry _ _ _).countCorrected _

theorem logMemory (pa : Nat) : LineTo s (t.logMemory pa) :=
  ((h.csrSet _ _).noteMcu _).ite _ (.foldl (.foldl (h.logLinked pa) (fun _ _ k => k.logUncorrectable ..) _)
    (fun _ _ k => k.logCorrected ..) _)

theorem fillLine (pa : Nat) (bad : BitVec 16) (spoilt : Bool) : LineTo s (t.fillLine pa bad spoilt) :=
  h.ite _ (h.putLine _ _)

theorem fillReport (pa : Nat) (bad fixed : BitVec 16) : LineTo s (t.fillReport pa bad fixed) :=
  have first := h.ite (bad = 0) ((h.logDram pa false false true).reportL2U pa)
  first.ite _ ((first.logDram _ _ _ _).reportL2C _)

theorem badPrefetch (pa : Nat) : LineTo s (t.badPrefetch pa) := by
  have aged := h.aged pa
  have logged := aged.logMemory pa
  have marked := aged.logNotData pa false
  unfold State.badPrefetch
  dsimp only
  split
  · exact ((((logged.logDram _ _ _ _).reportCorrected _ _ _).ite _ logged).fillReport _ _ _).fillLine _ _ _
  · exact aged.ite _ ((marked.recordDisrupting _ _ _).ite _ marked)

end
end LineTo

theorem WalksTo.badPrefetch {s t : State} (h : WalksTo s t) (pa : Nat) : WalksTo s (t.badPrefetch pa) := by
  have aged := h.aged pa
  have logged := aged.logMemory pa
  have marked := aged.logNotData pa false
  have corrected {u : State} (hu : WalksTo s u) : WalksTo s (u.reportCorrected pa 21 20) := (hu.recordDisrupting _ _ _).ite _ hu
  unfold State.badPrefetch
  dsimp only
  split
  · exact (((corrected (logged.logDram _ _ _ _)).ite _ logged).fillReport _ _ _).fillLine _ _ _
  · exact aged.ite _ ((marked.recordDisrupting _ _ _).ite _ marked)

/-- Where no read changes data, a prefetch changes neither memory nor the store buffer. -/
theorem State.KeepsData.badPrefetch {s : State} (keeps : s.KeepsData) (pa : Nat) :
    (s.badPrefetch pa).undrained = s.undrained ∧ (s.badPrefetch pa).mem = s.mem := by
  obtain ⟨_, stores, mem⟩ := ((WalksTo.refl s).badPrefetch pa).keeps keeps
  have count := congrArg List.length ((LineTo.refl s).badPrefetch pa).addrs
  rw [List.length_map, List.length_map] at count
  exact ⟨stores.eq_of_length count, mem⟩

end Sys2Proof.Machine

namespace Sys2Proof.Machine

/-! ### The barriers (spec/42_load_store.md R950, R952) -/

section
variable {i : Instr} {s : State}

theorem drains_of_drain (run : exec i s = .next s.drain.advance) :
    (∃ t, exec i s = .next t ∧ t.undrained = [] ∧ t.pc = s.npc ∧ t.npc = s.npc + 4 ∧ t.regs = s.regs) ∧
      (s.undrained.all PendingStore.clean = true → Completes i s { s with undrained := [] }) := by
  refine ⟨⟨_, run, s.drain_undrained, ?_⟩, fun clean => ?_⟩
  · have frame : StoreFrame s s.drain := s.drainFor_frame 0
    rw [State.advance, frame]
    exact ⟨rfl, rfl, rfl⟩
  · rw [State.drain_of_clean clean] at run
    exact ⟨_, run, rfl, fun _ => rfl⟩

end

theorem encode_membar (cmask : BitVec 3) (mmask : BitVec 4) :
    encode (.membar cmask mmask) = 0x8143E000 ||| (cmask.setWidth 32 <<< 4) ||| mmask.setWidth 32 := by
  revert cmask mmask
  decide +kernel

/-! ### The prefetches (R945, R946) -/

/-- The trap that a data TLB error raises changes only the records of errors and the registers of the MMU. -/
theorem State.entryError_data {s b : State} {va : Word} {e : TlbEntry} {tt : BitVec 9}
    (found : s.entryError .data va e = some (tt, b)) : tt = 0x072 ∧ b = { s with err := b.err, mmu := b.mmu } := by
  unfold State.entryError at found
  dsimp only at found
  split at found
  · cases found
    exact ⟨rfl, rfl⟩
  · split at found
    · cases found
      exact ⟨rfl, rfl⟩
    · exact nomatch found

theorem State.prefetchPlace_cases (s : State) (r : DataReq) (sp : AsiSpace) :
    (∃ found, s.prefetchPlace r sp = .ok found s) ∨
      ∃ b, s.prefetchPlace r sp = .trap 0x072 b ∧ b = { s with err := b.err, mmu := b.mmu } := by
  unfold State.prefetchPlace
  split
  · exact .inl ⟨_, rfl⟩
  · split
    · exact .inl ⟨_, rfl⟩
    · split
      · rename_i error
        obtain ⟨rfl, frame⟩ := State.entryError_data error
        exact .inr ⟨_, rfl, frame⟩
      · exact .inl ⟨_, rfl⟩
    · split
      · rename_i reports
        refine .inr ⟨(s.setDsfsr 1).setDsfarTlb r.va, ?_, rfl⟩
        simp only [State.multipleHit, reports, if_true]
      · exact .inl ⟨_, rfl⟩

/-- What a weak prefetch may do: nothing, the errors of the line that it names, or the trap of a data TLB error. -/
theorem State.prefetch_cases (s : State) (r : DataReq) :
    s.prefetch r = .ok () s ∨ (∃ pa, s.prefetch r = .ok () (s.badPrefetch pa)) ∨
      ∃ b, s.prefetch r = .trap 0x072 b ∧ b = { s with err := b.err, mmu := b.mmu } := by
  unfold State.prefetch
  split
  · exact .inl rfl
  · rename_i sp _
    split
    · exact .inl rfl
    · rcases s.prefetchPlace_cases r sp with ⟨found, place⟩ | ⟨b, place, frame⟩
      · rw [place, Res.bind_ok]
        cases found with
        | none => exact .inl rfl
        | some t =>
          dsimp only
          split
          · exact .inl rfl
          · exact .inr (.inl ⟨_, rfl⟩)
      · exact .inr (.inr ⟨b, by rw [place, Res.bind_trap], frame⟩)

theorem State.prefetch_of_unmapped {s : State} {r : DataReq} (unmapped : s.space r.asi = none) : s.prefetch r = .ok () s := by
  rw [State.prefetch, unmapped]

theorem State.prefetch_of_restricted {s : State} {r : DataReq} (restricted : s.restricted r.asi = true) :
    s.prefetch r = .ok () s := by
  unfold State.prefetch
  split
  · rfl
  · rw [restricted, Bool.true_or, Bool.true_or, if_pos rfl]

/-- A prefetch that finds no entry for its address changes nothing. -/
theorem State.prefetch_of_absent {s : State} {r : DataReq} {sp : AsiSpace} (space : s.space r.asi = some sp) (mapped : s.route sp ≠ .bypass)
    (absent : s.tlbMatches .data (r.request sp (s.route sp)) = []) : s.prefetch r = .ok () s := by
  have place : s.prefetchPlace r sp = .ok none s := by
    unfold State.prefetchPlace
    split
    · exact absurd ‹_› mapped
    · simp only [absent]
  rw [State.prefetch, space]
  simp only [place, Res.bind_ok, ite_self]

/-- A prefetch of an address that is not translated changes nothing where nothing is wrong with its line. -/
theorem State.prefetch_of_good {s : State} {r : DataReq} {sp : AsiSpace} (space : s.space r.asi = some sp)
    (bypassed : s.route sp = .bypass) (good : isIo (r.va.toNat % 2 ^ 40) = true ∨ s.plainLine (r.va.toNat % 2 ^ 40) = true) :
    s.prefetch r = .ok () s := by
  have place : s.prefetchPlace r sp = .ok (some (bypass (r.va.setWidth 48))) s := by
    unfold State.prefetchPlace
    rw [bypassed]
  have address : (bypass (r.va.setWidth 48)).pa.toNat = r.va.toNat % 2 ^ 40 := by simp [bypass]
  unfold State.prefetch
  rw [space]
  dsimp only
  split
  · rfl
  · rw [place, Res.bind_ok]
    dsimp only
    rw [address]
    refine if_pos ?_
    rcases good with io | plain
    · simp only [io, Bool.or_true, Bool.true_or]
    · simp only [plain, Bool.or_true, Bool.true_or]

/-- What a prefetch leaves alone: it changes no register and no TLB, and no data but where a read may change some; or it takes the
trap of a data TLB error. -/
def PrefetchHarmless (i : Instr) (s : State) : Prop :=
  (∃ t, exec i s = .next t ∧
    t = { s with notData := t.notData, csr := t.csr, err := t.err, events := t.events, chipReset := t.chipReset,
                 oracle := t.oracle, mem := t.mem, undrained := t.undrained, linkLine := t.linkLine,
                 pc := s.npc, npc := s.npc + 4 } ∧
    t.undrained.map PendingStore.addrs = s.undrained.map PendingStore.addrs ∧
    (s.KeepsData → t.undrained = s.undrained ∧ SameMemory s t)) ∨
  ∃ b, Traps i s b 0x072 ∧ b = { s with err := b.err, mmu := b.mmu }

section
variable {i : Instr} {s : State} {fcn : BitVec 5} {asi : Option (BitVec 8)} {ea : Word}
  (run : exec i s = (s.prefetchAt fcn asi ea).outcome)
include run

theorem prefetchHarmless_of_prefetchAt : PrefetchHarmless i s := by
  have nothing (run : exec i s = .next s.advance) : PrefetchHarmless i s :=
    .inl ⟨_, run, rfl, rfl, fun _ => ⟨rfl, fun _ => rfl⟩⟩
  unfold State.prefetchAt at run
  split at run
  · rcases s.prefetch_cases ⟨.load, asi, ea, 1⟩ with quiet | ⟨pa, bad⟩ | ⟨b, trap, frame⟩
    · rw [quiet] at run
      exact nothing run
    · rw [bad] at run
      have line := (LineTo.refl s).badPrefetch pa
      refine .inl ⟨_, run, ?_, line.addrs, fun keeps => ?_⟩
      · rw [State.advance]
        simp only
        rw [line.frame]
      · obtain ⟨stores, mem⟩ := keeps.badPrefetch pa
        exact ⟨stores, fun a => congrArg (sparseGet dramInitial · a) mem⟩
    · rw [trap] at run
      exact .inr ⟨b, run, frame⟩
  · exact nothing run

theorem completes_of_prefetchAt (quiet : prefetchWeak fcn = true → s.prefetch ⟨.load, asi, ea, 1⟩ = .ok () s) :
    Completes i s s := by
  refine completes_of_advance ?_
  rw [run, State.prefetchAt]
  split
  · rename_i weak
    rw [quiet weak]
    rfl
  · rfl

end

theorem prefetchIllegal_iff (fcn : BitVec 5) : prefetchIllegal fcn = true ↔ 5 ≤ fcn.toNat ∧ fcn.toNat ≤ 15 := by
  revert fcn
  decide

theorem not_prefetchWeak {fcn : BitVec 5} (h : fcn = 4 ∨ 24 ≤ fcn.toNat) : prefetchWeak fcn = false := by
  revert fcn
  decide

theorem extract_key (ea : Word) : ea.extractLsb' 37 3 = 3 ↔ ea.toNat / 2 ^ 37 % 8 = 3 := by
  rw [← BitVec.toNat_inj, BitVec.extractLsb'_toNat, Nat.shiftRight_eq_div_pow]
  rfl

end Sys2Proof.Machine

namespace Sys2Proof
open Machine

/-- Settles O28: a barrier drains or does nothing; a prefetch ends in `State.prefetchAt`, which does one of three things
(`State.prefetch_cases`). -/
theorem barriersDrainAndPrefetchesChangeNoData : Obligations.BarriersDrainAndPrefetchesChangeNoData := by
  refine ⟨fun s cmask mmask rs1 o => ?_, ?_⟩
  · refine ⟨rfl, completes_of_advance rfl, encode_membar cmask mmask, ?_, hasOp3_of_encode rfl, drains_of_drain rfl⟩
    have run : exec (.membar cmask mmask) s = .next (if membarDrains cmask mmask then s.drain else s).advance := rfl
    unfold membarDrains at run
    split at run
    · rename_i drains
      rw [if_pos drains]
      exact drains_of_drain run
    · rename_i nothing
      rw [if_neg nothing]
      exact completes_of_advance run
  · intro s rs1 o addr fcn cut ea ax asi illegal key harmless good absent
    have ea_eq : ea = s.ea rs1 o := (maskAddr_eq_ofNat ..).symm
    have ax_eq : ax = s.eaAlt rs1 addr := (maskAddr_eq_ofNat ..).symm
    have strong (weak : prefetchWeak fcn = true) (h : fcn = 4 ∨ 24 ≤ fcn.toNat) : False :=
      Bool.false_ne_true ((not_prefetchWeak h).symm.trans weak)
    refine ⟨hasOp3_of_encode rfl, hasOp3_of_encode rfl, fun bad => ?_, fun legal keyed => ?_, fun legal => ?_⟩
    · have bad := (prefetchIllegal_iff fcn).2 bad
      exact ⟨if_pos bad, if_pos bad⟩
    · have run : exec (.prefetch fcn rs1 o) s = (s.prefetchAt fcn none ea).outcome := by
        have loads : ¬(fcn == 24 && s.level == .hyper && (s.ea rs1 o).extractLsb' 37 3 != 3) = true := by
          simp only [Bool.and_eq_true, beq_iff_eq, bne_iff_ne, ← ea_eq, not_and, not_not]
          exact fun ⟨code, hyper⟩ => (extract_key ea).2 (Decidable.not_not.1 fun unkeyed => keyed ⟨code, hyper, unkeyed⟩)
        rw [ea_eq]
        exact (if_neg (mt (prefetchIllegal_iff fcn).1 legal)).trans (if_neg loads)
      refine ⟨prefetchHarmless_of_prefetchAt run, fun quiet => completes_of_prefetchAt run fun weak => ?_⟩
      rcases quiet with four | ends | ⟨sp, space, mapped, absent⟩ | ⟨hyper, good⟩
      · exact (strong weak (.inl four)).elim
      · exact (strong weak (.inr ends)).elim
      · exact State.prefetch_of_absent space mapped absent
      · obtain ⟨sp, space, bypassed, _, _⟩ := State.space_of_plain hyper (.inl rfl)
        exact State.prefetch_of_good space bypassed good
    · have run : exec (.prefetcha fcn rs1 addr) s = (s.prefetchAt fcn (some asi) ax).outcome := by
        rw [ax_eq]
        exact if_neg (mt (prefetchIllegal_iff fcn).1 legal)
      refine ⟨prefetchHarmless_of_prefetchAt run, fun quiet => completes_of_prefetchAt run fun weak => ?_⟩
      rcases quiet with four | ends | unmapped | restricted | ⟨sp, space, mapped, absent⟩ | ⟨hyper, plain, good⟩
      · exact (strong weak (.inl four)).elim
      · exact (strong weak (.inr ends)).elim
      · exact State.prefetch_of_unmapped unmapped
      · exact State.prefetch_of_restricted restricted
      · exact State.prefetch_of_absent space mapped absent
      · obtain ⟨sp, space, bypassed, _, _⟩ := State.space_of_plain (asi := some asi) hyper (.inr (by simpa using plain))
        exact State.prefetch_of_good space bypassed good

end Sys2Proof

namespace Sys2Proof.Machine

/-! ### The privileged state (spec/43_state_access.md R991, R1010, R1030; spec/21_asi_map.md R561) -/

/-- What only privileged software writes, and whether the strand runs. Of the registers of the MMU the Tag Access register of the D-TLB
is left out, which a tablewalk writes too. -/
structure PrivilegedState where
  pstate : PState
  hpstate : HPState
  tl : BitVec 3
  gl : BitVec 2
  pil : BitVec 4
  tba : BitVec 33
  htba : BitVec 34
  traps : File 3 TrapFrame
  tim : Timers
  pcr : Word
  scratch : File 3 Word
  lsu : LsuControl
  watch : Watch
  itlb : File 6 TlbEntry
  mmu : Mmu
  cmt : Cmt
  dbg : DebugRegs
  run : RunState
  cleanwin : BitVec 3
  wstate : BitVec 6

/-- The privileged state of the machine. -/
def State.privileged (s : State) : PrivilegedState where
  pstate := s.pstate
  hpstate := s.hpstate
  tl := s.tl
  gl := s.gl
  pil := s.pil
  tba := s.tba
  htba := s.htba
  traps := s.traps
  tim := s.tim
  pcr := s.pcr
  scratch := s.scratch
  lsu := s.lsu
  watch := s.watch
  itlb := s.itlb
  mmu := { s.mmu with dtag := ⟨0, 0⟩ }
  cmt := s.cmt
  dbg := s.dbg
  run := s.run
  cleanwin := s.win.cleanwin
  wstate := s.win.wstate

section
variable {s t : State}

theorem WalksTo.privileged (h : WalksTo s t) : t.privileged = s.privileged := by
  have frame : WalkFrame s t := h.frame
  rw [WalkFrame] at frame
  rw [frame]
  rfl

theorem LineTo.privileged (h : LineTo s t) : t.privileged = s.privileged := by
  rw [h.frame]
  rfl

theorem StoreFrame.privileged (h : StoreFrame s t) : t.privileged = s.privileged := by
  rw [StoreFrame] at h
  rw [h]
  rfl

theorem DrainsTo.privileged (h : DrainsTo s t) : t.privileged = s.privileged := h.storeFrame.privileged

end

/-- A change that is made in one case and another in the other. -/
@[simp] theorem ite_privileged (p : Prop) [Decidable p] (s t : State) :
    (if p then s else t).privileged = if p then s.privileged else t.privileged :=
  apply_ite State.privileged p s t

namespace LineTo

/-! #### Registers of the chip -/

section
variable {s t : State} (h : LineTo s t)
include h

theorem socErrorsAt (errors : Word) (own : Option Nat) : LineTo s (t.socErrorsAt errors own) := by
  refine h.ite _ (.ite (chipReset (csrSet ?_ _ _) _) _ (socRequest ?_ _)) <;>
    exact (((h.csrSet _ _).socSyndrome _ _ _ _ _).socSyndrome _ _ _ _ _).events _

theorem csrWrite (pa : Nat) (v : Word) : LineTo s (t.csrWrite pa v) := by
  unfold State.csrWrite
  split <;> [exact h.csrSet _ _; exact h]

theorem setLink (b : Nat) (state : Word) : LineTo s (t.setLink b state) := h.csrSet _ _

theorem passLink (b : Nat) (states : List Nat) : LineTo s (t.passLink b states) := by
  have passed : LineTo s (states.foldl (fun acc k =>
      acc.csrSet (csrLinkDone + 0x10 * k + b) (acc.csrGet (csrLinkDone + 0x10 * k + b) ||| 1)) t) :=
    h.foldl (fun _ _ hu => hu.csrSet _ _) states
  exact ((passed.drawn.csrSet _ _).csrSet _ _).ite _ passed

theorem resetLink (b : Nat) : LineTo s (t.resetLink b) := (h.passLink _ _).setLink _ _

theorem finishIbist (b : Nat) : LineTo s (t.finishIbist b) :=
  have sent := (h.csrSet _ _).ite (bitAt (t.csrGet (csrIbistPort + b)) 32 && !bitAt (t.csrGet (csrIbistPort + b)) 35) h
  (sent.csrSet _ _).ite _ sent

theorem storeMcu (pa : Nat) (v : Word) : LineTo s (t.storeMcu pa v) :=
  have written := h.csrWrite
  ((written _ _).ite _ h).ite _ ((written _ _).ite _ (((written _ _).csrSet _ _).ite _ (((written _ _).passLink _ _).ite _
    ((((h.csrSet _ _).resetLink _).ite _ (written _ _)).ite _ (((((written _ _).resetLink _).finishIbist _).ite _ (written _ _)).ite _
      ((((written _ _).setLink _ _).ite _ (written _ _)).ite _ (written _ _)))))))

end
end LineTo

namespace State

section
variable (s : State)

/-! #### Registers and program counters -/

@[simp] theorem drawn_privileged : s.drawn.privileged = s.privileged := rfl
@[simp] theorem setF32_privileged (rd : Reg) (v : Word32) : (s.setF32 rd v).privileged = s.privileged := rfl
@[simp] theorem setF64_privileged (rd : Reg) (v : Word) : (s.setF64 rd v).privileged = s.privileged := rfl
@[simp] theorem advance_privileged : s.advance.privileged = s.privileged := rfl
@[simp] theorem skip_privileged : s.skip.privileged = s.privileged := rfl
@[simp] theorem delayTo_privileged (a : Word) : (s.delayTo a).privileged = s.privileged := rfl
@[simp] theorem jumpTo_privileged (a : Word) : (s.jumpTo a).privileged = s.privileged := rfl

@[simp] theorem setFcc_privileged (n v : BitVec 2) : (s.setFcc n v).privileged = s.privileged := by
  unfold State.setFcc
  split <;> rfl

@[simp] theorem setPairs_privileged (d : BitVec 5) (vs : List Word) : (s.setPairs d vs).privileged = s.privileged := by
  induction vs generalizing s d with
  | nil => rfl
  | cons v rest ih => exact ih _ _

/-! #### Errors and lines of memory with bad data -/

@[simp] theorem recordDesr_privileged (k : Nat) (sre : Bool) (errtype : BitVec 5) (addr : BitVec 11) :
    (s.recordDesr k sre errtype addr).privileged = s.privileged :=
  (s.drainsTo_recordDesr k sre errtype addr).privileged

@[simp] theorem deferStore_privileged (io : Bool) (index : BitVec 3) : (s.deferStore io index).privileged = s.privileged :=
  (s.drainsTo_recordDeferred ..).privileged

@[simp] theorem reportCorrected_privileged (pa k : Nat) (errtype : BitVec 5) :
    (s.reportCorrected pa k errtype).privileged = s.privileged :=
  ((LineTo.refl s).reportCorrected pa k errtype).privileged

@[simp] theorem logDram_privileged (pa : Nat) (one write fill : Bool) : (s.logDram pa one write fill).privileged = s.privileged :=
  ((LineTo.refl s).logDram pa one write fill).privileged

@[simp] theorem reportL2U_privileged (pa : Nat) : (s.reportL2U pa).privileged = s.privileged :=
  ((LineTo.refl s).reportL2U pa).privileged

@[simp] theorem reportL2C_privileged (pa : Nat) : (s.reportL2C pa).privileged = s.privileged :=
  ((LineTo.refl s).reportL2C pa).privileged

@[simp] theorem logNotData_privileged (pa : Nat) (write : Bool) : (s.logNotData pa write).privileged = s.privileged :=
  ((LineTo.refl s).logNotData pa write).privileged

@[simp] theorem socRequest_privileged (entries : Word) : (s.socRequest entries).privileged = s.privileged :=
  ((LineTo.refl s).socRequest entries).privileged

@[simp] theorem putLine_privileged (pa : Nat) (l : MemLine) : (s.putLine pa l).privileged = s.privileged := rfl

@[simp] theorem aged_privileged (pa : Nat) : (s.aged pa).privileged = s.privileged := ((LineTo.refl s).aged pa).privileged

@[simp] theorem logMemory_privileged (pa : Nat) : (s.logMemory pa).privileged = s.privileged :=
  ((LineTo.refl s).logMemory pa).privileged

@[simp] theorem fillLine_privileged (pa : Nat) (bad : BitVec 16) (spoilt : Bool) :
    (s.fillLine pa bad spoilt).privileged = s.privileged :=
  ((LineTo.refl s).fillLine pa bad spoilt).privileged

@[simp] theorem fillReport_privileged (pa : Nat) (bad fixed : BitVec 16) : (s.fillReport pa bad fixed).privileged = s.privileged :=
  ((LineTo.refl s).fillReport pa bad fixed).privileged

@[simp] theorem storedOrFree_privileged (known : Bool) (pa n : Nat) : (s.storedOrFree known pa n).2.privileged = s.privileged :=
  ((WalksTo.refl s).storedOrFree known pa n).privileged

@[simp] theorem waitLine_privileged (pa : Nat) : (s.waitLine pa).2.privileged = s.privileged :=
  ((WalksTo.refl s).waitLine pa).privileged

@[simp] theorem badPrefetch_privileged (pa : Nat) : (s.badPrefetch pa).privileged = s.privileged :=
  ((LineTo.refl s).badPrefetch pa).privileged

theorem findBytes_privileged (pa chunk : Nat) {note : State → State} (hn : ∀ u, (note u).privileged = u.privileged) :
    (s.findBytes pa chunk note).2.privileged = s.privileged := by
  unfold State.findBytes
  dsimp only
  split <;> simp [hn]

@[simp] theorem logFound_privileged (pa : Nat) (found : Found) : (s.logFound pa found).privileged = s.privileged := by
  simp [State.logFound]

@[simp] theorem fillL1d_privileged (pa : Nat) (found : Found) : (s.fillL1d pa found).privileged = s.privileged := by
  unfold State.fillL1d
  split <;> rfl

@[simp] theorem lookL1d_privileged (pa : Nat) : (s.lookL1d pa).2.privileged = s.privileged := by
  unfold State.lookL1d
  dsimp only
  split
  · rfl
  · split
    · rfl
    · split
      · rw [recordDesr_privileged]
        rfl
      · rfl

/-! #### Loads and stores of memory -/

@[simp] theorem drain_privileged : s.drain.privileged = s.privileged := (s.drainFor_frame 0).privileged

@[simp] theorem makeRoom_privileged : s.makeRoom.privileged = s.privileged := s.makeRoom_frame.privileged

@[simp] theorem followed_privileged : s.followed.privileged = s.privileged := by
  unfold State.followed
  split <;> [rfl; exact (s.drainFor_frame _).privileged]

@[simp] theorem rewritten_privileged (pa : Nat) (addrs : List Nat) (bad : BitVec 16) :
    (s.rewritten pa addrs bad).privileged = s.privileged :=
  (s.drainsTo_rewritten pa addrs bad).privileged

@[simp] theorem storeCells_privileged (pa : Nat) (cells : List Host.Cell) : (s.storeCells pa cells).privileged = s.privileged :=
  rewritten_privileged ..

@[simp] theorem badStore_privileged (kind : StoreKind) (pa : Nat) (cells : List Host.Cell) :
    (s.badStore kind pa cells).privileged = s.privileged := by
  simp [State.badStore]

@[simp] theorem badBlockStore_privileged (pa : Nat) (cells : List Host.Cell) :
    (s.badBlockStore pa cells).privileged = s.privileged := by
  simp [State.badBlockStore]

@[simp] theorem pushCells_privileged (kind : StoreKind) (flaw : BitVec 7 × Bool) (pa seen : Nat) (cells : List Host.Cell) :
    (s.pushCells kind flaw pa seen cells).privileged = s.privileged :=
  State.pushCells_frame.privileged

@[simp] theorem storePieces_privileged (flaw : BitVec 7 × Bool) (pa : Nat) (pieces : List (List Byte)) :
    (s.storePieces flaw pa pieces).privileged = s.privileged :=
  (s.storePieces_frame flaw pa pieces).privileged

@[simp] theorem settled_privileged (l : Located) (n : Nat) : (s.settled l n).privileged = s.privileged := by
  unfold State.settled State.settle
  split <;> [rfl; (split <;> rfl)]

@[simp] theorem loadBytes_privileged (pa n : Nat) : (s.loadBytes pa n).2.privileged = s.privileged := by
  unfold State.loadBytes
  split <;> rfl

@[simp] theorem globalBytes_privileged (pa : Nat) : (s.globalBytes pa).2.privileged = s.privileged :=
  ((WalksTo.refl s).globalBytes pa).privileged

@[simp] theorem badHelper_privileged (pa : Nat) : (s.badHelper pa).2.privileged = s.privileged := by
  simp [State.badHelper, findBytes_privileged]

@[simp] theorem loadHelpers_privileged (pa n : Nat) : (s.loadHelpers pa n).2.privileged = s.privileged := by
  induction n generalizing s pa with
  | zero => rfl
  | succ n ih =>
    refine (ih _ _).trans ?_
    split <;> simp

/-! #### Registers of the chip -/

@[simp] theorem socErrorsAt_privileged (errors : Word) (own : Option Nat) : (s.socErrorsAt errors own).privileged = s.privileged :=
  ((LineTo.refl s).socErrorsAt errors own).privileged

@[simp] theorem readIntMan_privileged (pa : Nat) : (s.readIntMan pa).privileged = s.privileged := by
  unfold State.readIntMan
  split <;> simp

@[simp] theorem noteIntMan_privileged (pa : Nat) : (s.noteIntMan pa).privileged = s.privileged := by
  unfold State.noteIntMan
  split <;> rfl

theorem csrLoad_privileged {pa : Nat} {r : Word × State} (found : s.csrLoad pa = some r) : r.2.privileged = s.privileged := by
  unfold State.csrLoad at found
  split at found
  · cases found
    rfl
  · split at found
    · cases found
      rfl
    · obtain ⟨_, -, rfl⟩ := Option.map_eq_some_iff.1 found
      exact readIntMan_privileged ..

@[simp] theorem csrWrite_privileged (pa : Nat) (v : Word) : (s.csrWrite pa v).privileged = s.privileged :=
  ((LineTo.refl s).csrWrite pa v).privileged

@[simp] theorem storeMcu_privileged (pa : Nat) (v : Word) : (s.storeMcu pa v).privileged = s.privileged :=
  ((LineTo.refl s).storeMcu pa v).privileged

@[simp] theorem pioErrors_privileged (may : Word) (pa : Nat) : (s.pioErrors may pa).2.privileged = s.privileged := by
  unfold State.pioErrors
  dsimp only
  split <;> simp

end
end State

/-! #### The parts of an instruction -/

/-- Where a part of an instruction completes, or its access is never answered, it has left the privileged state of `s` alone. -/
def Res.Unprivileged {α : Type} (s : State) : Res α → Prop
  | .ok _ t | .hang t => t.privileged = s.privileged
  | .trap _ _ | .refuse _ | .fault _ => True

namespace Res.Unprivileged

section
variable {α β : Type} {s t : State}

theorem ok {a : α} (h : t.privileged = s.privileged) : (Res.ok a t).Unprivileged s := h

theorem hang (h : t.privileged = s.privileged) : (Res.hang t : Res α).Unprivileged s := h

theorem trap {tt : BitVec 9} : (Res.trap tt t : Res α).Unprivileged s := trivial

theorem refuse {r : Refusal} : (Res.refuse r : Res α).Unprivileged s := trivial

/-- It is a property of the privileged state of `s`. -/
theorem of_eq {x : Res α} (hx : x.Unprivileged t) (h : t.privileged = s.privileged) : x.Unprivileged s := by
  cases x with
  | ok _ _ | hang _ => exact Eq.trans hx h
  | trap _ _ | refuse _ | fault _ => trivial

theorem ite {x y : Res α} {p : Prop} [Decidable p] (hx : x.Unprivileged s) (hy : y.Unprivileged s) :
    (if p then x else y).Unprivileged s := by
  split <;> assumption

theorem bind {x : Res α} {k : α → State → Res β} (hx : x.Unprivileged s) (hk : ∀ a u, (k a u).Unprivileged u) :
    (x.bind k).Unprivileged s := by
  cases x with
  | ok a u => exact (hk a u).of_eq hx
  | hang _ => exact hx
  | trap _ _ | refuse _ | fault _ => trivial

theorem firstTrap {checks : List (Bool × BitVec 9)} {k : Res α} (hk : k.Unprivileged s) :
    (firstTrap t checks k).Unprivileged s := by
  rcases firstTrap_cases t checks k with ⟨e, -⟩ | ⟨tt, -, e⟩ <;> rw [e]
  · exact hk
  · exact .trap

/-- Where a check fails the rest does not matter. -/
theorem barred {checks : List (Bool × BitVec 9)} {k : Res α} (fails : ∃ c ∈ checks, c.1 = true) :
    (Machine.firstTrap t checks k).Unprivileged s := by
  obtain ⟨c, mem, fails⟩ := fails
  rcases firstTrap_cases t checks k with ⟨-, pass⟩ | ⟨tt, -, e⟩
  · exact absurd (fails.symm.trans (pass c mem)) (by decide)
  · rw [e]
    exact .trap

end
end Res.Unprivileged

/-! #### Accesses that pass their checks -/

/-- A part of an instruction is answered, one way or another. -/
def Res.Answered {α : Type} : Res α → Prop
  | .hang _ => False
  | .ok _ _ | .trap _ _ | .refuse _ | .fault _ => True

namespace Res.Answered

section
variable {α β : Type}

theorem ok {a : α} {t : State} : (Res.ok a t).Answered := trivial

theorem trap {tt : BitVec 9} {t : State} : (Res.trap tt t : Res α).Answered := trivial

theorem refuse {r : Refusal} : (Res.refuse r : Res α).Answered := trivial

theorem ite {x y : Res α} {p : Prop} [Decidable p] (hx : x.Answered) (hy : y.Answered) : (if p then x else y).Answered := by
  split <;> assumption

theorem bind {x : Res α} {k : α → State → Res β} (hx : x.Answered) (hk : ∀ a u, (k a u).Answered) : (x.bind k).Answered := by
  cases x with
  | ok a u => exact hk a u
  | hang _ => exact hx
  | trap _ _ | refuse _ | fault _ => trivial

theorem firstTrap {s : State} {checks : List (Bool × BitVec 9)} {k : Res α} (hk : k.Answered) :
    (firstTrap s checks k).Answered := by
  rcases firstTrap_cases s checks k with ⟨e, -⟩ | ⟨tt, -, e⟩ <;> rw [e]
  · exact hk
  · exact .trap

end
end Res.Answered

namespace State

theorem lookup_answered (s : State) (side : Side) (va : Word) (q : Request) : (s.lookup side va q).Answered := by
  unfold State.lookup
  split
  · exact .ok
  · split <;> [exact .trap; exact .ok]
  · unfold State.multipleHit
    cases side <;> exact .ite .trap .ok

theorem walkReads_answered {α : Type} (s : State) (side : Side) (entries : List (BitVec 3)) {k : Res α} (hk : k.Answered) :
    (s.walkReads side entries k).Answered := by
  unfold State.walkReads
  split <;> [exact .trap; exact hk]

theorem badWalk_answered (s : State) (pa : Nat) (inst : Bool) (tag : State → State) : (s.badWalk pa inst tag).Answered :=
  .ite .ok (.ite (.ite .trap .trap) .ok)

theorem readTte_answered (s : State) (side : Side) (q : Request) (pa : PAddr) : (s.readTte side q pa).Answered :=
  .ite .ok (.ite .refuse (.ite .ok (.bind (s.badWalk_answered ..) fun _ _ => .ok)))

theorem searchTsbs_answered (s : State) (side : Side) (q : Request) (context : BitVec 13) (parallel : Bool)
    (order : List (BitVec 2)) : (s.searchTsbs side q context parallel order).Answered := by
  induction order generalizing s with
  | nil => exact .ok
  | cons i rest ih =>
    exact .ite (ih _) (.bind (s.readTte_answered ..) fun _ _ => .ite (ih _) (.ite .ok (.bind (ih _) fun _ _ => .ok)))

theorem walk_answered (s : State) (side : Side) (q : Request) : (s.walk side q).Answered := by
  refine s.walkReads_answered _ _ (.bind (s.drawn.searchTsbs_answered ..) fun found u => ?_)
  dsimp only
  split
  · exact .trap
  · refine .ite .trap ?_
    split
    · exact .trap
    · refine u.walkReads_answered _ _ ?_
      split <;> [exact .trap; exact .ok]

theorem translate_answered (s : State) (side : Side) (va : Word) (q : Request) : (s.translate side va q).Answered := by
  refine .bind (s.lookup_answered ..) fun hit u => ?_
  cases hit with
  | some _ => exact .ok
  | none =>
    refine .ite .trap (.ite .trap (.bind (u.walk_answered ..) fun _ v => .bind (v.lookup_answered ..) fun again w => ?_))
    cases again <;> [exact .trap; exact .ok]

/-- The checks of an access do not hang. -/
theorem access_answered (s : State) (r : DataReq) : (s.access r).Answered := by
  unfold State.access
  dsimp only
  split
  · exact .trap
  · refine .firstTrap (.bind ?_ fun t u => ?_)
    · unfold State.routed
      split <;> [exact .ok; exact s.translate_answered ..]
    · split <;> [exact .trap; exact .firstTrap (.firstTrap .ok)]

/-- The checks of an access write no more than the translation does. -/
theorem access_unprivileged (s : State) (r : DataReq) : (s.access r).Unprivileged s := by
  cases e : s.access r with
  | ok l t => exact (State.access_walks e).privileged
  | hang t =>
    have answered := s.access_answered r
    rw [e] at answered
    exact answered.elim
  | trap _ _ | refuse _ | fault _ => trivial

end State

namespace Res.Unprivileged

section
variable {s : State}

/-! #### Loads and stores of devices -/

theorem storeResetGen (v : Word) : (s.storeResetGen v).Unprivileged s := by
  unfold State.storeResetGen
  exact .ite .refuse (.ite (.ok rfl) (.ite (.ok rfl) (.ite (.ok rfl) (.ok rfl))))

theorem csrStore (pa : Nat) (v : Word) : (s.csrStore pa v).Unprivileged s := by
  have pulse : ({ s with trigout := s.trigout + 1 } : State).privileged = s.privileged := rfl
  refine .ite (.ok rfl) (.ite (storeResetGen v) (.ite (.ite (.ok ?_) .refuse) (.ite (.ite (.ok ?_) .refuse)
    (.ite (.ite .refuse (.ok ?_)) (.ite (.ok ?_) (.ite (.ok ?_) (.ite (.ok ?_) (.ite (.ok ?_) (.ok ?_)))))))))
  all_goals simp [State.storeSocEsr, State.storeSocPending, pulse]

theorem missingIoLoad (va : Word) : (s.missingIoLoad va).Unprivileged s := .ite .trap (.ok rfl)

theorem ioRead (va : Word) (l : Located) (n : Nat) : (s.ioRead va l n).Unprivileged s := by
  have missing {u : State} : ((u.missingIoLoad va).bind fun v t => .ok (lowBytes n v) t).Unprivileged u :=
    .bind (missingIoLoad va) fun _ _ => .ok rfl
  unfold State.ioRead
  split
  · split
    · rename_i found
      split at found <;> [exact .ok (s.csrLoad_privileged found); cases found]
    · exact .ite (.ok rfl) missing
  · exact .ok rfl
  · exact .ite (.ok rfl) (missing.of_eq rfl)
  · exact missing

theorem ioLoad (va : Word) (l : Located) (n : Nat) : (s.ioLoad va l n).Unprivileged s := by
  have reached := s.pioErrors_privileged (loadErrors l.pa) l.pa
  exact .ite (.hang reached) (.ite (of_eq (.bind (missingIoLoad va) fun _ _ => .ok rfl) reached)
    ((ioRead va l n).of_eq reached))

theorem ioWrite (l : Located) (n : Nat) (v : Word) : (s.ioWrite l n v).Unprivileged s := by
  unfold State.ioWrite
  split
  · refine .ite (csrStore _ _) ?_
    split <;> [exact (csrStore _ _).of_eq rfl; exact .ok rfl]
  · exact .ok rfl

theorem pioStore (pa : Nat) {perform : State → Res Unit} (hp : ∀ u, (perform u).Unprivileged u) :
    (s.pioStore pa perform).Unprivileged s := by
  have reached := s.pioErrors_privileged (storeErrors pa) pa
  have drawn : (s.pioErrors (storeErrors pa) pa).2.drawn.privileged = s.privileged := reached
  have done {p : Prop} [Decidable p] :
      (if p then .ok () (s.pioErrors (storeErrors pa) pa).2.drawn
        else perform (s.pioErrors (storeErrors pa) pa).2.drawn).Unprivileged s :=
    .ite (.ok drawn) ((hp _).of_eq drawn)
  exact .ite ((hp _).of_eq reached) (.ite (.hang reached) (.ite (.bind done fun _ _ => .hang rfl) (.ite (.ok reached) done)))

/-! #### Stores -/

theorem sendStore {flaw : BitVec 7 × Bool} {bad : State → BitVec 3 → Res Unit} {k : Word → State → Res Unit}
    (hb : ∀ u i, (bad u i).Unprivileged u) (hk : ∀ c u, (k c u).Unprivileged u) : (s.sendStore flaw bad k).Unprivileged s := by
  unfold State.sendStore
  refine .ite (.ok ?_) (.ite ((hk _ _).of_eq ?_) (.ite (.ok ?_) (.ite ((hk _ _).of_eq ?_) (.ite (.ite ((hk _ _).of_eq ?_)
    ((hk _ _).of_eq ?_)) (.ite ((hb _ _).of_eq ?_) ((hk _ _).of_eq ?_))))))
  all_goals simp

theorem ringStore {flaw : BitVec 7 × Bool} {k : Word → State → Res Unit} (hk : ∀ c u, (k c u).Unprivileged u) :
    (s.ringStore flaw k).Unprivileged s :=
  sendStore (fun _ _ => .ok (State.deferStore_privileged ..)) hk

theorem lineStore (kind : StoreKind) (pa : Nat) (cells : List Host.Cell) : (s.lineStore kind pa cells).Unprivileged s := by
  have store (u : State) (cells : List Host.Cell) :
      (if kind = .block then u.badBlockStore pa cells else u.badStore kind pa cells).privileged = u.privileged := by simp
  unfold State.lineStore
  refine sendStore (fun u i => .ok ?_) fun c u => .ok (store _ _)
  have recorded := u.drawn.recordDesr_privileged 9 true 6 (u.storeInfo i)
  dsimp only
  split
  · exact recorded
  · exact ((State.drainsTo_poisoned ..).privileged.trans (State.badStore_privileged ..)).trans recorded

theorem storeCellsAt (kind : StoreKind) (pa seen : Nat) (cells : List Host.Cell) :
    (s.storeCellsAt kind pa seen cells).Unprivileged s :=
  .ite .refuse (.ite (.ok (s.pushCells_privileged ..)) (lineStore ..))

theorem storeData (r : DataReq) (l : Located) (n : Nat) (v : Word) : (s.storeData r l n v).Unprivileged s :=
  .ite (ringStore fun _ _ => pioStore _ fun _ => ioWrite ..) (storeCellsAt ..)

theorem memWrite (r : DataReq) (v : Word) : (s.memWrite r v).Unprivileged s :=
  .bind (s.access_unprivileged r) fun _ _ => storeData ..

theorem memWriteBlock (r : DataReq) (vs : List Word) : (s.memWriteBlock r vs).Unprivileged s := by
  refine .bind (s.access_unprivileged r) fun l u =>
    .ite ?_ (.ite .refuse (.ite (.ok (u.storePieces_privileged ..)) (lineStore ..)))
  split <;> [exact .refuse; exact ringStore fun _ _ => pioStore _ fun _ => .ok rfl]

theorem memWritePartial (r : DataReq) (bytes : Bool → List (Byte × Bool)) : (s.memWritePartial r bytes).Unprivileged s :=
  .bind (s.access_unprivileged r) fun _ _ =>
    .ite (.ite .refuse (ringStore fun _ _ => pioStore _ fun _ => .ok rfl)) (storeCellsAt ..)

/-! #### Loads and atomics -/

theorem badLoad (caches : Bool) (pa n : Nat) : (s.badLoad caches pa n).Unprivileged s := by
  refine .ite .trap (.ok ?_)
  simp [State.findBytes_privileged]

theorem loadData (caches : Bool) (va : Word) (l : Located) (n : Nat) : (s.loadData caches va l n).Unprivileged s :=
  .ite (ioLoad ..) (.ite .refuse (.ite (.ok (s.loadBytes_privileged ..)) (.bind (badLoad ..) fun _ _ => .ok rfl)))

theorem loadCached (va : Word) (l : Located) (n : Nat) : (s.loadCached va l n).Unprivileged s := by
  have look := s.lookL1d_privileged l.pa
  exact .ite (loadData ..) (.ite (.ok ((State.storedOrFree_privileged ..).trans look)) ((loadData ..).of_eq look))

theorem memRead (r : DataReq) : (s.memRead r).Unprivileged s :=
  .bind (s.access_unprivileged r) fun _ u => (loadCached ..).of_eq (u.settled_privileged ..)

theorem memReadTwin (r : DataReq) : (s.memReadTwin r).Unprivileged s :=
  .bind (s.access_unprivileged r) fun l u =>
    .of_eq (.ite (.bind (loadData ..) fun _ _ => .bind (loadData ..) fun _ _ => .ok rfl) (.bind (badLoad ..) fun _ _ => .ok rfl))
      (u.settled_privileged l 16)

theorem memReadBlock (r : DataReq) : (s.memReadBlock r).Unprivileged s := by
  refine .bind (s.access_unprivileged r) fun l u => .ite .refuse ?_
  dsimp only
  split <;> exact .ok (by simp)

theorem badAtomic (pa n : Nat) : (s.badAtomic pa n).Unprivileged s :=
  .ite (.ok (s.waitLine_privileged pa)) (.ite .trap (.ok (by simp)))

theorem atomic (l : Located) (n : Nat) (update : Word → Option Word) : (s.atomic l n update).Unprivileged s := by
  have written (u : State) (bs : List Byte) : (u.writeBytes l.pa bs).privileged = u.privileged := rfl
  unfold State.atomic
  dsimp only
  refine .ite .refuse (.ite ?_ (of_eq (.bind (badAtomic l.pa n) fun found u => .ite ?_ (.ok rfl)) s.drain_privileged))
  · split <;> exact .ok (by simp [written])
  · split <;> exact .ok (by simp [written])

theorem memAtomic (r : DataReq) (update : Word → Option Word) : (s.memAtomic r update).Unprivileged s :=
  .bind (s.access_unprivileged r) fun _ _ => atomic ..

theorem prefetch (r : DataReq) : (s.prefetch r).Unprivileged s := by
  rcases s.prefetch_cases r with e | ⟨pa, e⟩ | ⟨_, e, -⟩ <;> rw [e]
  · exact .ok rfl
  · exact .ok (s.badPrefetch_privileged pa)
  · exact .trap

end
end Res.Unprivileged

/-- The registers behind nontranslating ASIs are out of reach of a nonprivileged program (spec/21_asi_map.md R561). -/
theorem State.restricted_of_isRegisterAsi {s : State} (user : s.level = .user) {asi : BitVec 8} (register : isRegisterAsi asi = true) :
    s.restricted (some asi) = true := by
  have low : ∀ a : BitVec 8, isRegisterAsi a = true → a < 0x80 := by decide +kernel
  simp only [State.restricted, user, decide_eq_true_eq]
  exact low asi register

namespace Res.Unprivileged

section
variable {s : State} {rd : Reg} {asi : Option (BitVec 8)} {ea : Word}

theorem finish {t : State} (v : Word) (h : t.privileged = s.privileged) : (t.finish rd v).Unprivileged s := .ok h

theorem finishCc {t : State} (v : Word) (ccr : BitVec 8) (h : t.privileged = s.privileged) :
    (t.finishCc rd v ccr).Unprivileged s := .ok h

theorem readReg (checks : List (Bool × BitVec 9)) (v : Word) : (s.readReg rd checks v).Unprivileged s :=
  .firstTrap (finish v rfl)

theorem writeReg {t : State} (checks : List (Bool × BitVec 9)) (h : t.privileged = s.privileged) :
    (s.writeReg checks t).Unprivileged s := .firstTrap (.ok h)

theorem needsFp {α : Type} {k : Res α} (hk : k.Unprivileged s) : (s.needsFp k).Unprivileged s := .ite hk .trap

theorem align {α : Type} {n : Nat} {k : Res α} (hk : k.Unprivileged s) : (s.align ea n k).Unprivileged s := .ite hk .trap

theorem alignD {α : Type} {tt : BitVec 9} {k : Res α} (hk : k.Unprivileged s) : (s.alignD ea tt k).Unprivileged s := .ite hk .trap

/-- A floating-point operation that ends with `write` of its result. -/
theorem fpop {α : Type} (r : FpResult α) {write : State → α → State} (hw : ∀ u v, (write u v).privileged = u.privileged) :
    (s.fpop r write).Unprivileged s := by
  rcases s.fpop_cases r write with e | e | ⟨_, e⟩ | ⟨v, _, e⟩ <;> rw [e]
  · exact .trap
  · exact .trap
  · exact .trap
  · exact .ok (hw _ v)

theorem fpS (r : FpResult Fields) : (s.fpS rd r).Unprivileged s := fpop r fun u _ => u.setF32_privileged ..

theorem fpD (r : FpResult Fields) : (s.fpD rd r).Unprivileged s := fpop r fun u _ => u.setF64_privileged ..

theorem fpMoveS (v : Word32) : (s.fpMoveS rd v).Unprivileged s := fpop _ fun u _ => u.setF32_privileged ..

theorem fpMoveD (v : Word) : (s.fpMoveD rd v).Unprivileged s := fpop _ fun u _ => u.setF64_privileged ..

theorem fpNone : s.fpNone.Unprivileged s := fpop _ fun _ _ => rfl

theorem fpCompare (n : BitVec 2) (r : FpResult (BitVec 2)) : (s.fpCompare n r).Unprivileged s :=
  fpop r fun u _ => u.setFcc_privileged ..

theorem visD (v : Word) : (s.visD rd v).Unprivileged s := needsFp (.ok rfl)

theorem visS (v : Word32) : (s.visS rd v).Unprivileged s := needsFp (.ok rfl)

theorem visInt (v : Word) : (s.visInt rd v).Unprivileged s := needsFp (finish v rfl)

theorem transfer {target : Word} {next : State} (hn : next.privileged = s.privileged) :
    (s.transfer target next).Unprivileged s :=
  .ite .trap (.ite .trap (.ok hn))

theorem branch (taken always annul : Bool) (disp : Word) : (s.branch taken always annul disp).Unprivileged s :=
  .ite (transfer (by simp)) (.ok (by simp))

theorem jump {target : Word} {next : State} (hn : next.privileged = s.privileged) : (s.jump target next).Unprivileged s :=
  .ite .trap (transfer hn)

/-! #### Loads and stores of registers -/

theorem loadInt (n : Nat) (ext : Word → Word) : (s.loadInt rd asi ea n ext).Unprivileged s :=
  align (.bind (memRead _) fun _ _ => finish _ rfl)

theorem storeInt (n : Nat) : (s.storeInt rd asi ea n).Unprivileged s := align (.bind (memWrite ..) fun _ _ => .ok rfl)

theorem loadPair : (s.loadPair rd asi ea).Unprivileged s :=
  .ite .trap (align (.bind (s.access_unprivileged _) fun l u =>
    .bind ((loadCached ..).of_eq (u.settled_privileged l 8)) fun _ _ => .ok rfl))

theorem storePair : (s.storePair rd asi ea).Unprivileged s :=
  .ite .trap (align (.bind (s.access_unprivileged _) fun _ _ => .bind (storeData ..) fun _ _ => .ok rfl))

theorem loadQuad (a : BitVec 8) : (s.loadQuad rd a ea).Unprivileged s :=
  .ite .trap (align (.bind (memReadTwin _) fun _ _ => .ok rfl))

theorem atomicInt (n : Nat) (update : Word → Option Word) : (s.atomicInt rd asi ea n update).Unprivileged s :=
  align (.bind (memAtomic ..) fun _ _ => finish _ rfl)

theorem prefetchAt (fcn : BitVec 5) : (s.prefetchAt fcn asi ea).Unprivileged s :=
  .ite (.bind (prefetch _) fun _ _ => .ok rfl) (.ok rfl)

theorem loadF : (s.loadF rd asi ea).Unprivileged s := needsFp (align (.bind (memRead _) fun _ _ => .ok rfl))

theorem storeF : (s.storeF rd asi ea).Unprivileged s := needsFp (align (.bind (memWrite ..) fun _ _ => .ok rfl))

theorem loadBlock (a : BitVec 8) : (s.loadBlock rd a ea).Unprivileged s := by
  refine .ite .trap (needsFp (align (.bind (memReadBlock _) fun got u => ?_)))
  split <;> [exact .ok (u.setPairs_privileged ..); exact .trap]

theorem storeBlock (a : BitVec 8) : (s.storeBlock rd a ea).Unprivileged s :=
  .ite .trap (needsFp (align (.bind (memWriteBlock ..) fun _ _ => .ok rfl)))

theorem loadShort (a : BitVec 8) : (s.loadShort rd a ea).Unprivileged s := needsFp (align (.bind (memRead _) fun _ _ => .ok rfl))

theorem storeShort (a : BitVec 8) : (s.storeShort rd a ea).Unprivileged s :=
  needsFp (align (.bind (memWrite ..) fun _ _ => .ok rfl))

theorem storePartial (a : BitVec 8) (mask : Word) : (s.storePartial rd a ea mask).Unprivileged s :=
  needsFp (align (.bind (memWritePartial ..) fun _ _ => .ok rfl))

theorem loadFsr (op : OpClass) (n : Nat) (f : Fsr → Word → Fsr) : (s.loadFsr ea op n f).Unprivileged s :=
  needsFp (align (.bind (memRead _) fun _ _ => .ok rfl))

theorem storeFsr (op : OpClass) (n : Nat) : (s.storeFsr ea op n).Unprivileged s :=
  needsFp (align (.bind (memWrite ..) fun _ _ => .ok rfl))

section
variable (user : s.level = .user)
include user

theorem read64 (op : OpClass) (va : Word) : (s.read64 ⟨op, asi, va, 8⟩).Unprivileged s := by
  by_cases memory : ∀ a, asi = some a → isRegisterAsi a = false
  · rw [State.read64_of_memory memory]
    exact memRead _
  · push Not at memory
    obtain ⟨a, rfl, register⟩ := memory
    rw [State.read64_of_restricted (State.restricted_of_isRegisterAsi user (by simpa using register))]
    exact .trap

theorem write64 (op : OpClass) (va v : Word) : (s.write64 ⟨op, asi, va, 8⟩ v).Unprivileged s := by
  by_cases memory : ∀ a, asi = some a → isRegisterAsi a = false
  · rw [State.write64_of_memory memory]
    exact memWrite ..
  · push Not at memory
    obtain ⟨a, rfl, register⟩ := memory
    rw [State.write64_of_restricted (State.restricted_of_isRegisterAsi user (by simpa using register))]
    exact .trap

theorem loadExt : (s.loadExt rd asi ea).Unprivileged s := align (.bind (read64 user ..) fun _ _ => finish _ rfl)

theorem storeExt : (s.storeExt rd asi ea).Unprivileged s := align (.bind (write64 user ..) fun _ _ => .ok rfl)

theorem loadD : (s.loadD rd asi ea).Unprivileged s := needsFp (alignD (.bind (read64 user ..) fun _ _ => .ok rfl))

theorem storeD : (s.storeD rd asi ea).Unprivileged s := needsFp (alignD (.bind (write64 user ..) fun _ _ => .ok rfl))

end
end
end Res.Unprivileged

/-! #### Every instruction -/

/-- What an instruction leaves of the privileged state of `s` where it does not trap: all of it, but that the strand hangs where an
access is never answered (spec/64_errors_soc.md R1765). -/
def KeepsPrivileged (s : State) (r : Host.Outcome State Fault Refusal) : Prop :=
  ∀ t, r = .next t → t.taken = none → ∃ run, (run = s.run ∨ run = .hung) ∧ t.privileged = { s.privileged with run := run }

namespace KeepsPrivileged

variable {s t : State}

theorem next (h : t.privileged = s.privileged) : KeepsPrivileged s (.next t) := fun _ e _ => by
  cases e
  exact ⟨s.run, .inl rfl, h⟩

theorem traps (tt : BitVec 9) : KeepsPrivileged s (.next (t.takeTrap tt)) := fun _ e none => by
  cases e
  rw [State.takeTrap_taken] at none
  cases none

theorem refused {r : Refusal} : KeepsPrivileged s (.refused r) := fun _ e => nomatch e

theorem ite {x y : Host.Outcome State Fault Refusal} {p : Prop} [Decidable p] (hx : KeepsPrivileged s x) (hy : KeepsPrivileged s y) :
    KeepsPrivileged s (if p then x else y) := by
  split <;> assumption

end KeepsPrivileged

theorem Res.Unprivileged.outcome {s : State} {x : Res Unit} (hx : x.Unprivileged s) : KeepsPrivileged s x.outcome := by
  intro t e none
  rcases Res.outcome_eq_next e with rfl | ⟨tt, u, -, rfl⟩ | ⟨u, rfl, rfl⟩
  · exact KeepsPrivileged.next hx t rfl none
  · exact KeepsPrivileged.traps tt _ rfl none
  · have kept : u.privileged = s.privileged := hx
    exact ⟨.hung, .inr rfl, congrArg (fun p : PrivilegedState => { p with run := .hung }) kept⟩

/-- An instruction of a nonprivileged program keeps the privileged state. -/
theorem exec_keepsPrivileged {s : State} (user : s.level = .user) (i : Instr) : KeepsPrivileged s (exec i s) := by
  have isUser : s.isUser = true := beq_iff_eq.2 user
  have notHyper : s.isHyper = false := by simp [State.isHyper, user]
  delta exec
  cases i with
  -- spec/40_integer.md
  | add | addc | sub | subc | andI | andn | orI | orn | xorI | xnor | mulx | sll | sllx | srl | srlx | sra | srax | sethi | popc =>
    exact (Res.Unprivileged.finish _ rfl).outcome
  | addcc | addccc | subcc | subccc | andcc | andncc | orcc | orncc | xorcc | xnorcc | taddcc | tsubcc | umul | smul | umulcc
  | smulcc | mulscc => exact (Res.Unprivileged.finishCc _ _ rfl).outcome
  | udivx | sdivx => exact Res.Unprivileged.outcome (.firstTrap (.finish _ rfl))
  | taddcctv | tsubcctv | udiv | sdiv | udivcc | sdivcc => exact Res.Unprivileged.outcome (.firstTrap (.finishCc _ _ rfl))
  | movcc => exact Res.Unprivileged.outcome (.firstTrap (.ite (.finish _ rfl) (.ok rfl)))
  | movr => exact Res.Unprivileged.outcome (.ite (.finish _ rfl) (.ok rfl))
  | nop | stbar => exact .next rfl
  -- spec/41_control_transfer.md
  | bicc | bpcc | bpr => exact (Res.Unprivileged.branch ..).outcome
  | fbfcc | fbpfcc => exact Res.Unprivileged.outcome (.firstTrap (.branch ..))
  | call => exact Res.Unprivileged.outcome (.transfer rfl)
  | jmpl => exact Res.Unprivileged.outcome (.jump rfl)
  | returnI => exact Res.Unprivileged.outcome (.firstTrap (.jump rfl))
  | tcc | flushw => exact Res.Unprivileged.outcome (.firstTrap (.ok rfl))
  | save | restore => exact Res.Unprivileged.outcome (.firstTrap (.finish _ rfl))
  | done | retry | saved | restored | allclean | otherw | normalw | invalw =>
    exact Res.Unprivileged.outcome (.barred ⟨(s.level == .user, 0x011), by simp, isUser⟩)
  -- spec/43_state_access.md
  | rdY | rdCcr | rdAsi | rdTick | rdPc | rdFprs | rdPcr | rdPic | rdGsr | rdSoftint | rdTickCmpr | rdStick | rdStickCmpr
  | rdprTpc | rdprTnpc | rdprTstate | rdprTt | rdprTick | rdprTba | rdprPstate | rdprTl | rdprPil | rdprCwp | rdprCansave
  | rdprCanrestore | rdprCleanwin | rdprOtherwin | rdprWstate | rdprGl | rdhprHpstate | rdhprHtstate | rdhprHintp
  | rdhprHtba | rdhprHver | rdhprHalt | rdhprHstickCmpr => exact (Res.Unprivileged.readReg ..).outcome
  | wrY | wrCcr | wrAsi | wrFprs => exact (Res.Unprivileged.writeReg [] rfl).outcome
  | wrPic | wrGsr =>
    refine (Res.Unprivileged.writeReg _ ?_).outcome
    rfl
  | wrTick | wrPcr | wrSoftintSet | wrSoftintClr | wrSoftint | wrTickCmpr | wrStickCmpr | wrprTpc | wrprTnpc | wrprTstate | wrprTt
  | wrprTick | wrprTba | wrprPstate | wrprTl | wrprPil | wrprCwp | wrprCansave | wrprCanrestore | wrprCleanwin | wrprOtherwin
  | wrprWstate | wrprGl =>
    exact Res.Unprivileged.outcome (.barred ⟨(s.isUser, 0x011), by simp [State.privCheck, State.trapRegCheck], isUser⟩)
  | wrStick | wrhprHpstate | wrhprHtstate | wrhprHintp | wrhprHtba | wrhprHstickCmpr | halt =>
    exact Res.Unprivileged.outcome (.barred ⟨(!s.isHyper, 0x010), by simp [State.hyperCheck], by simp [notHyper]⟩)
  | sir simm13 =>
    show KeepsPrivileged s (execSir simm13 s)
    rw [execSir, notHyper]
    exact .traps _
  | membar => exact .next (by simp)
  | flush => exact .next s.drain_privileged
  -- instructions that are illegal in this implementation
  | illtrap | wrhprHver | impdep2 | fmovq | fnegq | fabsq | fsqrtq | faddq | fsubq | fmulq | fdivq | fdmulq | fqtox | fxtoq
  | fqtos | fqtod | fitoq | fstoq | fdtoq | fqtoi | fcmpq | fcmpeq | fmovqcc | fmovrq | ldqf | stqf | ldqfa | stqfa =>
    exact .traps _
  -- spec/44_float.md
  | fadds | fsubs | fmuls | fdivs | fsqrts | fxtos | fitos | fdtos => exact (Res.Unprivileged.fpS _).outcome
  | faddd | fsubd | fmuld | fdivd | fsqrtd | fsmuld | fxtod | fitod | fstod => exact (Res.Unprivileged.fpD _).outcome
  | fstoi | fdtoi => exact (Res.Unprivileged.fpop _ fun u _ => u.setF32_privileged ..).outcome
  | fstox | fdtox => exact (Res.Unprivileged.fpop _ fun u _ => u.setF64_privileged ..).outcome
  | fmovs | fnegs | fabss => exact (Res.Unprivileged.fpMoveS _).outcome
  | fmovd | fnegd | fabsd => exact (Res.Unprivileged.fpMoveD _).outcome
  | fcmps | fcmpd | fcmpes | fcmped => exact (Res.Unprivileged.fpCompare ..).outcome
  | fmovscc | fmovrs => exact Res.Unprivileged.outcome (.ite (.fpMoveS _) .fpNone)
  | fmovdcc | fmovrd => exact Res.Unprivileged.outcome (.ite (.fpMoveD _) .fpNone)
  -- spec/45_vis.md
  | edge8 | edge8n | edge8l | edge8ln | edge16 | edge16n | edge16l | edge16ln | edge32 | edge32n | edge32l | edge32ln =>
    exact (Res.Unprivileged.finishCc _ _ rfl).outcome
  | array8 | array16 | array32 => exact Res.Unprivileged.outcome (.ite (.finish _ rfl) (.finish _ rfl))
  | alignaddress | alignaddressLittle | bmask => exact Res.Unprivileged.outcome (.needsFp (.finish _ rfl))
  | siam => exact Res.Unprivileged.outcome (.needsFp (.ok rfl))
  | fcmple16 | fcmpne16 | fcmpgt16 | fcmpeq16 | fcmple32 | fcmpne32 | fcmpgt32 | fcmpeq32 =>
    exact (Res.Unprivileged.visInt _).outcome
  | fmul8x16 | fmul8x16au | fmul8x16al | fmul8sux16 | fmul8ulx16 | fmuld8sux16 | fmuld8ulx16 | fpack32 | fpmerge | bshuffle
  | fexpand | fpadd16 | fpadd32 | fpsub16 | fpsub32 | fzero | fnor | fandnot2 | fnot2 | fandnot1 | fnot1 | fxor | fnand | fand
  | fxnor | fsrc1 | fornot2 | fsrc2 | fornot1 | forD | fone | pdist | faligndata => exact (Res.Unprivileged.visD _).outcome
  | fpack16 | fpackfix | fpadd16s | fpadd32s | fpsub16s | fpsub32s | fzeros | fnors | fandnot2s | fnot2s | fandnot1s | fnot1s
  | fxors | fnands | fands | fxnors | fsrc1s | fornot2s | fsrc2s | fornot1s | forS | fones =>
    exact (Res.Unprivileged.visS _).outcome
  -- spec/42_load_store.md
  | ldub | lduh | lduw | ldsb | ldsh | ldsw | lduba | lduha | lduwa | ldsba | ldsha | ldswa =>
    exact (Res.Unprivileged.loadInt ..).outcome
  | ldx | ldxa => exact (Res.Unprivileged.loadExt user).outcome
  | ldtw => exact Res.Unprivileged.loadPair.outcome
  | ldtwa => exact Res.Unprivileged.outcome (.ite (.loadQuad _) .loadPair)
  | ldtxa => exact (Res.Unprivileged.loadQuad _).outcome
  | stb | sth | stw | stba | stha | stwa => exact (Res.Unprivileged.storeInt _).outcome
  | stx | stxa => exact (Res.Unprivileged.storeExt user).outcome
  | sttw | sttwa => exact Res.Unprivileged.storePair.outcome
  | ldstub | swap | ldstuba | swapa | casa | casxa => exact (Res.Unprivileged.atomicInt ..).outcome
  | prefetch => exact .ite (.traps _) (.ite .refused (Res.Unprivileged.prefetchAt _).outcome)
  | prefetcha => exact .ite (.traps _) (Res.Unprivileged.prefetchAt _).outcome
  | ldf | ldfa => exact Res.Unprivileged.loadF.outcome
  | lddf => exact (Res.Unprivileged.loadD user).outcome
  | stf | stfa => exact Res.Unprivileged.storeF.outcome
  | stdf => exact (Res.Unprivileged.storeD user).outcome
  | lddfa =>
    refine Res.Unprivileged.outcome ?_
    split <;> [exact .loadBlock _; exact .loadShort _; exact .loadD user]
  | stdfa =>
    refine Res.Unprivileged.outcome ?_
    split <;> [exact .storeBlock _; exact .storeShort _; exact .storeD user]
  | ldblockf => exact (Res.Unprivileged.loadBlock _).outcome
  | stblockf => exact (Res.Unprivileged.storeBlock _).outcome
  | ldshortf => exact (Res.Unprivileged.loadShort _).outcome
  | stshortf => exact (Res.Unprivileged.storeShort _).outcome
  | stpartialf => exact (Res.Unprivileged.storePartial ..).outcome
  | ldfsr | ldxfsr => exact (Res.Unprivileged.loadFsr ..).outcome
  | stfsr | stxfsr => exact (Res.Unprivileged.storeFsr ..).outcome

end Sys2Proof.Machine

namespace Sys2Proof
open Machine

/-- Settles O59: every instruction of a nonprivileged program keeps `State.privileged`, as a case for each says. -/
theorem nonprivilegedInstructionsKeepPrivilegedState : Obligations.NonprivilegedInstructionsKeepPrivilegedState := by
  intro s t i notHyper notPriv _ next taken
  have user : s.level = .user := by simp [State.level, notHyper, notPriv]
  obtain ⟨run, moved, kept⟩ := exec_keepsPrivileged user i t next taken
  simp only [State.privileged, PrivilegedState.mk.injEq] at kept
  obtain ⟨pstate, hpstate, tl, gl, pil, tba, htba, traps, tim, pcr, scratch, lsu, watch, itlb, mmu, cmt, dbg, rfl, cleanwin, wstate⟩ :=
    kept
  have mmu : t.mmu = { s.mmu with dtag := t.mmu.dtag } := congrArg (fun m : Mmu => { m with dtag := t.mmu.dtag }) mmu
  exact ⟨pstate, hpstate, tl, gl, pil, tba, htba, traps, tim, pcr, scratch, lsu, watch, itlb, mmu, cmt, dbg, moved, cleanwin, wstate⟩

end Sys2Proof

namespace Sys2Proof.Machine

/-! ### Reads and writes of state registers, after their checks (spec/43_state_access.md R991, R995, R1010, R1030) -/

section
variable {i : Instr} {s b : State} {rd : Reg} {v : Word}

theorem completes_of_writeReg (run : exec i s = (s.writeReg [] b).outcome) (npc : b.npc = s.npc) (memory : b.mem = s.mem) :
    Completes i s b := by
  refine ⟨_, run, ?_, fun a => congrArg (sparseGet dramInitial · a) memory⟩
  rw [State.advance, npc]

theorem writes_or_traps_of_check {p : Bool} {tt : BitVec 9} (run : exec i s = (s.readReg rd [(p, tt)] v).outcome) :
    (p = false → Writes i s s rd v) ∧ (p = true → Traps i s s tt) :=
  ⟨fun pass => writes_of_finish (exec_of_check_false run pass) rfl rfl, fun fail => traps_of_check run fail⟩

theorem completes_or_traps_of_write {p : Bool} {tt : BitVec 9} (run : exec i s = (s.writeReg [(p, tt)] b).outcome)
    (npc : b.npc = s.npc) (memory : b.mem = s.mem) : (p = false → Completes i s b) ∧ (p = true → Traps i s s tt) :=
  ⟨fun pass => completes_of_writeReg (exec_of_check_false run pass) npc memory, fun fail => traps_of_check run fail⟩

end

section
variable {i : Instr} {s b : State} {rd rs1 n : Reg} {low : BitVec 14} {p : Bool} {tt : BitVec 9} {v x : Word}

theorem rdAsr_reads (word : encode i = fmt3 2 rd 0x28 n 0) (run : exec i s = (s.readReg rd [(p, tt)] v).outcome) (value : v = x) :
    HasOp3 i 2 0x28 ∧ rs1Field (encode i) = n ∧ low14Field (encode i) = 0 ∧
      (p = false → Writes i s s rd x) ∧ (p = true → Traps i s s tt) := by
  refine ⟨hasOp3_of_encode word, ?_, ?_, value ▸ writes_or_traps_of_check run⟩
  · rw [word, rs1Field_fmt3]
  · rw [word, low14Field_fmt3]

theorem wrAsr_writes (word : encode i = fmt3 2 n 0x30 rs1 low) (run : exec i s = (s.writeReg [(p, tt)] b).outcome)
    (npc : b.npc = s.npc) (memory : b.mem = s.mem) :
    HasOp3 i 2 0x30 ∧ rdField (encode i) = n ∧ (p = false → Completes i s b) ∧ (p = true → Traps i s s tt) := by
  refine ⟨hasOp3_of_encode word, ?_, completes_or_traps_of_write run npc memory⟩
  rw [word, rdField_fmt3]

/-- TICK and STICK are written in hyperprivileged mode only; of TICK nonprivileged mode takes another trap (R1000, R1011). -/
theorem completes_or_traps_of_tick (run : exec i s = (s.writeReg [(s.isPriv, 0x010), (s.isUser, 0x011)] b).outcome)
    (npc : b.npc = s.npc) (memory : b.mem = s.mem) :
    (s.level = .user → Traps i s s 0x011) ∧ (s.level = .priv → Traps i s s 0x010) ∧ (s.level = .hyper → Completes i s b) := by
  rw [State.isPriv, State.isUser] at run
  refine ⟨fun user => ?_, fun privileged => ?_, fun hyper => ?_⟩
  · rw [user] at run
    exact run
  · rw [privileged] at run
    exact run
  · rw [hyper] at run
    exact completes_of_writeReg run npc memory

end

/-! ### The values of the state registers (spec/10_state.md) -/

theorem setWidth_eq_ofNat {n : Nat} (v : BitVec n) (m : Nat) : v.setWidth m = BitVec.ofNat m v.toNat :=
  (BitVec.ofNat_toNat m v).symm

theorem State.tickWord_eq (s : State) :
    s.tickWord = BitVec.ofNat 64 ((if s.tim.npt then 2 ^ 63 else 0) + s.tim.counter.toNat) := by
  have number : s.tickWord.toNat = (if s.tim.npt then 2 ^ 63 else 0) + s.tim.counter.toNat := by
    rw [tickWord, toNat_append_eq_add, toNat_boolBit]
    cases s.tim.npt <;> simp
  rw [← number, BitVec.ofNat_toNat, BitVec.setWidth_eq]

theorem State.stickWord_eq (s : State) :
    s.stickWord = BitVec.ofNat 64 ((if s.tim.npt then 2 ^ 63 else 0) + s.tim.counter.toNat / 128 * 128 + 127) := by
  have number : s.stickWord.toNat = (if s.tim.npt then 2 ^ 63 else 0) + s.tim.counter.toNat / 128 * 128 + 127 := by
    have bound := s.tim.counter.isLt
    rw [stickWord, toNat_append_eq_add, toNat_append_eq_add, toNat_boolBit, BitVec.extractLsb'_toNat, Nat.shiftRight_eq_div_pow]
    cases s.tim.npt <;> simp <;> omega
  rw [← number, BitVec.ofNat_toNat, BitVec.setWidth_eq]

/-! ### Numbers of state registers that select no instruction (spec/30_encoding.md R660 to R663) -/

theorem decode_of_op3 {w : Word32} {n : BitVec 6} (op : opField w = 2) (op3 : op3Field w = n) :
    decode w = decodeArith (rdField w) n (rs1Field w) (low14Field w) := by
  rw [decode_eq_decodeArith op, op3]

theorem decodeRdAsr_unused {n : Reg} (unused : n ∈ [0x01, 0x07, 0x08, 0x09, 0x0A, 0x0B, 0x0C, 0x0D, 0x0E, 0x12, 0x14, 0x15, 0x1A,
    0x1B, 0x1C, 0x1D, 0x1E, 0x1F]) (rd : Reg) (low : BitVec 14) : ∃ e, decodeRdAsr rd n low = .error e := by
  fin_cases unused <;> exact ⟨_, rfl⟩

/-- Number 15 is STBAR and MEMBAR, whose `rd` is 0. -/
theorem decodeRdAsr_barrier {rd : Reg} (nonzero : rd ≠ 0) (low : BitVec 14) : ∃ e, decodeRdAsr rd 0x0F low = .error e :=
  ⟨_, if_neg nonzero⟩

theorem decodeWrAsr_unused {n : Reg} (unused : n ∈ [0x01, 0x05, 0x07, 0x08, 0x09, 0x0A, 0x0B, 0x0C, 0x0D, 0x0E, 0x12, 0x1A, 0x1B,
    0x1C, 0x1D, 0x1E, 0x1F]) (rs1 : Reg) (low : BitVec 14) : ∃ e, decodeWrAsr n rs1 low = .error e := by
  fin_cases unused <;> exact ⟨_, rfl⟩

end Sys2Proof.Machine

namespace Sys2Proof
open Machine

/-- Settles O21: each read is `readReg` after its one check or none, and its value is the register as a number. -/
theorem stateRegistersAreRead : Obligations.StateRegistersAreRead := by
  refine ⟨fun s rd => ?_, fun w op op3 number => ?_⟩
  · exact ⟨rdAsr_reads rfl rfl (setWidth_eq_ofNat ..), rdAsr_reads rfl rfl (setWidth_eq_ofNat ..),
      rdAsr_reads rfl rfl (setWidth_eq_ofNat ..), rdAsr_reads rfl rfl s.tickWord_eq, rdAsr_reads rfl rfl s.pcValue_eq,
      rdAsr_reads rfl rfl (setWidth_eq_ofNat ..), rdAsr_reads rfl rfl rfl,
      rdAsr_reads rfl rfl rfl, rdAsr_reads rfl rfl rfl, rdAsr_reads rfl rfl (setWidth_eq_ofNat ..), rdAsr_reads rfl rfl rfl,
      rdAsr_reads rfl rfl s.stickWord_eq, rdAsr_reads rfl rfl rfl⟩
  · rw [decode_of_op3 op op3]
    rcases number with unused | ⟨fifteen, nonzero⟩
    · exact decodeRdAsr_unused unused ..
    · rw [fifteen]
      exact decodeRdAsr_barrier nonzero _

end Sys2Proof

namespace Sys2Proof.Machine

/-! ### GSR and PCR, field by field (spec/10_state.md R84, R88) -/

theorem boolBit_bitAt {n : Nat} (v : BitVec n) (k : Nat) : boolBit (bitAt v k) = v.extractLsb' k 1 := by
  have boolBit_bitOf : ∀ b : BitVec 1, boolBit (bitOf b) = b := by decide
  rw [bitAt_eq_bitOf, boolBit_bitOf]

theorem bitAt_of_boolBit {w k : Nat} {x : BitVec w} {b : Bool} (slice : x.extractLsb' k 1 = boolBit b) : bitAt x k = b := by
  rw [bitAt_eq_bitOf, slice]
  cases b <;> rfl

theorem bitAt_of_slice {n m lo len k : Nat} {x : BitVec n} {y : BitVec m} (slice : x.extractLsb' lo len = y.extractLsb' lo len)
    (above : lo ≤ k) (below : k < lo + len) : bitAt x k = bitAt y k := by
  have bit := congrArg (·.getLsbD (k - lo)) slice
  simpa [bitAt, show k - lo < len by omega, show lo + (k - lo) = k by omega] using bit

/-- GSR reads 0 in its reserved fields. -/
theorem and_reserved_fields (mask : BitVec 32) (high : BitVec 4) (im : BitVec 1) (irnd : BitVec 2) (middle : BitVec 17)
    (scale : BitVec 5) (align : BitVec 3) :
    (mask ++ high ++ im ++ irnd ++ middle ++ scale ++ align) &&&
        (BitVec.allOnes 32 ++ 0#4 ++ BitVec.allOnes 1 ++ BitVec.allOnes 2 ++ 0#17 ++ BitVec.allOnes 5 ++ BitVec.allOnes 3) =
      mask ++ 0#4 ++ im ++ irnd ++ 0#17 ++ scale ++ align := by
  simp only [BitVec.and_append, BitVec.and_allOnes, BitVec.and_zero]

theorem Gsr.ofWord_word (v : Word) : (Gsr.ofWord v).word = v &&& 0xFFFFFFFF0E0000FF := by
  have join (lo n m : Nat) : v.extractLsb' (lo + n) m ++ v.extractLsb' lo n = v.extractLsb' lo (m + n) :=
    BitVec.extractLsb'_append_extractLsb'_eq_extractLsb' rfl
  have parts : v.extractLsb' 32 32 ++ v.extractLsb' 28 4 ++ v.extractLsb' 27 1 ++ v.extractLsb' 25 2 ++ v.extractLsb' 8 17 ++
      v.extractLsb' 3 5 ++ v.extractLsb' 0 3 = v := by
    rw [join 28 4 32, join 27 1 36, join 25 2 37, join 8 17 39, join 3 5 56, join 0 3 61]
    exact BitVec.extractLsb'_eq_self
  calc (Gsr.ofWord v).word
    _ = v.extractLsb' 32 32 ++ 0#4 ++ boolBit (bitAt v 27) ++ v.extractLsb' 25 2 ++ 0#17 ++ v.extractLsb' 3 5 ++
          v.extractLsb' 0 3 := rfl
    _ = v.extractLsb' 32 32 ++ 0#4 ++ v.extractLsb' 27 1 ++ v.extractLsb' 25 2 ++ 0#17 ++ v.extractLsb' 3 5 ++
          v.extractLsb' 0 3 := by rw [boolBit_bitAt]
    _ = _ := (and_reserved_fields ..).symm
    _ = v &&& 0xFFFFFFFF0E0000FF := congrArg (· &&& 0xFFFFFFFF0E0000FF#64) parts

theorem Gsr.ofWord_fields (g : Gsr) : Gsr.ofWord g.word = g ∧ g.word.extractLsb' 32 32 = g.mask ∧ bitAt g.word 27 = g.im ∧
    g.word.extractLsb' 25 2 = g.irnd ∧ g.word.extractLsb' 3 5 = g.scale ∧ g.word.extractLsb' 0 3 = g.align := by
  have above : g.word.extractLsb' 0 64 = g.word := BitVec.extractLsb'_eq_self
  obtain ⟨above, align⟩ := slice_append (b := 3) above
  obtain ⟨above, scale⟩ := slice_append (b := 5) above
  obtain ⟨above, unused⟩ := slice_append (b := 17) above
  obtain ⟨above, irnd⟩ := slice_append (b := 2) above
  obtain ⟨above, bit⟩ := slice_append (b := 1) above
  obtain ⟨mask, _⟩ := slice_append (b := 4) above
  have im := bitAt_of_boolBit bit
  refine ⟨?_, mask, im, irnd, scale, align⟩
  rw [Gsr.ofWord, mask, im, irnd, scale, align]

theorem pcrWritten_fields (old v : Word) (hyper : Bool) :
    let new := pcrWritten old v hyper
    (∀ k, k < 32 → k ≠ 31 → k ≠ 18 → k ≠ 3 → bitAt new k = bitAt v k) ∧
    (∀ k, 32 ≤ k → bitAt new k = false) ∧
    bitAt new 31 = (if bitAt v 63 then bitAt old 31 else bitAt v 31) ∧
    bitAt new 18 = (if bitAt v 62 then bitAt old 18 else bitAt v 18) ∧
    bitAt new 3 = (if hyper then bitAt v 3 else bitAt old 3) := by
  intro new
  have low {lo len : Nat} (inside : lo + len ≤ 32) {w : BitVec 32} (word : new = w.setWidth 64) :
      new.extractLsb' lo len = w.extractLsb' lo len := by
    rw [word]
    exact BitVec.extractLsb'_setWidth_of_le (by omega)
  have above := (low (lo := 0) (len := 32) (by decide) rfl).trans BitVec.extractLsb'_eq_self
  obtain ⟨above, bits0⟩ := slice_append (b := 3) above
  obtain ⟨above, ht⟩ := slice_append (b := 1) above
  obtain ⟨above, bits4⟩ := slice_append (b := 14) above
  obtain ⟨above, ov0⟩ := slice_append (b := 1) above
  obtain ⟨ov1, bits19⟩ := slice_append (b := 12) above
  refine ⟨fun k below not31 not18 not3 => ?_, fun k above => ?_, bitAt_of_boolBit ov1, bitAt_of_boolBit ov0,
    bitAt_of_boolBit ht⟩
  · rcases (by omega : k < 3 ∨ (4 ≤ k ∧ k < 18) ∨ (19 ≤ k ∧ k < 31)) with field | ⟨from4, to18⟩ | ⟨from19, to31⟩
    · exact bitAt_of_slice bits0 (Nat.zero_le k) (by omega)
    · exact bitAt_of_slice bits4 from4 to18
    · exact bitAt_of_slice bits19 from19 to31
  · exact (BitVec.getLsbD_setWidth ..).trans (by simp [BitVec.getLsbD_of_ge _ _ above])

end Sys2Proof.Machine

namespace Sys2Proof
open Machine

/-- Settles O22: each write is `writeReg` after its one check or none, but that of TICK, which has two. -/
theorem stateRegistersAndFieldsAreWritten : Obligations.StateRegistersAndFieldsAreWritten := by
  refine ⟨⟨fun s rs1 o => ?_, fun w op op3 unused => ?_⟩, Gsr.ofWord_word, Gsr.ofWord_fields, pcrWritten_fields⟩
  · have tick : ((s.level != .hyper) = false → Completes (.wrTick rs1 o) s (s.setTick (s.writeValue rs1 o))) ∧
        ((s.level != .hyper) = true → Traps (.wrTick rs1 o) s s (if s.level == .user then 0x011 else 0x010)) := by
      obtain ⟨user, privileged, hyper⟩ := completes_or_traps_of_tick (i := .wrTick rs1 o) (s := s) rfl rfl rfl
      cases level : s.level with
      | user => exact ⟨(fun e => nomatch e), fun _ => user level⟩
      | priv => exact ⟨(fun e => nomatch e), fun _ => privileged level⟩
      | hyper => exact ⟨fun _ => hyper level, fun e => nomatch e⟩
    exact ⟨wrAsr_writes rfl rfl rfl rfl, wrAsr_writes rfl rfl rfl rfl, wrAsr_writes rfl rfl rfl rfl,
      ⟨hasOp3_of_encode rfl, rdField_fmt3 .., tick⟩, wrAsr_writes rfl rfl rfl rfl, wrAsr_writes rfl rfl rfl rfl,
      wrAsr_writes rfl rfl rfl rfl, wrAsr_writes rfl rfl rfl rfl, wrAsr_writes rfl rfl rfl rfl, wrAsr_writes rfl rfl rfl rfl,
      wrAsr_writes rfl rfl rfl rfl, wrAsr_writes rfl rfl rfl rfl, wrAsr_writes rfl rfl rfl rfl, wrAsr_writes rfl rfl rfl rfl⟩
  · rw [decode_of_op3 op op3]
    exact decodeWrAsr_unused unused ..

end Sys2Proof

namespace Sys2Proof.Machine

/-! ### The checks of the privileged and hyperprivileged registers (spec/43_state_access.md R1010, R1011, R1030) -/

section
variable {i : Instr} {s b : State} {rd rs1 n : Reg} {low : BitVec 14} {refused trapReg : Bool} {lower upper : Prop}
  {tt : BitVec 9} {v x : Word} {k : Res Unit}

/-- The checks of a register: those of its mode, then that of the trap registers, which do not exist at TL = 0. -/
def State.registerChecks (s : State) (refused : Bool) (tt : BitVec 9) (trapReg : Bool) : List (Bool × BitVec 9) :=
  (refused, tt) :: bif trapReg then [(s.tl == 0, 0x010)] else []

/-- The modes that may not use the register are `lower`, the others `upper`. -/
theorem passes_or_traps_of_registerChecks (run : exec i s = (firstTrap s (s.registerChecks refused tt trapReg) k).outcome)
    (forbids : refused = true ↔ lower) (allows : refused = false ↔ upper) :
    (lower → Traps i s s tt) ∧ (upper → trapReg = true → s.tl = 0 → Traps i s s 0x010) ∧
      (upper → (trapReg = false ∨ s.tl ≠ 0) → exec i s = k.outcome) := by
  rw [← forbids, ← allows]
  refine ⟨fun fail => ?_, fun pass trap zero => ?_, fun pass present => ?_⟩
  · rw [State.registerChecks, fail] at run
    exact run
  · rw [State.registerChecks, pass, trap, zero] at run
    exact run
  · rw [State.registerChecks, pass] at run
    cases trapReg with
    | false => exact run
    | true =>
      have nonzero : (s.tl == 0) = false := beq_eq_false_iff_ne.2 (present.resolve_left (by decide))
      rw [nonzero] at run
      exact run

theorem writes_or_traps_of_registerChecks
    (run : exec i s = (s.readReg rd (s.registerChecks refused tt trapReg) v).outcome) (value : v = x)
    (forbids : refused = true ↔ lower) (allows : refused = false ↔ upper) :
    (lower → Traps i s s tt) ∧ (upper → trapReg = true → s.tl = 0 → Traps i s s 0x010) ∧
      (upper → (trapReg = false ∨ s.tl ≠ 0) → Writes i s s rd x) := by
  obtain ⟨fails, absent, passes⟩ := passes_or_traps_of_registerChecks run forbids allows
  exact ⟨fails, absent, fun mode present => writes_of_finish (value ▸ passes mode present) rfl rfl⟩

theorem completes_or_traps_of_registerChecks
    (run : exec i s = (s.writeReg (s.registerChecks refused tt trapReg) b).outcome) (npc : b.npc = s.npc) (memory : b.mem = s.mem)
    (forbids : refused = true ↔ lower) (allows : refused = false ↔ upper) :
    (lower → Traps i s s tt) ∧ (upper → trapReg = true → s.tl = 0 → Traps i s s 0x010) ∧
      (upper → (trapReg = false ∨ s.tl ≠ 0) → Completes i s b) := by
  obtain ⟨fails, absent, passes⟩ := passes_or_traps_of_registerChecks run forbids allows
  exact ⟨fails, absent, fun mode present => completes_of_writeReg (passes mode present) npc memory⟩

theorem rdpr_reads (word : encode i = fmt3 2 rd 0x2A n 0)
    (run : exec i s = (s.readReg rd (s.registerChecks s.isUser 0x011 trapReg) v).outcome) (value : v = x) :
    HasOp3 i 2 0x2A ∧ rs1Field (encode i) = n ∧ low14Field (encode i) = 0 ∧ (s.level = .user → Traps i s s 0x011) ∧
      (s.level ≠ .user → trapReg = true → s.tl = 0 → Traps i s s 0x010) ∧
      (s.level ≠ .user → (trapReg = false ∨ s.tl ≠ 0) → Writes i s s rd x) :=
  ⟨hasOp3_of_encode word, by rw [word, rs1Field_fmt3], by rw [word, low14Field_fmt3],
    writes_or_traps_of_registerChecks run value beq_iff_eq beq_eq_false_iff_ne⟩

theorem wrpr_writes (word : encode i = fmt3 2 n 0x32 rs1 low)
    (run : exec i s = (s.writeReg (s.registerChecks s.isUser 0x011 trapReg) b).outcome) (npc : b.npc = s.npc)
    (memory : b.mem = s.mem) :
    HasOp3 i 2 0x32 ∧ rdField (encode i) = n ∧ (s.level = .user → Traps i s s 0x011) ∧
      (s.level ≠ .user → trapReg = true → s.tl = 0 → Traps i s s 0x010) ∧
      (s.level ≠ .user → (trapReg = false ∨ s.tl ≠ 0) → Completes i s b) :=
  ⟨hasOp3_of_encode word, by rw [word, rdField_fmt3],
    completes_or_traps_of_registerChecks run npc memory beq_iff_eq beq_eq_false_iff_ne⟩

end

/-! ### The values of the privileged registers (spec/10_state.md) -/

/-- PSTATE as a number (R110). -/
def PState.weight (p : PState) : Nat :=
  (if p.tct then 2 ^ 12 else 0) + (if p.cle then 2 ^ 9 else 0) + (if p.tle then 2 ^ 8 else 0) + (if p.pef then 2 ^ 4 else 0) +
    (if p.am then 2 ^ 3 else 0) + (if p.priv then 2 ^ 2 else 0) + (if p.ie then 2 else 0)

theorem PState.toNat_bits (p : PState) : p.bits.toNat = p.weight := by
  obtain ⟨tct, cle, tle, pef, am, priv, ie⟩ := p
  revert tct cle tle pef am priv ie
  decide

theorem PState.bits_eq (p : PState) : p.bits.setWidth 64 = BitVec.ofNat 64 p.weight := by
  rw [setWidth_eq_ofNat, toNat_bits]

theorem TrapFrame.tstate_eq (f : TrapFrame) : f.tstate =
    BitVec.ofNat 64 (f.gl.toNat * 2 ^ 40 + f.ccr.toNat * 2 ^ 32 + f.asi.toNat * 2 ^ 24 + f.pstate.weight * 2 ^ 8 + f.cwp.toNat) := by
  rw [tstate, setWidth_eq_ofNat]
  congr 1
  simp only [toNat_append_eq_add, PState.toNat_bits, BitVec.toNat_ofNat]
  omega

theorem tlWritten_eq (v : Word) (hyper : Bool) :
    tlWritten v hyper = BitVec.ofNat 3 (min (v.toNat % 8) (if hyper then 6 else 2)) := by
  have clamp : ∀ (n : BitVec 3) (hyper : Bool),
      (if n < (if hyper then maxTl else maxPtl) then n else (if hyper then maxTl else maxPtl)) =
        BitVec.ofNat 3 (min n.toNat (if hyper then 6 else 2)) := by decide
  exact (clamp (v.setWidth 3) hyper).trans (by rw [BitVec.toNat_setWidth])

theorem glWritten_eq (v : Word) (hyper : Bool) :
    glWritten v hyper = BitVec.ofNat 2 (min (v.toNat % 16) (if hyper then 3 else 2)) := by
  have clamp : ∀ (n : BitVec 4) (hyper : Bool),
      (if n < (if hyper then 3 else 2) then n else (if hyper then 3 else 2)).setWidth 2 =
        BitVec.ofNat 2 (min n.toNat (if hyper then 3 else 2)) := by decide
  exact (clamp (v.setWidth 4) hyper).trans (by rw [BitVec.toNat_setWidth])

theorem extract_tpc (v : Word) : v.extractLsb' 2 46 = BitVec.ofNat 46 (v.toNat / 4) := by
  rw [BitVec.extractLsb', Nat.shiftRight_eq_div_pow]

theorem TrapFrame.withTstate_eq (f : TrapFrame) (v : Word) : f.withTstate v = { f with
    gl := v.extractLsb' 40 2, ccr := v.extractLsb' 32 8, asi := v.extractLsb' 24 8, cwp := v.extractLsb' 0 3
    pstate := ⟨bitAt v 20, bitAt v 17, bitAt v 16, bitAt v 12, bitAt v 11, bitAt v 10, bitAt v 9⟩ } := by
  have bit {k : Nat} (inside : k < 13) : bitAt (v.extractLsb' 8 13) k = bitAt v (8 + k) := by simp [bitAt, inside]
  have pstate : PState.ofBits (v.extractLsb' 8 13) =
      ⟨bitAt v 20, bitAt v 17, bitAt v 16, bitAt v 12, bitAt v 11, bitAt v 10, bitAt v 9⟩ := by
    simp [PState.ofBits, bit]
  rw [withTstate, pstate]

/-! ### Numbers of privileged registers that select no instruction (spec/30_encoding.md R662) -/

theorem unused_privileged_mem : ∀ n : Reg, (n = 0x0F ∨ 0x10 < n) → n ∈ ([0x0F, 0x11, 0x12, 0x13, 0x14, 0x15, 0x16, 0x17, 0x18,
    0x19, 0x1A, 0x1B, 0x1C, 0x1D, 0x1E, 0x1F] : List Reg) := by decide

theorem decodeRdPr_unused {n : Reg} (unused : n = 0x0F ∨ 0x10 < n) (rd : Reg) (low : BitVec 14) :
    ∃ e, decodeRdPr rd n low = .error e := by
  have listed := unused_privileged_mem n unused
  fin_cases listed <;> exact ⟨_, rfl⟩

theorem decodeWrPr_unused {n : Reg} (unused : n = 0x0F ∨ 0x10 < n) (rs1 : Reg) (low : BitVec 14) :
    ∃ e, decodeWrPr n rs1 low = .error e := by
  have listed := unused_privileged_mem n unused
  fin_cases listed <;> exact ⟨_, rfl⟩

end Sys2Proof.Machine

namespace Sys2Proof
open Machine

/-- Settles O23: each read is `readReg` after `registerChecks`, and its value is the register as a number. -/
theorem privilegedRegistersAreRead : Obligations.PrivilegedRegistersAreRead := by
  refine ⟨fun s rd => ?_, fun w op op3 unused => ?_⟩
  · exact ⟨rdpr_reads rfl rfl rfl, rdpr_reads rfl rfl rfl, rdpr_reads rfl rfl (TrapFrame.tstate_eq _),
      rdpr_reads rfl rfl (setWidth_eq_ofNat ..), rdpr_reads rfl rfl s.tickWord_eq, rdpr_reads rfl rfl rfl,
      rdpr_reads rfl rfl (PState.bits_eq _), rdpr_reads rfl rfl (setWidth_eq_ofNat ..), rdpr_reads rfl rfl (setWidth_eq_ofNat ..),
      rdpr_reads rfl rfl (setWidth_eq_ofNat ..), rdpr_reads rfl rfl (setWidth_eq_ofNat ..),
      rdpr_reads rfl rfl (setWidth_eq_ofNat ..), rdpr_reads rfl rfl (setWidth_eq_ofNat ..),
      rdpr_reads rfl rfl (setWidth_eq_ofNat ..), rdpr_reads rfl rfl (setWidth_eq_ofNat ..),
      rdpr_reads rfl rfl (setWidth_eq_ofNat ..)⟩
  · rw [decode_of_op3 op op3]
    exact decodeRdPr_unused unused ..

/-- Settles O24: each write is `writeReg` after `registerChecks`, but that of TICK, which is as WR %tick. -/
theorem privilegedRegistersAreWritten : Obligations.PrivilegedRegistersAreWritten := by
  refine ⟨fun s rs1 o => ?_, fun w op op3 unused => ?_⟩
  · intro v f hyper frame win writes
    have tpc : writes (.wrprTpc rs1 o) 0x00 true (frame { f with tpc := BitVec.ofNat 46 (v.toNat / 4), tpcHole := false }) := by
      rw [← extract_tpc]
      exact wrpr_writes rfl rfl rfl rfl
    have tnpc : writes (.wrprTnpc rs1 o) 0x01 true (frame { f with tnpc := BitVec.ofNat 46 (v.toNat / 4), tnpcHole := false }) := by
      rw [← extract_tpc]
      exact wrpr_writes rfl rfl rfl rfl
    have tstate : writes (.wrprTstate rs1 o) 0x02 true (frame { f with
        gl := v.extractLsb' 40 2, ccr := v.extractLsb' 32 8, asi := v.extractLsb' 24 8, cwp := v.extractLsb' 0 3
        pstate := ⟨bitAt v 20, bitAt v 17, bitAt v 16, bitAt v 12, bitAt v 11, bitAt v 10, bitAt v 9⟩ }) := by
      rw [← TrapFrame.withTstate_eq]
      exact wrpr_writes rfl rfl rfl rfl
    have tl : writes (.wrprTl rs1 o) 0x07 false { s with tl := BitVec.ofNat 3 (min (v.toNat % 8) (if hyper then 6 else 2)) } := by
      rw [← tlWritten_eq]
      exact wrpr_writes rfl rfl rfl rfl
    have gl : writes (.wrprGl rs1 o) 0x10 false { s with gl := BitVec.ofNat 2 (min (v.toNat % 16) (if hyper then 3 else 2)) } := by
      rw [← glWritten_eq]
      exact wrpr_writes rfl rfl rfl rfl
    exact ⟨tpc, tnpc, tstate, wrpr_writes rfl rfl rfl rfl,
      ⟨hasOp3_of_encode rfl, rdField_fmt3 .., completes_or_traps_of_tick rfl rfl rfl⟩, wrpr_writes rfl rfl rfl rfl, tl,
      wrpr_writes rfl rfl rfl rfl, wrpr_writes rfl rfl rfl rfl, wrpr_writes rfl rfl rfl rfl, wrpr_writes rfl rfl rfl rfl,
      wrpr_writes rfl rfl rfl rfl, wrpr_writes rfl rfl rfl rfl, wrpr_writes rfl rfl rfl rfl, gl⟩
  · rw [decode_of_op3 op op3]
    exact decodeWrPr_unused unused ..

end Sys2Proof

namespace Sys2Proof.Machine

/-! ### PSTATE (R1012; spec/20_memory.md R506) -/

theorem PState.ofBits_setWidth (v : Word) :
    PState.ofBits (v.setWidth 13) = ⟨bitAt v 12, bitAt v 9, bitAt v 8, bitAt v 4, bitAt v 3, bitAt v 2, bitAt v 1⟩ := by
  simp [ofBits, bitAt]

theorem State.setPstate_of_am_kept {s : State} {p : PState} (kept : (s.pstate.am && !p.am) = false) :
    s.setPstate p = { s with pstate := p } := by
  rw [setPstate, kept]
  rfl

/-- Where PSTATE.am is cleared, NPC is cut to 48 bits if the address hole it is in is not seen. -/
theorem State.setPstate_of_am_cleared {s : State} {p : PState} (cleared : (s.pstate.am && !p.am) = true) :
    ∃ npc, (npc = s.npc ∨ (outOfRange s.npc = true ∧ npc = (s.npc.extractLsb' 0 48).signExtend 64)) ∧
      s.setPstate p = { s with pstate := p, oracle := s.oracle + 1, npc := npc } := by
  refine ⟨(s.setPstate p).npc, ?_, ?_⟩
  · rw [setPstate, cleared]
    show (if _ then _ else _) = _ ∨ _
    split
    case isTrue hidden =>
      simp only [Bool.true_and, Bool.and_eq_true] at hidden
      obtain ⟨⟨hole, _⟩, _⟩ := hidden
      refine .inr ⟨hole, ?_⟩
      rw [sext48, BitVec.setWidth_eq_extractLsb' (by decide)]
    case isFalse => exact .inl rfl
  · rw [setPstate, cleared]
    rfl

/-! ### The hyperprivileged registers (R1030 to R1032) -/

section
variable {i : Instr} {s b : State} {rd rs1 n : Reg} {low : BitVec 14} {trapReg : Bool} {v x : Word}

theorem rdhpr_reads (word : encode i = fmt3 2 rd 0x29 n 0)
    (run : exec i s = (s.readReg rd (s.registerChecks (!s.isHyper) 0x010 trapReg) v).outcome) (value : v = x) :
    HasOp3 i 2 0x29 ∧ rs1Field (encode i) = n ∧ (s.level ≠ .hyper → Traps i s s 0x010) ∧
      (s.level = .hyper → trapReg = true → s.tl = 0 → Traps i s s 0x010) ∧
      (s.level = .hyper → (trapReg = false ∨ s.tl ≠ 0) → Writes i s s rd x) :=
  ⟨hasOp3_of_encode word, by rw [word, rs1Field_fmt3],
    writes_or_traps_of_registerChecks run value bne_iff_ne bne_eq_false_iff_eq⟩

theorem wrhpr_writes (word : encode i = fmt3 2 n 0x33 rs1 low)
    (run : exec i s = (s.writeReg (s.registerChecks (!s.isHyper) 0x010 trapReg) b).outcome) (npc : b.npc = s.npc)
    (memory : b.mem = s.mem) :
    HasOp3 i 2 0x33 ∧ rdField (encode i) = n ∧ (s.level ≠ .hyper → Traps i s s 0x010) ∧
      (s.level = .hyper → trapReg = true → s.tl = 0 → Traps i s s 0x010) ∧
      (s.level = .hyper → (trapReg = false ∨ s.tl ≠ 0) → Completes i s b) :=
  ⟨hasOp3_of_encode word, by rw [word, rdField_fmt3],
    completes_or_traps_of_registerChecks run npc memory bne_iff_ne bne_eq_false_iff_eq⟩

end

theorem HPState.word_eq (h : HPState) : h.word = BitVec.ofNat 64
    ((if h.ibe then 2 ^ 10 else 0) + (if h.red then 2 ^ 5 else 0) + (if h.hpriv then 2 ^ 2 else 0) + (if h.tlz then 1 else 0)) := by
  obtain ⟨ibe, red, hpriv, tlz⟩ := h
  revert ibe red hpriv tlz
  decide

/-- The mask set number of the chip lies at bit 24 of HVER (R176). -/
theorem hverWord_eq : hverWord = 0x003E002400030607 ||| (Config.hverMask.setWidth 64 <<< 24) := by
  have joined (mask : BitVec 8) : 0x003E#16 ++ 0x0024#16 ++ mask ++ 0x030607#24 =
      (0x003E#16 ++ 0x0024#16 ++ 0#8 ++ 0x030607#24) ||| (0#16 ++ 0#16 ++ mask ++ 0#24) := by
    simp only [BitVec.or_append, BitVec.or_zero, BitVec.zero_or]
  have fixed : 0x003E#16 ++ 0x0024#16 ++ 0#8 ++ 0x030607#24 = 0x003E002400030607#64 := rfl
  have placed (mask : BitVec 8) : 0#16 ++ 0#16 ++ mask ++ 0#24 = mask.setWidth 64 <<< 24 := by
    apply BitVec.eq_of_toNat_eq
    have small := mask.isLt
    rw [BitVec.toNat_shiftLeft, BitVec.toNat_setWidth, Nat.shiftLeft_eq]
    simp only [toNat_append_eq_add, BitVec.toNat_ofNat]
    omega
  exact (joined _).trans (congrArg₂ (· ||| ·) fixed (placed _))

theorem setWidth_boolBit (b : Bool) : ((boolBit b).setWidth 64 : Word) = if b then 1 else 0 := by cases b <;> rfl

theorem unused_hyperprivileged_mem : ∀ n : Reg, (n = 2 ∨ n = 4 ∨ (7 ≤ n ∧ n ≤ 0x1D)) → n ∈ ([0x02, 0x04, 0x07, 0x08, 0x09, 0x0A,
    0x0B, 0x0C, 0x0D, 0x0E, 0x0F, 0x10, 0x11, 0x12, 0x13, 0x14, 0x15, 0x16, 0x17, 0x18, 0x19, 0x1A, 0x1B, 0x1C, 0x1D] : List Reg) := by
  decide

theorem decodeRdHpr_unused {n : Reg} (unused : n = 2 ∨ n = 4 ∨ (7 ≤ n ∧ n ≤ 0x1D)) (rd : Reg) (low : BitVec 14) :
    ∃ e, decodeRdHpr rd n low = .error e := by
  have listed := unused_hyperprivileged_mem n unused
  fin_cases listed <;> exact ⟨_, rfl⟩

theorem decodeWrHpr_unused {n : Reg} (unused : n = 2 ∨ n = 4 ∨ (7 ≤ n ∧ n ≤ 0x1D)) (rs1 : Reg) (low : BitVec 14) :
    ∃ e, decodeWrHpr n rs1 low = .error e := by
  have listed := unused_hyperprivileged_mem n unused
  fin_cases listed <;> exact ⟨_, rfl⟩

/-! ### SIR and the halt pseudo-instruction (R1040, R1045) -/

theorem encode_sir (simm13 : BitVec 13) : encode (.sir simm13) = 0x9F802000 ||| simm13.setWidth 32 := by
  have low : simm13.setWidth 32 = 0#2 ++ (0#5 ++ (0#6 ++ (0#5 ++ (0#1 ++ simm13)))) := by
    apply BitVec.eq_of_toNat_eq
    have small := simm13.isLt
    rw [BitVec.toNat_setWidth]
    simp only [toNat_append_eq_add, BitVec.toNat_ofNat]
    omega
  have joined : 2#2 ++ (0x0F#5 ++ (0x30#6 ++ (0#5 ++ (1#1 ++ simm13)))) =
      (2#2 ++ (0x0F#5 ++ (0x30#6 ++ (0#5 ++ (1#1 ++ 0#13))))) ||| (0#2 ++ (0#5 ++ (0#6 ++ (0#5 ++ (0#1 ++ simm13))))) := by
    simp only [BitVec.or_append, BitVec.or_zero, BitVec.zero_or]
  rw [low]
  exact joined

theorem tlNext_eq_min (tl : BitVec 3) : tlNext tl = BitVec.ofNat 3 (min (tl.toNat + 1) 6) := by
  revert tl
  decide

end Sys2Proof.Machine

namespace Sys2Proof
open Machine

/-- Settles O25: `State.setPstate` moves NPC only where PSTATE.am is cleared. -/
theorem processorStateIsWritten : Obligations.ProcessorStateIsWritten := by
  intro s rs1 o v p i cleared
  have written : PState.ofBits (v.setWidth 13) = p := PState.ofBits_setWidth v
  have run : exec i s = (s.writeReg s.privCheck (s.setPstate p)).outcome := by
    rw [← written]
    rfl
  refine ⟨hasOp3_of_encode rfl, rdField_fmt3 .., fun user => traps_of_check run (beq_iff_eq.2 user), fun level kept => ?_,
    fun level lost => ?_⟩
  · rw [State.setPstate_of_am_kept kept] at run
    exact completes_of_writeReg (exec_of_check_false run (beq_eq_false_iff_ne.2 level)) rfl rfl
  · obtain ⟨npc, hole, next⟩ := State.setPstate_of_am_cleared lost
    rw [next] at run
    exact ⟨npc, hole, goes_of_next (exec_of_check_false run (beq_eq_false_iff_ne.2 level)) rfl⟩

/-- Settles O26: `registerChecks` with the one check of the mode, and that of HTSTATE with the level of the trap stack. -/
theorem hyperprivilegedRegistersAreReadAndWritten : Obligations.HyperprivilegedRegistersAreReadAndWritten := by
  refine ⟨fun s rd rs1 o => ?_, fun w op => ⟨fun op3 unused => ?_, fun op3 unused => ?_⟩⟩
  · exact ⟨rdhpr_reads rfl rfl (HPState.word_eq _), rdhpr_reads rfl rfl (HPState.word_eq _),
      rdhpr_reads rfl rfl (setWidth_boolBit _), rdhpr_reads rfl rfl rfl, rdhpr_reads rfl rfl hverWord_eq, rdhpr_reads rfl rfl rfl,
      rdhpr_reads rfl rfl rfl, wrhpr_writes rfl rfl rfl rfl, wrhpr_writes rfl rfl rfl rfl, wrhpr_writes rfl rfl rfl rfl,
      wrhpr_writes rfl rfl rfl rfl, wrhpr_writes rfl rfl rfl rfl⟩
  · rw [decode_of_op3 op op3]
    exact decodeRdHpr_unused unused ..
  · rw [decode_of_op3 op op3]
    exact decodeWrHpr_unused unused ..

/-- Settles O27: SIR is `State.enterRed` at offset 0x80, and `State.wakeNow` says whether the strand stops. -/
theorem softwareResetAndHalt : Obligations.SoftwareResetAndHalt := by
  intro s simm13 rs1 o vector sir halt wakes
  have check : exec halt s = (s.writeReg s.hyperCheck (if s.wakeNow then s else { s with run := .halted })).outcome := rfl
  refine ⟨encode_sir simm13, hasOp3_of_encode rfl, rdField_fmt3 .., fun lower => ⟨?_, ?_⟩,
    fun hyper => ⟨?_, fun awake => ?_, fun idle => ?_⟩⟩
  · exact if_neg (mt beq_iff_eq.1 lower)
  · exact traps_of_check check (bne_iff_ne.2 lower)
  · have run : exec sir s = .next s.takeSir := if_pos (beq_iff_eq.2 hyper)
    have frame : s.takeSir.frame = s.capture 4 := fileGet_fileSet ..
    refine ⟨_, run, rfl, rfl, tlNext_eq_min s.tl, ?_, ?_, rfl, rfl, rfl, rfl, rfl, fun _ => rfl⟩
    · rw [frame]
      rfl
    · rw [frame]
      rfl
  · have run := exec_of_check_false check (bne_eq_false_iff_eq.2 hyper)
    rw [show s.wakeNow = true from awake] at run
    exact completes_of_advance run
  · have run := exec_of_check_false check (bne_eq_false_iff_eq.2 hyper)
    rw [show s.wakeNow = false from idle] at run
    exact completes_of_writeReg run rfl rfl

end Sys2Proof

namespace Sys2Proof.Machine

/-! ### The end of a floating-point operation (spec/44_float.md R1062 to R1066) -/

theorem hasOpf_of_encode {i : Instr} {op3 : BitVec 6} {rd rs1 rs2 : Reg} {opf : BitVec 9}
    (word : encode i = fmtOpf op3 rd rs1 opf rs2) : HasOpf i op3 opf := by
  refine ⟨hasOp3_of_encode word, ?_⟩
  rw [word, fmtOpf, low14Field_fmt3, opfOf_append]

theorem rs1Field_of_encode {i : Instr} {op3 : BitVec 6} {rd rs1 rs2 : Reg} {opf : BitVec 9}
    (word : encode i = fmtOpf op3 rd rs1 opf rs2) : rs1Field (encode i) = rs1 := by
  rw [word, fmtOpf, rs1Field_fmt3]

/-- How the floating-point operation `i` of an enabled unit ends when the arithmetic answers `r` (R1064): `Put b v` says that it
completes with the result `v` and the flags of `b`. -/
def FpEnds {β : Type} (i : Instr) (s : State) (Put : State → β → Prop) (r : FpResult β) : Prop :=
  match r with
  | .unfinished => Traps i s (s.setExceptions 2 s.fsr.cexc s.fsr.aexc) 0x022
  | .value v e =>
    if e &&& s.fsr.tem ≠ 0 then Traps i s (s.setExceptions 1 (reportedException e s.fsr.tem) s.fsr.aexc) 0x021
    else Put (s.setExceptions 0 e (s.fsr.aexc ||| e)) v

section
variable {α β : Type} {i : Instr} {s : State} {r : FpResult α} {write : State → α → State}
  (run : exec i s = (s.fpop r write).outcome)
include run

theorem traps_of_fpop_disabled (off : s.fpEnabled = false) : Traps i s s 0x020 := by
  rw [Traps, run]
  simp [State.fpop, off]

theorem fpEnds_of_fpop {g : α → β} {Put : State → β → Prop} (on : s.fpEnabled = true)
    (puts : ∀ b v, b.npc = s.npc → b.mem = s.mem → exec i s = .next (write b v).advance → Put b (g v)) :
    FpEnds i s Put (r.map g) := by
  cases r with
  | unfinished =>
    show Traps i s _ _
    simpa [State.fpop, on, Traps] using run
  | value v e =>
    show if _ then _ else _
    by_cases masked : e &&& s.fsr.tem = 0#5
    · have completes : exec i s = .next (write (s.setExceptions 0 e (s.fsr.aexc ||| e)) v).advance := by
        simpa [State.fpop, on, masked] using run
      simpa [masked] using puts (s.setExceptions 0 e (s.fsr.aexc ||| e)) v rfl rfl completes
    · simpa [State.fpop, on, masked, Traps] using run

end

section
variable {i : Instr} {s b : State} {rd : Reg}

theorem writesSingle_of_setF32 {v : Word32} (run : exec i s = .next (b.setF32 rd v).advance) (npc : b.npc = s.npc)
    (mem : b.mem = s.mem) : WritesSingle i s b rd v :=
  ⟨_, run, wroteSingle_setF32 b rd v rfl rfl, by simp [State.advance, State.setF32, npc], fun a => by simp [State.readByte, mem]⟩

theorem writesDouble_of_setF64 {v : Word} (run : exec i s = .next (b.setF64 rd v).advance) (npc : b.npc = s.npc)
    (mem : b.mem = s.mem) : WritesDouble i s b rd v :=
  ⟨_, run, wroteDouble_setF64 b rd v rfl rfl, by simp [State.advance, State.setF64, State.setPair, npc],
    fun a => by simp [State.readByte, State.setF64, mem]⟩

theorem completes_of_exec_advance (run : exec i s = .next b.advance) (npc : b.npc = s.npc) (mem : b.mem = s.mem) :
    Completes i s b :=
  ⟨_, run, by simp [State.advance, npc], fun a => by simp [State.readByte, mem]⟩

end

section
variable {i : Instr} {s : State} {op3 : BitVec 6} {rd rd' rs1 rs2 : Reg} {opf : BitVec 9}
  (word : encode i = fmtOpf op3 rd' rs1 opf rs2)
include word

/-- The word and the end of an operation with a single-precision result. -/
theorem single_ends {α : Type} {r : FpResult α} {g : α → Word32}
    (run : exec i s = (s.fpop r fun t x => t.setF32 rd (g x)).outcome) :
    (HasOpf i op3 opf ∧ (s.fpEnabled = false → Traps i s s 0x020)) ∧
      (s.fpEnabled = true → FpEnds i s (fun b v => WritesSingle i s b rd v) (r.map g)) :=
  ⟨⟨hasOpf_of_encode word, traps_of_fpop_disabled run⟩,
    fun on => fpEnds_of_fpop run on fun _ _ npc mem e => writesSingle_of_setF32 e npc mem⟩

/-- The word and the end of an operation with a double-precision result. -/
theorem double_ends {α : Type} {r : FpResult α} {g : α → Word}
    (run : exec i s = (s.fpop r fun t x => t.setF64 rd (g x)).outcome) :
    (HasOpf i op3 opf ∧ (s.fpEnabled = false → Traps i s s 0x020)) ∧
      (s.fpEnabled = true → FpEnds i s (fun b v => WritesDouble i s b rd v) (r.map g)) :=
  ⟨⟨hasOpf_of_encode word, traps_of_fpop_disabled run⟩,
    fun on => fpEnds_of_fpop run on fun _ _ npc mem e => writesDouble_of_setF64 e npc mem⟩

end

end Sys2Proof.Machine

namespace Sys2Proof
open Machine

/-- Settles O40: every operation ends in `fpop`, and its end is that of `fpEnds_of_fpop`. -/
theorem floatOperationsEndByTheirExceptions : Obligations.FloatOperationsEndByTheirExceptions := by
  intro s rd rs1 rs2 mode f g s1 s2 d1 d2 tem chosen fails flagged is endsS endsD single double
  have endS {i : Instr} {opf : BitVec 9} {rs1' : Reg} {α : Type} {r : FpResult α} {bits : α → Word32}
      (word : encode i = fmtOpf 0x34 rd rs1' opf rs2) (run : exec i s = (s.fpop r fun t x => t.setF32 rd (bits x)).outcome) :
      endsS i opf (r.map bits) := by
    cases r <;> exact single_ends word run
  have endD {i : Instr} {opf : BitVec 9} {rs1' : Reg} {α : Type} {r : FpResult α} {bits : α → Word}
      (word : encode i = fmtOpf 0x34 rd rs1' opf rs2) (run : exec i s = (s.fpop r fun t x => t.setF64 rd (bits x)).outcome) :
      endsD i opf (r.map bits) := by
    cases r <;> exact double_ends word run
  exact ⟨endS rfl rfl, endD rfl rfl, endS rfl rfl, endD rfl rfl, endS rfl rfl, endD rfl rfl, endD rfl rfl, endS rfl rfl,
    endD rfl rfl, endS rfl rfl, endD rfl rfl, endD rfl rfl, endS rfl rfl, endS rfl rfl, endD rfl rfl, endS rfl rfl,
    endD rfl rfl, endS rfl rfl, endS rfl rfl, endD rfl rfl, endD rfl rfl⟩

end Sys2Proof

namespace Sys2Proof.Machine

/-! ### Operations that signal nothing (R1082 to R1087, R1105, R1107) -/

/-- An operation that signals nothing clears `ftt` and `cexc` and leaves `aexc`. -/
theorem exec_of_fpop_quiet {α : Type} {i : Instr} {s : State} {v : α} {write : State → α → State} (on : s.fpEnabled = true)
    (run : exec i s = (s.fpop (.value v 0) write).outcome) :
    exec i s = .next (write (s.setExceptions 0 0 s.fsr.aexc) v).advance := by
  simpa [State.fpop, on] using run

section
variable {i : Instr} {s : State} {rd : Reg}

theorem writesSingle_of_fpMoveS {v : Word32} (on : s.fpEnabled = true) (run : exec i s = (s.fpMoveS rd v).outcome) :
    WritesSingle i s (s.setExceptions 0 0 s.fsr.aexc) rd v :=
  writesSingle_of_setF32 (exec_of_fpop_quiet on run) rfl rfl

theorem writesDouble_of_fpMoveD {v : Word} (on : s.fpEnabled = true) (run : exec i s = (s.fpMoveD rd v).outcome) :
    WritesDouble i s (s.setExceptions 0 0 s.fsr.aexc) rd v :=
  writesDouble_of_setF64 (exec_of_fpop_quiet on run) rfl rfl

theorem completes_of_fpNone (on : s.fpEnabled = true) (run : exec i s = s.fpNone.outcome) :
    Completes i s (s.setExceptions 0 0 s.fsr.aexc) :=
  completes_of_exec_advance (exec_of_fpop_quiet on run) rfl rfl

/-- A conditional move of either size, from its two outcomes. -/
theorem fpMove_of_ite {α : Type} {x : α} {write : State → α → State} {holds : Bool} {Put : Prop}
    (run : exec i s = (if holds then s.fpop (.value x 0) write else s.fpNone).outcome)
    (puts : s.fpEnabled = true → exec i s = (s.fpop (.value x 0) write).outcome → Put) :
    (s.fpEnabled = false → Traps i s s 0x020) ∧ (s.fpEnabled = true →
      if holds then Put else Completes i s (s.setExceptions 0 0 s.fsr.aexc)) := by
  cases holds with
  | true =>
    have run : exec i s = (s.fpop (.value x 0) write).outcome := run
    exact ⟨traps_of_fpop_disabled run, fun on => puts on run⟩
  | false =>
    have run : exec i s = s.fpNone.outcome := run
    exact ⟨traps_of_fpop_disabled run, fun on => completes_of_fpNone on run⟩

end

end Sys2Proof.Machine

namespace Sys2Proof
open Machine

/-- Settles O43: each move is an `fpop` without exceptions, and a conditional one is `fpNone` where its condition fails. -/
theorem floatMovesChangeOnlyTheSign : Obligations.FloatMovesChangeOnlyTheSign := by
  intro s rd rs1 rs2 c rc b x y holds is moves
  have condition : holds = CondSel.holds c s := by
    rcases c with ⟨cc | cc, cond⟩ | ⟨n, cond⟩ <;> rfl
  have word {i : Instr} {opf : BitVec 9} (e : encode i = fmtOpf 0x34 rd 0 opf rs2)
      (off : s.fpEnabled = false → Traps i s s 0x020) : is i 0x34 opf :=
    ⟨hasOpf_of_encode e, rs1Field_of_encode e, off⟩
  have single {i : Instr} {opf : BitVec 9} {v : Word32} (e : encode i = fmtOpf 0x34 rd 0 opf rs2)
      (run : exec i s = (s.fpMoveS rd v).outcome) : is i 0x34 opf ∧ (s.fpEnabled = true → WritesSingle i s b rd v) :=
    ⟨word e (traps_of_fpop_disabled run), fun on => writesSingle_of_fpMoveS on run⟩
  have double {i : Instr} {opf : BitVec 9} {v : Word} (e : encode i = fmtOpf 0x34 rd 0 opf rs2)
      (run : exec i s = (s.fpMoveD rd v).outcome) : is i 0x34 opf ∧ (s.fpEnabled = true → WritesDouble i s b rd v) :=
    ⟨word e (traps_of_fpop_disabled run), fun on => writesDouble_of_fpMoveD on run⟩
  rw [condition]
  exact ⟨single rfl rfl, double rfl rfl, single rfl rfl, double rfl rfl, single rfl rfl, double rfl rfl,
    fpMove_of_ite rfl writesSingle_of_fpMoveS, fpMove_of_ite rfl writesDouble_of_fpMoveD,
    fpMove_of_ite rfl writesSingle_of_fpMoveS, fpMove_of_ite rfl writesDouble_of_fpMoveD⟩

end Sys2Proof

namespace Sys2Proof.Machine

/-! ### The order of floating-point numbers (R1100) -/

/-- The size of a number in units of the smallest subnormal number. -/
def FloatFormat.magnitude (f : FloatFormat) (x : Fields) : Nat := f.significand x * 2 ^ (x.scale - 1)

section
variable {f : FloatFormat} {x y : Fields}

theorem FloatFormat.units_eq (f : FloatFormat) (x : Fields) :
    f.units x = if x.sign then -(f.magnitude x : Int) else f.magnitude x := rfl

theorem FloatFormat.magnitude_eq (f : FloatFormat) (x : Fields) :
    f.magnitude x = if x.exp = 0 then x.frac else (x.frac + 2 ^ f.fracBits) * 2 ^ (x.exp - 1) := by
  unfold magnitude significand Fields.scale
  split <;> rename_i h
  · simp [h]
  · rw [max_eq_left (Nat.one_le_iff_ne_zero.2 h)]

theorem FloatFormat.magnitude_lt (hx : x.frac < 2 ^ f.fracBits) : f.magnitude x < 2 ^ (f.fracBits + x.exp) := by
  rw [magnitude_eq]
  split <;> rename_i h
  · simpa [h] using hx
  · obtain ⟨k, hk⟩ := Nat.exists_eq_succ_of_ne_zero h
    rw [hk, Nat.succ_sub_one, pow_add, pow_succ, ← mul_assoc, mul_comm _ 2, ← mul_assoc]
    exact Nat.mul_lt_mul_of_pos_right (by omega) (by positivity)

theorem FloatFormat.le_magnitude (h : x.exp ≠ 0) : 2 ^ (f.fracBits + x.exp - 1) ≤ f.magnitude x := by
  rw [magnitude_eq, if_neg h, Nat.add_sub_assoc (by omega), pow_add]
  exact Nat.mul_le_mul_right _ (Nat.le_add_left _ _)

/-- The exponent and fraction fields together grow with the size of the number. -/
theorem FloatFormat.magnitude_lt_of_key_lt (hx : x.frac < 2 ^ f.fracBits) (hy : y.frac < 2 ^ f.fracBits)
    (h : x.exp * 2 ^ f.fracBits + x.frac < y.exp * 2 ^ f.fracBits + y.frac) : f.magnitude x < f.magnitude y := by
  have exps : x.exp ≤ y.exp := by
    by_contra below
    have := Nat.mul_le_mul_right (2 ^ f.fracBits) (show y.exp + 1 ≤ x.exp by omega)
    rw [Nat.add_mul] at this
    omega
  rcases exps.lt_or_eq with lt | eq
  · calc f.magnitude x < 2 ^ (f.fracBits + x.exp) := magnitude_lt hx
      _ ≤ 2 ^ (f.fracBits + y.exp - 1) := Nat.pow_le_pow_right (by omega) (by omega)
      _ ≤ f.magnitude y := le_magnitude (by omega)
  · rw [eq, Nat.add_lt_add_iff_left] at h
    rw [magnitude_eq, magnitude_eq, eq]
    split
    · exact h
    · exact Nat.mul_lt_mul_of_pos_right (by omega) (by positivity)

theorem FloatFormat.key_lt_iff_magnitude_lt (hx : x.frac < 2 ^ f.fracBits) (hy : y.frac < 2 ^ f.fracBits) :
    x.exp * 2 ^ f.fracBits + x.frac < y.exp * 2 ^ f.fracBits + y.frac ↔ f.magnitude x < f.magnitude y := by
  refine ⟨magnitude_lt_of_key_lt hx hy, fun h => ?_⟩
  by_contra not
  rcases (not_lt.1 not).lt_or_eq with lt | eq
  · exact absurd (magnitude_lt_of_key_lt hy hx lt) (by omega)
  · have exps : y.exp = x.exp := by
      have := congrArg (· / 2 ^ f.fracBits) eq
      simpa [Nat.mul_add_div, mul_comm _ (2 ^ f.fracBits), Nat.div_eq_of_lt hx, Nat.div_eq_of_lt hy] using this
    have fracs : y.frac = x.frac := by rw [exps] at eq; omega
    rw [magnitude_eq, magnitude_eq, exps, fracs] at h
    exact lt_irrefl _ h

theorem FloatFormat.key_eq_zero_iff_magnitude_eq_zero :
    x.exp * 2 ^ f.fracBits + x.frac = 0 ↔ f.magnitude x = 0 := by
  rw [magnitude_eq]
  split <;> simp [*]

/-- The integers that the comparison orders numbers by are ordered as their values. -/
theorem FloatFormat.order_lt_iff (hx : x.frac < 2 ^ f.fracBits) (hy : y.frac < 2 ^ f.fracBits) :
    f.order x < f.order y ↔ f.units x < f.units y := by
  have lt := key_lt_iff_magnitude_lt hx hy
  have gt := key_lt_iff_magnitude_lt hy hx
  have zeroX := key_eq_zero_iff_magnitude_eq_zero (f := f) (x := x)
  have zeroY := key_eq_zero_iff_magnitude_eq_zero (f := f) (x := y)
  simp only [order, units_eq]
  split <;> split <;> omega

theorem FloatFormat.order_eq_iff (hx : x.frac < 2 ^ f.fracBits) (hy : y.frac < 2 ^ f.fracBits) :
    f.order x = f.order y ↔ f.units x = f.units y := by
  have lt := order_lt_iff hx hy
  have gt := order_lt_iff hy hx
  omega

end

theorem FloatFormat.unpack_frac_lt (f : FloatFormat) (b : Nat) : (f.unpack b).frac < 2 ^ f.fracBits :=
  Nat.mod_lt _ (by positivity)

/-- The condition code of two numbers by their values (R1100); NaNs are unordered. -/
def FloatFormat.code (f : FloatFormat) (x y : Fields) : BitVec 2 :=
  if f.isNan x || f.isNan y then 3 else if f.units x = f.units y then 0 else if f.units x < f.units y then 1 else 2

/-- The comparisons that are invalid: of a signalling NaN, and, with `signalling`, of any (R1100, R1102). -/
def FloatFormat.compareInvalid (f : FloatFormat) (signalling : Bool) (x y : Fields) : Bool :=
  (f.isNan x && (signalling || !decide (2 ^ (f.fracBits - 1) ≤ x.frac))) ||
    (f.isNan y && (signalling || !decide (2 ^ (f.fracBits - 1) ≤ y.frac)))

theorem FloatFormat.compare_eq {f : FloatFormat} {x y : Fields} (hx : x.frac < 2 ^ f.fracBits) (hy : y.frac < 2 ^ f.fracBits)
    (signalling : Bool) : f.compare signalling x y =
      if f.compareInvalid signalling x y then .value 3 16 else .value (f.code x y) 0 := by
  by_cases any : (f.isNan x || f.isNan y) = true
  · have flags : f.compareInvalid signalling x y = (signalling || f.isSnan x || f.isSnan y) := by
      unfold compareInvalid isSnan
      grind
    rw [compare, if_pos any, flags, code, if_pos any]
    split <;> rfl
  · have numbers : f.compareInvalid signalling x y = false := by
      unfold compareInvalid
      grind
    rw [compare, if_neg any, numbers, code, if_neg any, if_neg Bool.false_ne_true]
    simp only [order_eq_iff hx hy, order_lt_iff hx hy]
    split_ifs <;> rfl

theorem two_bits_cases : ∀ n : BitVec 2, n = 0 ∨ n = 1 ∨ n = 2 ∨ n = 3 := by decide

theorem State.setFcc_eq (s : State) (n v : BitVec 2) : s.setFcc n v = { s with fsr := { s.fsr with
    fcc0 := if n = 0 then v else s.fsr.fcc0, fcc1 := if n = 1 then v else s.fsr.fcc1,
    fcc2 := if n = 2 then v else s.fsr.fcc2, fcc3 := if n = 3 then v else s.fsr.fcc3 } } := by
  rcases two_bits_cases n with rfl | rfl | rfl | rfl <;> rfl

theorem State.setFcc_npc (s : State) (n v : BitVec 2) : (s.setFcc n v).npc = s.npc := by rw [State.setFcc_eq]

theorem State.setFcc_mem (s : State) (n v : BitVec 2) : (s.setFcc n v).mem = s.mem := by rw [State.setFcc_eq]

/-- The end of a comparison, by the condition code of its operands. -/
theorem compares_of_fpCompare {i : Instr} {s : State} {n : BitVec 2} {f : FloatFormat} {signalling : Bool} {x y : Fields}
    (run : exec i s = (s.fpCompare n (f.compare signalling x y)).outcome) (hx : x.frac < 2 ^ f.fracBits)
    (hy : y.frac < 2 ^ f.fracBits) (on : s.fpEnabled = true) :
    if f.compareInvalid signalling x y then
      if bitAt s.fsr.tem 4 then Traps i s (s.setExceptions 1 16 s.fsr.aexc) 0x021
      else Completes i s ((s.setExceptions 0 16 (s.fsr.aexc ||| 16)).setFcc n 3)
    else Completes i s ((s.setExceptions 0 0 s.fsr.aexc).setFcc n (f.code x y)) := by
  rw [State.fpCompare, FloatFormat.compare_eq hx hy] at run
  split
  · rename_i invalid
    rw [if_pos invalid] at run
    have enabled : (16#5 &&& s.fsr.tem = 0#5) ↔ bitAt s.fsr.tem 4 = false := by
      generalize s.fsr.tem = tem
      revert tem
      decide
    have reported : reportedException 16#5 s.fsr.tem = 16#5 := rfl
    cases trapped : bitAt s.fsr.tem 4 with
    | true => simpa [State.fpop, on, enabled, trapped, Traps, reported] using run
    | false =>
      refine completes_of_exec_advance ?_ (State.setFcc_npc ..) (State.setFcc_mem ..)
      simpa [State.fpop, on, enabled, trapped] using run
  · rename_i valid
    rw [if_neg valid] at run
    exact completes_of_exec_advance (exec_of_fpop_quiet on run) (State.setFcc_npc ..) (State.setFcc_mem ..)

end Sys2Proof.Machine

namespace Sys2Proof
open Machine

/-- Settles O44: the model's order of bit patterns is that of the values (`FloatFormat.order_lt_iff`), so that a comparison has
the code of the values (`FloatFormat.compare_eq`). -/
theorem floatComparisonsOrderNumbers : Obligations.FloatComparisonsOrderNumbers := by
  intro s n rs1 rs2 fields nan quiet size value code invalid put compares f g s1 s2 d1 d2
  have value_eq (f : FloatFormat) (x : Fields) : value f x = f.units x := by
    rw [FloatFormat.units_eq, FloatFormat.magnitude_eq]
  have code_eq (f : FloatFormat) (x y : Fields) : code f x y = f.code x y := by
    simp only [code, value_eq]
    rfl
  have does {i : Instr} {opf : BitVec 9} {f : FloatFormat} {signalling : Bool} {u v : Nat} {rd' : Reg}
      (word : encode i = fmtOpf 0x35 rd' rs1 opf rs2)
      (run : exec i s = (s.fpCompare n (f.compare signalling (f.unpack u) (f.unpack v))).outcome) :
      compares i opf f signalling (f.unpack u) (f.unpack v) := by
    refine ⟨hasOpf_of_encode word, traps_of_fpop_disabled run, fun on => ?_⟩
    have ends := compares_of_fpCompare run (f.unpack_frac_lt u) (f.unpack_frac_lt v) on
    rw [State.setFcc_eq, State.setFcc_eq, ← code_eq] at ends
    exact ends
  exact ⟨does rfl rfl, does rfl rfl, does rfl rfl, does rfl rfl⟩

end Sys2Proof

namespace Sys2Proof.Machine

/-! ### Kinds of operands (R1069, R1110) -/

namespace FloatFormat

section
variable {f : FloatFormat} {x : Fields}

theorem isNan_iff : f.isNan x = true ↔ x.exp = f.emax ∧ x.frac ≠ 0 := by simp [isNan]

theorem isSnan_iff : f.isSnan x = true ↔ (x.exp = f.emax ∧ x.frac ≠ 0) ∧ x.frac < 2 ^ (f.fracBits - 1) := by
  simp [isSnan, isNan]

theorem isInf_iff : f.isInf x = true ↔ x.exp = f.emax ∧ x.frac = 0 := by simp [isInf]

theorem isNan_of_isSnan (h : f.isSnan x = true) : f.isNan x = true := isNan_iff.2 (isSnan_iff.1 h).1

theorem kind_of_infinite (top : f.emax ≠ 0) (h : f.isInf x = true) :
    f.isNan x = false ∧ x.isZero = false ∧ x.isSubnormal = false := by
  obtain ⟨exp, frac⟩ := isInf_iff.1 h
  simp [isNan, Fields.isZero, Fields.isSubnormal, exp, frac, top]

theorem kind_of_zero (top : f.emax ≠ 0) (h : x.isZero = true) :
    f.isNan x = false ∧ f.isInf x = false ∧ x.isSubnormal = false := by
  have ⟨exp, frac⟩ : x.exp = 0 ∧ x.frac = 0 := by simpa [Fields.isZero] using h
  simp [isNan, isInf, Fields.isSubnormal, exp, frac, top.symm]

theorem not_small_of_exp (h : x.exp ≠ 0) : x.isZero = false ∧ x.isSubnormal = false := by
  simp [Fields.isZero, Fields.isSubnormal, h]

theorem finite_of_exp (h : x.exp ≠ f.emax) : f.isNan x = false ∧ f.isInf x = false := by
  simp [isNan, isInf, h]

end

/-! ### Operations on NaNs (R1069) -/

section
variable {f : FloatFormat} {a b : Fields}

theorem nanResult_of_isSnan_right (h : f.isSnan b = true) : f.nanResult a b = .value (f.quiet b) 16 := by simp [nanResult, h]

theorem nanResult_of_isSnan_left (hb : f.isSnan b = false) (h : f.isSnan a = true) :
    f.nanResult a b = .value (f.quiet a) 16 := by simp [nanResult, hb, h]

theorem nanResult_of_isNan_right (hb : f.isSnan b = false) (ha : f.isSnan a = false) (h : f.isNan b = true) :
    f.nanResult a b = .value b 0 := by simp [nanResult, hb, ha, h]

theorem nanResult_of_not_isNan_right (ha : f.isSnan a = false) (h : f.isNan b = false) :
    f.nanResult a b = .value a 0 := by
  have hb : f.isSnan b = false := by simp [isSnan, h]
  simp [nanResult, hb, ha, h]

/-- A NaN operand decides the result of every operation with two operands. -/
theorem op_of_nan {op : FpMode → Fields → Fields → FpResult Fields} (h : op = f.add ∨ op = f.sub ∨ op = f.mul ∨ op = f.div)
    (mode : FpMode) (nan : (f.isNan a || f.isNan b) = true) : op mode a b = f.nanResult a b := by
  have sum (c : Fields) (nan : (f.isNan a || f.isNan c) = true) : f.add mode a c = f.nanResult a c := if_pos nan
  rcases h with rfl | rfl | rfl | rfl
  · exact sum b nan
  · cases nb : f.isNan b with
    | true => rw [sub, if_pos nb, sum b nan]
    | false =>
      have na : f.isNan a = true := by simpa [nb] using nan
      have flipped : f.isNan { b with sign := !b.sign } = false := nb
      rw [sub, nb, if_neg Bool.false_ne_true, sum _ (by simp [na])]
      simp [nanResult, isSnan, nb, flipped]
  · exact if_pos nan
  · exact if_pos nan

end

/-! ### Infinities and zeros (R1110 to R1113) -/

section
variable {f : FloatFormat} (mode : FpMode) {a b : Fields}

theorem add_infinities (na : f.isNan a = false) (nb : f.isNan b = false) (ia : f.isInf a = true) (ib : f.isInf b = true) :
    f.add mode a b = if a.sign = b.sign then .value a 0 else f.invalid := by simp [add, na, nb, ia, ib]

theorem add_infinite_left (na : f.isNan a = false) (nb : f.isNan b = false) (ia : f.isInf a = true) (ib : f.isInf b = false) :
    f.add mode a b = .value a 0 := by simp [add, na, nb, ia, ib]

theorem add_infinite_right (na : f.isNan a = false) (nb : f.isNan b = false) (ia : f.isInf a = false) (ib : f.isInf b = true) :
    f.add mode a b = .value b 0 := by simp [add, na, nb, ia, ib]

theorem sub_eq_add (nb : f.isNan b = false) : f.sub mode a b = f.add mode a { b with sign := !b.sign } := by simp [sub, nb]

theorem sub_infinities (na : f.isNan a = false) (nb : f.isNan b = false) (ia : f.isInf a = true) (ib : f.isInf b = true) :
    f.sub mode a b = if a.sign = b.sign then f.invalid else .value a 0 := by
  rw [sub_eq_add mode nb, add_infinities (b := { b with sign := !b.sign }) mode na nb ia ib]
  cases a.sign <;> cases b.sign <;> rfl

theorem units_of_isZero {x : Fields} (h : x.isZero = true) : f.units x = 0 := by
  have ⟨exp, frac⟩ : x.exp = 0 ∧ x.frac = 0 := by simpa [Fields.isZero] using h
  simp [units, significand, exp, frac]

/-- A sum of two zeros: of their sign, or, of opposite ones, negative where the direction is towards -infinity (R1110). -/
theorem add_zeros (top : f.emax ≠ 0) (za : a.isZero = true) (zb : b.isZero = true) :
    f.add mode a b = .value (.zero (if a.sign = b.sign then a.sign else mode.rnd == 3)) 0 := by
  obtain ⟨na, ia, sa⟩ := kind_of_zero top za
  obtain ⟨nb, ib, sb⟩ := kind_of_zero top zb
  simp [add, addFinite, na, nb, ia, ib, sa, sb, units_of_isZero za, units_of_isZero zb]

section
variable (na : f.isNan a = false) (nb : f.isNan b = false)
include na nb

theorem mul_infinite_zero (h : (a.isZero || b.isZero) = true) (i : (f.isInf a || f.isInf b) = true) :
    f.mul mode a b = f.invalid := by simp only [mul, na, nb, h, i, Bool.or_false, if_true, Bool.false_eq_true, if_false]

theorem mul_infinite (ha : a.isZero = false ∧ a.isSubnormal = false) (hb : b.isZero = false ∧ b.isSubnormal = false)
    (i : (f.isInf a || f.isInf b) = true) : f.mul mode a b = .value (f.inf (a.sign != b.sign)) 0 := by
  simp [mul, na, nb, ha, hb, i]

theorem div_infinities (ha : a.isSubnormal = false) (hb : b.isSubnormal = false) (ia : f.isInf a = true)
    (ib : f.isInf b = true) : f.div mode a b = f.invalid := by simp [div, na, nb, ha, hb, ia, ib]

theorem div_infinite_left (ia : f.isInf a = true) (ib : f.isInf b = false) :
    f.div mode a b = .value (f.inf (a.sign != b.sign)) 0 := by
  unfold div divFlushed
  simp [na, nb, ia, ib]

theorem div_infinite_right (ia : f.isInf a = false) (ib : f.isInf b = true) :
    f.div mode a b = .value (.zero (a.sign != b.sign)) 0 := by
  unfold div divFlushed
  simp [na, nb, ia, ib]

theorem div_zeros (sa : a.isSubnormal = false) (sb : b.isSubnormal = false) (ia : f.isInf a = false)
    (ib : f.isInf b = false) (za : a.isZero = true) (zb : b.isZero = true) : f.div mode a b = f.invalid := by
  simp [div, na, nb, sa, sb, ia, ib, za, zb]

theorem div_by_zero (sa : a.isSubnormal = false) (sb : b.isSubnormal = false) (ia : f.isInf a = false)
    (ib : f.isInf b = false) (za : a.isZero = false) (zb : b.isZero = true) :
    f.div mode a b = .value (f.inf (a.sign != b.sign)) 2 := by
  simp [div, na, nb, sa, sb, ia, ib, za, zb]

end

end

end FloatFormat

end Sys2Proof.Machine

namespace Sys2Proof
open Machine FloatFormat

/-- Settles O42: a NaN decides every operation (`FloatFormat.op_of_nan`), and the kinds of the other operands select the rows of the
tables. -/
theorem specialOperandsGiveTheirTableResults : Obligations.SpecialOperandsGiveTheirTableResults := by
  intro f mode a b format nan signalling infinite zero quiet inf none invalid sign
  have top : f.emax ≠ 0 := by rcases format with rfl | rfl <;> decide
  have snan {x : Fields} : signalling x ↔ f.isSnan x = true := isSnan_iff.symm
  have isNan {x : Fields} : nan x ↔ f.isNan x = true := isNan_iff.symm
  have isInf {x : Fields} : infinite x ↔ f.isInf x = true := isInf_iff.symm
  have isZero {x : Fields} : zero x ↔ x.isZero = true := by simp [zero, Fields.isZero]
  simp only [snan, isNan, isInf, isZero, Bool.not_eq_true]
  refine ⟨fun op hop => ⟨fun sb => ?_, fun sb sa => ?_, fun nb sb sa => ?_, fun nb na sa => ?_⟩,
    fun na nb => ⟨?_, ?_, ?_, ?_, ?_, ?_, ?_, ?_, ?_, ?_, ?_, ?_, ?_, ?_⟩, ?_, ?_, ?_, ?_, ?_⟩
  · rw [op_of_nan hop mode (by simp [isNan_of_isSnan sb]), nanResult_of_isSnan_right sb]
    rfl
  · rw [op_of_nan hop mode (by simp [isNan_of_isSnan sa]), nanResult_of_isSnan_left sb sa]
    rfl
  · rw [op_of_nan hop mode (by simp [nb]), nanResult_of_isNan_right sb sa nb]
  · rw [op_of_nan hop mode (by simp [na]), nanResult_of_not_isNan_right sa nb]
  · exact add_infinities mode na nb
  · exact sub_infinities mode na nb
  · exact fun ia ib => ⟨add_infinite_left mode na nb ia ib,
      (sub_eq_add mode nb).trans (add_infinite_left mode na nb ia ib)⟩
  · exact fun ia ib => ⟨add_infinite_right mode na nb ia ib,
      (sub_eq_add mode nb).trans (add_infinite_right mode na nb ia ib)⟩
  · exact fun ia zb => mul_infinite_zero mode na nb (by simp [zb]) (by simp [ia])
  · exact fun za ib => mul_infinite_zero mode na nb (by simp [za]) (by simp [ib])
  · exact fun ia eb => mul_infinite mode na nb (kind_of_infinite top ia).2
      (not_small_of_exp eb) (by simp [ia])
  · exact fun ea ib => mul_infinite mode na nb (not_small_of_exp ea)
      (kind_of_infinite top ib).2 (by simp [ib])
  · intro ia ib
    obtain ⟨-, -, sa⟩ := kind_of_infinite top ia
    obtain ⟨-, -, sb⟩ := kind_of_infinite top ib
    exact div_infinities mode na nb sa sb ia ib
  · exact div_infinite_left mode na nb
  · exact div_infinite_right mode na nb
  · intro za zb
    obtain ⟨-, ia, sa⟩ := kind_of_zero top za
    obtain ⟨-, ib, sb⟩ := kind_of_zero top zb
    exact div_zeros mode na nb sa sb ia ib za zb
  · intro ea below zb
    obtain ⟨za, sa⟩ := not_small_of_exp ea
    obtain ⟨-, ib, sb⟩ := kind_of_zero top zb
    exact div_by_zero mode na nb sa sb (finite_of_exp below).2 ib za zb
  · exact add_zeros mode top
  · intro sb
    rw [FloatFormat.sqrt, if_pos (isNan_of_isSnan sb), nanResult_of_isSnan_right sb]
    rfl
  · intro nb sb
    rw [FloatFormat.sqrt, if_pos nb, nanResult_of_isNan_right sb sb nb]
  · intro ib
    obtain ⟨nb, zb, sb⟩ := kind_of_infinite top ib
    simp only [FloatFormat.sqrt, nb, zb, sb, ib, if_true, if_false, Bool.false_eq_true]
    rfl
  · intro zb
    rw [FloatFormat.sqrt, (kind_of_zero top zb).1, if_neg Bool.false_ne_true, if_pos zb]
  · intro eb below negative
    obtain ⟨zb, sb⟩ := not_small_of_exp eb
    rw [FloatFormat.sqrt, (finite_of_exp below).1, zb, sb, negative]
    rfl

end Sys2Proof

namespace Sys2Proof.Machine

/-! ### Rounding to one of two neighbours (R1061) -/

/-- A number of the given sign and size. -/
def signed (sign : Bool) (v : ℝ) : ℝ := if sign then -v else v

@[simp] theorem signed_true (v : ℝ) : signed true v = -v := rfl
@[simp] theorem signed_false (v : ℝ) : signed false v = v := rfl

theorem signed_mul_signed (s t : Bool) (v w : ℝ) : signed s v * signed t w = signed (s != t) (v * w) := by
  cases s <;> cases t <;> simp

theorem signed_div_signed (s t : Bool) (v w : ℝ) : signed s v / signed t w = signed (s != t) (v / w) := by
  cases s <;> cases t <;> simp [neg_div, div_neg]

theorem signed_mul (s : Bool) (v w : ℝ) : signed s v * w = signed s (v * w) := by cases s <;> simp

theorem abs_signed (s : Bool) (v : ℝ) : |signed s v| = |v| := by cases s <;> simp

theorem signed_natAbs (i : ℤ) : signed (decide (i < 0)) (i.natAbs : ℝ) = i := by
  rw [Nat.cast_natAbs]
  by_cases negative : i < 0
  · simp [negative, abs_of_neg negative]
  · simp [negative, abs_of_nonneg (not_lt.1 negative)]

/-- `v` is `r` rounded in the direction `rnd`, as against `w`; `even` says which of two nearest numbers is taken (R1061). -/
structure RoundsAgainst (rnd : BitVec 2) (even : Prop) (v r w : ℝ) : Prop where
  nearest : rnd = 0 → |v - r| ≤ |w - r| ∧ (|v - r| = |w - r| → v = w ∨ even)
  toZero : rnd = 1 → |v| ≤ |r| ∧ 0 ≤ v * r ∧ (|w| ≤ |r| → |w| ≤ |v|)
  up : rnd = 2 → r ≤ v ∧ (r ≤ w → v ≤ w)
  down : rnd = 3 → v ≤ r ∧ (w ≤ r → w ≤ v)

theorem roundsAgainst_refl (rnd : BitVec 2) (even : Prop) (v w : ℝ) : RoundsAgainst rnd even v v w where
  nearest _ := by
    rw [sub_self, abs_zero]
    exact ⟨abs_nonneg _, fun h => .inl (sub_eq_zero.1 (abs_eq_zero.1 h.symm)).symm⟩
  toZero _ := ⟨le_rfl, mul_self_nonneg v, id⟩
  up _ := ⟨le_rfl, id⟩
  down _ := ⟨le_rfl, id⟩

/-- The size `m` of a number of sign `sign` lies between `k` and `k + 1` units `u`, and `up` says which of these rounding takes. -/
structure RoundsUnits (rnd : BitVec 2) (sign : Bool) (k : ℕ) (u m : ℝ) (up : Bool) : Prop where
  low : k * u ≤ m
  high : m < (k + 1) * u
  nearest : rnd = 0 → (up = true ↔ (k + 1 / 2) * u < m ∨ m = (k + 1 / 2) * u ∧ k % 2 = 1)
  toZero : rnd = 1 → up = false
  above : rnd = 2 → (up = true ↔ sign = false ∧ m ≠ k * u)
  below : rnd = 3 → (up = true ↔ sign = true ∧ m ≠ k * u)

namespace RoundsUnits

variable {rnd : BitVec 2} {sign : Bool} {k : ℕ} {u m w : ℝ} {up : Bool}

/-- Of two neighbours the nearer is taken, and the even one of two that are equally near. -/
theorem nearest_of_gap (h : RoundsUnits rnd sign k u m up) (dir : rnd = 0) (gap : w ≤ k * u ∨ (k + 1) * u ≤ w) :
    let v := ((if up then k + 1 else k : ℕ) : ℝ) * u
    |v - m| ≤ |w - m| ∧ (|v - m| = |w - m| → v = w ∨ (if up then k + 1 else k) % 2 = 0) := by
  have decides := h.nearest dir
  have low := h.low
  have high := h.high
  cases up with
  | true =>
    have far : (k + 1 / 2) * u ≤ m := by rcases decides.1 rfl with lt | ⟨eq, -⟩ <;> linarith
    simp only [if_true, Nat.cast_add, Nat.cast_one]
    rw [abs_of_nonneg (by linarith)]
    rcases gap with below | above
    · rw [abs_of_nonpos (by linarith)]
      refine ⟨by linarith, fun tie => .inr ?_⟩
      rcases decides.1 rfl with lt | ⟨-, odd⟩
      · linarith
      · omega
    · rw [abs_of_nonneg (by linarith)]
      exact ⟨by linarith, fun tie => .inl (by linarith)⟩
  | false =>
    have near : ¬(_ ∨ _) := mt decides.2 Bool.false_ne_true
    have half : m ≤ (k + 1 / 2) * u := not_lt.1 fun lt => near (.inl lt)
    simp only [Bool.false_eq_true, if_false]
    rw [abs_of_nonpos (by linarith)]
    rcases gap with below | above
    · rw [abs_of_nonpos (by linarith)]
      exact ⟨by linarith, fun tie => .inl (by linarith)⟩
    · rw [abs_of_nonneg (by linarith)]
      refine ⟨by linarith, fun tie => .inr ?_⟩
      have even : ¬k % 2 = 1 := fun odd => near (.inr ⟨by linarith, odd⟩)
      omega

/-- Away from the direction of rounding the number below is taken, which is the nearest one within `m`. -/
theorem low_of_gap (h : RoundsUnits rnd sign k u m up) (gap : w ≤ k * u ∨ (k + 1) * u ≤ w) (within : w ≤ m) : w ≤ k * u :=
  gap.resolve_right fun above => absurd (above.trans within) (not_le.2 h.high)

/-- In the direction of rounding the least number that is not below `m` is taken. -/
theorem high_of_gap (h : RoundsUnits rnd sign k u m up) (rises : up = true ↔ m ≠ k * u) (gap : w ≤ k * u ∨ (k + 1) * u ≤ w) :
    let v := ((if up then k + 1 else k : ℕ) : ℝ) * u
    m ≤ v ∧ (m ≤ w → v ≤ w) := by
  have low := h.low
  have high := h.high
  cases up with
  | true =>
    have strict : k * u < m := lt_of_le_of_ne low (rises.1 rfl).symm
    simp only [if_true, Nat.cast_add, Nat.cast_one]
    exact ⟨high.le, fun within => gap.resolve_left fun below => by linarith⟩
  | false =>
    have exact : m = k * u := not_not.1 (mt rises.2 Bool.false_ne_true)
    simp only [Bool.false_eq_true, if_false]
    exact ⟨exact.le, fun within => exact ▸ within⟩

/-- What is taken is the rounding as against every number that is not strictly between the neighbours. -/
theorem roundsAgainst (h : RoundsUnits rnd sign k u m up) (pos : 0 ≤ k * u) (gap : |w| ≤ k * u ∨ (k + 1) * u ≤ |w|) :
    RoundsAgainst rnd ((if up then k + 1 else k) % 2 = 0) (signed sign (((if up then k + 1 else k : ℕ) : ℝ) * u))
      (signed sign m) w := by
  have low := h.low
  have high := h.high
  have gap_of {x : ℝ} (abs : |x| = |w|) : x ≤ k * u ∨ (k + 1) * u ≤ x := by
    rw [← abs] at gap
    rcases gap with below | above
    · exact .inl (le_of_abs_le below)
    · rcases le_abs.1 above with right | left
      · exact .inr right
      · exact .inl (by linarith)
  have right := gap_of rfl
  have left := gap_of (abs_neg w)
  refine ⟨fun dir => ?_, fun dir => ?_, fun dir => ?_, fun dir => ?_⟩
  · cases sign with
    | false => exact h.nearest_of_gap dir right
    | true =>
      have near := h.nearest_of_gap dir left
      simp only [signed_true]
      rw [neg_sub_neg, abs_sub_comm, show w - -m = -(-w - m) by ring, abs_neg, neg_eq_iff_eq_neg]
      exact near
  · obtain rfl := h.toZero dir
    simp only [abs_signed, signed_mul_signed, bne_self_eq_false, signed_false, Bool.false_eq_true, if_false]
    rw [abs_of_nonneg pos, abs_of_nonneg (pos.trans low)]
    exact ⟨low, mul_nonneg pos (pos.trans low), h.low_of_gap (gap_of (abs_abs w))⟩
  · cases sign with
    | false => exact h.high_of_gap ((h.above dir).trans (by simp)) right
    | true =>
      obtain rfl : up = false := by simpa using h.above dir
      simp only [signed_true, Bool.false_eq_true, if_false]
      refine ⟨by linarith, fun within => ?_⟩
      have := h.low_of_gap left (by linarith)
      linarith
  · cases sign with
    | true =>
      have rises := h.high_of_gap ((h.below dir).trans (by simp)) left
      simp only [signed_true]
      exact ⟨by linarith [rises.1], fun within => by linarith [rises.2 (by linarith)]⟩
    | false =>
      obtain rfl : up = false := by simpa using h.below dir
      simp only [signed_false, Bool.false_eq_true, if_false]
      exact ⟨low, h.low_of_gap right⟩

/-- Rounding changes a number that is not the lower neighbour, and no other. -/
theorem eq_iff (h : RoundsUnits rnd sign k u m up) :
    ((if up then k + 1 else k : ℕ) : ℝ) * u = m ↔ m = k * u := by
  have low := h.low
  have high := h.high
  cases up with
  | false => exact eq_comm
  | true =>
    have strict : m ≠ k * u := by
      rcases two_bits_cases rnd with dir | dir | dir | dir
      · rcases (h.nearest dir).1 rfl with lt | ⟨eq, -⟩ <;> intro exact <;> linarith
      · exact nomatch h.toZero dir
      · exact ((h.above dir).1 rfl).2
      · exact ((h.below dir).1 rfl).2
    refine iff_of_false (fun eq => ?_) strict
    simp only [if_true, Nat.cast_add, Nat.cast_one] at eq
    linarith

end RoundsUnits

/-- Both neighbours scaled. -/
theorem RoundsUnits.scale {rnd : BitVec 2} {sign : Bool} {k : ℕ} {u m c : ℝ} {up : Bool} (h : RoundsUnits rnd sign k u m up)
    (pos : 0 < c) : RoundsUnits rnd sign k (u * c) (m * c) up where
  low := by rw [← mul_assoc]; exact mul_le_mul_of_nonneg_right h.low pos.le
  high := by rw [← mul_assoc]; exact mul_lt_mul_of_pos_right h.high pos
  nearest := by
    rw [← mul_assoc, mul_lt_mul_iff_left₀ pos, mul_left_inj' pos.ne']
    exact h.nearest
  toZero := h.toZero
  above := by
    rw [← mul_assoc, Ne, mul_left_inj' pos.ne']
    exact h.above
  below := by
    rw [← mul_assoc, Ne, mul_left_inj' pos.ne']
    exact h.below

end Sys2Proof.Machine

namespace Sys2Proof.Machine

/-! ### The model's rounding (R1061) -/

namespace FloatFormat

/-- How many bits of `m` rounding cuts off. -/
def cut (f : FloatFormat) (m : ℕ) : ℕ := Nat.log2 m + 1 - (f.fracBits + 1)

/-- How many zeros rounding appends to `m`. -/
def pad (f : FloatFormat) (m : ℕ) : ℕ := f.fracBits + 1 - (Nat.log2 m + 1)

/-- The significand of `m` without the bits that are cut off. -/
def kept (f : FloatFormat) (m : ℕ) : ℕ := m / 2 ^ f.cut m * 2 ^ f.pad m

/-- The biased exponent of `m * 2 ^ e` before rounding. -/
def unrounded (f : FloatFormat) (m : ℕ) (e : ℤ) : ℤ := e + (Nat.log2 m + 1 : ℕ) - 1 + f.bias

/-- `t` is `m`, or it is between the even numbers next to an odd `m` with enough bits to be rounded as `m` is. -/
def Sticky (f : FloatFormat) (m : ℕ) (t : ℝ) : Prop :=
  t = m ∨ (m % 2 = 1 ∧ |t - m| < 1 ∧ 2 ^ (f.fracBits + 2) ≤ m)

variable {f : FloatFormat} {m : ℕ} {t : ℝ}

theorem cut_eq_zero_or_pad_eq_zero (f : FloatFormat) (m : ℕ) : f.cut m = 0 ∨ f.pad m = 0 := by
  unfold cut pad
  omega

/-- The kept significand has all its bits. -/
theorem kept_bounds (f : FloatFormat) (h : m ≠ 0) : 2 ^ f.fracBits ≤ f.kept m ∧ f.kept m < 2 ^ (f.fracBits + 1) := by
  have low := Nat.log2_self_le h
  have high := Nat.lt_log2_self (n := m)
  unfold kept
  rcases f.cut_eq_zero_or_pad_eq_zero m with cut | pad
  · have len : f.fracBits = Nat.log2 m + f.pad m := by unfold FloatFormat.cut at cut; unfold FloatFormat.pad; omega
    rw [cut, pow_zero, Nat.div_one, len, Nat.add_right_comm, pow_add, pow_add]
    exact ⟨Nat.mul_le_mul_right _ low, Nat.mul_lt_mul_of_pos_right high (by positivity)⟩
  · have len : Nat.log2 m = f.fracBits + f.cut m := by unfold FloatFormat.pad at pad; unfold FloatFormat.cut; omega
    rw [pad, pow_zero, Nat.mul_one]
    rw [len, pow_add] at low
    rw [len, Nat.add_right_comm, pow_add] at high
    exact ⟨(Nat.le_div_iff_mul_le (by positivity)).2 low, (Nat.div_lt_iff_lt_mul (by positivity)).2 high⟩

/-- Rounding, with the choice that the direction makes between the two neighbours. -/
theorem round_eq (f : FloatFormat) (rnd : BitVec 2) (sign : Bool) (m : ℕ) (e : ℤ) :
    let rest := m % 2 ^ f.cut m
    ∃ up : Bool,
      (let q := if up then f.kept m + 1 else f.kept m
       let carry := q == 2 ^ (f.fracBits + 1)
       f.round rnd sign m e = ⟨if carry then 2 ^ f.fracBits else q,
         if carry then f.unrounded m e + 1 else f.unrounded m e, f.unrounded m e, rest != 0⟩) ∧
      (rnd = 0 → (up = true ↔ 2 ^ f.cut m < 2 * rest ∨ 2 * rest = 2 ^ f.cut m ∧ f.kept m % 2 = 1)) ∧
      (rnd = 1 → up = false) ∧
      (rnd = 2 → (up = true ↔ sign = false ∧ rest ≠ 0)) ∧
      (rnd = 3 → (up = true ↔ sign = true ∧ rest ≠ 0)) := by
  intro rest
  refine ⟨_, rfl, ?_, ?_, ?_, ?_⟩ <;> rintro rfl
  · simp [rest, cut, kept, pad]
  · rfl
  · simp [rest, cut]
  · simp [rest, cut]

/-- A number with a bit below the last two that are kept has at least two bits cut off. -/
theorem two_le_cut (h : 2 ^ (f.fracBits + 2) ≤ m) : 2 ≤ f.cut m := by
  have nonzero : m ≠ 0 := by
    rintro rfl
    simp at h
  have := (Nat.le_log2 nonzero).2 h
  unfold cut
  omega

/-- Where a number that stands for `t` lies among the multiples of `2 ^ cut`. -/
theorem rest_of_sticky (h : f.Sticky m t) :
    let k : ℝ := (m / 2 ^ f.cut m : ℕ)
    let s : ℝ := 2 ^ f.cut m
    let rest := m % 2 ^ f.cut m
    k * s ≤ t ∧ t < (k + 1) * s ∧ (rest = 0 ↔ t = k * s) ∧ (2 ^ f.cut m < 2 * rest ↔ (k + 1 / 2) * s < t) ∧
      (2 * rest = 2 ^ f.cut m ↔ t = (k + 1 / 2) * s) := by
  intro k s rest
  have unit : s = (2 ^ f.cut m : ℕ) := by simp [s]
  have division : 2 ^ f.cut m * (m / 2 ^ f.cut m) + rest = m := Nat.div_add_mod m (2 ^ f.cut m)
  have parts : (m : ℝ) = k * s + rest := by
    rw [mul_comm]
    exact (congrArg (Nat.cast : ℕ → ℝ) division.symm).trans (by push_cast; rfl)
  have last : (rest : ℝ) + 1 ≤ s := by
    rw [unit]
    exact_mod_cast (Nat.mod_lt _ (by positivity) : rest < 2 ^ f.cut m)
  have half : (2 ^ f.cut m < 2 * rest) ↔ s < 2 * (rest : ℝ) := by
    rw [unit]
    exact_mod_cast Iff.rfl
  have tie : (2 * rest = 2 ^ f.cut m) ↔ 2 * (rest : ℝ) = s := by
    rw [unit]
    exact_mod_cast Iff.rfl
  rcases h with rfl | ⟨odd, close, bits⟩
  · have zero : rest = 0 ↔ (rest : ℝ) = 0 := Nat.cast_eq_zero.symm
    have nonneg : (0 : ℝ) ≤ rest := Nat.cast_nonneg _
    rw [half, tie, zero, parts]
    refine ⟨by linarith, by linarith, ⟨fun h => by linarith, fun h => by linarith⟩,
      ⟨fun h => by linarith, fun h => by linarith⟩, ⟨fun h => by linarith, fun h => by linarith⟩⟩
  · obtain ⟨above, below⟩ := abs_lt.1 close
    -- all multiples of half the unit are even, so that `m` and `t` are on the same side of each
    obtain ⟨c, hc⟩ : ∃ c, 2 ^ f.cut m = 4 * c := by
      obtain ⟨j, hj⟩ := Nat.exists_eq_add_of_le (two_le_cut bits)
      exact ⟨2 ^ j, by rw [hj, pow_add]; norm_num⟩
    have oddRest : rest % 2 = 1 := by
      rw [hc, mul_assoc] at division
      omega
    have quarter : s = 4 * c := by
      rw [unit, hc]
      push_cast
      rfl
    have one : (1 : ℝ) ≤ rest := by exact_mod_cast (by omega : 1 ≤ rest)
    refine ⟨by linarith, by linarith, ⟨fun h => by omega, fun h => by linarith⟩, ?_, ?_⟩
    · rcases Nat.lt_or_ge rest (2 * c) with lt | ge
      · have : (rest : ℝ) + 1 ≤ 2 * c := by exact_mod_cast lt
        exact ⟨fun h => by omega, fun h => by linarith⟩
      · have : (2 * c : ℝ) + 1 ≤ rest := by exact_mod_cast (by omega : 2 * c + 1 ≤ rest)
        exact ⟨fun h => by linarith, fun h => by omega⟩
    · rcases Nat.lt_or_ge rest (2 * c) with lt | ge
      · have : (rest : ℝ) + 1 ≤ 2 * c := by exact_mod_cast lt
        exact ⟨fun h => by omega, fun h => by linarith⟩
      · have : (2 * c : ℝ) + 1 ≤ rest := by exact_mod_cast (by omega : 2 * c + 1 ≤ rest)
        exact ⟨fun h => by omega, fun h => by linarith⟩

/-- Rounding chooses between the neighbours of the number that `m` stands for. -/
theorem roundsUnits_of_sticky (h : f.Sticky m t) {rnd : BitVec 2} {sign up : Bool}
    (nearest : rnd = 0 → (up = true ↔ 2 ^ f.cut m < 2 * (m % 2 ^ f.cut m) ∨
      2 * (m % 2 ^ f.cut m) = 2 ^ f.cut m ∧ f.kept m % 2 = 1))
    (toZero : rnd = 1 → up = false) (above : rnd = 2 → (up = true ↔ sign = false ∧ m % 2 ^ f.cut m ≠ 0))
    (below : rnd = 3 → (up = true ↔ sign = true ∧ m % 2 ^ f.cut m ≠ 0)) :
    RoundsUnits rnd sign (f.kept m) (2 ^ f.cut m / 2 ^ f.pad m) t up ∧
      (m % 2 ^ f.cut m = 0 ↔ t = f.kept m * (2 ^ f.cut m / 2 ^ f.pad m)) := by
  obtain ⟨low, high, exact, half, tie⟩ := rest_of_sticky h
  rcases f.cut_eq_zero_or_pad_eq_zero m with cut | pad
  · have rest : m % 2 ^ f.cut m = 0 := by rw [cut, pow_zero, Nat.mod_one]
    have pos : (0 : ℝ) < 2 ^ f.pad m := by positivity
    have whole : t = f.kept m * (2 ^ f.cut m / 2 ^ f.pad m) := by
      rw [exact.1 rest, kept]
      push_cast
      field_simp
    have unit : (0 : ℝ) < 2 ^ f.cut m / 2 ^ f.pad m := by positivity
    refine ⟨⟨whole.ge, by linarith, fun dir => ?_, toZero, fun dir => ?_, fun dir => ?_⟩, iff_of_true rest whole⟩
    · have stays : ¬up = true := by simp [nearest dir, cut, Nat.mod_one]
      refine iff_of_false stays ?_
      rintro (lt | ⟨eq, -⟩) <;> linarith
    · simp [above dir, rest, whole]
    · simp [below dir, rest, whole]
  · have kept : f.kept m = m / 2 ^ f.cut m := by rw [FloatFormat.kept, pad, pow_zero, Nat.mul_one]
    rw [pad, pow_zero, div_one, kept]
    rw [kept, half, tie] at nearest
    rw [Ne, exact] at above below
    exact ⟨⟨low, high, nearest, toZero, above, below⟩, exact⟩

/-- The size that rounding brings into the format. -/
theorem unit_eq (f : FloatFormat) (m : ℕ) (e : ℤ) :
    (2 ^ f.cut m / 2 ^ f.pad m : ℝ) * 2 ^ (e + f.fracBits + f.bias - 1) = 2 ^ (f.unrounded m e - 1) := by
  have two : (2 : ℝ) ≠ 0 := two_ne_zero
  rw [← zpow_natCast, ← zpow_natCast, ← zpow_sub₀ two, ← zpow_add₀ two]
  congr 1
  unfold cut pad unrounded
  omega

/-- What rounding does: it chooses between two neighbours with `fracBits + 1` bits, and says whether it changed the number. -/
theorem round_spec (nonzero : m ≠ 0) (h : f.Sticky m t) (rnd : BitVec 2) (sign : Bool) (e : ℤ) :
    let r := f.round rnd sign m e
    let u : ℝ := 2 ^ (r.unrounded - 1)
    let size := t * 2 ^ (e + f.fracBits + f.bias - 1)
    ∃ (k : ℕ) (up : Bool), 2 ^ f.fracBits ≤ k ∧ k < 2 ^ (f.fracBits + 1) ∧ RoundsUnits rnd sign k u size up ∧
      (r.inexact = true ↔ size ≠ k * u) ∧
      let q := if up then k + 1 else k
      (q < 2 ^ (f.fracBits + 1) ∧ r.significand = q ∧ r.ef = r.unrounded ∨
        q = 2 ^ (f.fracBits + 1) ∧ r.significand = 2 ^ f.fracBits ∧ r.ef = r.unrounded + 1) := by
  obtain ⟨up, parts, nearest, toZero, above, below⟩ := f.round_eq rnd sign m e
  obtain ⟨units, exact⟩ := roundsUnits_of_sticky h nearest toZero above below
  obtain ⟨low, high⟩ := f.kept_bounds nonzero
  have pos : (0 : ℝ) < 2 ^ (e + f.fracBits + f.bias - 1) := by positivity
  refine ⟨f.kept m, up, low, high, ?_, ?_, ?_⟩
  · have scaled := units.scale pos
    rw [unit_eq] at scaled
    rwa [parts]
  · rw [parts, ← f.unit_eq m e, ← mul_assoc, Ne, mul_left_inj' pos.ne', ← exact]
    simp
  · rw [parts]
    by_cases carry : (if up then f.kept m + 1 else f.kept m) = 2 ^ (f.fracBits + 1)
    · exact .inr ⟨carry, by simp [carry], by simp [carry]⟩
    · exact .inl ⟨by cases up <;> simp at carry ⊢ <;> omega, by simp [carry], by simp [carry]⟩

end FloatFormat

end Sys2Proof.Machine

namespace Sys2Proof.Machine

/-! ### Results of a format (R1060, R1061) -/

namespace FloatFormat

/-- A finite number of the format. -/
def Finite (f : FloatFormat) (x : Fields) : Prop := x.exp < f.emax ∧ x.frac < 2 ^ f.fracBits

/-- `x` with the exceptions `e` is `r` rounded among the finite numbers of the format; values are in units of its smallest
subnormal number. -/
structure Delivers (f : FloatFormat) (rnd : BitVec 2) (x : Fields) (e : BitVec 5) (r : ℝ) : Prop where
  finite : f.Finite x
  rounds : ∀ y, f.Finite y → RoundsAgainst rnd (x.frac % 2 = 0) (f.units x) r (f.units y)
  inexact : bitAt e 0 = true ↔ (f.units x : ℝ) ≠ r

section
variable {f : FloatFormat} {x y : Fields} {r : ℝ} {rnd : BitVec 2} {sign : Bool}

theorem units_cast (f : FloatFormat) (x : Fields) : (f.units x : ℝ) = signed x.sign (f.magnitude x) := by
  rw [units_eq]
  cases x.sign <;> simp

theorem abs_units (f : FloatFormat) (x : Fields) : |(f.units x : ℝ)| = f.magnitude x := by
  rw [units_cast, abs_signed, Nat.abs_cast]

theorem magnitude_cast (f : FloatFormat) (x : Fields) :
    (f.magnitude x : ℝ) = f.significand x * 2 ^ ((x.scale : ℤ) - 1) := by
  have scale : ((x.scale - 1 : ℕ) : ℤ) = x.scale - 1 := Nat.cast_sub (le_max_right _ _)
  rw [magnitude, ← scale, zpow_natCast]
  push_cast
  rfl

/-- An exact result. -/
theorem delivers_exact (finite : f.Finite x) (rnd : BitVec 2) : f.Delivers rnd x 0 (f.units x) where
  finite := finite
  rounds _ _ := roundsAgainst_refl ..
  inexact := by simp [bitAt]

/-- No finite number is strictly between two neighbours with all their bits. -/
theorem magnitude_gap (h : y.frac < 2 ^ f.fracBits) {k : ℕ} (bits : 2 ^ f.fracBits ≤ k) (j : ℕ) :
    f.magnitude y ≤ k * 2 ^ j ∨ (k + 1) * 2 ^ j ≤ f.magnitude y := by
  have significand_lt : f.significand y < 2 ^ f.fracBits * 2 := by
    unfold significand
    split <;> omega
  unfold magnitude
  rcases Nat.lt_or_ge (y.scale - 1) j with lt | ge
  · left
    calc f.significand y * 2 ^ (y.scale - 1)
        ≤ 2 ^ f.fracBits * 2 * 2 ^ (y.scale - 1) := Nat.mul_le_mul_right _ significand_lt.le
      _ = 2 ^ f.fracBits * 2 ^ (y.scale - 1 + 1) := by rw [pow_succ]; ring
      _ ≤ k * 2 ^ j := Nat.mul_le_mul bits (Nat.pow_le_pow_right two_pos lt)
  · obtain ⟨c, hc⟩ := Nat.exists_eq_add_of_le ge
    rw [hc, Nat.add_comm, pow_add, ← mul_assoc]
    exact (Nat.lt_or_ge k (f.significand y * 2 ^ c)).symm.imp (Nat.mul_le_mul_right _) (Nat.mul_le_mul_right _)

/-- The same for neighbours half a unit apart, of which the greater is the smallest normal number (TABLE B-12). -/
theorem units_gap (h : y.frac < 2 ^ f.fracBits) {k : ℕ} (bits : 2 ^ f.fracBits ≤ k) {b : ℤ}
    (place : 1 ≤ b ∨ b = 0 ∧ k + 1 = 2 ^ (f.fracBits + 1)) :
    |(f.units y : ℝ)| ≤ k * 2 ^ (b - 1) ∨ ((k : ℝ) + 1) * 2 ^ (b - 1) ≤ |(f.units y : ℝ)| := by
  rw [abs_units]
  rcases place with normal | ⟨rfl, top⟩
  · obtain ⟨j, hj⟩ := Int.eq_ofNat_of_zero_le (by omega : 0 ≤ b - 1)
    rw [hj]
    exact_mod_cast magnitude_gap h bits j
  · have top : (k : ℝ) + 1 = 2 ^ f.fracBits * 2 := by exact_mod_cast top.trans (pow_succ ..)
    rw [show ((2 : ℝ) ^ ((0 : ℤ) - 1)) = 1 / 2 by norm_num]
    rcases Nat.lt_or_ge (f.magnitude y) (2 ^ f.fracBits) with lt | ge
    · left
      have : (f.magnitude y : ℝ) + 1 ≤ 2 ^ f.fracBits := by exact_mod_cast lt
      linarith
    · right
      have : (2 : ℝ) ^ f.fracBits ≤ f.magnitude y := by exact_mod_cast ge
      linarith

/-- A rounded number as a result of the format. -/
def fieldsOf (f : FloatFormat) (sign : Bool) (r : Rounded) : Fields := ⟨sign, r.ef.toNat, r.significand - 2 ^ f.fracBits⟩

theorem units_fieldsOf {r : Rounded} (normal : 1 ≤ r.ef) (bits : 2 ^ f.fracBits ≤ r.significand) :
    (f.units (f.fieldsOf sign r) : ℝ) = signed sign (r.significand * 2 ^ (r.ef - 1)) := by
  have exp : r.ef.toNat ≠ 0 := by omega
  have scale : ((f.fieldsOf sign r).scale : ℤ) - 1 = r.ef - 1 := by
    simp only [fieldsOf, Fields.scale]
    omega
  have significand : f.significand (f.fieldsOf sign r) = r.significand := by
    simp only [fieldsOf, FloatFormat.significand, exp, if_false]
    omega
  rw [units_cast, magnitude_cast, scale, significand]
  rfl

/-- A rounded number that is in the range of the format is the right result. -/
theorem delivers_round (format : 1 ≤ f.fracBits) {m : ℕ} {t : ℝ} (nonzero : m ≠ 0) (sticky : f.Sticky m t) (rnd : BitVec 2)
    (sign : Bool) (e : ℤ) (normal : 1 ≤ (f.round rnd sign m e).ef) (below : (f.round rnd sign m e).ef < f.emax) :
    f.Delivers rnd (f.fieldsOf sign (f.round rnd sign m e)) (if (f.round rnd sign m e).inexact then 1 else 0)
      (signed sign (t * 2 ^ (e + f.fracBits + f.bias - 1))) := by
  obtain ⟨k, up, low, high, units, inexact, result⟩ := round_spec nonzero sticky rnd sign e
  generalize f.round rnd sign m e = r at *
  have top := pow_succ 2 f.fracBits
  have bits : 2 ^ f.fracBits ≤ r.significand ∧ r.significand < 2 ^ (f.fracBits + 1) := by
    rcases result with ⟨lt, eq, -⟩ | ⟨-, eq, -⟩ <;> rw [eq]
    · refine ⟨?_, lt⟩
      split <;> omega
    · omega
  have value : (r.significand : ℝ) * 2 ^ (r.ef - 1) = ((if up then k + 1 else k : ℕ) : ℝ) * 2 ^ (r.unrounded - 1) := by
    rcases result with ⟨-, eq, exp⟩ | ⟨carry, eq, exp⟩
    · rw [eq, exp]
    · rw [eq, exp, carry, top, add_sub_right_comm, zpow_add_one₀ two_ne_zero]
      push_cast
      ring
  have place : 1 ≤ r.unrounded ∨ r.unrounded = 0 ∧ k + 1 = 2 ^ (f.fracBits + 1) := by
    rcases result with ⟨-, -, exp⟩ | ⟨carry, -, exp⟩
    · exact .inl (exp ▸ normal)
    · split at carry <;> omega
  have even : 2 ∣ 2 ^ f.fracBits := dvd_pow_self 2 (by omega)
  have parity : (if up then k + 1 else k) % 2 = 0 ↔ (r.significand - 2 ^ f.fracBits) % 2 = 0 := by
    rcases result with ⟨lt, eq, -⟩ | ⟨carry, eq, -⟩
    · rw [← eq]
      omega
    · rw [carry, eq]
      omega
  refine ⟨⟨?_, ?_⟩, fun y finite => ?_, ?_⟩
  · simp only [fieldsOf]
    omega
  · simp only [fieldsOf]
    omega
  · have rounds := units.roundsAgainst (by positivity) (units_gap finite.2 low place)
    rw [← value, ← units_fieldsOf normal bits.1, parity] at rounds
    exact rounds
  · have same : (f.units (f.fieldsOf sign r) : ℝ) = signed sign (t * 2 ^ (e + f.fracBits + f.bias - 1)) ↔
        t * 2 ^ (e + f.fracBits + f.bias - 1) = k * 2 ^ (r.unrounded - 1) := by
      rw [units_fieldsOf normal bits.1, value, ← units.eq_iff]
      cases sign <;> simp
    rw [Ne, same, ← Ne, ← inexact]
    cases r.inexact <;> decide

end

end FloatFormat

end Sys2Proof.Machine

namespace Sys2Proof.Machine

/-! ### Results that signal nothing but inexact -/

namespace FloatFormat

/-- A result that signals none of invalid, overflow, underflow and division by zero is `r` rounded. -/
def Gives (f : FloatFormat) (rnd : BitVec 2) (result : FpResult Fields) (r : ℝ) : Prop :=
  ∀ x e, result = .value x e → e &&& 0x1E = 0 → f.Delivers rnd x e r

section
variable {f : FloatFormat} {x : Fields} {r : ℝ} {rnd : BitVec 2} {sign : Bool} {mode : FpMode}

theorem gives_unfinished : f.Gives rnd .unfinished r := nofun

theorem gives_flagged {e : BitVec 5} (flagged : e &&& 0x1E ≠ 0) : f.Gives rnd (.value x e) r := by
  rintro y e' ⟨⟩ unflagged
  exact absurd unflagged flagged

theorem gives_of_delivers {e : BitVec 5} (h : f.Delivers rnd x e r) : f.Gives rnd (.value x e) r := by
  rintro y e' ⟨⟩ -
  exact h

theorem gives_exact (finite : f.Finite x) (value : (f.units x : ℝ) = r) : f.Gives rnd (.value x 0) r :=
  gives_of_delivers (value ▸ delivers_exact finite rnd)

theorem gives_underflow {er : ℤ} : f.Gives rnd (f.underflow mode sign er) r := by
  unfold underflow
  split
  · exact gives_unfinished
  · exact gives_flagged (by decide)

/-- Rounding raises the exponent by one at most. -/
theorem round_ef (f : FloatFormat) (rnd : BitVec 2) (sign : Bool) (m : ℕ) (e : ℤ) :
    let r := f.round rnd sign m e
    r.unrounded ≤ r.ef ∧ r.ef ≤ r.unrounded + 1 := by
  obtain ⟨up, parts, -⟩ := f.round_eq rnd sign m e
  rw [parts]
  dsimp only
  split <;> omega

section
variable {m : ℕ} {t : ℝ} {e : ℤ} (format : 1 ≤ f.fracBits) (nonzero : m ≠ 0) (sticky : f.Sticky m t)
  (value : r = signed sign (t * 2 ^ (e + f.fracBits + f.bias - 1)))
include format nonzero sticky value

theorem gives_deliver {tiny : FpResult Fields} (small : (f.round rnd sign m e).unrounded < 1 → f.Gives rnd tiny r) :
    f.Gives rnd (f.deliver rnd sign (f.round rnd sign m e) tiny) r := by
  unfold deliver
  split
  next tiny => exact small tiny
  next normal =>
    split
    · exact gives_flagged (show (9 : BitVec 5) &&& 0x1E ≠ 0 by decide)
    next below =>
      have grows := (f.round_ef rnd sign m e).1
      exact gives_of_delivers (value ▸ delivers_round format nonzero sticky rnd sign e (by omega) (by omega))

theorem gives_tiny (top : 1 < f.emax) {er : ℤ} (small : (f.round mode.rnd sign m e).unrounded < 1) :
    f.Gives mode.rnd (f.tiny mode sign er (f.round mode.rnd sign m e)) r := by
  unfold tiny
  split
  next normal =>
    have grows := (f.round_ef mode.rnd sign m e).2
    exact gives_of_delivers (value ▸ delivers_round format nonzero sticky mode.rnd sign e normal (by omega))
  · exact gives_underflow

end

end

/-! ### The operations on zeros and normal numbers -/

/-- A zero or a normal number. -/
def Ordinary (f : FloatFormat) (x : Fields) : Prop := f.Finite x ∧ (x.exp ≠ 0 ∨ x.frac = 0)

section
variable {f : FloatFormat} {x a b : Fields}

theorem Ordinary.kind (h : f.Ordinary x) : f.isNan x = false ∧ f.isInf x = false ∧ x.isSubnormal = false := by
  obtain ⟨⟨below, -⟩, normal⟩ := h
  obtain ⟨nan, inf⟩ := finite_of_exp below.ne
  refine ⟨nan, inf, ?_⟩
  simpa [Fields.isSubnormal, Classical.or_iff_not_imp_left] using normal

theorem Ordinary.normal (h : f.Ordinary x) (nonzero : x.isZero = false) : x.exp ≠ 0 := by
  obtain ⟨-, normal⟩ := h
  intro zero
  simp [Fields.isZero, zero, normal.resolve_left (not_not.2 zero)] at nonzero

theorem significand_of_normal (h : x.exp ≠ 0) : f.significand x = x.frac + 2 ^ f.fracBits := if_neg h

theorem Ordinary.significand_bounds (h : f.Ordinary x) (nonzero : x.isZero = false) :
    2 ^ f.fracBits ≤ f.significand x ∧ f.significand x < 2 ^ (f.fracBits + 1) := by
  rw [significand_of_normal (h.normal nonzero), pow_succ]
  have := h.1.2
  omega

theorem Ordinary.significand_ne_zero (h : f.Ordinary x) (nonzero : x.isZero = false) : f.significand x ≠ 0 :=
  ((Nat.two_pow_pos _).trans_le (h.significand_bounds nonzero).1).ne'

theorem Ordinary.units_ne_zero (h : f.Ordinary x) (nonzero : x.isZero = false) : f.units x ≠ 0 := by
  have size : f.magnitude x ≠ 0 := Nat.mul_ne_zero (h.significand_ne_zero nonzero) (Nat.two_pow_pos _).ne'
  rw [units_eq]
  split <;> omega

theorem units_zero (sign : Bool) : f.units (.zero sign) = 0 := units_of_isZero rfl

/-- What the operations ask of a format. -/
structure Binary (f : FloatFormat) : Prop where
  fracBits : 1 ≤ f.fracBits
  small : f.fracBits ≤ 52
  top : 1 < f.emax
  bias : 1 ≤ f.bias

theorem Binary.finite_zero (format : f.Binary) (sign : Bool) : f.Finite (.zero sign) :=
  ⟨Nat.zero_lt_of_lt format.top, Nat.two_pow_pos _⟩

theorem binary_of_eq (h : f = .single ∨ f = .double) : f.Binary := by
  rcases h with rfl | rfl <;> constructor <;> decide

theorem gives_add (format : f.Binary) (mode : FpMode) (ha : f.Ordinary a) (hb : f.Ordinary b) :
    f.Gives mode.rnd (f.add mode a b) ((f.units a + f.units b : ℤ) : ℝ) := by
  obtain ⟨na, ia, sa⟩ := ha.kind
  obtain ⟨nb, ib, sb⟩ := hb.kind
  have finite : f.add mode a b = f.addFinite mode a b := by simp [add, na, nb, ia, ib, sa, sb]
  rw [finite, addFinite]
  generalize f.units a + f.units b = sum
  dsimp only
  split
  next zero => exact gives_exact (format.finite_zero _) (by rw [units_zero, zero])
  next nonzero =>
    refine gives_deliver format.fracBits (Int.natAbs_ne_zero.2 nonzero) (.inl rfl) ?_ fun _ => ?_
    · rw [show (1 - f.bias - f.fracBits + f.fracBits + f.bias - 1 : ℤ) = 0 by ring, zpow_zero, mul_one, signed_natAbs]
    · split
      · exact gives_flagged (by decide)
      · exact gives_unfinished

theorem Ordinary.negated (h : f.Ordinary x) : f.Ordinary { x with sign := !x.sign } := h

theorem units_negated (f : FloatFormat) (x : Fields) : f.units { x with sign := !x.sign } = -f.units x := by
  have size : f.magnitude { x with sign := !x.sign } = f.magnitude x := rfl
  rw [units_eq, units_eq, size]
  cases x.sign <;> simp

theorem gives_sub (format : f.Binary) (mode : FpMode) (ha : f.Ordinary a) (hb : f.Ordinary b) :
    f.Gives mode.rnd (f.sub mode a b) ((f.units a - f.units b : ℤ) : ℝ) := by
  rw [sub_eq_add mode hb.kind.1, Int.sub_eq_add_neg, ← units_negated]
  exact gives_add format mode ha hb.negated

/-- A product in the format `g`: a zero, or the product of two nonzero numbers, rounded. -/
theorem gives_product {g : FloatFormat} (format : g.Binary) {mode : FpMode} {result : FpResult Fields} {er : ℤ}
    (ha : f.Ordinary a) (hb : f.Ordinary b)
    (zero : (a.isZero || b.isZero) = true → result = .value (.zero (a.sign != b.sign)) 0)
    (nonzero : (a.isZero || b.isZero) = false → result = f.mulFinite g mode a b er) :
    g.Gives mode.rnd result (f.units a * f.units b * 2 ^ (g.fracBits + g.bias + 1 - 2 * f.bias - 2 * f.fracBits : ℤ)) := by
  cases any : a.isZero || b.isZero with
  | true =>
    rw [zero any]
    refine gives_exact (format.finite_zero _) ?_
    rcases Bool.or_eq_true_iff.1 any with z | z <;> simp [units_of_isZero z, units_zero]
  | false =>
    obtain ⟨za, zb⟩ := Bool.or_eq_false_iff.1 any
    have value : (f.units a * f.units b * 2 ^ (g.fracBits + g.bias + 1 - 2 * f.bias - 2 * f.fracBits : ℤ) : ℝ) =
        signed (a.sign != b.sign) ((f.significand a * f.significand b : ℕ) *
          2 ^ ((a.scale : ℤ) + b.scale - 2 * f.bias - 2 * f.fracBits + g.fracBits + g.bias - 1)) := by
      rw [units_cast, units_cast, signed_mul_signed, signed_mul, magnitude_cast, magnitude_cast,
        show ((a.scale : ℤ) + b.scale - 2 * f.bias - 2 * f.fracBits + g.fracBits + g.bias - 1) =
          (a.scale - 1) + ((b.scale - 1) + (g.fracBits + g.bias + 1 - 2 * f.bias - 2 * f.fracBits)) by ring,
        zpow_add₀ two_ne_zero, zpow_add₀ two_ne_zero]
      push_cast
      congr 1
      ring
    have size := Nat.mul_ne_zero (ha.significand_ne_zero za) (hb.significand_ne_zero zb)
    rw [nonzero any, mulFinite]
    exact gives_deliver format.fracBits size (.inl rfl) value
      fun small => gives_tiny format.fracBits size (.inl rfl) value format.top small

theorem gives_mul (format : f.Binary) (mode : FpMode) (ha : f.Ordinary a) (hb : f.Ordinary b) :
    f.Gives mode.rnd (f.mul mode a b) (f.units a * f.units b * 2 ^ (1 - f.bias - f.fracBits : ℤ)) := by
  obtain ⟨na, ia, sa⟩ := ha.kind
  obtain ⟨nb, ib, sb⟩ := hb.kind
  rw [show (1 - f.bias - f.fracBits : ℤ) = f.fracBits + f.bias + 1 - 2 * f.bias - 2 * f.fracBits by ring]
  exact gives_product (er := f.mulEr a b) format ha hb (fun zero => by simp [mul, na, nb, ia, ib, zero])
    fun nonzero => by simp [mul, na, nb, ia, ib, sa, sb, nonzero]

theorem gives_mulWide (mode : FpMode) (ha : single.Ordinary a) (hb : single.Ordinary b) :
    double.Gives mode.rnd (mulWide mode a b) (single.units a * single.units b * 2 ^ (776 : ℤ)) := by
  obtain ⟨na, ia, sa⟩ := ha.kind
  obtain ⟨nb, ib, sb⟩ := hb.kind
  have exponent : (double.fracBits + double.bias + 1 - 2 * single.bias - 2 * single.fracBits : ℤ) = 776 := by
    norm_num [single, double]
  rw [← exponent]
  exact gives_product (g := double) (er := 0) (binary_of_eq (.inr rfl)) ha hb
    (fun zero => by simp [mulWide, na, nb, ia, ib, zero]) fun nonzero => by simp [mulWide, na, nb, ia, ib, sa, sb, nonzero]

end

end FloatFormat

end Sys2Proof.Machine

namespace Sys2Proof.Machine

/-! ### Conversions (R1090 to R1095) -/

namespace FloatFormat

section
variable {f : FloatFormat} {x a b : Fields}

theorem gives_widen (mode : FpMode) (h : single.Ordinary x) :
    double.Gives mode.rnd (widen mode x) (single.units x * 2 ^ (925 : ℤ)) := by
  obtain ⟨nx, ix, sx⟩ := h.kind
  cases zero : x.isZero with
  | true =>
    have result : widen mode x = .value x 0 := by simp [widen, nx, ix, zero]
    have ⟨exp, frac⟩ : x.exp = 0 ∧ x.frac = 0 := by simpa [Fields.isZero] using zero
    rw [result]
    exact gives_exact ⟨by rw [exp]; decide, by rw [frac]; decide⟩ (by simp [units_of_isZero zero])
  | false =>
    have exp := h.normal zero
    obtain ⟨k, hk⟩ := Nat.exists_eq_succ_of_ne_zero exp
    have result : widen mode x = .value ⟨x.sign, x.exp + 896, x.frac * 2 ^ 29⟩ 0 := by
      simp only [widen, nx, ix, sx, zero, Bool.false_eq_true, if_false]
      simp [single, double]
    have size : double.magnitude ⟨x.sign, x.exp + 896, x.frac * 2 ^ 29⟩ = single.magnitude x * 2 ^ 925 := by
      rw [magnitude_eq, magnitude_eq, if_neg exp, if_neg (by simp), hk]
      show (x.frac * 2 ^ 29 + 2 ^ 52) * 2 ^ (k + 896) = (x.frac + 2 ^ 23) * 2 ^ k * 2 ^ 925
      rw [pow_add, show 925 = 896 + 29 from rfl, pow_add 2 896 29]
      generalize (2 : ℕ) ^ 896 = scale
      ring
    rw [result]
    refine gives_exact ⟨?_, ?_⟩ ?_
    · have := h.1.1
      simp only [single, double] at this ⊢
      omega
    · have := h.1.2
      simp only [single, double] at this ⊢
      omega
    · rw [units_cast, units_cast, size, signed_mul, Nat.cast_mul, Nat.cast_pow, Nat.cast_ofNat, zpow_ofNat]

theorem gives_narrow (mode : FpMode) (h : double.Ordinary x) :
    single.Gives mode.rnd (narrow mode x) (double.units x * 2 ^ (-925 : ℤ)) := by
  obtain ⟨nx, ix, sx⟩ := h.kind
  have format : single.Binary := binary_of_eq (.inl rfl)
  cases zero : x.isZero with
  | true =>
    have result : narrow mode x = .value x 0 := by simp [narrow, nx, ix, zero]
    have ⟨exp, frac⟩ : x.exp = 0 ∧ x.frac = 0 := by simpa [Fields.isZero] using zero
    rw [result]
    exact gives_exact ⟨by rw [exp]; decide, by rw [frac]; decide⟩ (by simp [units_of_isZero zero])
  | false =>
    have value : (double.units x * 2 ^ (-925 : ℤ) : ℝ) = signed x.sign (double.significand x *
        2 ^ ((x.scale : ℤ) - double.bias - double.fracBits + single.fracBits + single.bias - 1)) := by
      rw [units_cast, signed_mul, magnitude_cast, mul_assoc, ← zpow_add₀ two_ne_zero]
      congr 3
      simp only [single, double]
      omega
    have size := h.significand_ne_zero zero
    simp only [narrow, nx, ix, sx, zero, Bool.false_eq_true, if_false]
    exact gives_deliver format.fracBits size (.inl rfl) value
      fun small => gives_tiny format.fracBits size (.inl rfl) value format.top small

theorem gives_ofInt (format : f.Binary) (mode : FpMode) (i : ℤ) :
    f.Gives mode.rnd (f.ofInt mode i) (i * 2 ^ (f.fracBits + f.bias - 1 : ℤ)) := by
  unfold ofInt
  split
  next zero => exact gives_exact (format.finite_zero _) (by rw [units_zero, zero]; simp)
  next nonzero =>
    refine gives_deliver format.fracBits (Int.natAbs_ne_zero.2 nonzero) (.inl rfl) ?_ fun _ => gives_unfinished
    rw [zero_add, ← signed_mul, signed_natAbs]

/-! ### Quotients and square roots (R1077 to R1080)

The model rounds an integer with one more bit that says whether anything follows. -/

/-- A number's integer part with a last bit that says whether anything follows stands for twice the number. -/
theorem sticky_of_floor {q : ℕ} {t : ℝ} {whole : Prop} [Decidable whole] (bits : 2 ^ (f.fracBits + 1) ≤ q) (low : q ≤ t)
    (high : t < q + 1) (exact : whole ↔ t = q) : f.Sticky (2 * q + (if whole then 0 else 1)) (2 * t) := by
  split
  next holds =>
    left
    rw [exact.1 holds]
    push_cast
    ring
  next fails =>
    have strict : (q : ℝ) < t := lt_of_le_of_ne low (mt exact.2 fails ∘ Eq.symm)
    refine .inr ⟨by omega, ?_, by rw [pow_succ]; omega⟩
    push_cast
    rw [abs_lt]
    constructor <;> linarith

theorem cast_div_floor (n : ℕ) {d : ℕ} (pos : 0 < d) : ((n / d : ℕ) : ℝ) ≤ n / d ∧ (n / d : ℝ) < (n / d : ℕ) + 1 ∧
    (n % d = 0 ↔ (n / d : ℝ) = (n / d : ℕ)) := by
  have real : (0 : ℝ) < d := Nat.cast_pos.2 pos
  have parts : (n : ℝ) = d * (n / d : ℕ) + (n % d : ℕ) := by exact_mod_cast (Nat.div_add_mod n d).symm
  have rest : ((n % d : ℕ) : ℝ) < d := Nat.cast_lt.2 (Nat.mod_lt n pos)
  have nonneg : (0 : ℝ) ≤ (n % d : ℕ) := Nat.cast_nonneg _
  rw [le_div_iff₀ real, div_lt_iff₀ real, div_eq_iff real.ne', ← Nat.cast_eq_zero (R := ℝ)]
  refine ⟨by linarith, by linarith, ⟨fun h => by linarith, fun h => by linarith⟩⟩

/-- The integer quotient has more bits than a significand. -/
theorem quotient_bits (small : f.fracBits ≤ 52) {m n : ℕ} (low : 2 ^ f.fracBits ≤ m) (pos : 0 < n)
    (high : n < 2 ^ (f.fracBits + 1)) : 2 ^ (f.fracBits + 1) ≤ m * 2 ^ 120 / n := by
  rw [Nat.le_div_iff_mul_le pos]
  calc 2 ^ (f.fracBits + 1) * n ≤ 2 ^ (f.fracBits + 1) * 2 ^ (f.fracBits + 1) := Nat.mul_le_mul_left _ high.le
    _ = 2 ^ f.fracBits * 2 ^ (f.fracBits + 2) := by rw [← pow_add, ← pow_add]; congr 1; omega
    _ ≤ m * 2 ^ 120 := Nat.mul_le_mul low (Nat.pow_le_pow_right two_pos (by omega))

theorem quotient_value (nonzero : f.significand b ≠ 0) :
    (f.units a / f.units b * 2 ^ (f.fracBits + f.bias - 1 : ℤ) : ℝ) = signed (a.sign != b.sign)
      (2 * ((f.significand a * 2 ^ 120 : ℕ) / (f.significand b : ℕ)) *
        2 ^ ((a.scale : ℤ) - b.scale - 121 + f.fracBits + f.bias - 1)) := by
  have power : (2 : ℝ) ^ ((a.scale : ℤ) - b.scale - 121 + f.fracBits + f.bias - 1) =
      2 ^ ((a.scale : ℤ) - 1) / 2 ^ ((b.scale : ℤ) - 1) * 2 ^ (f.fracBits + f.bias - 1 : ℤ) / 2 ^ (121 : ℤ) := by
    rw [← zpow_sub₀ two_ne_zero, ← zpow_add₀ two_ne_zero, ← zpow_sub₀ two_ne_zero]
    congr 1
    ring
  have real : (f.significand b : ℝ) ≠ 0 := Nat.cast_ne_zero.2 nonzero
  have scale : (2 : ℝ) ^ ((b.scale : ℤ) - 1) ≠ 0 := zpow_ne_zero _ two_ne_zero
  rw [units_cast, units_cast, signed_div_signed, signed_mul, magnitude_cast, magnitude_cast, power]
  generalize (2 : ℝ) ^ ((a.scale : ℤ) - 1) = p, (2 : ℝ) ^ ((b.scale : ℤ) - 1) = q at *
  generalize (2 : ℝ) ^ (f.fracBits + f.bias - 1 : ℤ) = one
  push_cast
  congr 1
  field_simp
  norm_num

theorem flagged_of_div_zero (mode : FpMode) (ha : f.Ordinary a) (hb : f.Ordinary b) (zb : b.isZero = true) {e : BitVec 5}
    (is : f.div mode a b = .value x e) : e &&& 0x1E ≠ 0 := by
  obtain ⟨na, ia, sa⟩ := ha.kind
  obtain ⟨nb, ib, sb⟩ := hb.kind
  cases za : a.isZero with
  | true =>
    rw [div_zeros mode na nb sa sb ia ib za zb, invalid] at is
    cases is
    decide
  | false =>
    rw [div_by_zero mode na nb sa sb ia ib za zb] at is
    cases is
    decide

theorem gives_div (format : f.Binary) (mode : FpMode) (ha : f.Ordinary a) (hb : f.Ordinary b) :
    f.Gives mode.rnd (f.div mode a b) (f.units a / f.units b * 2 ^ (f.fracBits + f.bias - 1 : ℤ)) := by
  obtain ⟨na, ia, sa⟩ := ha.kind
  obtain ⟨nb, ib, sb⟩ := hb.kind
  cases zb : b.isZero <;> cases za : a.isZero
  case true.true | true.false => exact fun x e is unflagged => absurd unflagged (flagged_of_div_zero mode ha hb zb is)
  case false.true =>
    have result : f.div mode a b = .value (.zero (a.sign != b.sign)) 0 := by simp [div, na, nb, ia, ib, sa, sb, za, zb]
    rw [result]
    exact gives_exact (format.finite_zero _) (by rw [units_zero, units_of_isZero za]; simp)
  case false.false =>
    have result : f.div mode a b = f.deliver mode.rnd (a.sign != b.sign) (f.quotient mode.rnd a b)
        (f.tiny mode (a.sign != b.sign) (f.divEr a b) (f.quotient mode.rnd a b)) := by
      simp [div, na, nb, ia, ib, sa, sb, za, zb]
    have divisor := hb.significand_ne_zero zb
    have pos := Nat.pos_of_ne_zero divisor
    have bits := quotient_bits format.small (ha.significand_bounds za).1 pos (hb.significand_bounds zb).2
    obtain ⟨low, high, exact⟩ := cast_div_floor (f.significand a * 2 ^ 120) pos
    have sticky := sticky_of_floor (f := f) bits low high exact
    have value := quotient_value (f := f) (a := a) divisor
    have size : 2 * (f.significand a * 2 ^ 120 / f.significand b) +
        (if f.significand a * 2 ^ 120 % f.significand b = 0 then 0 else 1) ≠ 0 := by
      have := Nat.two_pow_pos (f.fracBits + 1)
      omega
    rw [result, quotient]
    exact gives_deliver format.fracBits size sticky value
      fun small => gives_tiny format.fracBits size sticky value format.top small

/-- Each step of the integer square root halves the distance of its bounds. -/
theorem intSqrt_bounds {n : ℕ} (small : n < 2 ^ 192) : intSqrt n * intSqrt n ≤ n ∧ n < (intSqrt n + 1) * (intSqrt n + 1) := by
  have steps : ∀ j ≤ 96, let r := (List.range j).foldl (fun r i => let t := r + 2 ^ (95 - i); if t * t ≤ n then t else r) 0
      r * r ≤ n ∧ n < (r + 2 ^ (96 - j)) * (r + 2 ^ (96 - j)) := by
    intro j
    induction j with
    | zero => exact fun _ => ⟨Nat.zero_le _, by simpa using small⟩
    | succ j ih =>
      intro bound
      obtain ⟨low, high⟩ := ih (by omega)
      rw [List.range_succ, List.foldl_append, List.foldl_cons, List.foldl_nil]
      generalize List.foldl _ 0 (List.range j) = r at low high ⊢
      have halves : 2 ^ (96 - j) = 2 ^ (95 - j) + 2 ^ (95 - j) := by
        rw [show 96 - j = 95 - j + 1 by omega, pow_succ, Nat.mul_two]
      rw [show 96 - (j + 1) = 95 - j by omega]
      rw [halves, ← Nat.add_assoc] at high
      dsimp only
      split
      · exact ⟨‹_›, high⟩
      · exact ⟨low, not_le.1 ‹_›⟩
  exact steps 96 le_rfl

theorem cast_sqrt_floor {n q : ℕ} (low : q * q ≤ n) (high : n < (q + 1) * (q + 1)) :
    (q : ℝ) ≤ √n ∧ √(n : ℝ) < q + 1 ∧ (q * q = n ↔ √(n : ℝ) = q) := by
  refine ⟨?_, ?_, ?_⟩
  · exact Real.le_sqrt_of_sq_le (by rw [sq]; exact_mod_cast low)
  · rw [Real.sqrt_lt' (by positivity), sq]
    exact_mod_cast high
  · rw [Real.sqrt_eq_iff_mul_self_eq (by positivity) (by positivity), eq_comm]
    exact_mod_cast Iff.rfl

/-- The number whose square root the model takes, by the exponent `2 * h + odd` of its lowest bit. -/
theorem sqrt_value {m : ℕ} {h odd : ℤ} (positive : x.sign = false) (parity : odd = 0 ∨ odd = 1)
    (exponent : (x.scale : ℤ) - f.bias - f.fracBits = 2 * h + odd) (hm : m = f.significand x * 2 ^ odd.toNat * 2 ^ 128) :
    √(f.units x * 2 ^ (f.fracBits + f.bias - 1 : ℤ)) = 2 * √(m : ℝ) * 2 ^ (h - 65 + f.fracBits + f.bias - 1 : ℤ) := by
  have toNat : ((2 ^ odd.toNat : ℕ) : ℝ) = 2 ^ odd := by rcases parity with rfl | rfl <;> simp
  have power : (2 : ℝ) ^ ((x.scale : ℤ) - 1) * 2 ^ (f.fracBits + f.bias - 1 : ℤ) =
      4 * 2 ^ odd * 2 ^ 128 * (2 ^ (h - 65 + f.fracBits + f.bias - 1 : ℤ) * 2 ^ (h - 65 + f.fracBits + f.bias - 1 : ℤ)) := by
    rw [show (4 : ℝ) = 2 ^ (2 : ℤ) by norm_num, show ((2 : ℝ) ^ 128) = 2 ^ (128 : ℤ) by norm_num]
    simp only [← zpow_add₀ (two_ne_zero (α := ℝ))]
    congr 1
    omega
  have square : (f.units x * 2 ^ (f.fracBits + f.bias - 1 : ℤ) : ℝ) =
      (2 * √(m : ℝ) * 2 ^ (h - 65 + f.fracBits + f.bias - 1 : ℤ)) *
        (2 * √(m : ℝ) * 2 ^ (h - 65 + f.fracBits + f.bias - 1 : ℤ)) := by
    have root := Real.mul_self_sqrt (Nat.cast_nonneg (α := ℝ) m)
    rw [hm] at root ⊢
    rw [units_cast, positive, signed_false, magnitude_cast, mul_assoc, power]
    push_cast at toNat root ⊢
    rw [toNat] at root ⊢
    linear_combination -4 * (2 ^ (h - 65 + f.fracBits + f.bias - 1 : ℤ) * 2 ^ (h - 65 + f.fracBits + f.bias - 1 : ℤ)) * root
  rw [square, Real.sqrt_mul_self (by positivity)]

/-- The radicand is in the range of the integer square root, and its root has more bits than a significand. -/
theorem radicand_bounds (small : f.fracBits ≤ 52) {m : ℕ} (low : 2 ^ f.fracBits ≤ m) (high : m < 2 ^ (f.fracBits + 1)) {j : ℕ}
    (parity : j ≤ 1) : 2 ^ 128 ≤ m * 2 ^ j * 2 ^ 128 ∧ m * 2 ^ j * 2 ^ 128 < 2 ^ 192 := by
  have bits : m < 2 ^ 53 := high.trans_le (Nat.pow_le_pow_right two_pos (by omega))
  have pos : 0 < m := (Nat.two_pow_pos _).trans_le low
  have shift : 2 ^ j ≤ 2 := Nat.pow_le_pow_right two_pos parity
  have shiftPos := Nat.two_pow_pos j
  have product : m * 2 ^ j ≤ 2 ^ 53 * 2 := Nat.mul_le_mul bits.le shift
  have productPos : 0 < m * 2 ^ j := Nat.mul_pos pos shiftPos
  omega

theorem root_bits (small : f.fracBits ≤ 52) {m r : ℕ} (large : 2 ^ 128 ≤ m) (high : m < (r + 1) * (r + 1)) :
    2 ^ (f.fracBits + 1) ≤ r := by
  have bits : 2 ^ (f.fracBits + 1) ≤ 2 ^ 53 := Nat.pow_le_pow_right two_pos (by omega)
  by_contra below
  have square : (r + 1) * (r + 1) ≤ 2 ^ 53 * 2 ^ 53 := Nat.mul_le_mul (by omega) (by omega)
  omega

theorem gives_sqrtFinite (format : f.Binary) (mode : FpMode) (hx : f.Ordinary x) (zero : x.isZero = false)
    (positive : x.sign = false) :
    f.Gives mode.rnd (f.sqrtFinite mode.rnd x) √(f.units x * 2 ^ (f.fracBits + f.bias - 1 : ℤ)) := by
  unfold sqrtFinite
  dsimp only
  obtain ⟨odd, hodd⟩ : ∃ odd, odd = ((x.scale : ℤ) - f.bias - f.fracBits) % 2 := ⟨_, rfl⟩
  obtain ⟨m, hm⟩ : ∃ m, m = f.significand x * 2 ^ odd.toNat * 2 ^ 128 := ⟨_, rfl⟩
  obtain ⟨sigLow, sigHigh⟩ := hx.significand_bounds zero
  rw [← hodd, ← hm]
  have parity : odd = 0 ∨ odd = 1 := by omega
  obtain ⟨large, small⟩ : 2 ^ 128 ≤ m ∧ m < 2 ^ 192 := hm ▸ radicand_bounds format.small sigLow sigHigh (by omega)
  obtain ⟨rootLow, rootHigh⟩ := intSqrt_bounds small
  have bits := root_bits format.small large rootHigh
  obtain ⟨low, high, exact⟩ := cast_sqrt_floor rootLow rootHigh
  have sticky := sticky_of_floor (f := f) bits low high exact
  have size : 2 * intSqrt m + (if intSqrt m * intSqrt m = m then 0 else 1) ≠ 0 := by
    have := Nat.two_pow_pos (f.fracBits + 1)
    omega
  exact gives_deliver format.fracBits size sticky (sqrt_value positive parity (by omega) hm) fun _ => gives_unfinished

theorem gives_sqrt (format : f.Binary) (mode : FpMode) (hx : f.Ordinary x) :
    f.Gives mode.rnd (f.sqrt mode x) √(f.units x * 2 ^ (f.fracBits + f.bias - 1 : ℤ)) := by
  obtain ⟨nan, inf, subnormal⟩ := hx.kind
  cases zero : x.isZero with
  | true =>
    have result : f.sqrt mode x = .value x 0 := by simp [sqrt, nan, zero]
    rw [result]
    exact gives_exact hx.1 (by simp [units_of_isZero zero])
  | false =>
    cases sign : x.sign with
    | true =>
      have result : f.sqrt mode x = f.invalid := by simp [sqrt, nan, zero, subnormal, sign]
      exact result ▸ gives_flagged (show (16 : BitVec 5) &&& 0x1E ≠ 0 by decide)
    | false =>
      have result : f.sqrt mode x = f.sqrtFinite mode.rnd x := by simp [sqrt, nan, inf, zero, subnormal, sign]
      exact result ▸ gives_sqrtFinite format mode hx zero sign

/-- A square root that is not invalid is of no negative number. -/
theorem nonneg_of_sqrt {mode : FpMode} (hx : f.Ordinary x) {y : Fields} {e : BitVec 5} (is : f.sqrt mode x = .value y e)
    (unflagged : e &&& 0x1E = 0) : 0 ≤ f.units x := by
  obtain ⟨nan, -, subnormal⟩ := hx.kind
  cases zero : x.isZero with
  | true => exact (units_of_isZero zero).ge
  | false =>
    cases sign : x.sign with
    | true =>
      have result : f.sqrt mode x = f.invalid := by simp [sqrt, nan, zero, subnormal, sign]
      rw [result] at is
      cases is
      exact absurd unflagged (by decide)
    | false => simp [units_eq, sign]

/-! ### Truncation to an integer (R1096 to R1099) -/

/-- The model shifts the significand to the place of the units of the integer. -/
theorem shift_eq (format : f.Binary) (x : Fields) :
    let up := x.scale - (f.bias + f.fracBits)
    let down := f.bias + f.fracBits - x.scale
    let m := f.significand x * 2 ^ up
    m / 2 ^ down = f.magnitude x / 2 ^ (f.bias + f.fracBits - 1) ∧
      (m % 2 ^ down = 0 ↔ 2 ^ (f.bias + f.fracBits - 1) ∣ f.magnitude x) := by
  intro up down m
  have least : 1 ≤ x.scale := le_max_right _ _
  have positive := format.bias
  have same : m * 2 ^ (f.bias + f.fracBits - 1) = f.magnitude x * 2 ^ down := by
    simp only [m, magnitude, mul_assoc, ← pow_add]
    congr 2
    omega
  constructor
  · rw [← Nat.mul_div_mul_right m _ (Nat.two_pow_pos (f.bias + f.fracBits - 1)), same, mul_comm (2 ^ down),
      Nat.mul_div_mul_right _ _ (Nat.two_pow_pos down)]
  · rw [← Nat.dvd_iff_mod_eq_zero, ← Nat.mul_dvd_mul_iff_right (Nat.two_pow_pos (f.bias + f.fracBits - 1)), same,
      mul_comm (2 ^ down), Nat.mul_dvd_mul_iff_right (Nat.two_pow_pos down)]

theorem toInt_eq (format : f.Binary) (mode : FpMode) (hx : f.Ordinary x) (bits : ℕ) :
    let t := (f.units x).tdiv (2 ^ (f.bias + f.fracBits - 1))
    let top : ℤ := 2 ^ (bits - 1)
    f.toInt mode bits x =
      if t < -top ∨ top ≤ t then .value (if x.sign then -top else top - 1) 16
      else .value t (if f.units x % 2 ^ (f.bias + f.fracBits - 1) = 0 then 0 else 1) := by
  intro t top
  obtain ⟨nan, inf, subnormal⟩ := hx.kind
  obtain ⟨quotient, rest⟩ := shift_eq format x
  have truncated : (if x.sign then -((f.magnitude x / 2 ^ (f.bias + f.fracBits - 1) : ℕ) : ℤ)
      else (f.magnitude x / 2 ^ (f.bias + f.fracBits - 1) : ℕ)) = t := by
    simp only [t, units_eq]
    split <;> simp
  have whole : f.units x % 2 ^ (f.bias + f.fracBits - 1) = 0 ↔ 2 ^ (f.bias + f.fracBits - 1) ∣ f.magnitude x := by
    rw [← Int.dvd_iff_emod_eq_zero, ← Int.natCast_dvd_natCast, units_eq]
    split <;> simp
  simp only [toInt, nan, inf, subnormal, Bool.or_self, Bool.false_eq_true, if_false, quotient, rest, truncated, whole]
  rfl

end

end FloatFormat

end Sys2Proof.Machine

namespace Sys2Proof.Machine

/-! ### Rounding stated over the integers -/

theorem natAbs_le_iff_cast (a b : ℤ) : a.natAbs ≤ b.natAbs ↔ |(a : ℝ)| ≤ |(b : ℝ)| := by
  rw [← Nat.cast_le (α := ℝ), Nat.cast_natAbs, Nat.cast_natAbs, Int.cast_abs, Int.cast_abs]

theorem natAbs_eq_iff_cast (a b : ℤ) : a.natAbs = b.natAbs ↔ |(a : ℝ)| = |(b : ℝ)| := by
  rw [← Nat.cast_inj (R := ℝ), Nat.cast_natAbs, Nat.cast_natAbs, Int.cast_abs, Int.cast_abs]

namespace RoundsAgainst

variable {rnd : BitVec 2} {even : Prop}

theorem scale {v r w c : ℝ} (h : RoundsAgainst rnd even v r w) (pos : 0 < c) : RoundsAgainst rnd even (v * c) (r * c) (w * c) where
  nearest dir := by
    rw [← sub_mul, ← sub_mul, abs_mul, abs_mul, mul_le_mul_iff_left₀ (abs_pos.2 pos.ne'), mul_left_inj' (abs_pos.2 pos.ne').ne',
      mul_left_inj' pos.ne']
    exact h.nearest dir
  toZero dir := by
    obtain ⟨within, sign, most⟩ := h.toZero dir
    simp only [abs_mul, mul_le_mul_iff_left₀ (abs_pos.2 pos.ne')]
    exact ⟨within, by rw [mul_mul_mul_comm]; exact mul_nonneg sign (mul_self_nonneg c), most⟩
  up dir := by
    simp only [mul_le_mul_iff_left₀ pos]
    exact h.up dir
  down dir := by
    simp only [mul_le_mul_iff_left₀ pos]
    exact h.down dir

/-- The same of the integers that the numbers are. -/
theorem integers {v n w : ℤ} (h : RoundsAgainst rnd even v n w) :
    (rnd = 0 → (v - n).natAbs ≤ (w - n).natAbs ∧ ((v - n).natAbs = (w - n).natAbs → v = w ∨ even)) ∧
      (rnd = 1 → v.natAbs ≤ n.natAbs ∧ 0 ≤ v * n ∧ (w.natAbs ≤ n.natAbs → w.natAbs ≤ v.natAbs)) ∧
      (rnd = 2 → n ≤ v ∧ (n ≤ w → v ≤ w)) ∧
      (rnd = 3 → v ≤ n ∧ (w ≤ n → w ≤ v)) := by
  refine ⟨fun dir => ?_, fun dir => ?_, fun dir => ?_, fun dir => ?_⟩
  · rw [natAbs_le_iff_cast, natAbs_eq_iff_cast]
    exact_mod_cast h.nearest dir
  · rw [natAbs_le_iff_cast, natAbs_le_iff_cast, natAbs_le_iff_cast]
    exact_mod_cast h.toZero dir
  · exact_mod_cast h.up dir
  · exact_mod_cast h.down dir

/-- Rounding keeps the sign. -/
theorem nonneg {v r : ℝ} (h : RoundsAgainst rnd even v r 0) (hr : 0 ≤ r) : 0 ≤ v := by
  rcases two_bits_cases rnd with dir | dir | dir | dir
  · have near := (h.nearest dir).1
    rw [zero_sub, abs_neg, abs_of_nonneg hr, abs_le] at near
    linarith
  · obtain ⟨within, sign, -⟩ := h.toZero dir
    rcases hr.eq_or_lt with zero | pos
    · rw [← zero, abs_zero] at within
      exact (abs_nonpos_iff.1 within).ge
    · exact nonneg_of_mul_nonneg_left sign pos
  · exact hr.trans (h.up dir).1
  · exact (h.down dir).2 hr

/-- The rounding of a square root, by squares. -/
theorem squares {v n w : ℤ} (h : RoundsAgainst rnd even v √(n : ℝ) w) (nonneg : 0 ≤ n) (hv : 0 ≤ v) (hw : 0 ≤ w) :
    (rnd = 0 → (w < v → (v + w) * (v + w) ≤ 4 * n) ∧ (v < w → 4 * n ≤ (v + w) * (v + w))) ∧
      ((rnd = 1 ∨ rnd = 3) → v * v ≤ n ∧ (w * w ≤ n → w ≤ v)) ∧
      (rnd = 2 → n ≤ v * v ∧ (n ≤ w * w → v ≤ w)) := by
  have root : √(n : ℝ) * √(n : ℝ) = n := Real.mul_self_sqrt (Int.cast_nonneg nonneg)
  have rootNonneg : 0 ≤ √(n : ℝ) := Real.sqrt_nonneg _
  have realV : (0 : ℝ) ≤ v := Int.cast_nonneg hv
  have realW : (0 : ℝ) ≤ w := Int.cast_nonneg hw
  have below {z : ℤ} (hz : (0 : ℝ) ≤ z) : z * z ≤ n ↔ (z : ℝ) ≤ √(n : ℝ) := by
    rw [mul_self_le_mul_self_iff hz rootNonneg, root]
    exact_mod_cast Iff.rfl
  have above {z : ℤ} (hz : (0 : ℝ) ≤ z) : n ≤ z * z ↔ √(n : ℝ) ≤ z := by
    rw [mul_self_le_mul_self_iff rootNonneg hz, root]
    exact_mod_cast Iff.rfl
  rw [below realV, below realW, above realV, above realW]
  refine ⟨fun dir => ?_, ?_, fun dir => ?_⟩
  · have near := sq_le_sq.2 (h.nearest dir).1
    have square : ((2 * √(n : ℝ)) * (2 * √(n : ℝ))) = 4 * n := by linear_combination 4 * root
    refine ⟨fun lt => ?_, fun lt => ?_⟩
    · have real : (w : ℝ) < v := Int.cast_lt.2 lt
      have half : (v + w : ℝ) ≤ 2 * √(n : ℝ) := by
        by_contra more
        nlinarith
      have := mul_self_le_mul_self (add_nonneg realV realW) half
      rw [square] at this
      exact_mod_cast this
    · have real : (v : ℝ) < w := Int.cast_lt.2 lt
      have half : 2 * √(n : ℝ) ≤ v + w := by
        by_contra less
        nlinarith
      have := mul_self_le_mul_self (by positivity) half
      rw [square] at this
      exact_mod_cast this
  · rintro (dir | dir)
    · obtain ⟨within, -, most⟩ := h.toZero dir
      rw [abs_of_nonneg realV, abs_of_nonneg rootNonneg] at within
      rw [abs_of_nonneg realV, abs_of_nonneg rootNonneg, abs_of_nonneg realW] at most
      exact ⟨within, fun le => Int.cast_le.1 (most le)⟩
    · obtain ⟨within, most⟩ := h.down dir
      exact ⟨within, fun le => Int.cast_le.1 (most le)⟩
  · obtain ⟨within, least⟩ := h.up dir
    exact ⟨within, fun le => Int.cast_le.1 (least le)⟩

end RoundsAgainst

namespace FloatFormat

section
variable {f : FloatFormat} {rnd : BitVec 2} {x : Fields} {e : BitVec 5}

/-- A result as the ratio `n / d`. -/
theorem Delivers.ratio {r : ℝ} {n d : ℤ} (h : f.Delivers rnd x e r) (pos : 0 < d) (exact : r * d = n) :
    f.Finite x ∧ (∀ y, f.Finite y → RoundsAgainst rnd (x.frac % 2 = 0) (f.units x * d : ℤ) n (f.units y * d : ℤ)) ∧
      (bitAt e 0 = true ↔ f.units x * d ≠ n) := by
  have real : (0 : ℝ) < d := Int.cast_pos.2 pos
  refine ⟨h.finite, fun y finite => ?_, h.inexact.trans (not_congr ?_)⟩
  · rw [← exact]
    push_cast
    exact (h.rounds y finite).scale real
  · rw [← mul_left_inj' real.ne', exact]
    exact_mod_cast Iff.rfl

/-- A result that is a square root is not negative, and is exact where it is its root. -/
theorem Delivers.root {n : ℤ} (format : f.Binary) (h : f.Delivers rnd x e √(n : ℝ)) :
    0 ≤ f.units x ∧ (0 ≤ n → (bitAt e 0 = true ↔ f.units x * f.units x ≠ n)) := by
  have against := h.rounds _ (format.finite_zero false)
  rw [units_zero, Int.cast_zero] at against
  have nonneg := against.nonneg (Real.sqrt_nonneg _)
  refine ⟨Int.cast_nonneg_iff.1 nonneg, fun hn => h.inexact.trans (not_congr ?_)⟩
  rw [eq_comm, Real.sqrt_eq_iff_mul_self_eq (Int.cast_nonneg hn) nonneg, eq_comm]
  exact_mod_cast Iff.rfl

end

/-- The value of a number, by its fields. -/
theorem units_eq_mul (f : FloatFormat) (x : Fields) : f.units x =
    (if x.sign then -1 else 1) * (((if x.exp = 0 then 0 else 2 ^ f.fracBits) + x.frac) * 2 ^ (max x.exp 1 - 1) : ℤ) := by
  have size : (f.magnitude x : ℤ) = ((if x.exp = 0 then 0 else 2 ^ f.fracBits) + x.frac) * 2 ^ (max x.exp 1 - 1) := by
    rw [magnitude, significand, Fields.scale]
    split <;> simp [add_comm]
  rw [units_eq, size]
  cases x.sign <;> simp

/-- The number 1 in units. -/
theorem Binary.cast_one {f : FloatFormat} (format : f.Binary) :
    ((2 ^ (f.bias + f.fracBits - 1) : ℤ) : ℝ) = 2 ^ (f.fracBits + f.bias - 1 : ℤ) := by
  have positive := format.bias
  rw [show (f.fracBits + f.bias - 1 : ℤ) = (f.bias + f.fracBits - 1 : ℕ) by omega, zpow_natCast]
  push_cast
  rfl

end FloatFormat

end Sys2Proof.Machine

namespace Sys2Proof
open Machine FloatFormat

/-- Settles O41: on zeros and normal numbers each operation rounds its exact value once (`gives_add` to `gives_sqrt`), and a rounded
number is the right one among the finite numbers of the format (`delivers_round`); the ratios turn it into integers. -/
theorem floatResultsAreTheRoundedExactValues : Obligations.FloatResultsAreTheRoundedExactValues := by
  intro f rnd ns a b i eq mode finite ordinary value one rounded gives
  have format := binary_of_eq eq
  have value_eq : value = FloatFormat.units := by
    funext f x
    exact (f.units_eq_mul x).symm
  have given {f : FloatFormat} {result : FpResult Fields} {r : ℝ} {n d : ℤ} (h : f.Gives rnd result r) (pos : 0 < d)
      (exact : r * d = n) : gives f result n d := by
    intro x e is unflagged
    obtain ⟨fin, rounds, inexact⟩ := (h x e is unflagged).ratio pos exact
    rw [← value_eq] at rounds inexact
    exact ⟨fin, fun y hy => (rounds y hy).integers, inexact⟩
  have power (k : ℕ) : (0 : ℤ) < 2 ^ k := by positivity
  rw [value_eq]
  refine ⟨fun ha hb => ⟨?_, ?_, ?_, ?_⟩, fun ha hb => ?_, fun ha => ?_, fun ha => ?_, ?_, fun ha x e is unflagged => ?_,
    fun ha bits _ => toInt_eq format mode ha bits⟩
  · exact given (gives_add format mode ha hb) one_pos (by simp)
  · exact given (gives_sub format mode ha hb) one_pos (by simp)
  · refine given (gives_mul format mode ha hb) (power _) ?_
    have cancel : (1 - f.bias - f.fracBits + (f.fracBits + f.bias - 1) : ℤ) = 0 := by ring
    rw [format.cast_one, mul_assoc, ← zpow_add₀ two_ne_zero, cancel, zpow_zero, mul_one, Int.cast_mul]
  · cases zb : b.isZero with
    | true => exact fun x e is unflagged => absurd unflagged (flagged_of_div_zero mode ha hb zb is)
    | false =>
      have divisor := Ordinary.units_ne_zero hb zb
      have real : (f.units b : ℝ) ≠ 0 := Int.cast_ne_zero.2 divisor
      refine given (gives_div format mode ha hb) (by omega) ?_
      rw [← Int.mul_sign_self, ← format.cast_one]
      simp only [one, Int.cast_mul]
      field_simp
  · refine given (gives_mulWide mode ha hb) one_pos ?_
    rw [Int.cast_one, mul_one, Int.cast_mul, Int.cast_mul, Int.cast_pow, Int.cast_ofNat, zpow_ofNat]
  · refine given (gives_widen mode ha) one_pos ?_
    rw [Int.cast_one, mul_one, Int.cast_mul, Int.cast_pow, Int.cast_ofNat, zpow_ofNat]
  · refine given (gives_narrow mode ha) (power _) ?_
    rw [Int.cast_pow, Int.cast_ofNat, zpow_neg, zpow_ofNat, mul_assoc, inv_mul_cancel₀ (pow_ne_zero _ two_ne_zero), mul_one]
  · refine given (gives_ofInt format mode i) one_pos ?_
    simp only [one, ← format.cast_one, Int.cast_mul, Int.cast_one, mul_one]
  · intro n v
    have delivers := gives_sqrt format mode ha x e is unflagged
    have radicand : (f.units a * 2 ^ (f.fracBits + f.bias - 1 : ℤ) : ℝ) = (n : ℤ) := by
      rw [← format.cast_one]
      simp [n, one]
    rw [radicand] at delivers
    have nonneg : 0 ≤ n := mul_nonneg (nonneg_of_sqrt ha is unflagged) (power _).le
    obtain ⟨hv, inexact⟩ := delivers.root format
    exact ⟨delivers.finite, inexact nonneg, fun y hy hw => (delivers.rounds y hy).squares nonneg hv hw⟩

end Sys2Proof

namespace Sys2Proof.Machine

/-! ### The ends of the VIS instructions (spec/45_vis.md R1162, R1163) -/

section
variable {i : Instr} {s : State} {rd rd' rs1 rs2 : Reg} {op3 : BitVec 6} {opf : BitVec 9}

theorem writesDouble_of_visD {v : Word} (on : s.fpEnabled = true) (run : exec i s = (s.visD rd v).outcome) :
    WritesDouble i s s rd v :=
  writesDouble_of_setF64 (exec_of_needsFp run on) rfl rfl

theorem writesSingle_of_visS {v : Word32} (on : s.fpEnabled = true) (run : exec i s = (s.visS rd v).outcome) :
    WritesSingle i s s rd v :=
  writesSingle_of_setF32 (exec_of_needsFp run on) rfl rfl

/-- The word of an instruction that needs the unit, and the trap of a disabled one. -/
theorem hasOpf_and_traps {k : Res Unit} (word : encode i = fmtOpf op3 rd' rs1 opf rs2) (run : exec i s = (s.needsFp k).outcome) :
    HasOpf i op3 opf ∧ (s.fpEnabled = false → Traps i s s 0x020) :=
  ⟨hasOpf_of_encode word, traps_of_needsFp run⟩

end

/-! ### Logical operations (R1240 to R1272) -/

/-- A function of two registers of any width computes, on every bit, the truth table `p`. -/
def Bitwise (f : ∀ w : Nat, BitVec w → BitVec w → BitVec w) (p : Bool → Bool → Bool) : Prop :=
  ∀ (w : Nat) (x y : BitVec w) (k : Nat), k < w → bitAt (f w x y) k = p (bitAt x k) (bitAt y k)

end Sys2Proof.Machine

namespace Sys2Proof
open Machine

/-- Settles O49: each operation is one bitwise function at both widths. -/
theorem logicalOperationsFollowTheirTruthTable : Obligations.LogicalOperationsFollowTheirTruthTable := by
  intro s rd rs1 rs2 does
  have bitwise {double single : Instr} {opf : BitVec 9} {a b : Reg} {p : Bool → Bool → Bool}
      (f : ∀ w : Nat, BitVec w → BitVec w → BitVec w) (table : Bitwise f p)
      (wordD : encode double = fmtOpf 0x36 rd a opf b) (wordS : encode single = fmtOpf 0x36 rd a (opf + 1) b)
      (runD : exec double s = (s.visD rd (f 64 (s.f64 rs1) (s.f64 rs2))).outcome)
      (runS : exec single s = (s.visS rd (f 32 (s.f32 rs1) (s.f32 rs2))).outcome) : does double single opf p :=
    ⟨hasOpf_of_encode wordD, hasOpf_of_encode wordS, fun off => ⟨traps_of_needsFp runD off, traps_of_needsFp runS off⟩,
      fun on => ⟨⟨_, table 64 _ _, writesDouble_of_visD on runD⟩, ⟨_, table 32 _ _, writesSingle_of_visS on runS⟩⟩⟩
  clear_value does
  refine ⟨bitwise (fun _ _ _ => 0) ?_ rfl rfl rfl rfl, bitwise (fun _ x y => ~~~(x ||| y)) ?_ rfl rfl rfl rfl,
    bitwise (fun _ x y => x &&& ~~~y) ?_ rfl rfl rfl rfl, bitwise (fun _ _ y => ~~~y) ?_ rfl rfl rfl rfl,
    bitwise (fun _ x y => ~~~x &&& y) ?_ rfl rfl rfl rfl, bitwise (fun _ x _ => ~~~x) ?_ rfl rfl rfl rfl,
    bitwise (fun _ x y => x ^^^ y) ?_ rfl rfl rfl rfl, bitwise (fun _ x y => ~~~(x &&& y)) ?_ rfl rfl rfl rfl,
    bitwise (fun _ x y => x &&& y) ?_ rfl rfl rfl rfl, bitwise (fun _ x y => ~~~(x ^^^ y)) ?_ rfl rfl rfl rfl,
    bitwise (fun _ x _ => x) ?_ rfl rfl rfl rfl, bitwise (fun _ x y => x ||| ~~~y) ?_ rfl rfl rfl rfl,
    bitwise (fun _ _ y => y) ?_ rfl rfl rfl rfl, bitwise (fun _ x y => ~~~x ||| y) ?_ rfl rfl rfl rfl,
    bitwise (fun _ x y => x ||| y) ?_ rfl rfl rfl rfl, bitwise (fun w _ _ => BitVec.allOnes w) ?_ rfl rfl rfl rfl⟩
  all_goals
    intro w x y k inside
    simp [bitAt, inside]
  cases x[k] <;> rfl

end Sys2Proof
namespace Sys2Proof.Machine

/-! ### The lanes of a register (spec/45_vis.md R1160) -/

/-- `n` parts of `w` bits joined, the first one on top. -/
def joined {w : Nat} (f : Nat → BitVec w) : (n : Nat) → BitVec (w * n)
  | 0 => 0
  | n + 1 => joined f n ++ f n

theorem joined_one {w : Nat} (f : Nat → BitVec w) : (joined f 1).toNat = (f 0).toNat := by
  simp [joined]

theorem extract_joined {w : Nat} (f : Nat → BitVec w) {n k : Nat} (inside : k < n) :
    (joined f n).extractLsb' (w * (n - 1 - k)) w = f k := by
  induction n with
  | zero => omega
  | succ n ih =>
    rcases Nat.lt_succ_iff_lt_or_eq.1 inside with earlier | rfl
    · have place : w * (n + 1 - 1 - k) = w * (n - 1 - k) + w := by
        rw [← Nat.mul_succ]; congr 1; omega
      rw [joined, place, BitVec.extractLsb'_append_eq_of_le (by omega), Nat.add_sub_cancel, ih earlier]
    · rw [joined, Nat.add_sub_cancel, Nat.sub_self, Nat.mul_zero, extract_append_low]

theorem bytes8_eq_joined (f : Nat → BitVec 8) : bytes8 f = joined f 8 := by
  have first : joined f 1 = f 0 := BitVec.eq_of_toNat_eq (joined_one f)
  rw [bytes8, ← first]; rfl

theorem halves4_eq_joined (f : Nat → BitVec 16) : halves4 f = joined f 4 := by
  have first : joined f 1 = f 0 := BitVec.eq_of_toNat_eq (joined_one f)
  rw [halves4, ← first]; rfl

theorem words2_eq_joined (f : Nat → Word32) : words2 f = joined f 2 := by
  have first : joined f 1 = f 0 := BitVec.eq_of_toNat_eq (joined_one f)
  rw [words2, ← first]; rfl

theorem halves2_eq_joined (f : Nat → BitVec 16) : halves2 f = joined f 2 := by
  have first : joined f 1 = f 0 := BitVec.eq_of_toNat_eq (joined_one f)
  rw [halves2, ← first]; rfl

theorem bytes4_eq_joined (f : Nat → BitVec 8) : bytes4 f = joined f 4 := by
  have first : joined f 1 = f 0 := BitVec.eq_of_toNat_eq (joined_one f)
  rw [bytes4, ← first]; rfl

theorem byteOf_eq (v : Word) (k : Nat) : byteOf v k = v.extractLsb' (8 * (7 - k)) 8 := by rw [byteOf, Nat.mul_sub]

theorem halfOf_eq (v : Word) (k : Nat) : halfOf v k = v.extractLsb' (16 * (3 - k)) 16 := by rw [halfOf, Nat.mul_sub]

theorem wordOf_eq (v : Word) (k : Nat) : wordOf v k = v.extractLsb' (32 * (1 - k)) 32 := by rw [wordOf, Nat.mul_sub]

theorem byteOf32_eq (v : Word32) (k : Nat) : byteOf32 v k = v.extractLsb' (8 * (3 - k)) 8 := by rw [byteOf32, Nat.mul_sub]

theorem halfOf32_eq (v : Word32) (k : Nat) : halfOf32 v k = v.extractLsb' (16 * (1 - k)) 16 := by rw [halfOf32, Nat.mul_sub]

/-! ### Partitioned comparisons (R1200) -/

theorem compareMask_succ (n : Nat) (holds : Nat → Bool) :
    compareMask (n + 1) holds = (compareMask n holds <<< 1) ||| (if holds n then 1 else 0) := by
  simp [compareMask, List.range_succ]

/-- Bit `j` of a comparison of `n` lanes is the result of the lane that is `j` from the last. -/
theorem bitAt_compareMask (holds : Nat → Bool) {n j : Nat} (room : j < 64) :
    bitAt (compareMask n holds) j = (decide (j < n) && holds (n - 1 - j)) := by
  induction n generalizing j with
  | zero => simp [compareMask, bitAt]
  | succ n ih =>
    have one : (if holds n then (1 : Word) else 0).getLsbD j = (decide (j = 0) && holds n) := by
      cases holds n <;> simp [BitVec.getLsbD_one]
    rw [compareMask_succ, bitAt, BitVec.getLsbD_or, BitVec.getLsbD_shiftLeft, one]
    cases j with
    | zero => simp
    | succ j =>
      have shifted := ih (j := j) (by omega)
      have lane : n - 1 - j = n - (j + 1) := by omega
      rw [bitAt, lane] at shifted
      simp [shifted, room]

theorem compareMask_lt (holds : Nat → Bool) (n : Nat) : (compareMask n holds).toNat < 2 ^ n := by
  refine Nat.lt_pow_two_of_testBit _ fun j above => ?_
  rcases Nat.lt_or_ge j 64 with room | large
  · exact (bitAt_compareMask holds room).trans (by simp; omega)
  · exact BitVec.getLsbD_of_ge _ _ large

/-- The bits of a comparison, the lane `k` of `n` at the place `n - 1 - k`. -/
theorem bitAt_compareMask_lane (holds : Nat → Bool) {n k : Nat} (lanes : n ≤ 64) (inside : k < n) :
    bitAt (compareMask n holds) (n - 1 - k) = holds k := by
  have place : n - 1 - k < n := by omega
  rw [bitAt_compareMask holds (by omega), decide_eq_true place, Bool.true_and]
  congr 1
  omega

theorem writes_of_visInt {i : Instr} {s : State} {rd : Reg} {v : Word} (on : s.fpEnabled = true)
    (run : exec i s = (s.visInt rd v).outcome) : Writes i s s rd v :=
  writes_of_finish (exec_of_needsFp run on) rfl rfl

end Sys2Proof.Machine

namespace Sys2Proof
open Machine

/-- Settles O47: a comparison is a mask with one bit for each lane (`bitAt_compareMask_lane`), and a product joins the products of
the lanes (`extract_joined`). -/
theorem partitionedComparesAndProducts : Obligations.PartitionedComparesAndProducts := by
  intro s rd rs1 rs2 half word half32 byte32 upper lower near is compares16 compares32 products16 products32
  have halves (r : Reg) : halfOf (s.f64 r) = half r := funext (halfOf_eq _)
  have words (r : Reg) : wordOf (s.f64 r) = word r := funext (wordOf_eq _)
  have halves32 (r : Reg) : halfOf32 (s.f32 r) = half32 r := funext (halfOf32_eq _)
  have bytes32 (r : Reg) (k : Nat) : (byteOf32 (s.f32 r) k).toNat = byte32 r k := congrArg _ (byteOf32_eq ..)
  have compare16 {i : Instr} {opf : BitVec 9} (p : Int → Int → Bool) (word : encode i = fmtOpf 0x36 rd rs1 opf rs2)
      (run : exec i s = (s.compare16 rd rs1 rs2 p).outcome) : compares16 i opf p := by
    refine ⟨hasOpf_and_traps word run, fun on =>
      ⟨_, compareMask_lt _ 4, fun k inside => ?_, writes_of_visInt on run⟩⟩
    rw [bitAt_compareMask_lane _ (by decide) inside, halves, halves]
  have compare32 {i : Instr} {opf : BitVec 9} (p : Int → Int → Bool) (word : encode i = fmtOpf 0x36 rd rs1 opf rs2)
      (run : exec i s = (s.compare32 rd rs1 rs2 p).outcome) : compares32 i opf p := by
    refine ⟨hasOpf_and_traps word run, fun on =>
      ⟨_, compareMask_lt _ 2, fun k inside => ?_, writes_of_visInt on run⟩⟩
    rw [bitAt_compareMask_lane _ (by decide) inside, words, words]
  have product16 {i : Instr} {opf : BitVec 9} (p : Nat → BitVec 16) (word : encode i = fmtOpf 0x36 rd rs1 opf rs2)
      (run : exec i s = (s.visD rd (halves4 p)).outcome) : products16 i opf p :=
    ⟨hasOpf_and_traps word run, fun on =>
      ⟨_, fun k inside => halves4_eq_joined p ▸ extract_joined p inside, writesDouble_of_visD on run⟩⟩
  have product32 {i : Instr} {opf : BitVec 9} (p : Nat → Int) (word : encode i = fmtOpf 0x36 rd rs1 opf rs2)
      (run : exec i s = (s.visD rd (words2 fun k => BitVec.ofInt 32 (p k))).outcome) : products32 i opf p :=
    ⟨hasOpf_and_traps word run, fun on =>
      ⟨_, fun k inside => words2_eq_joined _ ▸ extract_joined _ inside, writesDouble_of_visD on run⟩⟩
  simp only [← halves, ← halves32, ← bytes32]
  clear_value compares16 compares32 products16 products32
  exact ⟨compare16 _ rfl rfl, compare16 _ rfl rfl, compare32 _ rfl rfl, compare32 _ rfl rfl, compare16 _ rfl rfl,
    compare16 _ rfl rfl, compare32 _ rfl rfl, compare32 _ rfl rfl, product16 _ rfl rfl, product16 _ rfl rfl, product16 _ rfl rfl,
    product16 _ rfl rfl, product16 _ rfl rfl, product32 _ rfl rfl, product32 _ rfl rfl⟩

end Sys2Proof

namespace Sys2Proof.Machine

/-! ### Packs, expansion and distance (R1220 to R1225) -/

theorem clampInt_eq {lo hi : Int} (v : Int) (order : lo ≤ hi) : clampInt v lo hi = max lo (min v hi) := by
  unfold clampInt
  split
  · omega
  · split <;> omega

/-- A lane of FPACK32: the word without its top byte, and the clamped byte below (R1221). -/
theorem packLane_eq (x : Word32) (v : Int) :
    x.extractLsb' 0 24 ++ BitVec.ofInt 8 (clampInt v 0 255) = BitVec.ofNat 32 (x.toNat * 256 + (max 0 (min v 255)).toNat) := by
  have range : 0 ≤ max 0 (min v 255) ∧ max 0 (min v 255) < ((2 ^ 8 : Nat) : Int) := by omega
  have byte : (BitVec.ofInt 8 (clampInt v 0 255)).toNat = (max 0 (min v 255)).toNat := by
    rw [clampInt_eq v (by decide), BitVec.toNat_ofInt, Int.emod_eq_of_lt range.1 range.2]
  apply BitVec.eq_of_toNat_eq
  rw [toNat_append_eq_add, byte, BitVec.extractLsb'_toNat, BitVec.toNat_ofNat, Nat.shiftRight_zero]
  omega

theorem expand_eq (b : BitVec 8) : 0#4 ++ b ++ 0#4 = BitVec.ofNat 16 (b.toNat * 16) := by
  revert b; decide

theorem byteDistance_eq (a b : BitVec 8) : byteDistance a b = ((a.toNat : Int) - b.toNat).natAbs := by
  unfold byteDistance; omega

theorem foldl_byteDistance (x y : Word) :
    (List.range 8).foldl (fun acc k => acc + byteDistance (byteOf x k) (byteOf y k)) 0 =
      ((List.range 8).map fun k => (((byteOf x k).toNat : Int) - (byteOf y k).toNat).natAbs).sum := by
  simp only [byteDistance_eq, ← List.foldl_map (f := fun k => (((byteOf x k).toNat : Int) - (byteOf y k).toNat).natAbs)
    (g := fun acc d => acc + d), List.sum_eq_foldl]

end Sys2Proof.Machine

namespace Sys2Proof
open Machine

/-- Settles O48: each result joins its lanes (`extract_joined`), and each lane is that of its rule. -/
theorem packsMergesAndPartitionedSums : Obligations.PacksMergesAndPartitionedSums := by
  intro s rd rs1 rs2 byte half word half32 byte32 clamp scale is lanesD lanesS
  have bytes (r : Reg) (k : Nat) : byteOf (s.f64 r) k = _ := byteOf_eq ..
  have halves (r : Reg) : halfOf (s.f64 r) = half r := funext (halfOf_eq _)
  have words (r : Reg) : wordOf (s.f64 r) = word r := funext (wordOf_eq _)
  have halves32 (r : Reg) : halfOf32 (s.f32 r) = half32 r := funext (halfOf32_eq _)
  have bytes32 (r : Reg) : byteOf32 (s.f32 r) = byte32 r := funext (byteOf32_eq _)
  have clamped (v : Int) {lo hi : Int} (order : lo ≤ hi) : clampInt v lo hi = clamp v lo hi := clampInt_eq v order
  have double {i : Instr} {opf : BitVec 9} {a b : Reg} {n w : Nat} {p : Nat → BitVec w} {v : Word}
      (word : encode i = fmtOpf 0x36 rd a opf b) (run : exec i s = (s.visD rd v).outcome)
      (joins : v.toNat = (joined p n).toNat) : lanesD i opf n w p := by
    refine ⟨hasOpf_and_traps word run, fun on => ⟨_, fun k inside => ?_, writesDouble_of_visD on run⟩⟩
    rw [← extract_joined p inside, BitVec.extractLsb', BitVec.extractLsb', joins]
  have single {i : Instr} {opf : BitVec 9} {a b : Reg} {n w : Nat} {p : Nat → BitVec w} {v : Word32}
      (word : encode i = fmtOpf 0x36 rd a opf b) (run : exec i s = (s.visS rd v).outcome)
      (joins : v.toNat = (joined p n).toNat) : lanesS i opf n w p := by
    refine ⟨hasOpf_and_traps word run, fun on => ⟨_, fun k inside => ?_, writesSingle_of_visS on run⟩⟩
    rw [← extract_joined p inside, BitVec.extractLsb', BitVec.extractLsb', joins]
  have quarters {f : Nat → BitVec 16} : (halves4 f).toNat = (joined f 4).toNat := congrArg _ (halves4_eq_joined f)
  have pair {f : Nat → Word32} : (words2 f).toNat = (joined f 2).toNat := congrArg _ (words2_eq_joined f)
  have pair32 {f : Nat → BitVec 16} : (halves2 f).toNat = (joined f 2).toNat := congrArg _ (halves2_eq_joined f)
  have alone {v : Word32} : v.toNat = (joined (fun _ => v) 1).toNat := (joined_one fun _ => v).symm
  simp only [← halves, ← words, ← halves32, ← bytes32]
  clear_value lanesD lanesS
  refine ⟨single rfl rfl ?_, double rfl rfl ?_, single rfl rfl ?_, double rfl rfl ?_, double rfl rfl ?_, ?_,
    double rfl rfl quarters, single rfl rfl pair32, double rfl rfl pair, single rfl rfl alone,
    double rfl rfl quarters, single rfl rfl pair32, double rfl rfl pair, single rfl rfl alone⟩
  · rw [bytes4_eq_joined]
    simp only [clamped _ (by decide : (0 : Int) ≤ 255)]
    rfl
  · rw [words2_eq_joined]
    simp only [packLane_eq]
    rfl
  · rw [halves2_eq_joined]
    simp only [clamped _ (by decide : (-32768 : Int) ≤ 32767)]
    rfl
  · rw [halves4_eq_joined]
    simp only [expand_eq]
  · rw [bytes8_eq_joined]
  · refine ⟨hasOpf_and_traps rfl rfl, fun on => ?_⟩
    have sum : _ = _ := foldl_byteDistance (s.f64 rs1) (s.f64 rs2)
    simp only [bytes] at sum
    rw [← sum]
    exact writesDouble_of_visD on rfl
end Sys2Proof

namespace Sys2Proof.Machine

/-! ### Aligned addresses and shuffled bytes (R1190 to R1194) -/

theorem alignedAddress_eq (v : Word) : v.extractLsb' 3 61 ++ 0#3 = BitVec.ofNat 64 (v.toNat / 8 * 8) := by
  apply BitVec.eq_of_toNat_eq
  rw [toNat_append_eq_add, BitVec.extractLsb'_toNat, BitVec.toNat_ofNat, BitVec.toNat_ofNat, Nat.shiftRight_eq_div_pow]
  omega

theorem alignField_eq (v : Word) : v.extractLsb' 0 3 = BitVec.ofNat 3 (v.toNat % 8) := by
  apply BitVec.eq_of_toNat_eq
  rw [BitVec.extractLsb'_toNat, BitVec.toNat_ofNat, Nat.shiftRight_zero, Nat.mod_mod]

theorem neg_alignField_eq (v : Word) : -(v.extractLsb' 0 3) = BitVec.ofNat 3 (8 - v.toNat % 8) := by
  apply BitVec.eq_of_toNat_eq
  rw [BitVec.toNat_neg, BitVec.extractLsb'_toNat, BitVec.toNat_ofNat, Nat.shiftRight_zero]

/-- The byte `k` of two doublewords, those of the first before those of the second. -/
def byteOfPair (a b : Word) (k : Nat) : BitVec 8 :=
  if k < 8 then a.extractLsb' (8 * (7 - k)) 8 else b.extractLsb' (8 * (15 - k)) 8

theorem shuffleByte_eq (a b : Word) (sel : BitVec 4) : shuffleByte a b sel = byteOfPair a b sel.toNat := by
  have range := sel.isLt
  rw [shuffleByte, byteOfPair, bitAt_last, byteOf_eq, byteOf_eq]
  rcases Nat.lt_or_ge sel.toNat 8 with first | second
  · rw [if_neg (by simpa using first), if_pos first]
  · rw [if_pos (by simpa using second), if_neg (by omega)]
    congr 2
    omega

theorem selector_eq (mask : BitVec 32) {k : Nat} (inside : k < 8) :
    (mask.extractLsb' (28 - 4 * k) 4).toNat = mask.toNat / 16 ^ (7 - k) % 16 := by
  have place : 28 - 4 * k = 4 * (7 - k) := by omega
  rw [place, BitVec.extractLsb'_toNat, Nat.shiftRight_eq_div_pow, Nat.pow_mul]

/-- Shifting two doublewords left by `n` bytes brings the byte `n + k` to the place of byte `k`. -/
theorem extract_shifted_pair (a b : Word) {n k : Nat} (shift : n < 8) (inside : k < 8) :
    (((a ++ b : BitVec 128) <<< (8 * n)).extractLsb' 64 64).extractLsb' (8 * (7 - k)) 8 = byteOfPair a b (n + k) := by
  apply BitVec.eq_of_getLsbD_eq
  intro j bit
  have place : 64 + (8 * (7 - k) + j) < 128 := by omega
  have above : ¬64 + (8 * (7 - k) + j) < 8 * n := by omega
  have within : 8 * (7 - k) + j < 64 := by omega
  simp only [BitVec.getLsbD_extractLsb', BitVec.getLsbD_shiftLeft, BitVec.getLsbD_append, bit, place, above, within, byteOfPair,
    decide_true, decide_false, Bool.true_and, Bool.not_false]
  rcases Nat.lt_or_ge (n + k) 8 with first | second
  · rw [if_neg (by omega), if_pos first, BitVec.getLsbD_extractLsb', decide_eq_true bit, Bool.true_and]
    congr 1
    omega
  · rw [if_pos (by omega), if_neg (by omega), BitVec.getLsbD_extractLsb', decide_eq_true bit, Bool.true_and]
    congr 1
    omega

end Sys2Proof.Machine

namespace Sys2Proof
open Machine

/-- Settles O46: the two that move bytes give, at each place, the byte that GSR names (`shuffleByte_eq`, `extract_shifted_pair`). -/
theorem alignmentAndShuffleMoveBytes : Obligations.AlignmentAndShuffleMoveBytes := by
  intro s rd rs1 rs2 m sum address aligned source permutes is
  have cut : sum.extractLsb' 3 61 ++ 0#3 = address := alignedAddress_eq sum
  have mode : m.setWidth 2 = m.extractLsb' 0 2 := by revert m; decide
  refine ⟨hasOpf_and_traps rfl rfl, hasOpf_and_traps rfl rfl, hasOpf_and_traps rfl rfl, hasOpf_and_traps rfl rfl,
    hasOpf_and_traps rfl rfl, hasOpf_and_traps rfl rfl, fun on => ⟨?_, ?_, ?_, ?_, ?_, ?_⟩⟩
  · have state : aligned (sum.toNat % 8) = s.setGsr (s.gsr.withAlign (sum.extractLsb' 0 3)) := by
      rw [alignField_eq]; rfl
    rw [state, ← cut]
    exact writes_of_finish (exec_of_needsFp rfl on) rfl rfl
  · have state : aligned (8 - sum.toNat % 8) = s.setGsr (s.gsr.withAlign (-(sum.extractLsb' 0 3))) := by
      rw [neg_alignField_eq]; rfl
    rw [state, ← cut]
    exact writes_of_finish (exec_of_needsFp rfl on) rfl rfl
  · exact writes_of_finish (b := s.setGsr (s.gsr.withMask (BitVec.ofNat 32 sum.toNat))) (exec_of_needsFp rfl on) rfl rfl
  · refine ⟨_, fun k inside => ?_, writesDouble_of_visD on rfl⟩
    rw [bytes8_eq_joined]
    refine (extract_joined _ inside).trans ?_
    rw [shuffleByte_eq, selector_eq _ inside]
    rfl
  · exact ⟨_, fun k inside => extract_shifted_pair _ _ s.gsr.align.isLt inside, writesDouble_of_visD on rfl⟩
  · rw [← mode]
    exact completes_of_exec_advance (b := s.setGsr _) (exec_of_needsFp (k := .ok () _) rfl on) rfl rfl

end Sys2Proof

namespace Sys2Proof.Machine

/-! ### Edge masks (R1170) -/

/-- Ones below bit `n`, moved down by `i`. -/
theorem testBit_ones_div (n i j : Nat) : ((2 ^ n - 1) / 2 ^ i).testBit j = decide (j + i < n) := by
  rw [Nat.testBit_div_two_pow, Nat.testBit_two_pow_sub_one]

/-- Ones below bit `n`, moved up by `i` and cut there. -/
theorem testBit_ones_mul (n i j : Nat) : ((2 ^ n - 1) * 2 ^ i % 2 ^ n).testBit j = decide (i ≤ j ∧ j < n) := by
  rw [Nat.testBit_mod_two_pow, Nat.testBit_mul_two_pow, Nat.testBit_two_pow_sub_one]
  rw [← Bool.decide_and, ← Bool.decide_and, decide_eq_decide]
  omega

/-- Two addresses are in one doubleword, of the low 32 bits of the address space where PSTATE.am is set. -/
def sameDoubleword (am : Bool) (a b : Word) : Bool :=
  if am then a.toNat % 2 ^ 32 / 8 == b.toNat % 2 ^ 32 / 8 else a.toNat / 8 == b.toNat / 8

theorem sameDoubleword_eq (am : Bool) (a b : Word) :
    (if am then a.extractLsb' 3 29 == b.extractLsb' 3 29 else a.extractLsb' 3 61 == b.extractLsb' 3 61) =
      sameDoubleword am a b := by
  have low := a.isLt
  have low' := b.isLt
  rw [sameDoubleword, Bool.eq_iff_iff]
  cases am <;>
  · simp only [if_true, if_false, Bool.false_eq_true, beq_iff_eq, ← BitVec.toNat_inj, BitVec.extractLsb'_toNat,
      Nat.shiftRight_eq_div_pow]
    omega

/-- The elements of a doubleword that an edge mask of `n` of them names, in the order of their addresses. -/
theorem bitAt_edgeMask {n k : Nat} (size : n ∣ 8) (little am : Bool) (a b : Word) (inside : k < n) :
    bitAt (edgeMask n little am a b) (if little then k else n - 1 - k) =
      (decide (a.toNat % 8 / (8 / n) ≤ k) && (!sameDoubleword am a b || decide (k ≤ b.toNat % 8 / (8 / n)))) := by
  have fits : n ≤ 8 := Nat.le_of_dvd (by decide) size
  have element (v : Nat) : v % 8 / (8 / n) < n := by
    rw [Nat.div_lt_iff_lt_mul (Nat.div_pos fits (by omega)), Nat.mul_div_cancel' size]
    exact Nat.mod_lt _ (by decide)
  have first := element a.toNat
  have last := element b.toNat
  rw [edgeMask, sameDoubleword_eq]
  cases sameDoubleword am a b <;> cases little <;>
  · simp only [if_true, if_false, Bool.false_eq_true, bitAt, BitVec.getLsbD_ofNat, Nat.testBit_and, testBit_ones_div,
      testBit_ones_mul, Bool.not_true, Bool.not_false, Bool.true_or, Bool.false_or, ← Bool.decide_and, Bool.and_true,
      decide_eq_decide]
    omega

theorem edgeMask_lt (n : Nat) (little am : Bool) (a b : Word) : (edgeMask n little am a b).toNat < 2 ^ n := by
  have full : 2 ^ n - 1 < 2 ^ n := Nat.sub_lt (Nat.two_pow_pos n) one_pos
  have left (i : Nat) : (if little then (2 ^ n - 1) * 2 ^ i % 2 ^ n else (2 ^ n - 1) / 2 ^ i) < 2 ^ n := by
    cases little
    · exact (Nat.div_le_self ..).trans_lt full
    · exact Nat.mod_lt _ (Nat.two_pow_pos n)
  rw [edgeMask, BitVec.toNat_ofNat, sameDoubleword_eq]
  refine (Nat.mod_le ..).trans_lt ?_
  cases sameDoubleword am a b
  · exact left _
  · exact Nat.and_le_left.trans_lt (left _)

/-! ### Blocked addresses (R1185) -/

/-- The address of R1185 as a number, from the three coordinates. -/
def blockedAddress (x y z n : Nat) : Nat :=
  x % 4 + y % 4 * 2 ^ 2 + z % 2 * 2 ^ 4 + x / 4 % 16 * 2 ^ 5 + y / 4 % 16 * 2 ^ 9 + z / 2 % 16 * 2 ^ 13 +
    x / 64 % 2 ^ n * 2 ^ 17 + y / 64 % 2 ^ n * 2 ^ (17 + n) + z / 32 % 16 * 2 ^ (17 + 2 * n)

/-- A digit below others, and what is above it. -/
theorem digit_of_add_mul {d m : Nat} (rest : Nat) (digit : d < m) : (d + m * rest) % m = d ∧ (d + m * rest) / m = rest :=
  ⟨by rw [Nat.add_mul_mod_self_left, Nat.mod_eq_of_lt digit],
    by rw [Nat.add_mul_div_left _ _ (by omega), Nat.div_eq_of_lt digit, Nat.zero_add]⟩

/-- The fields of the blocked address, each above the one before. -/
theorem blockedAddress_eq (x y z n : Nat) : blockedAddress x y z n =
    x % 4 + 4 * (y % 4 + 4 * (z % 2 + 2 * (x / 4 % 16 + 16 * (y / 4 % 16 + 16 * (z / 2 % 16 + 16 *
      (x / 64 % 2 ^ n + 2 ^ n * (y / 64 % 2 ^ n + 2 ^ n * (z / 32 % 16)))))))) := by
  rw [blockedAddress]
  ring

theorem blockedAddress_fields (x y n : Nat) {z : Nat} (range : z < 512) :
    let v := blockedAddress x y z n
    v % 4 = x % 4 ∧ v / 2 ^ 2 % 4 = y % 4 ∧ v / 2 ^ 4 % 2 = z % 2 ∧ v / 2 ^ 5 % 16 = x / 4 % 16 ∧
      v / 2 ^ 9 % 16 = y / 4 % 16 ∧ v / 2 ^ 13 % 16 = z / 2 % 16 ∧ v / 2 ^ 17 % 2 ^ n = x / 64 % 2 ^ n ∧
      v / 2 ^ (17 + n) % 2 ^ n = y / 64 % 2 ^ n ∧ v / 2 ^ (17 + 2 * n) = z / 32 := by
  intro v
  have power := Nat.two_pow_pos n
  have cut {m : Nat} (w rest : Nat) (positive : 0 < m) := digit_of_add_mul rest (Nat.mod_lt w positive)
  obtain ⟨h0, d1⟩ := cut (m := 4) x _ (by decide)
  obtain ⟨h1, d2⟩ := cut (m := 4) y _ (by decide)
  obtain ⟨h2, d3⟩ := cut (m := 2) z _ (by decide)
  obtain ⟨h3, d4⟩ := cut (m := 16) (x / 4) _ (by decide)
  obtain ⟨h4, d5⟩ := cut (m := 16) (y / 4) _ (by decide)
  obtain ⟨h5, d6⟩ := cut (m := 16) (z / 2) _ (by decide)
  obtain ⟨h6, d7⟩ := cut (x / 64) _ power
  obtain ⟨h7, d8⟩ := cut (y / 64) (z / 32 % 16) power
  have top : z / 32 % 16 = z / 32 := Nat.mod_eq_of_lt (by omega)
  have places : 2 ^ (17 + n) = 4 * 4 * 2 * 16 * 16 * 16 * 2 ^ n ∧ 2 ^ (17 + 2 * n) = 4 * 4 * 2 * 16 * 16 * 16 * 2 ^ n * 2 ^ n :=
    ⟨by ring, by ring⟩
  rw [places.1, places.2, show 2 ^ 2 = 4 from rfl, show 2 ^ 4 = 4 * 4 from rfl, show 2 ^ 5 = 4 * 4 * 2 from rfl,
    show 2 ^ 9 = 4 * 4 * 2 * 16 from rfl, show 2 ^ 13 = 4 * 4 * 2 * 16 * 16 from rfl,
    show 2 ^ 17 = 4 * 4 * 2 * 16 * 16 * 16 from rfl]
  simp only [v, blockedAddress_eq, ← Nat.div_div_eq_div_mul]
  rw [d1, d2, d3, d4, d5, d6, d7, d8]
  exact ⟨h0, h1, h2, h3, h4, h5, h6, h7, top⟩

theorem arrayAddress_shift (a : Word) (n k : Nat) : arrayAddress a n <<< k =
    BitVec.ofNat 64 (blockedAddress (a.toNat / 2 ^ 11 % 2 ^ 11) (a.toNat / 2 ^ 33 % 2 ^ 11) (a.toNat / 2 ^ 55) n * 2 ^ k) := by
  have range := a.isLt
  have coordinate (lo len : Nat) : (a.extractLsb' lo len).toNat = a.toNat / 2 ^ lo % 2 ^ len := by
    rw [BitVec.extractLsb'_toNat, Nat.shiftRight_eq_div_pow]
  have top : a.toNat / 2 ^ 55 % 2 ^ 9 = a.toNat / 2 ^ 55 := Nat.mod_eq_of_lt (by omega)
  rw [arrayAddress, coordinate, coordinate, coordinate, top]
  apply BitVec.eq_of_toNat_eq
  rw [BitVec.toNat_shiftLeft, BitVec.toNat_ofNat, BitVec.toNat_ofNat, Nat.shiftLeft_eq, Nat.mod_mul_mod]
  rfl

end Sys2Proof.Machine

namespace Sys2Proof
open Machine

/-- Settles O45: a mask is told bit by bit (`bitAt_edgeMask`), and a blocked address field by field (`blockedAddress_fields`). -/
theorem edgesAndArraysComputeMasksAndAddresses : Obligations.EdgesAndArraysComputeMasksAndAddresses := by
  intro s rd rs1 rs2 a b same is edge array
  have edges {i : Instr} {opf : BitVec 9} {n : Nat} {little cc : Bool} (size : n ∣ 8) (word : encode i = fmtOpf 0x36 rd rs1 opf rs2)
      (run : exec i s = (s.edge rd rs1 rs2 n little cc).outcome) : edge i opf n little cc :=
    ⟨hasOpf_of_encode word, _, edgeMask_lt n little s.pstate.am a b, fun _ inside => bitAt_edgeMask size little _ a b inside,
      writes_of_finishCc run rfl rfl⟩
  have arrays {i : Instr} {opf : BitVec 9} {k : Nat} (word : encode i = fmtOpf 0x36 rd rs1 opf rs2)
      (run : exec i s = (s.array rd rs1 rs2 k).outcome) : array i opf k := by
    refine ⟨hasOpf_of_encode word, fun size =>
      ⟨blockedAddress (a.toNat / 2 ^ 11 % 2 ^ 11) (a.toNat / 2 ^ 33 % 2 ^ 11) (a.toNat / 2 ^ 55) b.toNat, ?_⟩,
      fun size => ⟨s.drawWord .arrayResult, ?_⟩⟩
    · have range := a.isLt
      obtain ⟨x0, y0, z0, x1, y1, z1, x2, y2, z2⟩ := blockedAddress_fields (a.toNat / 2 ^ 11 % 2 ^ 11) (a.toNat / 2 ^ 33 % 2 ^ 11)
        b.toNat (by omega : a.toNat / 2 ^ 55 < 512)
      refine ⟨x0, y0, z0, x1, y1, z1, x2, y2, z2, ?_⟩
      rw [← arrayAddress_shift]
      exact writes_of_finish (run.trans (by rw [State.array, if_pos size])) rfl rfl
    · exact writes_of_finish (b := s.drawn) (run.trans (by rw [State.array, if_neg (Nat.not_le.2 size)])) rfl rfl
  clear_value edge array
  exact ⟨edges (by decide) rfl rfl, edges (by decide) rfl rfl, edges (by decide) rfl rfl, edges (by decide) rfl rfl,
    edges (by decide) rfl rfl, edges (by decide) rfl rfl, edges (by decide) rfl rfl, edges (by decide) rfl rfl,
    edges (by decide) rfl rfl, edges (by decide) rfl rfl, edges (by decide) rfl rfl, edges (by decide) rfl rfl,
    arrays rfl rfl, arrays rfl rfl, arrays rfl rfl⟩

end Sys2Proof

namespace Sys2Proof.Machine

/-! ### Trap entry, part by part (spec/60_exceptions.md R1320, R1340) -/

theorem savedPc_eq (am : Bool) (pc : Word) :
    savedPc am pc = if am then BitVec.ofNat 46 (pc.toNat % 2 ^ 32 / 4) else pc.extractLsb' 2 46 := by
  cases am
  · rfl
  · apply BitVec.eq_of_toNat_eq
    simp only [savedPc, maskAddr, if_true, BitVec.extractLsb'_toNat, BitVec.toNat_setWidth, BitVec.toNat_ofNat,
      Nat.shiftRight_eq_div_pow]
    omega

theorem trapWindow_eq (tt : BitVec 9) (w : Windows) : trapWindow tt w =
    { w with cwp := if 0x080 ≤ tt ∧ tt ≤ 0x0BF then w.cwp + w.cansave + 2
      else if 0x0C0 ≤ tt ∧ tt ≤ 0x0FF then w.cwp - 1 else if tt = 0x024 then w.cwp + 1 else w.cwp } := by
  simp only [trapWindow, Bool.and_eq_true, decide_eq_true_eq, beq_iff_eq, apply_ite (fun c => { w with cwp := c })]

theorem trapToPriv_iff (tt : BitVec 9) : trapToPriv tt = true ↔
    tt ∈ ([0x011, 0x020, 0x021, 0x022, 0x023, 0x024, 0x025, 0x026, 0x027, 0x028, 0x074, 0x07C, 0x07D, 0x07E] : List (BitVec 9)) ∨
      (0x041 ≤ tt ∧ tt ≤ 0x04F) ∨ (0x080 ≤ tt ∧ tt ≤ 0x17F) := by
  revert tt; decide +kernel

theorem glNext_three (gl : BitVec 2) : glNext gl 3 = BitVec.ofNat 2 (min (gl.toNat + 1) 3) := by revert gl; decide

theorem glNext_two (gl : BitVec 2) : glNext gl 2 = BitVec.ofNat 2 (min (gl.toNat + 1) 2) := by revert gl; decide

section
variable {s : State} (tt : BitVec 9)

theorem takeTrap_watchdog (level : s.tl = 6) : s.takeTrap tt = s.enterRed tt 0x40 := by
  simp [State.takeTrap, trapDest, maxTl, level]

theorem takeTrap_red (level : s.tl < 6) (last : s.tl = 5 ∨ s.hpstate.red = true) :
    s.takeTrap tt = { s.enterRed tt 0xA0 with undrained := [] } := by
  have top : s.tl ≠ maxTl := BitVec.ne_of_lt level
  have dest : trapDest tt s = .red := by
    have choice : (decide (s.tl = maxTl - 1) || s.hpstate.red) = true := by rw [Bool.or_eq_true, decide_eq_true_eq]; exact last
    rw [trapDest, if_neg top, if_pos choice]
  rw [State.takeTrap, dest]

/-- Below the last two levels and outside RED_state the mode and the type say where a trap goes. -/
theorem trapDest_of_low (level : s.tl < 5) (red : s.hpstate.red = false) : trapDest tt s =
    if s.hpstate.hpriv || !trapToPriv tt then .hyper else if s.tl < 2 then .priv else .guestWatchdog := by
  have top : s.tl ≠ maxTl := by rintro e; rw [e] at level; exact absurd level (by decide)
  have last : s.tl ≠ maxTl - 1 := BitVec.ne_of_lt level
  rw [trapDest, if_neg top, if_neg (by rw [red, decide_eq_false last]; decide)]
  rfl

end

end Sys2Proof.Machine

namespace Sys2Proof
open Machine

/-- Settles O50: the level, RED_state, the mode and the type choose one of the five entries, and each writes the fields of its rule. -/
theorem trapsSaveTheStateAndGoToTheirVector : Obligations.TrapsSaveTheStateAndGoToTheirVector := by
  intro s tt exists' t saved frame cwp toPriv entered kept off hyper red
  have captured : frame = s.capture tt := by simp only [frame, State.capture, savedPc_eq]; rfl
  have enters {u : State} {tl : BitVec 3} {gl : Nat} {p : PState} {h : HPState} {pc : Word} (is : t = u)
      (traps : u.traps = fileSet s.traps tl (s.capture tt))
      (rest : u = { s with traps := u.traps, tl := tl, gl := BitVec.ofNat 2 (min (s.gl.toNat + 1) gl), win := trapWindow tt s.win, pstate := p,
                           hpstate := h, lsu := u.lsu, pc := pc, npc := pc + 4, undrained := u.undrained, taken := some tt }) :
      entered tl gl p h pc := by
    refine ⟨fun n => ?_, ?_⟩
    · rw [is, traps, captured]
      split
      · next e => rw [e, fileGet_fileSet]
      · next e => rw [fileGet_fileSet_ne _ _ e]
    · rw [is]
      exact rest.trans (by rw [trapWindow_eq])
  have hypers {slot : BitVec 9} (is : t = s.enterHyper tt slot) : hyper slot :=
    ⟨enters is rfl (by rw [← glNext_three]; rfl), by rw [is]; rfl, by rw [is]; rfl⟩
  have reds {tl : BitVec 3} {offset : Word} {left : List PendingStore} (next : tlNext s.tl = tl)
      (is : t = { s.enterRed tt offset with undrained := left }) : red tl offset := by
    subst next
    exact ⟨enters is rfl (by rw [← glNext_three]; rfl), by rw [is]; exact lsu_reset_word⟩
  have goes : toPriv ↔ trapToPriv tt = true := (trapToPriv_iff tt).symm
  refine ⟨fun level => ?_, fun level last => ?_, fun level normal mode => ?_, fun level normal guest privileged => ?_,
    fun above level normal guest privileged => ?_⟩
  · have is : t = s.enterRed tt 0x40 := takeTrap_watchdog tt level
    exact ⟨reds (by rw [level]; rfl) is, by rw [is]; rfl⟩
  · have is : t = _ := takeTrap_red tt level last
    exact ⟨reds (if_pos level) is, by rw [is]⟩
  · have dest : trapDest tt s = .hyper := by
      rw [trapDest_of_low tt level normal, if_pos]
      simpa [goes] using mode
    exact hypers (by simp only [t, State.takeTrap, dest])
  · have low : s.tl < 5 := by bv_omega
    have dest : trapDest tt s = .priv := by
      rw [trapDest_of_low tt low normal, if_neg (by simp [guest, goes.1 privileged]), if_pos level]
    have is : t = s.enterPriv tt := by simp only [t, State.takeTrap, dest]
    exact ⟨enters is rfl (by rw [← glNext_two]; rfl), by rw [is]; rfl, by rw [is]; rfl⟩
  · have dest : trapDest tt s = .guestWatchdog := by
      rw [trapDest_of_low tt level normal, if_neg (by simp [guest, goes.1 privileged]), if_neg (by bv_omega)]
    exact hypers (by simp only [t, State.takeTrap, dest])

end Sys2Proof

namespace Sys2Proof.Machine

/-! ### Pending disrupting traps (spec/61_interrupts_cmt.md R1450 to R1452) -/

/-- Hyperprivileged mode with interrupts off takes no disrupting trap. -/
theorem State.pending_masked {s : State} (hyper : s.hpstate.hpriv = true) (off : s.pstate.ie = false) : s.pending = none := by
  have guest : s.guestInterrupts = false := by simp [State.guestInterrupts, off]
  have interrupts : s.hyperInterrupts = false := by simp [State.hyperInterrupts, State.level, hyper, off]
  rw [State.pending, Option.map_eq_none_iff, List.find?_eq_none]
  simp [State.disrupting, State.levelPending, guest, interrupts]

section
variable {s : State} (guest : s.hpstate.hpriv = false)
include guest

theorem State.not_hyper : s.level ≠ .hyper := by
  simp only [State.level, guest]
  cases s.pstate.priv <;> decide

theorem State.pending_vector (off : s.pstate.ie = false) (unmatched : s.tim.hsp = false) (vector : s.intr.receive ≠ 0) :
    s.pending = some (0x060, 16 * 16 + 3) := by
  have unmasked : s.hyperInterrupts = true := by simp [State.hyperInterrupts, State.not_hyper guest]
  have masked : s.guestInterrupts = false := by simp [State.guestInterrupts, off]
  have asked : (s.intr.receive != 0) = true := bne_iff_ne.2 vector
  simp only [State.pending, State.disrupting, masked, unmasked, unmatched, asked, List.cons_append, List.find?_cons, Bool.and_false,
    Bool.false_and, Bool.and_true, Option.map_some]

end

/-- Of the interrupt levels the highest that is not masked is pending, where nothing goes before them. -/
theorem State.pending_level {s : State} {n : Nat} (unmatched : s.tim.hsp = false) (vector : s.intr.receive = 0)
    (overflow : bitAt s.pcr 31 = false ∧ bitAt s.pcr 18 = false) (queues : s.queueDiffers 0 = false ∧ s.queueDiffers 2 = false)
    (low : 1 ≤ n) (high : n ≤ 15) (first : s.levelPending n = true)
    (higher : ∀ k, n < k → k ≤ 15 → s.levelPending k = false) :
    s.pending = some (BitVec.ofNat 9 (0x40 + n), (32 - n) * 16) := by
  have found : (List.range 15).find? (fun k => s.levelPending (15 - k)) = some (15 - n) := by
    rw [List.find?_range_eq_some]
    refine ⟨?_, List.mem_range.2 (by omega), fun k before => ?_⟩
    · rw [Nat.sub_sub_self high]
      exact first
    · rw [higher (15 - k) (by omega) (by omega)]
      rfl
  have place : 0x04F - (15 - n) = 0x40 + n ∧ (17 + (15 - n)) * 16 = (32 - n) * 16 := by omega
  simp only [State.pending, State.disrupting, unmatched, vector, overflow, queues, List.find?_append, List.find?_map,
    Function.comp_def, found, Option.map_some, ← place]
  simp

/-! ### What a running strand takes first (spec/60_exceptions.md R1315, R1316) -/

theorem State.pending_priority {s : State} {tt : BitVec 9} {priority : Nat} (pending : s.pending = some (tt, priority)) :
    16 * 16 ≤ priority := by
  have later : ∀ c ∈ s.disrupting, 16 * 16 ≤ c.2.2 := by
    simp [State.disrupting, or_imp, forall_and]
    omega
  obtain ⟨c, found, is⟩ := Option.map_eq_some_iff.1 pending
  have priority := later c (List.mem_of_find?_eq_some found)
  rwa [is] at priority

section
variable {s : State} (xir : s.xirPending = false)
include xir

theorem State.active_of_storeError (deferred : s.storeError = true) (later : trapsBefore s.instruct (2 * 16 + 1) = false) :
    s.active = .next (s.storeTrapChecks ({ s with storeError := false }.takeTrap 0x007)) := by
  rw [State.active, if_neg (by simp [xir]), if_pos (by simp [deferred, later])]

theorem State.active_of_tlz (deferred : s.storeError = false) (tlz : (s.hpstate.tlz && s.tl == 0 && !s.hpstate.hpriv) = true) :
    s.active = .next (s.storeTrapChecks (s.takeTrap 0x05F)) := by
  rw [State.active, if_neg (by simp [xir]), if_neg (by simp [deferred]), if_pos tlz]

theorem State.active_of_arbitrate {t : State} (earlier : s.storeError = true → trapsBefore s.instruct (2 * 16 + 1) = true)
    (tlz : (s.hpstate.tlz && s.tl == 0 && !s.hpstate.hpriv) = false) (arbitrated : s.arbitrate s.instruct = .next t) :
    s.active = .next (debugEvents s (s.storeTrapChecks t)) := by
  rw [State.active, if_neg (by simp [xir]), if_neg (by simpa using earlier), if_neg (by rw [tlz]; decide), arbitrated]

end

/-- A trap of the instruction that comes before the pending one is what happens. -/
theorem State.arbitrate_of_before {s : State} {r : Host.Outcome State Fault Refusal}
    (before : ∀ priority, 16 * 16 ≤ priority → trapsBefore r priority = true) : s.arbitrate r = r := by
  unfold State.arbitrate
  split
  · rfl
  · next pending => exact if_pos (before _ (State.pending_priority pending))

/-- The software-initiated reset comes before store_error and before every disrupting trap. -/
theorem trapsBefore_of_sir {t : State} (sir : t.taken = some 4) {priority : Nat} (later : 1 * 16 + 3 < priority) :
    trapsBefore (.next t) priority = true := by
  simp [trapsBefore, outcomeTrap, sir, trapPriority, later]

section
variable {s : State} {r : Host.Outcome State Fault Refusal} {tt : BitVec 9} {priority : Nat}
  (pending : s.pending = some (tt, priority)) (later : trapsBefore r priority = false)
include pending later

theorem State.arbitrate_of_pending (ordinary : isErrorTrap tt = false) : s.arbitrate r = .next (s.takeTrap tt) := by
  simp [State.arbitrate, pending, later, ordinary]

/-- A disrupting error trap is taken now or after one more instruction, unless that waits for an answer for ever. -/
theorem State.arbitrate_of_error (error : isErrorTrap tt = true) : s.arbitrate r = .next (s.drawn.takeTrap tt) ∨
    ∃ t, r = .next t ∧ ((t.taken = none ∧ s.arbitrate r = .next (t.drawn.takeTrap tt)) ∨ (t.run = .hung ∧ s.arbitrate r = .next t)) := by
  have taken : s.arbitrate r = s.takeError tt r := by simp [State.arbitrate, pending, later, error]
  rw [taken]
  unfold State.takeError
  dsimp only
  split
  · exact .inl rfl
  · cases r with
    | next t =>
      dsimp only
      refine or_iff_not_imp_left.2 fun delayed => ⟨t, rfl, ?_⟩
      by_cases hung : t.run = .hung
      · exact .inr ⟨hung, if_pos (by simp [hung])⟩
      · rw [if_neg (by simpa using hung)] at delayed ⊢
        split at delayed
        · next skids =>
          simp only [Bool.and_eq_true, beq_iff_eq] at skids
          exact .inl ⟨skids.1, if_pos (by simp [skids])⟩
        · exact absurd rfl delayed
    | fault _ => exact .inl rfl
    | refused _ => exact .inl rfl

end

/-! ### Compare matches (spec/10_state.md R74, R75) -/

section
variable {cmpr : Word} {seen now : Bool} {c0 c1 : BitVec 63}

theorem compareTick_of_disabled (disabled : bitAt cmpr 63 = true) : (compareTick cmpr seen now c0 c1).1 = false := by
  unfold compareTick
  dsimp only
  split <;> simp [disabled]

/-- A value that the counter surely passes is posted. -/
theorem compareTick_of_passed (enabled : bitAt cmpr 63 = false) (after : c0.toNat / 2 ^ 7 < cmpr.toNat % 2 ^ 63 / 2 ^ 7)
    (before : cmpr.toNat % 2 ^ 63 / 2 ^ 7 < c1.toNat / 2 ^ 7) : (compareTick cmpr seen now c0 c1).1 = true := by
  have window (c : BitVec 63) : (c.extractLsb' 7 56).toNat = c.toNat / 2 ^ 7 := by
    rw [BitVec.extractLsb'_toNat, Nat.shiftRight_eq_div_pow]
    omega
  have target : (cmpr.extractLsb' 7 56).toNat = cmpr.toNat % 2 ^ 63 / 2 ^ 7 := by
    rw [BitVec.extractLsb'_toNat, Nat.shiftRight_eq_div_pow]
    omega
  rw [← window, ← target] at after
  rw [← window, ← target] at before
  unfold compareTick
  dsimp only
  generalize c0.extractLsb' 7 56 = w0, c1.extractLsb' 7 56 = w1, cmpr.extractLsb' 7 56 = w at *
  have passes : w ≠ w0 ∧ (w - w0).toNat < (w1 - w0).toNat := by bv_omega
  rw [if_neg (by bv_omega : w0 ≠ w1)]
  rw [bne_iff_ne.2 passes.1, decide_eq_true passes.2, enabled]
  simp

end

/-- What the clocks of the counter do where no entry of a protected array is in error. -/
theorem State.tickBy_clean {s : State} (n : BitVec 62) (clean : s.checks = []) :
    let c1 := s.tim.counter + n.setWidth 63
    let t := compareTick s.tim.tickCmpr s.tim.tickSeen (s.drawBit .tickCompare) s.tim.counter c1
    let st := compareTick s.tim.stickCmpr s.tim.stickSeen (s.drawBit .stickCompare) s.tim.counter c1
    let h := compareTick s.tim.hstickCmpr s.tim.hstickSeen (s.drawBit .hstickCompare) s.tim.counter c1
    s.tickBy n = { s with tim := { s.tim with
      counter := c1, softint := s.tim.softint ||| (boolBit st.1 ++ 0#15 ++ boolBit t.1), hsp := s.tim.hsp || h.1,
      tickSeen := t.2, stickSeen := st.2, hstickSeen := h.2 } } := by
  intro c1 t st h
  have good (k : BitVec 2) : s.compareBad k = false := by simp [State.compareBad, State.checkOf_nil _ clean]
  have unrecorded (u : State) (k : BitVec 2) (count : Nat) (same : u.checks = s.checks) : u.recordCompare k count = u := by
    have zero := State.checkOf_nil (.tick k) (same.trans clean)
    simp [State.recordCompare, zero]
  simp only [State.tickBy, good, Bool.not_false, Bool.and_true, List.foldl_cons, List.foldl_nil]
  rw [unrecorded _ 0, unrecorded _ 1, unrecorded _ 2] <;> rfl

theorem bitAt_posted (softint : BitVec 17) (stick tick : Bool) (k : Nat) :
    bitAt (softint ||| (boolBit stick ++ 0#15 ++ boolBit tick)) k =
      (bitAt softint k || (if k = 0 then tick else if k = 16 then stick else false)) := by
  have bit (b : Bool) (j : Nat) : (boolBit b).getLsbD j = (decide (j = 0) && b) := by cases b <;> simp [boolBit, BitVec.getLsbD_one]
  rw [bitAt, BitVec.getLsbD_or, BitVec.getLsbD_append, BitVec.getLsbD_append, bit, bit, BitVec.getLsbD_zero]
  rcases Nat.eq_zero_or_pos k with rfl | above
  · simp [bitAt]
  · rcases Nat.lt_trichotomy k 16 with below | rfl | beyond
    · simp [bitAt, show ¬k < 1 by omega, show k - 1 < 15 by omega, show k ≠ 0 by omega, show k ≠ 16 by omega]
    · simp [bitAt]
    · simp [bitAt, show ¬k < 1 by omega, show ¬k - 1 < 15 by omega, show k - 1 - 15 ≠ 0 by omega, show k ≠ 0 by omega,
        show k ≠ 16 by omega]

end Sys2Proof.Machine

namespace Sys2Proof
open Machine

/-- Settles O52: the list of disrupting traps gives the pending one, `active_of_…` what goes first, and `compareTick` the bits posted. -/
theorem disruptingTrapsAreTakenByPriority : Obligations.DisruptingTrapsAreTakenByPriority := by
  refine ⟨fun s => State.pending_masked, fun s guest off => State.pending_vector guest off, ?_, ?_, ?_⟩
  case refine_1 =>
    intro s n low high guest on unmatched vector pic0 pic1 queue0 queue2 pil asked first higher
    have unmasked : s.guestInterrupts = true := by simp [State.guestInterrupts, State.not_hyper guest, on]
    have level (k : Nat) : s.levelPending k = (asked k && decide (s.pil.toNat < k)) := by
      rw [State.levelPending, unmasked, Bool.and_true]
    refine State.pending_level unmatched vector ⟨pic0, pic1⟩ ⟨queue0, queue2⟩ low high ?_ fun k above below => ?_
    · rw [level, first, decide_eq_true pil]
      rfl
    · rw [level, higher k above below]
      rfl
  case refine_2 =>
    intro s reset running xir b outermost steps
    have acts : step s = b.active := step_of_running reset running
    have arbitrates {t : State} (earlier : b.storeError = true → trapsBefore b.instruct (2 * 16 + 1) = true)
        (tlz : outermost = false) (e : b.arbitrate b.instruct = .next t) : steps t :=
      acts.trans (State.active_of_arbitrate xir earlier tlz e)
    refine ⟨fun deferred later => acts.trans (State.active_of_storeError xir deferred later), fun _ hyper t next sir => ?_,
      fun deferred tlz => acts.trans (State.active_of_tlz xir deferred tlz), fun deferred tlz tt priority pending later => ?_⟩
    · have before {priority : Nat} (late : 1 * 16 + 3 < priority) : trapsBefore b.instruct priority = true :=
        next ▸ trapsBefore_of_sir sir late
      exact arbitrates (fun _ => before (by decide)) (by simp [outermost, hyper])
        ((State.arbitrate_of_before fun priority late => before (by omega)).trans next)
    · have arbitrates {t : State} := arbitrates (t := t) (fun e => absurd e (by simp [deferred])) tlz
      refine ⟨fun h40 h63 => arbitrates (State.arbitrate_of_pending pending later (by rw [isErrorTrap, beq_false_of_ne h40, beq_false_of_ne h63]; rfl)), fun error => ?_⟩
      have error : isErrorTrap tt = true := by simpa [isErrorTrap] using error
      rcases State.arbitrate_of_error pending later error with now | ⟨t, next, ⟨quiet, skids⟩ | ⟨hung, waits⟩⟩
      · exact .inl (arbitrates now)
      · exact .inr ⟨t, next, .inl ⟨quiet, arbitrates skids⟩⟩
      · exact .inr ⟨t, next, .inr ⟨hung, arbitrates waits⟩⟩
  case refine_3 =>
    intro s n t passed clean range
    have frame : t = _ := State.tickBy_clean n clean
    have counter : (s.tim.counter + n.setWidth 63).toNat = s.tim.counter.toNat + n.toNat := by
      have small := n.isLt
      rw [BitVec.toNat_add, BitVec.toNat_setWidth]
      omega
    have posts {cmpr : Word} {seen now : Bool} (passes : passed cmpr) (enabled : bitAt cmpr 63 = false) :
        (compareTick cmpr seen now s.tim.counter (s.tim.counter + n.setWidth 63)).1 = true :=
      compareTick_of_passed enabled passes.1 (by rw [counter]; exact passes.2)
    rw [frame]
    refine ⟨counter, fun passes enabled => ?_, fun passes enabled => ?_, fun passes enabled => ?_, fun disabled => ?_,
      fun disabled => ?_, fun disabled => ?_, fun k low high => ?_, rfl⟩
    · simp [bitAt_posted, posts passes enabled]
    · simp [bitAt_posted, posts passes enabled]
    · simp [posts passes enabled]
    · simp [bitAt_posted, compareTick_of_disabled disabled]
    · simp [bitAt_posted, compareTick_of_disabled disabled]
    · simp [compareTick_of_disabled disabled]
    · simp [bitAt_posted, show k ≠ 0 by omega, show k ≠ 16 by omega]

end Sys2Proof

namespace Sys2Proof.Machine

/-! ### HPSTATE at the start and at the end of a step -/

namespace State

section
variable (s : State)

@[simp] theorem answer_hpstate (stop : Bool) : (s.answer stop).hpstate = s.hpstate := by
  unfold State.answer
  split <;> rfl

@[simp] theorem answer_taken (stop : Bool) : (s.answer stop).taken = s.taken := by
  unfold State.answer
  split <;> rfl

@[simp] theorem tickBy_hpstate (n : BitVec 62) : (s.tickBy n).hpstate = s.hpstate := by
  unfold State.tickBy
  exact (BackgroundTo.foldl (.refl _) (fun _ k hu => hu.recordCompare k _) _).hpstate_eq

@[simp] theorem tcuBy_hpstate (n : BitVec 62) : (s.tcuBy n).hpstate = s.hpstate := by
  have done (u : State) (action : BitVec 2) (high : BitVec 32) : (u.resetCountDone action high).hpstate = u.hpstate := by
    unfold State.resetCountDone
    dsimp only
    split <;> [skip; split] <;> simp
  unfold State.tcuBy
  dsimp only
  split
  · split
    · split <;> simp [done]
    · split <;> [(split <;> simp); rfl]
  · split <;> [rfl; (split <;> rfl)]

@[simp] theorem passTime_hpstate : s.passTime.hpstate = s.hpstate := by
  have ticked (n : BitVec 62) : (if s.ticking then s.tickBy n else s).hpstate = s.hpstate := by split <;> simp
  have counted (u : State) (n : BitVec 62) : (if u.tcuCounting then u.tcuBy n else u).hpstate = u.hpstate := by split <;> simp
  unfold State.passTime
  split <;> [exact (counted _ _).trans (ticked _); rfl]

theorem setPstate_hpstate (p : PState) : (s.setPstate p).hpstate = s.hpstate := by
  unfold State.setPstate
  split <;> rfl

theorem respondOne_keeps (soc stop : Bool) :
    (s.respondOne soc stop).hpstate = s.hpstate ∧ (s.respondOne soc stop).taken = s.taken := by
  unfold State.respondOne
  dsimp only
  split
  · simp
  · split <;> [simp; (split <;> simp)]

theorem respond_keeps (requests : List (Bool × Bool)) :
    (s.respond requests).hpstate = s.hpstate ∧ (s.respond requests).taken = s.taken := by
  unfold State.respond
  induction requests generalizing s with
  | nil => exact ⟨rfl, rfl⟩
  | cons r rest ih =>
    obtain ⟨mode, taken⟩ := s.respondOne_keeps r.1 r.2
    obtain ⟨mode', taken'⟩ := ih (s.respondOne r.1 r.2)
    exact ⟨mode'.trans mode, taken'.trans taken⟩

/-- What happens by itself before a step does not change the mode. -/
theorem begin_hpstate : s.begin.hpstate = s.hpstate := by
  have answered (u : State) : u.answered.hpstate = u.hpstate := by
    unfold State.answered
    split <;> [rfl; exact (u.respond_keeps _).1]
  have settled (u : State) : u.settleStatus.hpstate = u.hpstate := by
    unfold State.settleStatus
    split <;> rfl
  unfold State.begin
  rw [answered, (BackgroundTo.refl _).drainFlawed.injectSoc.injectMemory.scrubMemory.forwardScrubs.realignLinks.hpstate_eq,
    passTime_hpstate, settled]
  rfl

/-- The debug events and the check bits of a trap entry leave the mode and the record of the trap. -/
theorem ended_keeps (t : State) : (debugEvents s (s.storeTrapChecks t)).hpstate = t.hpstate ∧
    (debugEvents s (s.storeTrapChecks t)).taken = t.taken := by
  obtain ⟨l, n, checked⟩ := s.storeTrapChecks_eq t
  rw [checked]
  unfold debugEvents
  dsimp only
  split
  · exact ⟨rfl, rfl⟩
  · exact respond_keeps ..

end

/-- A fetch does not hang: it waits for no device. -/
theorem fetch_answered (s : State) : s.fetch.Answered := by
  refine .bind ?_ fun pa u => .ite (.ite .refuse (.ite .ok (.bind (.ite .trap .ok) fun _ _ => .ok)))
    (.ite .ok (.ite trivial (.bind (.ite .trap .ok) fun _ _ => .ok)))
  unfold State.fetchPlace
  dsimp only
  split
  · exact .ite .trap .ok
  · exact .ite .trap (.ite .trap (.bind (s.translate_answered ..) fun _ _ => .ite .trap (.ite .trap .ok)))

end State

/-! ### Instructions below hyperprivileged mode -/

/-- Where a part of an instruction completes, or its access is never answered, it has left HPSTATE as it is in `s`. -/
def Res.KeepsMode {α : Type} (s : State) : Res α → Prop
  | .ok _ t | .hang t => t.hpstate = s.hpstate
  | .trap _ _ | .refuse _ | .fault _ => True

theorem State.hpstate_of_privileged {s t : State} (h : t.privileged = s.privileged) : t.hpstate = s.hpstate :=
  congrArg PrivilegedState.hpstate h

namespace Res.KeepsMode

section
variable {α β : Type} {s t : State}

theorem of_unprivileged {x : Res α} (h : x.Unprivileged s) : x.KeepsMode s := by
  cases x with
  | ok _ _ | hang _ => exact State.hpstate_of_privileged h
  | trap _ _ | refuse _ | fault _ => trivial

theorem ok {a : α} (h : t.hpstate = s.hpstate) : (Res.ok a t).KeepsMode s := h

theorem trap {tt : BitVec 9} : (Res.trap tt t : Res α).KeepsMode s := trivial

theorem of_eq {x : Res α} (hx : x.KeepsMode t) (h : t.hpstate = s.hpstate) : x.KeepsMode s := by
  cases x with
  | ok _ _ | hang _ => exact Eq.trans hx h
  | trap _ _ | refuse _ | fault _ => trivial

theorem ite {x y : Res α} {p : Prop} [Decidable p] (hx : x.KeepsMode s) (hy : y.KeepsMode s) : (if p then x else y).KeepsMode s := by
  split <;> assumption

theorem bind {x : Res α} {k : α → State → Res β} (hx : x.KeepsMode s) (hk : ∀ a u, u.hpstate = s.hpstate → (k a u).KeepsMode s) :
    (x.bind k).KeepsMode s := by
  cases x with
  | ok a u => exact hk a u hx
  | hang _ => exact hx
  | trap _ _ | refuse _ | fault _ => trivial

theorem firstTrap {checks : List (Bool × BitVec 9)} {k : Res α} (hk : k.KeepsMode s) : (firstTrap t checks k).KeepsMode s := by
  rcases firstTrap_cases t checks k with ⟨e, -⟩ | ⟨tt, -, e⟩ <;> rw [e]
  · exact hk
  · exact .trap

theorem needsFp {k : Res α} (hk : k.KeepsMode s) : (s.needsFp k).KeepsMode s := .ite hk .trap

/-- A store over the ASI ring, with the errors of the store buffer. -/
theorem ringStore {flaw : BitVec 7 × Bool} {k : Word → State → Res Unit} (hk : ∀ c u, u.hpstate = s.hpstate → (k c u).KeepsMode s) :
    (s.ringStore flaw k).KeepsMode s := by
  have goes (c : Word) (u : State) (same : u.privileged = s.privileged) : (k c u).KeepsMode s := hk c u (State.hpstate_of_privileged same)
  have done (u : State) (same : u.privileged = s.privileged) : (Res.ok () u).KeepsMode s := .ok (State.hpstate_of_privileged same)
  unfold State.ringStore State.sendStore
  refine .ite (done _ ?_) (.ite (goes _ _ ?_) (.ite (done _ ?_) (.ite (goes _ _ ?_) (.ite (.ite (goes _ _ ?_)
    (goes _ _ ?_)) (.ite (done _ ?_) (goes _ _ ?_))))))
  all_goals simp

end

/-! #### Registers behind nontranslating ASIs: those that privileged software reaches (spec/21_asi_map.md R561) -/

section
variable {s : State}

theorem asi_of_unrestricted (guest : s.hpstate.hpriv = false) {a : BitVec 8} (register : isRegisterAsi a = true)
    (unrestricted : ¬s.restricted (some a) = true) : a = 0x20 ∨ a = 0x21 ∨ a = 0x25 := by
  have first : ∀ a : BitVec 8, isRegisterAsi a = true → ¬(0x30 ≤ a ∧ a < 0x80) → a = 0x20 ∨ a = 0x21 ∨ a = 0x25 := by decide +kernel
  refine first a register fun high => unrestricted ?_
  unfold State.restricted State.level
  rw [guest]
  cases s.pstate.priv
  · exact decide_eq_true high.2
  · exact Bool.and_eq_true_iff.2 ⟨decide_eq_true high.1, decide_eq_true high.2⟩

variable {a : BitVec 8} (open' : a = 0x20 ∨ a = 0x21 ∨ a = 0x25)
include open'

theorem asiRead (n : Nat) : ∀ r ∈ s.asiRead a n, r.2 = s := by
  have reads (v : Word) : ∀ r ∈ reads s v, r.2 = s := fun r e => by cases e; rfl
  have bound {α : Type} (x : Option α) (v : α → Word) : ∀ r ∈ x.bind fun i => Machine.reads s (v i), r.2 = s := by
    cases x <;> [exact fun _ e => nomatch e; exact reads _]
  rcases open' with rfl | rfl | rfl
  · exact bound _ _
  · show ∀ r ∈ s.readContext n, r.2 = s
    unfold State.readContext
    split <;> [exact reads _; exact reads _; exact reads _; exact reads _; exact fun _ e => nomatch e]
  · exact bound _ _

theorem asiWrite (n : Nat) (v : Word) : ∀ r ∈ s.asiWrite a n v, r.KeepsMode s := by
  have writes {t : State} (h : t.hpstate = s.hpstate) : ∀ r ∈ writes t, r.KeepsMode s := fun r e => by cases e; exact .ok h
  have bound {α : Type} (x : Option α) {k : α → AsiWrite} (hk : ∀ i, ∀ r ∈ k i, r.KeepsMode s) : ∀ r ∈ x.bind k, r.KeepsMode s := by
    cases x <;> [exact fun _ e => nomatch e; exact hk _]
  rcases open' with rfl | rfl | rfl
  · exact bound _ fun _ => writes rfl
  · show ∀ r ∈ s.writeContext n v, r.KeepsMode s
    unfold State.writeContext
    dsimp only
    split <;> [exact writes rfl; exact writes rfl; exact writes rfl; exact writes rfl; exact fun _ e => nomatch e]
  · refine bound _ fun i => ?_
    split <;> [exact fun _ e => nomatch e; exact writes rfl]

end

section
variable {s : State} (guest : s.hpstate.hpriv = false)
include guest

theorem asiLoad {a : BitVec 8} (register : isRegisterAsi a = true) (va : Word) : (s.asiLoad a va).KeepsMode s := by
  unfold State.asiLoad
  split
  · exact .trap
  · next unrestricted =>
    split
    · next found => exact .ok (congrArg State.hpstate (asiRead (asi_of_unrestricted guest register unrestricted) _ _ found))
    · exact .trap

theorem asiStore {a : BitVec 8} (register : isRegisterAsi a = true) (va v : Word) : (s.asiStore a va v).KeepsMode s := by
  unfold State.asiStore
  split
  · exact .trap
  · next unrestricted =>
    have open' := asi_of_unrestricted guest register unrestricted
    split
    · next found =>
      have first : (Res.ok _ _).KeepsMode s := asiWrite open' _ _ _ found
      refine ringStore fun change w mode => ?_
      cases again : w.asiWrite a (va.setWidth 48).toNat (v ^^^ change) with
      | none => exact first
      | some r => exact (asiWrite open' _ _ r again).of_eq mode
    · next found => exact asiWrite open' _ _ _ found
    · exact .trap

theorem read64 (r : DataReq) : (s.read64 r).KeepsMode s := by
  unfold State.read64
  split
  · split <;> [exact asiLoad guest ‹_› _; exact of_unprivileged (.memRead r)]
  · exact of_unprivileged (.memRead r)

theorem write64 (r : DataReq) (v : Word) : (s.write64 r v).KeepsMode s := by
  unfold State.write64
  split
  · split <;> [exact asiStore guest ‹_› _ _; exact of_unprivileged (.memWrite r v)]
  · exact of_unprivileged (.memWrite r v)

variable {rd : Reg} {asi : Option (BitVec 8)} {ea : Word}

theorem loadExt : (s.loadExt rd asi ea).KeepsMode s := .ite (.bind (read64 guest _) fun _ _ mode => .ok mode) .trap

theorem storeExt : (s.storeExt rd asi ea).KeepsMode s := .ite (.bind (write64 guest ..) fun _ _ mode => .ok mode) .trap

theorem loadD : (s.loadD rd asi ea).KeepsMode s := .needsFp (.ite (.bind (read64 guest _) fun _ _ mode => .ok mode) .trap)

theorem storeD : (s.storeD rd asi ea).KeepsMode s := .needsFp (.ite (.bind (write64 guest ..) fun _ _ mode => .ok mode) .trap)

end
end Res.KeepsMode

/-! #### Every instruction -/

/-- What an instruction leaves HPSTATE as it is in `s`, where it does not trap. -/
def KeepsMode (s : State) (r : Host.Outcome State Fault Refusal) : Prop :=
  ∀ t, r = .next t → t.taken = none → t.hpstate = s.hpstate

namespace KeepsMode

variable {s t : State}

theorem next (h : t.hpstate = s.hpstate) : KeepsMode s (.next t) := fun _ e _ => by cases e; exact h

theorem traps (tt : BitVec 9) : KeepsMode s (.next (t.takeTrap tt)) := fun _ e none => by
  cases e
  rw [State.takeTrap_taken] at none
  cases none

theorem refused {r : Refusal} : KeepsMode s (.refused r) := fun _ e => nomatch e

theorem ite {x y : Host.Outcome State Fault Refusal} {p : Prop} [Decidable p] (hx : KeepsMode s x) (hy : KeepsMode s y) :
    KeepsMode s (if p then x else y) := by
  split <;> assumption

theorem of_res {x : Res Unit} (hx : x.KeepsMode s) : KeepsMode s x.outcome := by
  intro t e none
  rcases Res.outcome_eq_next e with rfl | ⟨tt, u, -, rfl⟩ | ⟨u, rfl, rfl⟩
  · exact hx
  · exact traps tt _ rfl none
  · exact hx

theorem of_unprivileged {x : Res Unit} (hx : x.Unprivileged s) : KeepsMode s x.outcome := of_res (.of_unprivileged hx)

end KeepsMode

/-- Below hyperprivileged mode an instruction that does not trap leaves HPSTATE alone. Most instructions write nothing privileged in
any mode; those that privileged software may use write other registers than HPSTATE. -/
theorem exec_keepsMode {s : State} (guest : s.hpstate.hpriv = false) (i : Instr) : KeepsMode s (exec i s) := by
  have notHyper : s.isHyper = false := beq_eq_false_iff_ne.2 (State.not_hyper guest)
  delta exec
  cases i with
  -- results in registers
  | add | addc | sub | subc | andI | andn | orI | orn | xorI | xnor | mulx | sll | sllx | srl | srlx | sra | srax | sethi | popc
  | addcc | addccc | subcc | subccc | andcc | andncc | orcc | orncc | xorcc | xnorcc | taddcc | tsubcc | umul | smul | umulcc
  | smulcc | mulscc | edge8 | edge8n | edge8l | edge8ln | edge16 | edge16n | edge16l | edge16ln | edge32 | edge32n | edge32l
  | edge32ln => exact .next rfl
  | movr | array8 | array16 | array32 => exact .of_res (.ite (.ok rfl) (.ok rfl))
  | nop | stbar | wrY | wrCcr | wrAsi | wrFprs => exact .next rfl
  -- checks, then a register or the program counters
  | udivx | sdivx | taddcctv | tsubcctv | udiv | sdiv | udivcc | sdivcc | tcc | flushw | save | restore | saved | restored | allclean
  | otherw | normalw | invalw | rdY | rdCcr | rdAsi | rdTick | rdPc | rdFprs | rdPcr | rdPic | rdGsr | rdSoftint | rdTickCmpr
  | rdStick | rdStickCmpr | rdprTpc | rdprTnpc | rdprTstate | rdprTt | rdprTick | rdprTba | rdprPstate | rdprTl | rdprPil
  | rdprCwp | rdprCansave | rdprCanrestore | rdprCleanwin | rdprOtherwin | rdprWstate | rdprGl | rdhprHpstate | rdhprHtstate
  | rdhprHintp | rdhprHtba | rdhprHver | rdhprHalt | rdhprHstickCmpr | wrTick | wrPcr
  | wrSoftintSet | wrSoftintClr | wrSoftint | wrTickCmpr | wrStickCmpr | wrStick | wrprTpc | wrprTnpc | wrprTstate | wrprTt
  | wrprTick | wrprTba | wrprTl | wrprPil | wrprCwp | wrprCansave | wrprCanrestore | wrprCleanwin | wrprOtherwin
  | wrprWstate | wrprGl | wrhprHtstate | wrhprHintp | wrhprHtba | wrhprHstickCmpr => exact .of_res (.firstTrap (.ok rfl))
  | wrPic | wrGsr =>
    refine .of_res (.firstTrap (.ok ?_))
    rfl
  | wrprPstate => exact .of_res (.firstTrap (.ok (s.setPstate_hpstate _)))
  | halt => exact .of_res (.firstTrap (.ok (by split <;> rfl)))
  | movcc => exact .of_res (.firstTrap (.ite (.ok rfl) (.ok rfl)))
  | done | retry => exact .of_res (.firstTrap (.ok (if_neg (by simp [guest]))))
  | wrhprHpstate => exact .of_unprivileged (.barred ⟨(!s.isHyper, 0x010), by simp [State.hyperCheck], by simp [notHyper]⟩)
  | sir simm13 =>
    show KeepsMode s (execSir simm13 s)
    rw [execSir, notHyper]
    exact .traps _
  -- transfers of control
  | bicc | bpcc | bpr => exact .of_unprivileged (.branch ..)
  | fbfcc | fbpfcc => exact .of_unprivileged (.firstTrap (.branch ..))
  | call => exact .of_unprivileged (.transfer rfl)
  | jmpl => exact .of_unprivileged (.jump rfl)
  | returnI => exact .of_res (.firstTrap (.of_unprivileged (.jump rfl)))
  -- instructions that are illegal in this implementation
  | illtrap | wrhprHver | impdep2 | fmovq | fnegq | fabsq | fsqrtq | faddq | fsubq | fmulq | fdivq | fdmulq | fqtox | fxtoq
  | fqtos | fqtod | fitoq | fstoq | fdtoq | fqtoi | fcmpq | fcmpeq | fmovqcc | fmovrq | ldqf | stqf | ldqfa | stqfa =>
    exact .traps _
  -- the floating-point unit
  | fadds | fsubs | fmuls | fdivs | fsqrts | fxtos | fitos | fdtos | fstoi | fdtoi | faddd | fsubd | fmuld | fdivd | fsqrtd | fsmuld
  | fxtod | fitod | fstod | fstox | fdtox | fmovs | fnegs | fabss | fmovd | fnegd | fabsd =>
    exact .of_unprivileged (.fpop _ fun _ _ => rfl)
  | fcmps | fcmpd | fcmpes | fcmped => exact .of_unprivileged (.fpCompare ..)
  | fmovscc | fmovrs | fmovdcc | fmovrd => exact .of_unprivileged (.ite (.fpop _ fun _ _ => rfl) .fpNone)
  | alignaddress | alignaddressLittle | bmask | siam | fcmple16 | fcmpne16 | fcmpgt16 | fcmpeq16 | fcmple32 | fcmpne32 | fcmpgt32
  | fcmpeq32 | fmul8x16 | fmul8x16au | fmul8x16al | fmul8sux16 | fmul8ulx16 | fmuld8sux16 | fmuld8ulx16 | fpack32 | fpmerge
  | bshuffle | fexpand | fpadd16 | fpadd32 | fpsub16 | fpsub32 | fzero | fnor | fandnot2 | fnot2 | fandnot1 | fnot1 | fxor | fnand
  | fand | fxnor | fsrc1 | fornot2 | fsrc2 | fornot1 | forD | fone | pdist | faligndata | fpack16 | fpackfix | fpadd16s | fpadd32s
  | fpsub16s | fpsub32s | fzeros | fnors | fandnot2s | fnot2s | fandnot1s | fnot1s | fxors | fnands | fands | fxnors | fsrc1s
  | fornot2s | fsrc2s | fornot1s | forS | fones => exact .of_res (.needsFp (.ok rfl))
  -- memory
  | ldub | lduh | lduw | ldsb | ldsh | ldsw | lduba | lduha | lduwa | ldsba | ldsha | ldswa => exact .of_unprivileged (.loadInt ..)
  | ldx | ldxa => exact .of_res (.loadExt guest)
  | ldtw => exact .of_unprivileged .loadPair
  | ldtwa => exact .of_unprivileged (.ite (.loadQuad _) .loadPair)
  | ldtxa => exact .of_unprivileged (.loadQuad _)
  | stb | sth | stw | stba | stha | stwa => exact .of_unprivileged (.storeInt _)
  | stx | stxa => exact .of_res (.storeExt guest)
  | sttw | sttwa => exact .of_unprivileged .storePair
  | ldstub | swap | ldstuba | swapa | casa | casxa => exact .of_unprivileged (.atomicInt ..)
  | prefetch => exact .ite (.traps _) (.ite .refused (.of_unprivileged (.prefetchAt _)))
  | prefetcha => exact .ite (.traps _) (.of_unprivileged (.prefetchAt _))
  | membar | flush => exact .next (State.hpstate_of_privileged (by simp))
  | ldf | ldfa => exact .of_unprivileged .loadF
  | lddf => exact .of_res (.loadD guest)
  | stf | stfa => exact .of_unprivileged .storeF
  | stdf => exact .of_res (.storeD guest)
  | lddfa =>
    refine .of_res ?_
    split <;> [exact .of_unprivileged (.loadBlock _); exact .of_unprivileged (.loadShort _); exact .loadD guest]
  | stdfa =>
    refine .of_res ?_
    split <;> [exact .of_unprivileged (.storeBlock _); exact .of_unprivileged (.storeShort _); exact .storeD guest]
  | ldblockf => exact .of_unprivileged (.loadBlock _)
  | stblockf => exact .of_unprivileged (.storeBlock _)
  | ldshortf => exact .of_unprivileged (.loadShort _)
  | stshortf => exact .of_unprivileged (.storeShort _)
  | stpartialf => exact .of_unprivileged (.storePartial ..)
  | ldfsr | ldxfsr => exact .of_unprivileged (.loadFsr ..)
  | stfsr | stxfsr => exact .of_unprivileged (.storeFsr ..)

/-! ### A step below hyperprivileged mode -/

/-- An outcome that has entered hyperprivileged mode has taken a trap. -/
def EntersByTrap (r : Host.Outcome State Fault Refusal) : Prop := ∀ t, r = .next t → t.hpstate.hpriv = true → t.taken ≠ none

namespace EntersByTrap

theorem next {t : State} (h : t.hpstate.hpriv = false) : EntersByTrap (.next t) := fun _ e hyper => by
  cases e
  rw [h] at hyper
  cases hyper

theorem taken {t : State} (h : t.taken ≠ none) : EntersByTrap (.next t) := fun _ e _ => by cases e; exact h

theorem traps (s : State) (tt : BitVec 9) : EntersByTrap (.next (s.takeTrap tt)) := taken (by simp)

theorem refused {r : Refusal} : EntersByTrap (.refused r) := fun _ e => nomatch e

theorem fault {f : Fault} : EntersByTrap (.fault f) := fun _ e => nomatch e

theorem ite {x y : Host.Outcome State Fault Refusal} {p : Prop} [Decidable p] (hx : EntersByTrap x) (hy : EntersByTrap y) :
    EntersByTrap (if p then x else y) := by
  split <;> assumption

/-- It depends on the mode and the record of the trap alone. -/
theorem of_eq {t u : State} (ht : EntersByTrap (.next t)) (mode : u.hpstate = t.hpstate) (record : u.taken = t.taken) :
    EntersByTrap (.next u) := fun _ e hyper => by
  cases e
  rw [record]
  exact ht t rfl (mode ▸ hyper)

theorem exec {s : State} (guest : s.hpstate.hpriv = false) (i : Instr) : EntersByTrap (exec i s) := fun t e hyper none => by
  rw [exec_keepsMode guest i t e none, guest] at hyper
  cases hyper

theorem countTrapped {s t : State} (h : EntersByTrap (.next t)) : EntersByTrap (.next (s.countTrapped t)) := by
  unfold State.countTrapped
  split <;> [exact h.of_eq rfl rfl; exact h]

theorem protect {s : State} {i : Instr} {r : Host.Outcome State Fault Refusal} (h : EntersByTrap r) : EntersByTrap (s.protect i r) := by
  unfold State.protect
  split
  · exact traps _ _
  · cases r with
    | next t =>
      dsimp only
      obtain ⟨l, n, stored⟩ := s.storeChecks_eq t (s.slotsWritten t i)
      rw [stored]
      split <;> [exact h.of_eq rfl rfl; exact h]
    | refused _ | fault _ => exact h

theorem retire {s : State} {w : Word32} {i : Instr} {r : Host.Outcome State Fault Refusal} (h : EntersByTrap r) :
    EntersByTrap (s.retire w i r) := by
  unfold State.retire
  split
  · exact (traps _ _).countTrapped
  · cases r with
    | next t => exact .ite (.ite h (.ite (traps _ _) (h.of_eq rfl rfl))) h.countTrapped
    | refused _ | fault _ => exact h

theorem arbitrate {s : State} {r : Host.Outcome State Fault Refusal} (h : EntersByTrap r) : EntersByTrap (s.arbitrate r) := by
  unfold State.arbitrate
  split
  · exact h
  · refine .ite h (.ite ?_ (traps _ _))
    refine .ite (traps _ _) ?_
    cases r with
    | next t => exact .ite h (.ite (traps _ _) (traps _ _))
    | refused _ | fault _ => exact traps _ _

section
variable {s : State} (guest : s.hpstate.hpriv = false)
include guest

theorem instruct : EntersByTrap s.instruct := by
  have answered := s.fetch_answered
  unfold State.instruct
  split
  · next w u fetched =>
    have lower : u.hpstate.hpriv = false := by rw [(State.fetch_keeps fetched).1, guest]
    split
    · exact .retire (.ite (.exec lower _) (.protect (.exec lower _)))
    · exact (traps _ _).countTrapped
  · exact (traps _ _).countTrapped
  · next hangs =>
    rw [hangs] at answered
    exact answered.elim
  · exact refused
  · exact fault

theorem active : EntersByTrap s.active := by
  have checked {t : State} (h : EntersByTrap (.next t)) : EntersByTrap (.next (s.storeTrapChecks t)) := by
    obtain ⟨l, n, stored⟩ := s.storeTrapChecks_eq t
    rw [stored]
    exact h.of_eq rfl rfl
  have taken := (instruct guest).arbitrate (s := s)
  unfold State.active
  refine .ite (checked (.taken (fun e => nomatch e))) (.ite (checked (traps _ _)) (.ite (checked (traps _ _)) ?_))
  split
  · next t e =>
    rw [e] at taken
    obtain ⟨mode, record⟩ := s.ended_keeps t
    exact taken.of_eq mode record
  · exact taken

/-- A step is that of a running strand, or leaves the mode as it is. -/
theorem step (reset : s.begin.chipReset = none) : EntersByTrap (step s) := by
  have begun : s.begin.hpstate.hpriv = false := by rw [s.begin_hpstate, guest]
  unfold Machine.step State.cycle
  dsimp only
  rw [reset]
  refine .ite (next guest) (.ite (next begun) ?_)
  dsimp only
  split
  case h_6 => exact active begun
  case h_5 => exact next (by split <;> exact begun)
  all_goals exact next begun

end
end EntersByTrap

end Sys2Proof.Machine

namespace Sys2Proof
open Machine

/-- Settles O60: no instruction below hyperprivileged mode enters it without a trap (`exec_keepsMode`), and what a step adds to its
instruction keeps the mode. -/
theorem onlyTrapsEnterHyperprivilegedMode : Obligations.OnlyTrapsEnterHyperprivilegedMode :=
  fun _ t guest reset next => EntersByTrap.step guest reset t next

end Sys2Proof

namespace Sys2Proof.Machine

/-! ### Stores in error that a load finds in the buffer (spec/62_errors_core.md R1582, R1583) -/

/-- Of the check bits of a doubleword in the store buffer one wrong bit is corrected, two are not (spec/67_ecc_jtag.md R2105). -/
theorem corrects39_of_check_bits {j k : Nat} (hj : j < 7) (hk : k < 7) :
    corrects39 ((1 <<< j) ||| (1 <<< k)) = decide (j = k) := by
  have all : ∀ j, j < 7 → ∀ k, k < 7 → corrects39 ((1 <<< j) ||| (1 <<< k)) = decide (j = k) := by decide +kernel
  exact all j hj k hk

/-- One wrong check bit is no wrong bit of the data. -/
theorem corrected39_of_check_bit {j : Nat} (hj : j < 7) : corrected39 ((1 <<< j) ||| (1 <<< j)) = 0 := by
  have all : ∀ j, j < 7 → corrected39 ((1 <<< j) ||| (1 <<< j)) = 0 := by decide +kernel
  exact all j hj

theorem check_bits_ne_zero {j k : Nat} (hj : j < 7) (hk : k < 7) : ((1 <<< j) ||| (1 <<< k) : BitVec 7) ≠ 0 := by
  have all : ∀ j, j < 7 → ∀ k, k < 7 → ((1 <<< j) ||| (1 <<< k) : BitVec 7) ≠ 0 := by decide +kernel
  exact all j hj k hk

/-- A load that finds all its bytes in the newest store of the buffer. -/
theorem State.rawHit_newest {s : State} {p : PendingStore} {rest : List PendingStore} {pa n : Nat} (nonempty : 0 < n)
    (newest : s.undrained = p :: rest)
    (holds : ∀ i, i < n → pa + i < p.pa + p.seen ∧ (sparseFind p.old (pa + i)).isSome = true) :
    s.rawHit pa n = some p := by
  have all : (List.range n).all (fun i => p.shows (pa + i) && (sparseFind p.old (pa + i)).isSome) = true := by
    simpa [PendingStore.shows] using holds
  have first : p.old.any (fun c => decide (pa ≤ c.1) && decide (c.1 < pa + n) && p.shows c.1) = true := by
    obtain ⟨seen, listed⟩ := holds 0 nonempty
    obtain ⟨b, found⟩ := Option.isSome_iff_exists.1 listed
    exact List.any_eq_true.2 ⟨_, mem_of_sparseFind found, by simp [PendingStore.shows]; omega⟩
  simp only [State.rawHit, newest, List.find?_cons, first, all, if_true]

/-- What the load of a store in error records, if its report is enabled (spec/62_errors_core.md R1582, R1583). -/
theorem State.rawError_newest {s : State} {p : PendingStore} {rest : List PendingStore} {pa n : Nat} (nonempty : 0 < n)
    (newest : s.undrained = p :: rest)
    (holds : ∀ i, i < n → pa + i < p.pa + p.seen ∧ (sparseFind p.old (pa + i)).isSome = true) (wrong : p.ecc ≠ 0) :
    s.rawError pa n =
      if s.cerer (if corrects39 p.ecc then 37 else 36) && s.pscce then
        some ((s.setDsfsr (if corrects39 p.ecc then 5 else 6)).setDsfarInfo 3 (p.index.setWidth 48))
      else none := by
  simp only [State.rawError, State.rawHit_newest nonempty newest holds, bne_iff_ne.2 wrong, Bool.true_and]

/-- A load of hyperprivileged mode, which is not translated, passes every check but that of the store buffer, where no PA watchpoint
is enabled. -/
theorem State.access_load_bypass {s : State} {op : OpClass} {va : Word} {n : Nat} (hyper : s.hpstate.hpriv = true)
    (mode : s.lsu.mode ≠ 2) (load : op = .load ∨ op = .loadX ∨ op = .loadTwin ∨ op = .loadF ∨ op = .loadD) :
    s.access ⟨op, none, va, n⟩ =
      match s.rawError (va.toNat % 2 ^ 40) n with
      | some u => .trap 0x029 u
      | none => .ok ⟨va.toNat % 2 ^ 40, s.pstate.cle⟩ s := by
  obtain ⟨sp, space, direct, faults, little⟩ := State.space_of_plain hyper (.inl rfl)
  have looks : op.looksInBuffer = true := by rcases load with rfl | rfl | rfl | rfl | rfl <;> rfl
  have cacheable (t : Translation) : ncPage op t = false := by rcases load with rfl | rfl | rfl | rfl | rfl <;> rfl
  have reads : op.writes = false := by rcases load with rfl | rfl | rfl | rfl | rfl <;> rfl
  have noVaWatch : s.watchFirst ⟨op, none, va, n⟩ sp .bypass = false := by simp [State.watchFirst, State.vaWatch]
  have noPaWatch (pa : PAddr) : s.paWatch ⟨op, none, va, n⟩ pa = false := by
    simp only [State.paWatch, beq_eq_false_iff_ne.2 mode, Bool.false_and]
  have place : ((bypass (va.setWidth 48)).pa).toNat = va.toNat % 2 ^ 40 := by simp [bypass]
  simp only [Option.elim] at little
  unfold State.access
  simp only [space, direct, noVaWatch, State.routed, Res.bind_ok, State.bufferError, looks, if_true, place, State.restricted,
    DataReq.legal, noPaWatch, cacheable, faults, little, reads]
  cases s.rawError (va.toNat % 2 ^ 40) n <;> simp [firstTrap, bypass]

/-- A load that finds all its bytes in the newest store of the buffer, whose data has one or two wrong check bits. -/
theorem State.access_newest_in_error {s : State} {op : OpClass} {va : Word} {n j k : Nat} {p : PendingStore}
    {rest : List PendingStore} (hyper : s.hpstate.hpriv = true) (mode : s.lsu.mode ≠ 2)
    (load : op = .load ∨ op = .loadX ∨ op = .loadTwin ∨ op = .loadF ∨ op = .loadD) (nonempty : 0 < n)
    (newest : s.undrained = p :: rest)
    (holds : ∀ i, i < n → va.toNat % 2 ^ 40 + i < p.pa + p.seen ∧ (sparseFind p.old (va.toNat % 2 ^ 40 + i)).isSome = true)
    (hj : j < 7) (hk : k < 7) (ecc : p.ecc = (1 <<< j) ||| (1 <<< k)) :
    s.access ⟨op, none, va, n⟩ =
      if s.cerer (if decide (j = k) then 37 else 36) && s.pscce then
        .trap 0x029 ((s.setDsfsr (if decide (j = k) then 5 else 6)).setDsfarInfo 3 (p.index.setWidth 48))
      else .ok ⟨va.toNat % 2 ^ 40, s.pstate.cle⟩ s := by
  rw [State.access_load_bypass hyper mode load,
    State.rawError_newest nonempty newest holds (ecc ▸ check_bits_ne_zero hj hk), ecc, corrects39_of_check_bits hj hk]
  split <;> simp_all

/-! ### Bytes stored at different addresses -/

/-- Bytes stored at addresses that all differ, read at any address. -/
theorem sparseGet_memPutCells (m : List Host.Cell) {cells : List Host.Cell} (once : (cells.map (fun c => c.1)).Nodup) (a : Nat) :
    sparseGet dramInitial (memPutCells m cells) a = (sparseFind cells a).getD (sparseGet dramInitial m a) := by
  induction cells generalizing m with
  | nil => rfl
  | cons c rest ih =>
    obtain ⟨first, rest_once⟩ := List.nodup_cons.1 once
    have step : memPutCells m (c :: rest) = memPutCells (memPut m c.1 c.2) rest := rfl
    rw [step, ih _ rest_once, sparseFind]
    by_cases here : c.1 = a
    · have absent : sparseFind rest a = none := by
        cases found : sparseFind rest a with
        | none => rfl
        | some b => exact absurd (List.mem_map.2 ⟨_, mem_of_sparseFind found, here.symm⟩) first
      rw [absent, if_pos here, ← here]
      exact sparseGet_put ..
    · rw [if_neg here]
      exact congrArg _ (sparseGet_put_ne _ _ _ _ (Ne.symm here))

/-- Some of the addresses of a list are found as before, the others not. -/
theorem sparseFind_filter_addr {β : Type} (m : List (Nat × β)) (keep : Nat → Bool) (a : Nat) :
    sparseFind (m.filter (fun c => keep c.1)) a = if keep a then sparseFind m a else none := by
  induction m with
  | nil => simp [sparseFind]
  | cons c rest ih =>
    by_cases here : c.1 = a <;> cases kept : keep c.1 <;> simp_all [sparseFind]

/-! ### What is known of a line after a change of it -/

@[simp] theorem State.line_putLine (s : State) (pa : Nat) (l : MemLine) :
    (s.putLine pa l).line pa =
      if s.dramExists pa then l.tidy
      else if l.resident then { MemLine.none with resident := true, marks := l.marks } else .none :=
  sparseGet_put ..

theorem MemLine.marks_tidy (l : MemLine) : l.tidy.marks = l.marks := by
  unfold MemLine.tidy
  split
  · rename_i plain
    exact plain.1.symm
  · rfl

theorem MemLine.syndromes_tidy (l : MemLine) : l.tidy.syndromes = l.syndromes := by
  unfold MemLine.tidy
  split
  · rename_i plain
    exact plain.2.1.symm
  · rfl

/-- The check bits of a line after those of some chunks are written. -/
theorem MemLine.syndromes_withSyndromes (l : MemLine) (chunks : BitVec 4) (mask : BitVec 16) (q : BitVec 2) :
    fileGet (l.withSyndromes chunks mask).syndromes q = if bitAt chunks q.toNat then mask else fileGet l.syndromes q := by
  have four (f : File 2 (BitVec 16)) (g : File 2 (BitVec 16) → Nat → File 2 (BitVec 16)) :
      (List.range 4).foldl g f = g (g (g (g f 0) 1) 2) 3 := rfl
  have cases4 : q = 0 ∨ q = 1 ∨ q = 2 ∨ q = 3 := by revert q; decide
  simp only [MemLine.withSyndromes, four]
  rcases cases4 with rfl | rfl | rfl | rfl <;>
    (split <;> split <;> split <;> split <;> simp_all [fileGet_fileSet, fileGet_fileSet_ne])

/-! ### The sublines of a store -/

theorem bitAt_anySublines (addrs : List Nat) {k : Nat} (inside : k < 16) :
    bitAt (anySublines addrs) k = addrs.any (fun a => a % 64 / 4 == k) := by
  simp [bitAt, anySublines, inside]

theorem getLsbD_chunksOf (m : BitVec 16) {q : Nat} (inside : q < 4) : (chunksOf m).getLsbD q = (m.extractLsb' (4 * q) 4 != 0) := by
  rw [chunksOf, BitVec.getLsbD_ofFnLE, dif_pos inside]

/-- The chunk of a subline of some is one of theirs. -/
theorem bitAt_chunksOf {m : BitVec 16} {k : Nat} (inside : k < 16) (h : bitAt m k = true) : bitAt (chunksOf m) (k / 4) = true := by
  rw [bitAt, getLsbD_chunksOf m (by omega), bne_iff_ne]
  intro none
  have bit := congrArg (fun v : BitVec 4 => v.getLsbD (k % 4)) none
  simp [show k % 4 < 4 by omega, show 4 * (k / 4) + k % 4 = k by omega] at bit
  exact absurd h (by simp [bitAt, bit])

/-- All chunks of some sublines are chunks of more of them. -/
theorem chunksOf_and_or (x m : BitVec 16) : chunksOf m &&& chunksOf (x ||| m) = chunksOf m := by
  refine BitVec.eq_of_getLsbD_eq fun q hq => ?_
  rw [BitVec.getLsbD_and, getLsbD_chunksOf m hq, getLsbD_chunksOf _ hq, BitVec.extractLsb'_or]
  by_cases none : m.extractLsb' (4 * q) 4 = 0#4 <;> simp [none, BitVec.or_eq_zero_iff]

theorem subline_lt (a : Nat) : a % 64 / 4 < 16 := by omega

/-- A store touches the subline of each of its bytes. -/
theorem bitAt_anySublines_of_mem {addrs : List Nat} {a : Nat} (h : a ∈ addrs) : bitAt (anySublines addrs) (a % 64 / 4) = true := by
  rw [bitAt_anySublines _ (subline_lt a)]
  exact List.any_eq_true.2 ⟨a, h, beq_self_eq_true _⟩

/-! ### Records of errors -/

/-- All that a record of a disrupting error may change: DESR with what is recorded beside it, the debug events and the place in the
free values. -/
def RecordFrame (s t : State) : Prop :=
  t = { s with err := { s.err with desr := t.err.desr, together := t.err.together, clfesr := t.err.clfesr }, events := t.events,
               oracle := t.oracle }

theorem RecordFrame.trans {s t u : State} (h : RecordFrame s t) (h' : RecordFrame t u) : RecordFrame s u :=
  Eq.trans h' (congrArg (fun (x : State) =>
    { x with err := { x.err with desr := u.err.desr, together := u.err.together, clfesr := u.err.clfesr }, events := u.events,
             oracle := u.oracle }) h)

theorem State.recordFrame_updateClfesr (s : State) (old : BitVec 16) : RecordFrame s (s.updateClfesr old) := by
  unfold State.updateClfesr
  split <;> [exact rfl; (split <;> exact rfl)]

theorem State.recordFrame_recordDesr (s : State) (k : Nat) (sre : Bool) (errtype : BitVec 5) (addr : BitVec 11) :
    RecordFrame s (s.recordDesr k sre errtype addr) := by
  unfold State.recordDesr
  split
  · refine RecordFrame.trans (u := State.updateClfesr _ _) ?_ (State.recordFrame_updateClfesr _ _)
    dsimp only
    split <;> exact rfl
  · exact rfl

@[simp] theorem State.updateClfesr_desr (s : State) (old : BitVec 16) : (s.updateClfesr old).err.desr = s.err.desr := by
  unfold State.updateClfesr
  split <;> [rfl; (split <;> rfl)]

@[simp] theorem State.updateClfesr_dfesr (s : State) (old : BitVec 16) : (s.updateClfesr old).err.dfesr = s.err.dfesr := by
  unfold State.updateClfesr
  split <;> [rfl; (split <;> rfl)]

@[simp] theorem State.updateClfesr_storeError (s : State) (old : BitVec 16) : (s.updateClfesr old).storeError = s.storeError := by
  unfold State.updateClfesr
  split <;> [rfl; (split <;> rfl)]

/-- The first error of an empty DESR, with which no other comes (spec/62_errors_core.md R1616). -/
theorem State.recordDesr_first {s : State} {k : Nat} (sre : Bool) (errtype : BitVec 5) (addr : BitVec 11) (enabled : s.cerer k = true)
    (empty : s.err.desr.f = false) (alone : s.err.together = none) :
    (s.recordDesr k sre errtype addr).err.desr = { s.err.desr with f := true, s := sre, errtype := errtype, erraddr := addr } := by
  cases sre <;> simp [State.recordDesr, enabled, State.errorEvent, alone, ErrorEvent.add, higherError, ErrorEvent.desr, empty]

/-- The record of a deferred error (spec/62_errors_core.md R1620). -/
theorem State.recordDeferred_store (s : State) (priv : BitVec 2) (index : BitVec 3) :
    (s.recordDeferred false priv index).storeError = true ∧ (s.recordDeferred false priv index).err.dfesr.sba = true ∧
      (s.err.dfesr.sba = false → s.err.dfesr.sbdio = false →
        (s.recordDeferred false priv index).err.dfesr = { sba := true, sbdio := false, priv := priv, stbindex := index }) := by
  refine ⟨?_, ?_, fun noSba noSbdio => ?_⟩ <;> simp [State.recordDeferred, *]

/-- A write of no chunk to DRAM is none. -/
theorem State.writeDram_none (s : State) (pa : Nat) : s.writeDram pa 0 = s := by simp [State.writeDram]

/-! ### One store that leaves the buffer (spec/62_errors_core.md R1584 to R1587) -/

/-- The sublines of which a store drops its bytes: those that are bad, and that it does not fill (spec/63_errors_l2_dram.md R1686). -/
def State.droppedSublines (s : State) (p : PendingStore) : BitVec 16 := s.badSublines p.pa &&& ~~~fullSublines p.addrs

/-- Memory is that of `s` without the bytes that the store drops. -/
def MergesStore (s t : State) (p : PendingStore) : Prop :=
  ∀ a, t.readByte a =
    if bitAt (s.droppedSublines p) (a % 64 / 4) then (sparseFind p.old a).getD (s.readByte a) else s.readByte a

/-- A line of which nothing is listed has no bad sublines. -/
theorem State.badSublines_unlisted {s : State} {pa : Nat} (plain : sparseFind s.notData (pa / 64) = none) : s.badSublines pa = 0 := by
  have line : s.line pa = MemLine.none := by simp [State.line, sparseGet, plain]
  have right (q : Nat) : s.syndrome pa q = 0 := by rw [State.syndrome, line, MemLine.none, fileGet_fileOf]
  have wrong : s.wrongChunks pa (fun y => (qecNibble y).isNone) = 0 := by simp only [State.wrongChunks, right]; decide +kernel
  have none : chunkSublines 0 = 0 := by decide +kernel
  simp only [State.badSublines, State.resident, line, MemLine.none, State.uncorrected, wrong, none, Bool.false_eq_true, if_false,
    ite_self]

theorem State.rewritten_frame (s : State) (pa : Nat) (addrs : List Nat) (bad : BitVec 16) :
    s.rewritten pa addrs bad =
      { s with notData := (s.rewritten pa addrs bad).notData, csr := (s.rewritten pa addrs bad).csr } := by
  unfold State.rewritten State.writeDram
  dsimp only
  split
  · rfl
  · split
    · rfl
    · split <;> [rfl; (split <;> rfl)]

section
variable {s : State} {p : PendingStore}

theorem State.mergeStore_alone : s.mergeStore p [] =
    ([], { s with mem := memPutCells s.mem (p.old.filter (fun c => bitAt (s.droppedSublines p) (c.1 % 64 / 4))) }) := by
  unfold State.mergeStore
  dsimp only
  split
  · rename_i none
    rw [State.droppedSublines, none]
    rfl
  · rfl

theorem State.mergeStore_merges (once : p.addrs.Nodup) : MergesStore s (s.mergeStore p []).2 p := by
  intro a
  have kept := once.sublist ((List.filter_sublist (p := fun c : Host.Cell => bitAt (s.droppedSublines p) (c.1 % 64 / 4))).map
    (fun c : Host.Cell => c.1))
  rw [State.mergeStore_alone, State.readByte]
  dsimp only
  rw [sparseGet_memPutCells _ kept, sparseFind_filter_addr _ (fun a => bitAt (s.droppedSublines p) (a % 64 / 4))]
  split <;> rfl

/-- What a store that leaves the buffer, whether its data is good or not, does with memory and with the rest of the state. -/
theorem State.performed_merges (once : p.addrs.Nodup) : MergesStore s (s.performed p []).2 p := by
  unfold State.performed
  split
  · rename_i plain
    intro a
    simp [State.droppedSublines, State.badSublines_unlisted (Option.isNone_iff_eq_none.1 plain), bitAt]
  · intro a
    rw [State.readByte, State.rewritten_mem]
    exact State.mergeStore_merges once a

theorem State.poisoned_merges (once : p.addrs.Nodup) : MergesStore s (s.poisoned p []).2 p := by
  intro a
  rw [State.readByte, State.poisoned, State.rewritten_mem]
  exact State.mergeStore_merges once a

theorem State.performed_records : (s.performed p []).2.err = s.err ∧ (s.performed p []).2.storeError = s.storeError := by
  unfold State.performed
  split
  · exact ⟨rfl, rfl⟩
  · dsimp only
    rw [State.rewritten_frame, State.mergeStore_alone]
    exact ⟨rfl, rfl⟩

theorem State.poisoned_records : (s.poisoned p []).2.err = s.err ∧ (s.poisoned p []).2.storeError = s.storeError := by
  rw [State.poisoned, State.rewritten_frame, State.mergeStore_alone]
  exact ⟨rfl, rfl⟩

end

section
variable {s : State} {p : PendingStore}

/-- A store in error that is alone in the buffer leaves it. -/
theorem State.drain_alone (alone : s.undrained = [p]) (wrong : p.clean = false) :
    s.drain = ({ s with undrained := [] } : State).drainList 0 1 [p] := by
  simp [State.drain, State.drainFor, alone, wrong]

/-- An error in its address drops it (R1587). -/
theorem State.drainList_dropped (also : BitVec 2) (wrong : p.camBad = true) (detected : s.cerer 23 = true) :
    s.drainList also 1 [p] =
      ({ s with mem := memPutCells s.mem p.old } : State).recordDeferred false (highestLevel also [p]) p.index := by
  simp [State.drainList, wrong, detected, dropStores]

section
variable {j k : Nat} (also : BitVec 2) (address : p.camBad = false) (hj : j < 7) (hk : k < 7)
  (ecc : p.ecc = (1 <<< j) ||| (1 <<< k))
include address hj hk ecc

/-- What a store with errors in its data does, by what is recorded of them. -/
theorem State.drainList_data : s.drainList also 1 [p] =
    if j = k ∧ s.cerer 10 = true then ((s.drawn.recordDesr 10 false 10 (s.storeInfo p.index)).performed p []).2
    else if j = k ∨ s.cerer 9 = false then (s.performed p []).2
    else if p.kind = .block then
      { s.drawn.recordDesr 9 true 6 (s.storeInfo p.index) with
        mem := memPutCells (s.drawn.recordDesr 9 true 6 (s.storeInfo p.index)).mem p.old }
    else ((s.drawn.recordDesr 9 true 6 (s.storeInfo p.index)).poisoned p []).2 := by
  have wrong : p.ecc ≠ 0 := ecc ▸ check_bits_ne_zero hj hk
  have one : corrects39 p.ecc = decide (j = k) := ecc ▸ corrects39_of_check_bits hj hk
  have unchanged (t : State) (same : j = k) : t.correctedCells p [] = [] := by
    subst same
    have none (a : Nat) : byteAt 0 a = 0 := by simp [byteAt]
    simp only [State.correctedCells, ecc, corrected39_of_check_bit hj, none, bne_self_eq_false, Bool.and_false, List.filter_false,
      List.map_nil]
  have last (t : State) (ps : List PendingStore) : t.drainList also 0 ps = t := by cases ps <;> rfl
  unfold State.drainList
  simp only [address, Bool.false_and, Bool.false_eq_true, if_false, wrong, one, last]
  by_cases same : j = k
  · cases on : s.cerer 10
    · simp [same]
    · simp only [same, decide_true, Bool.and_self, if_true, unchanged _ same, and_self]
      rfl
  · cases on : s.cerer 9
    · simp [same]
    · simp [same, cancelCells]

end

/-- A store that reaches memory as NotData marks its sublines in the cache, or, where that is disabled, gives their chunks in DRAM
signalling ECC (spec/63_errors_l2_dram.md R1688). -/
theorem State.poisoned_line {a : Nat} (exist : s.dramExists p.pa = true) (stored : a ∈ p.addrs) :
    if s.resident p.pa = false ∧ s.l2Off p.pa = true then (s.poisoned p []).2.syndrome p.pa (a % 64 / 16) = 0x8221
    else bitAt ((s.poisoned p []).2.marks p.pa) (a % 64 / 4) = true := by
  have touched := bitAt_anySublines_of_mem stored
  have bad : bitAt (s.badSublines p.pa ||| anySublines p.addrs) (a % 64 / 4) = true := by
    rw [bitAt, BitVec.getLsbD_or, ← bitAt, ← bitAt, touched, Bool.or_true]
  rw [State.poisoned, State.mergeStore_alone, State.rewritten]
  dsimp only
  generalize memory : ({ s with mem := _ } : State) = m
  have line : m.line p.pa = s.line p.pa := memory ▸ rfl
  have exist' : m.dramExists p.pa = true := memory ▸ exist
  have off : m.l2Off p.pa = s.l2Off p.pa := memory ▸ rfl
  rw [line, off, ← State.resident]
  by_cases direct : s.resident p.pa = false ∧ s.l2Off p.pa = true
  · rw [if_pos direct, if_neg (by simp [direct]), State.syndrome]
    have chunk : a % 64 / 16 = a % 64 / 4 / 4 := by omega
    have number : (BitVec.ofNat 2 (a % 64 / 16)).toNat = a % 64 / 4 / 4 := by rw [BitVec.toNat_ofNat]; omega
    have poisoned : bitAt (chunksOf (anySublines p.addrs)) (a % 64 / 4 / 4) = true := bitAt_chunksOf (subline_lt a) touched
    rw [chunksOf_and_or, BitVec.and_not_self, State.writeDram_none, State.line_putLine, if_pos exist', MemLine.syndromes_tidy,
      MemLine.syndromes_withSyndromes, number, if_pos poisoned]
    rfl
  · rw [if_neg direct, if_pos (by simpa [imp_iff_not_or] using direct), State.marks, State.line_putLine, if_pos exist', MemLine.marks_tidy]
    exact bad

/-! #### What becomes of memory and of the records -/

/-- The state after a record has the memory and the lines of the one before. -/
theorem RecordFrame.merges {t u : State} (h : RecordFrame s t) (merged : MergesStore t u p) : MergesStore s u p := by
  rw [h] at merged
  exact merged

theorem RecordFrame.storeError_eq {t : State} (h : RecordFrame s t) : t.storeError = s.storeError := by rw [h]

/-- A store with an error in its address, where that is detected (R1587). -/
theorem State.drainList_address_error (once : p.addrs.Nodup) (wrong : p.camBad = true) (detected : s.cerer 23 = true) :
    (∀ a, (s.drainList 0 1 [p]).readByte a = (sparseFind p.old a).getD (s.readByte a)) ∧ (s.drainList 0 1 [p]).storeError = true ∧
      (s.drainList 0 1 [p]).err.dfesr.sba = true ∧ (s.err.dfesr.sba = false → s.err.dfesr.sbdio = false →
        (s.drainList 0 1 [p]).err.dfesr = { sba := true, sbdio := false, priv := p.level, stbindex := p.index }) := by
  have level : highestLevel 0 [p] = p.level := by
    simp only [highestLevel, List.foldl_cons, List.foldl_nil]
    split
    · rfl
    · rename_i low
      bv_omega
  rw [State.drainList_dropped _ wrong detected, level]
  refine ⟨fun a => ?_, State.recordDeferred_store ..⟩
  rw [State.readByte, State.recordDeferred_mem]
  exact sparseGet_memPutCells _ once a

theorem State.recordFrame_drawn (k : Nat) (sre : Bool) (errtype : BitVec 5) (addr : BitVec 11) :
    RecordFrame s (s.drawn.recordDesr k sre errtype addr) :=
  RecordFrame.trans (t := s.drawn) rfl (State.recordFrame_recordDesr _ _ _ _ _)

section
variable {j k : Nat} (address : p.camBad = false) (hj : j < 7) (hk : k < 7)
  (ecc : p.ecc = (1 <<< j) ||| (1 <<< k))
include address hj hk ecc

/-- One wrong check bit: the store is performed, and recorded where that is enabled (R1584). -/
theorem State.drainList_corrected (one : j = k) :
    (p.addrs.Nodup → MergesStore s (s.drainList 0 1 [p]) p) ∧
      (s.cerer 10 = true → s.err.desr.f = false → s.err.together = none → (s.drainList 0 1 [p]).err.desr =
        { s.err.desr with f := true, s := false, errtype := 10, erraddr := s.storeInfo p.index }) := by
  rw [State.drainList_data 0 address hj hk ecc]
  cases on : s.cerer 10
  · rw [if_neg (by simp), if_pos (.inl one)]
    exact ⟨State.performed_merges, nofun⟩
  · rw [if_pos ⟨one, rfl⟩, State.performed_records.1]
    exact ⟨fun once => s.recordFrame_drawn _ _ _ _ |>.merges (State.performed_merges once), fun _ empty alone =>
      State.recordDesr_first (s := s.drawn) _ _ _ on empty alone⟩

/-- Two wrong check bits of a store that is no piece of a block store: it is performed as NotData, and recorded, where the error is
detected (R1585). -/
theorem State.drainList_poisoned (two : j ≠ k) (ordinary : p.kind ≠ .block) :
    (p.addrs.Nodup → MergesStore s (s.drainList 0 1 [p]) p) ∧
      (s.cerer 9 = true →
        (s.err.desr.f = false → s.err.together = none → (s.drainList 0 1 [p]).err.desr =
          { s.err.desr with f := true, s := true, errtype := 6, erraddr := s.storeInfo p.index }) ∧
        (s.dramExists p.pa = true → ∀ a ∈ p.addrs,
          if s.resident p.pa = false ∧ s.l2Off p.pa = true then (s.drainList 0 1 [p]).syndrome p.pa (a % 64 / 16) = 0x8221
          else bitAt ((s.drainList 0 1 [p]).marks p.pa) (a % 64 / 4) = true)) := by
  rw [State.drainList_data 0 address hj hk ecc, if_neg (two ·.1)]
  cases on : s.cerer 9
  · rw [if_pos (.inr rfl)]
    exact ⟨State.performed_merges, nofun⟩
  · rw [if_neg (by simp [two]), if_neg ordinary, State.poisoned_records.1]
    refine ⟨fun once => s.recordFrame_drawn _ _ _ _ |>.merges (State.poisoned_merges once), fun _ => ⟨fun empty alone =>
      State.recordDesr_first (s := s.drawn) _ _ _ on empty alone, fun exist a stored => ?_⟩⟩
    have frame := s.recordFrame_drawn 9 true 6 (s.storeInfo p.index)
    generalize s.drawn.recordDesr 9 true 6 (s.storeInfo p.index) = t at frame
    have line := State.poisoned_line (s := t) (by rw [frame]; exact exist) stored
    have same : t.resident p.pa = s.resident p.pa ∧ t.l2Off p.pa = s.l2Off p.pa := by rw [frame]; exact ⟨rfl, rfl⟩
    rwa [same.1, same.2] at line

theorem State.drainList_data_storeError : (s.drainList 0 1 [p]).storeError = s.storeError := by
  rw [State.drainList_data 0 address hj hk ecc]
  split
  · exact State.performed_records.2.trans (s.recordFrame_drawn _ _ _ _).storeError_eq
  · split
    · exact State.performed_records.2
    · split
      · exact (s.recordFrame_drawn _ _ _ _).storeError_eq
      · exact State.poisoned_records.2.trans (s.recordFrame_drawn _ _ _ _).storeError_eq

end
end

end Sys2Proof.Machine

namespace Sys2Proof
open Machine

/-- Settles O38: what the load does is what `rawError` says (`State.access_newest_in_error`); a store alone in the buffer leaves it as
`drainList` says of a list of one. -/
theorem storeBufferErrorsAreReported : Obligations.StoreBufferErrorsAreReported := by
  constructor
  · intro s op va n j k p rest pa one r hyper mode load nonempty newest holds hj hk ecc
    have run := State.access_newest_in_error hyper mode load nonempty newest holds hj hk ecc
    refine ⟨fun enabled trapping => ?_, fun masked => ?_⟩
    · have report : (s.cerer (if one then 37 else 36) && s.pscce) = true := Bool.and_eq_true_iff.2 ⟨enabled, trapping⟩
      rw [if_pos report] at run
      have low : (p.index.setWidth 48).toNat < 2 ^ 3 := by
        rw [BitVec.toNat_setWidth]
        omega
      refine ⟨_, run, rfl, ?_⟩
      rw [show 8 = 2 ^ 3 from rfl, State.setDsfarInfo_low _ (by decide) low, BitVec.toNat_setWidth]
      omega
    · have silent : ¬(s.cerer (if one then 37 else 36) && s.pscce) = true := by
        rw [Bool.and_eq_true]
        rintro ⟨enabled, trapping⟩
        rcases masked with off | off
        · exact absurd (enabled.symm.trans off) (by decide)
        · exact absurd (trapping.symm.trans off) (by decide)
      rwa [if_neg silent] at run
  · intro s p j k alone once _ t dropped
    have frame : StoreFrame s t := s.drainFor_frame 0
    have recorded {d e : Desr} {sre : Bool} {errtype : BitVec 5}
        (record : d = { e with f := true, s := sre, errtype := errtype, erraddr := s.storeInfo p.index }) :
        d = { e with f := true, s := sre, errtype := errtype, erraddr := d.erraddr } ∧ d.erraddr.toNat % 8 = p.index.toNat := by
      subst record
      refine ⟨rfl, ?_⟩
      rw [State.storeInfo, BitVec.toNat_append, Nat.shiftLeft_eq, Nat.mul_comm, ← Nat.two_pow_add_eq_or_of_lt p.index.isLt,
        Nat.mul_add_mod, Nat.mod_eq_of_lt p.index.isLt]
    have leaves (wrong : p.clean = false) : t = ({ s with undrained := [] } : State).drainList 0 1 [p] := State.drain_alone alone wrong
    refine ⟨s.drain_undrained, ?_, fun wrong detected => ?_, fun address hj hk ecc => ?_⟩
    · rw [frame]
    · rw [leaves (by simp [PendingStore.clean, wrong])]
      exact State.drainList_address_error once wrong detected
    · have wrong : p.clean = false := by
        simp only [PendingStore.clean, beq_eq_false_iff_ne.2 (ecc ▸ check_bits_ne_zero hj hk), Bool.false_and]
      rw [leaves wrong]
      refine ⟨State.drainList_data_storeError address hj hk ecc, fun kept => ?_, fun one on empty first => ?_,
        fun two on ordinary => ?_⟩
      · by_cases one : j = k
        · exact (State.drainList_corrected address hj hk ecc one).1 once
        · exact (State.drainList_poisoned address hj hk ecc one (kept.resolve_left one)).1 once
      · exact recorded ((State.drainList_corrected address hj hk ecc one).2 on empty first)
      · have poisoned := (State.drainList_poisoned (s := { s with undrained := [] }) address hj hk ecc two ordinary).2 on
        exact ⟨fun empty first => recorded (poisoned.1 empty first), poisoned.2⟩

end Sys2Proof

namespace Sys2Proof.Machine

/-! ### What a read of a line of memory leaves alone (spec/63_errors_l2_dram.md R1700 to R1716) -/

/-- A register of the chip that says how memory is read, and that no record of an error changes: the banks in use, L2_CONTROL,
L2_ERROR_EN, and of a memory controller single-channel mode, failover mode and the injection of errors; with `logs`, also its error
status and its count of corrected errors. -/
def keptReg (logs : Bool) (a : Nat) : Bool :=
  a == csrBankEnableStatus || a / 2 ^ 32 == 0xA9 || a / 2 ^ 32 == 0xAA ||
    (a / 2 ^ 32 == 0x84 && (a % 0x1000 == 0x148 || a % 0x1000 == 0x220 || a % 0x1000 == 0x290 ||
      (logs && (a % 0x1000 == 0x280 || a % 0x1000 == 0x298))))

/-- All that the read of a line may write where it changes no data: what is known of lines and of the data cache, the registers of
the chip, the records of errors with their debug events and the reset they ask for, and the place in the free values. -/
def ReadFrame (s t : State) : Prop :=
  t = { s with err := { s.err with desr := t.err.desr, together := t.err.together, clfesr := t.err.clfesr }, events := t.events,
               oracle := t.oracle, csr := t.csr, chipReset := t.chipReset, linkLine := t.linkLine, notData := t.notData,
               l1d := t.l1d }

theorem ReadFrame.trans {s t u : State} (h : ReadFrame s t) (h' : ReadFrame t u) : ReadFrame s u :=
  Eq.trans h' (congrArg (fun (x : State) =>
    { x with err := { x.err with desr := u.err.desr, together := u.err.together, clfesr := u.err.clfesr }, events := u.events,
             oracle := u.oracle, csr := u.csr, chipReset := u.chipReset, linkLine := u.linkLine, notData := u.notData,
             l1d := u.l1d }) h)

/-- The change from `s` to `t` is one that a read of the line of `pa` may make where it changes no data; a line that keeps its data
stays so. `WalksTo` speaks of all lines at once. -/
structure ReadsLine (logs : Bool) (pa : Nat) (s t : State) : Prop where
  frame : ReadFrame s t
  csr : ∀ a, keptReg logs a = true → t.csrGet a = s.csrGet a
  line : (s.line pa).Keeps → (t.line pa).Keeps

namespace ReadsLine

variable {logs : Bool} {pa : Nat}

theorem refl (s : State) : ReadsLine logs pa s s := ⟨rfl, fun _ _ => rfl, id⟩

theorem trans {s t u : State} (h : ReadsLine logs pa s t) (h' : ReadsLine logs pa t u) : ReadsLine logs pa s u :=
  ⟨h.frame.trans h'.frame, fun a kept => (h'.csr a kept).trans (h.csr a kept), h'.line ∘ h.line⟩

/-- A change of a record or of the place in the free values. -/
theorem ofRecord {s t : State} (frame : ReadFrame s t) (csr : t.csr = s.csr := by rfl) (lines : t.notData = s.notData := by rfl) :
    ReadsLine logs pa s t :=
  ⟨frame, fun a _ => by rw [State.csrGet, csr, State.csrGet], fun keeps => by rwa [State.line, lines]⟩

theorem ofRecordFrame {s t : State} (h : RecordFrame s t) : ReadsLine logs pa s t := by
  refine .ofRecord ?_ ?_ ?_
  · exact Eq.trans h (by rw [h])
  · rw [h]
  · rw [h]

section
variable {s t : State} (h : ReadsLine logs pa s t)
include h

theorem ite {u : State} (p : Prop) [Decidable p] (h' : ReadsLine logs pa s u) : ReadsLine logs pa s (if p then t else u) := by
  split <;> assumption

/-- A sequence of changes, one for each entry of a list. -/
theorem foldl {α : Type} {f : State → α → State} (hf : ∀ u a, ReadsLine logs pa s u → ReadsLine logs pa s (f u a)) (l : List α) :
    ReadsLine logs pa s (l.foldl f t) :=
  List.foldlRecOn l f h fun u hu a _ => hf u a hu

/-! #### The settings -/

theorem banksInUse_eq : t.banksInUse = s.banksInUse := by
  rw [State.banksInUse, State.banksInUse, h.csr csrBankEnableStatus (by simp [keptReg])]

theorem bankOf_eq (a : Nat) : t.bankOf a = s.bankOf a := by rw [State.bankOf, State.bankOf, h.banksInUse_eq]

theorem mcuOf_eq (a : Nat) : t.mcuOf a = s.mcuOf a := by rw [State.mcuOf, State.mcuOf, h.bankOf_eq]

theorem dramExists_eq (a : Nat) : t.dramExists a = s.dramExists a := by
  rw [State.dramExists, State.dramExists, State.portsInUse, State.portsInUse, h.banksInUse_eq, h.bankOf_eq]

/-- A register of one of the L2 banks. -/
theorem csrBank {base b : Nat} (kept : ∀ b, b < 8 → keptReg false (base + 64 * b) = true) (hb : b < 8) :
    t.csrGet (base + 64 * b) = s.csrGet (base + 64 * b) := by
  refine h.csr _ ?_
  have := kept b hb
  simp only [keptReg, Bool.or_eq_true, Bool.and_eq_true, Bool.false_and] at this ⊢
  tauto

/-- A register of one of the memory controllers. -/
theorem csrMcu {base k : Nat} (kept : ∀ k, k < 4 → keptReg logs (base + 0x1000 * k) = true) (hk : k < 4) :
    t.csrGet (base + 0x1000 * k) = s.csrGet (base + 0x1000 * k) := h.csr _ (kept k hk)

end
end ReadsLine

theorem State.bankOf_lt (s : State) (pa : Nat) : s.bankOf pa < 8 := BitVec.isLt _

theorem State.bankOf_half_lt (s : State) (pa : Nat) : s.bankOf pa / 2 < 4 := s.mcuOf_lt pa

namespace ReadsLine

variable {logs : Bool} {pa : Nat}

section
variable {s t : State} (h : ReadsLine logs pa s t)
include h

theorem l2Off_eq (a : Nat) : t.l2Off a = s.l2Off a := by
  rw [State.l2Off, State.l2Off, h.bankOf_eq, h.csrBank (by decide) (s.bankOf_lt a)]

theorem nceen_eq (a : Nat) : t.nceen a = s.nceen a := by
  rw [State.nceen, State.nceen, h.bankOf_eq, h.csrBank (by decide) (s.bankOf_lt a)]

theorem ceen_eq (a : Nat) : t.ceen a = s.ceen a := by
  rw [State.ceen, State.ceen, h.bankOf_eq, h.csrBank (by decide) (s.bankOf_lt a)]

theorem failover_eq (a : Nat) : t.failover a = s.failover a := by
  rw [State.failover, State.failover, h.mcuOf_eq, h.csrMcu (by cases logs <;> decide) (s.mcuOf_lt a),
    h.csrMcu (by cases logs <;> decide) (s.mcuOf_lt a)]

theorem injectsNone (none : s.InjectsNone) : t.InjectsNone := fun k hk => by
  rw [h.csrMcu (by cases logs <;> decide) hk]
  exact none k hk

theorem cerer_eq (k : Nat) : t.cerer k = s.cerer k := by rw [h.frame, State.cerer, State.cerer]

theorem pscce_eq : t.pscce = s.pscce := by rw [h.frame, State.pscce, State.pscce]

theorem mem_eq : t.mem = s.mem := by rw [h.frame]

/-! #### Registers of the chip -/

theorem csrSet {reg : Nat} (other : ∀ logs, keptReg logs reg = false) (v : Word) : ReadsLine logs pa s (t.csrSet reg v) := by
  refine h.trans ⟨rfl, fun a kept => State.csrGet_csrSet_ne _ _ fun same => ?_, id⟩
  rw [same, other logs] at kept
  cases kept

theorem csrSetBank {base b : Nat} (other : ∀ logs, ∀ b, b < 8 → keptReg logs (base + 64 * b) = false) (hb : b < 8) (v : Word) :
    ReadsLine logs pa s (t.csrSet (base + 64 * b) v) :=
  h.csrSet (fun l => other l b hb) v

theorem csrSetMcu {base k : Nat} (other : ∀ logs, ∀ k, k < 4 → keptReg logs (base + 0x1000 * k) = false) (hk : k < 4) (v : Word) :
    ReadsLine logs pa s (t.csrSet (base + 0x1000 * k) v) :=
  h.csrSet (fun l => other l k hk) v

/-! #### Records of errors -/

theorem drawn : ReadsLine logs pa s t.drawn := h.trans (.ofRecord rfl)

theorem events (e : DebugEvents) : ReadsLine logs pa s { t with events := e } := h.trans (.ofRecord rfl)

theorem chipReset (r : Option ChipReset) : ReadsLine logs pa s { t with chipReset := r } := h.trans (.ofRecord rfl)

theorem linkLine (l : Option (Nat × Bool)) : ReadsLine logs pa s { t with linkLine := l } := h.trans (.ofRecord rfl)

theorem l1d (l : List (Nat × L1Chunk)) : ReadsLine logs pa s { t with l1d := l } := h.trans (.ofRecord rfl)

theorem recordDisrupting (k : Nat) (sre : Bool) (errtype : BitVec 5) :
    ReadsLine logs pa s (t.recordDisrupting k sre errtype) :=
  ite (h.trans (.ofRecordFrame (t.recordFrame_drawn ..))) _ h

theorem noteL2 (a : Nat) : ReadsLine logs pa s (t.noteL2 a) := (h.events _).ite _ h

theorem logDram (a : Nat) (one write fill : Bool) : ReadsLine logs pa s (t.logDram a one write fill) := by
  have hb := t.bankOf_lt a
  exact ((h.csrSetBank (by decide) hb _).noteL2 _).ite _
    (((h.drawn.csrSetBank (by decide) hb _).drawn.csrSetBank (by decide) hb _).noteL2 _)

theorem logNotData (a : Nat) (write : Bool) : ReadsLine logs pa s (t.logNotData a write) := by
  have hb := t.bankOf_lt a
  exact ((h.csrSetBank (by decide) hb _).ite _ (h.csrSetBank (by decide) hb _)).noteL2 a

theorem noteMcu {k : Nat} (hk : k < 4) : ReadsLine logs pa s (t.noteMcu k) :=
  ((h.csrSetMcu (by decide) hk _).events _).ite _ h

theorem reportL2U (a : Nat) : ReadsLine logs pa s (t.reportL2U a) := (h.recordDisrupting _ _ _).ite _ h

theorem reportL2C (a : Nat) : ReadsLine logs pa s (t.reportL2C a) := (h.recordDisrupting _ _ _).ite _ h

theorem reportCorrected (a k : Nat) (errtype : BitVec 5) : ReadsLine logs pa s (t.reportCorrected a k errtype) :=
  (h.recordDisrupting _ _ _).ite _ h

theorem logRetry {k : Nat} (hk : k < 4) (first : BitVec 16) (second : Option (BitVec 16)) :
    ReadsLine logs pa s (t.logRetry k first second) :=
  h.csrSetMcu (by decide) hk _

theorem logLocation {k : Nat} (hk : k < 4) (n : Nat) : ReadsLine logs pa s (t.logLocation k n) :=
  h.ite _ (h.csrSetMcu (by decide) hk _)

/-! #### Errors of the SOC -/

theorem socSyndrome {reg : Nat} (other : ∀ logs, keptReg logs reg = false) (entries : List Nat) (shift : Nat)
    (fields : Nat → Word × Word) (logged : Word) : ReadsLine logs pa s (t.socSyndrome reg entries shift fields logged) := by
  unfold State.socSyndrome
  split <;> [exact h; exact h.ite _ (h.drawn.csrSet other _)]

theorem socRequest (entries : Word) : ReadsLine logs pa s (t.socRequest entries) := by
  have packet {u : State} (hu : ReadsLine logs pa s u) (asking : Word) : ReadsLine logs pa s (u.socPacket asking) :=
    hu.ite _ ((hu.recordDisrupting _ _ _).ite _ ((hu.recordDisrupting _ _ _).ite _
      ((hu.drawn.recordDisrupting _ _ _).ite _ (hu.drawn.recordDisrupting _ _ _))))
  exact h.ite _ (packet ((h.csrSet (by decide) _).csrSet (by decide) _) _)

theorem socErrors (errors : Word) : ReadsLine logs pa s (t.socErrors errors) := by
  have logged (fields : Nat → Word × Word) (v entries : Word) :=
    ((h.csrSet (reg := csrSocEsr) (by decide) v).socSyndrome (reg := csrNcuSyndrome) (by decide) socNcuSyndromes 51 fields
      entries).socSyndrome (reg := csrSiiSyndrome) (by decide) socSiiSyndromes 56 (fun _ => (0, 0x00FFFFFFFFFFFFFF)) entries
  unfold State.socErrors State.socErrorsAt
  dsimp only
  split
  · exact h
  · split
    · exact (((logged _ _ _).events _).csrSet (by decide) _).chipReset _
    · exact ((logged _ _ _).events _).socRequest _

end

/-! #### Records that change the error status or the count of a memory controller -/

section
variable {s t : State} (h : ReadsLine false pa s t)
include h

/-- The error status or the error count of a memory controller. -/
theorem csrSetLog {base k : Nat} (other : ∀ k, k < 4 → keptReg false (base + 0x1000 * k) = false) (hk : k < 4) (v : Word) :
    ReadsLine false pa s (t.csrSet (base + 0x1000 * k) v) := by
  refine h.trans ⟨rfl, fun a kept => State.csrGet_csrSet_ne _ _ fun same => ?_, id⟩
  rw [same, other k hk] at kept
  cases kept

theorem logOutOfBounds (a : Nat) : ReadsLine false pa s (t.logOutOfBounds a) := by
  have hk := t.bankOf_half_lt a
  exact (h.csrSetLog (by decide) hk _).noteMcu hk

theorem logMcu {k : Nat} (hk : k < 4) (bit : Nat) (severe : Bool) (y : BitVec 16) (a : Option Nat) :
    ReadsLine false pa s (t.logMcu k bit severe y a) := by
  refine ((h.csrSetLog (by decide) hk _).noteMcu hk).ite _ (noteMcu ?_ hk)
  cases a with
  | none => exact h.csrSetLog (by decide) hk _
  | some a => exact (h.csrSetLog (by decide) hk _).csrSetMcu (by decide) hk _

theorem countCorrected {k : Nat} (hk : k < 4) : ReadsLine false pa s (t.countCorrected k) :=
  h.ite _ (((h.csrSetLog (by decide) hk _).socErrors _).ite _ (h.csrSetLog (by decide) hk _))

theorem countLink {k : Nat} (hk : k < 4) : ReadsLine false pa s (t.countLink k) :=
  (h.socErrors _).ite _ (((h.csrSetMcu (by decide) hk _).socErrors _).ite _ (h.csrSetMcu (by decide) hk _))

theorem logLinked (a : Nat) : ReadsLine false pa s (t.logLinked a) := by
  unfold State.logLinked
  split
  · exact h
  · rename_i fatal _
    have hk := t.mcuOf_lt a
    have link : ReadsLine false pa s (t.logLink (t.mcuOf a) fatal) := by
      unfold State.logLink
      exact (h.drawn.csrSetMcu (by decide) hk _).drawn.logMcu hk _ _ _ _
    exact (link.linkLine none).ite _ ((link.linkLine none).countLink hk)

end
end ReadsLine

namespace ReadsLine

variable {logs : Bool} {pa : Nat}

/-! #### Lines, where software injects no errors and the line keeps its data -/

section
variable {s t : State} (h : ReadsLine logs pa s t)
include h

theorem putLine {l : MemLine} (hl : l.Keeps) : ReadsLine logs pa s (t.putLine pa l) := by
  refine h.trans ⟨rfl, fun _ _ => rfl, fun _ => ?_⟩
  rw [State.line_putLine]
  split
  · exact hl.tidy
  · split <;> exact MemLine.keeps_none

theorem fillReport (bad fixed : BitVec 16) : ReadsLine logs pa s (t.fillReport pa bad fixed) :=
  have first := h.ite (bad = 0) ((h.logDram pa false false true).reportL2U pa)
  first.ite _ ((first.logDram _ _ _ _).reportL2C _)

theorem logFound (found : Found) : ReadsLine logs pa s (t.logFound pa found) := (h.logNotData _ _).ite _ h

theorem fillL1d (found : Found) : ReadsLine logs pa s (t.fillL1d pa found) := h.ite _ (h.l1d _)

theorem storedOrFree (known : Bool) (n : Nat) : ReadsLine logs pa s (t.storedOrFree known pa n).2 := by
  unfold State.storedOrFree
  split <;> [exact h; exact h.drawn.drawn]

theorem putUnder {cells : List Host.Cell} (nothing : cells = []) : ReadsLine logs pa s (t.putUnder cells) := by
  rw [State.putUnder, if_pos nothing]
  exact h

variable (keeps : (s.line pa).Keeps)
include keeps

theorem fillLine (bad : BitVec 16) (spoilt : Bool) : ReadsLine logs pa s (t.fillLine pa bad spoilt) :=
  h.ite _ (h.putLine ⟨(h.line keeps).1, (h.line keeps).2⟩)

theorem putDram {cells : List Host.Cell} (nothing : cells = []) : ReadsLine logs pa s (t.putDram pa cells) := by
  refine (h.putUnder nothing).ite _ (h.ite _ (h.putLine ⟨?_, (h.line keeps).2⟩))
  rw [nothing, List.foldl_nil, (h.line keeps).1, List.filter_nil]

variable (none : s.InjectsNone)
include none

theorem writeDram (chunks : BitVec 4) : ReadsLine logs pa s (t.writeDram pa chunks) := by
  have off := h.injectsNone none _ (t.mcuOf_lt pa)
  unfold State.writeDram
  dsimp only
  rw [off]
  exact h.ite _ (h.putLine ((h.line keeps).withSyndromes _ qecNibble_zero))

theorem evict : ReadsLine logs pa s (t.evict pa) := by
  have out (unknown : Bool) :
      MemLine.Keeps { t.line pa with resident := false, marks := 0, dirty := false, unknown := unknown, dram := [] } :=
    ⟨rfl, (h.line keeps).2⟩
  unfold State.evict
  dsimp only
  split
  · exact h.putLine (out _)
  · split
    · exact (h.putUnder (h.line keeps).1).putLine (out _)
    · exact (h.putLine ((out _).withSyndromes _ qecNibble_poison)).writeDram keeps none _

theorem aged : ReadsLine logs pa s (t.aged pa) :=
  h.ite _ ((h.evict keeps none).ite _ ((h.drawn.evict keeps none).ite _ h.drawn))

end

section
variable {s t : State} (h : ReadsLine false pa s t)
include h

theorem logUncorrectable (q bit : Nat) (a : Option Nat) : ReadsLine false pa s (t.logUncorrectable pa q bit a) := by
  have hk := t.mcuOf_lt pa
  unfold State.logUncorrectable
  exact (h.logMcu hk _ _ _ _).logRetry hk _ _

variable (keeps : (s.line pa).Keeps) (none : s.InjectsNone)
include keeps none

/-- A corrected error: the nibble that the controller corrects is one of the check bits. -/
theorem logCorrected (q bit : Nat) (a : Option Nat) : ReadsLine false pa s (t.logCorrected pa q bit a) := by
  have hk := t.mcuOf_lt pa
  unfold State.logCorrected
  dsimp only
  split
  · exact h
  · exact (((((h.logLocation hk _).logMcu hk _ _ _ _).putDram keeps ((h.line keeps).miscorrected _ _)).writeDram keeps none
      _).logRetry hk _ _).countCorrected hk

theorem logMemory : ReadsLine false pa s (t.logMemory pa) :=
  (h.logOutOfBounds pa).ite _ (.foldl (.foldl (h.logLinked pa) (fun _ _ hu => hu.logUncorrectable ..) _)
    (fun _ _ hu => hu.logCorrected keeps none ..) _)

theorem findBytes {chunk : Nat} {note : State → State} (notes : ∀ u, ReadsLine false pa s u → ReadsLine false pa s (note u)) :
    ReadsLine false pa s (t.findBytes pa chunk note).2 := by
  have aged := h.aged keeps none
  have logged := aged.logMemory keeps none
  have both {p : Prop} [Decidable p] {u : State} (hu : ReadsLine false pa s u) :
      ReadsLine false pa s (if p then u.logDram pa true false false else u) := (hu.logDram _ _ _ _).ite _ hu
  unfold State.findBytes
  dsimp only
  split
  · exact aged
  · exact ((ite (both (logged.logDram _ _ _ _)) _ (ite (notes _ (logged.logDram _ _ _ _)) _ logged)).fillReport _ _).fillLine
      keeps _ _

end
end ReadsLine

/-! ### What a read finds in a bad line -/

theorem getLsbD_chunkSublines (c : BitVec 4) {k : Nat} (inside : k < 16) : (chunkSublines c).getLsbD k = bitAt c (k / 4) := by
  rw [chunkSublines, BitVec.getLsbD_ofFnLE, dif_pos inside]

theorem getLsbD_wrongChunks (s : State) (pa : Nat) (test : BitVec 16 → Bool) {q : Nat} (inside : q < 4) :
    (s.wrongChunks pa test).getLsbD q = (s.syndrome pa q != 0 && test (s.syndrome pa q)) := by
  rw [State.wrongChunks, BitVec.getLsbD_ofFnLE, dif_pos inside]

/-- Two sets of sublines meet in one of them. -/
theorem and_ne_zero_iff {m n : BitVec 16} : m &&& n ≠ 0 ↔ ∃ k, k < 16 ∧ bitAt m k = true ∧ bitAt n k = true := by
  constructor
  · intro meet
    by_contra apart
    refine meet (BitVec.eq_of_getLsbD_eq fun k hk => ?_)
    rw [BitVec.getLsbD_and, show (0 : BitVec 16).getLsbD k = false from BitVec.getLsbD_zero, Bool.eq_false_iff, ne_eq,
      Bool.and_eq_true]
    exact fun both => apart ⟨k, hk, both⟩
  · rintro ⟨k, -, hm, hn⟩ none
    have bit := congrArg (fun v : BitVec 16 => v.getLsbD k) none
    rw [bitAt] at hm hn
    simp only [BitVec.getLsbD_and, hm, hn] at bit
    exact absurd bit (by simp)

/-- A 16-byte chunk has sublines. -/
theorem sublines_chunk_ne_zero (pa : Nat) : sublines (pa / 16 * 16) 16 ≠ 0 := by
  intro none
  have first : pa % 64 / 16 * 4 < 16 := by omega
  have bit := congrArg (fun v : BitVec 16 => v.getLsbD (pa % 64 / 16 * 4)) none
  simp only [sublines, BitVec.getLsbD_ofFnLE, first, dif_pos] at bit
  simp at bit
  omega

namespace State

/-- A subline is bad in DRAM where the check bits of its chunk name no nibble, but in failover mode. -/
theorem bitAt_uncorrected (s : State) (pa : Nat) {k : Nat} (inside : k < 16) : bitAt (s.uncorrected pa) k =
    (!s.failover pa && (s.syndrome pa (k / 4) != 0 && (qecNibble (s.syndrome pa (k / 4))).isNone)) := by
  unfold State.uncorrected
  cases s.failover pa
  · rw [if_neg (by decide), bitAt, getLsbD_chunkSublines _ inside, bitAt, getLsbD_wrongChunks _ _ _ (by omega)]
    rfl
  · rw [if_pos rfl]
    simp [bitAt]

theorem syndrome_putLine {s : State} {pa : Nat} (exist : s.dramExists pa = true) (l : MemLine) (q : Nat) :
    (s.putLine pa l).syndrome pa q = fileGet l.syndromes (BitVec.ofNat 2 q) := by
  rw [State.syndrome, State.line_putLine, if_pos exist, MemLine.syndromes_tidy]

theorem resident_putLine {s : State} {pa : Nat} {l : MemLine} (out : l.resident = false) : (s.putLine pa l).resident pa = false := by
  rw [State.resident, State.line_putLine, out]
  split
  · unfold MemLine.tidy
    split <;> [rfl; exact out]
  · rfl

/-- The check bits of chunks that are written to DRAM, where software injects no errors. -/
theorem syndrome_writeDram {s : State} {pa q : Nat} (none : s.InjectsNone) (exist : s.dramExists pa = true) (hq : q < 4)
    (chunks : BitVec 4) : (s.writeDram pa chunks).syndrome pa q = if bitAt chunks q then 0 else s.syndrome pa q := by
  have off : bitAt (s.csrGet (csrDramErrorInject + 0x1000 * s.mcuOf pa)) 31 = false := none _ (s.mcuOf_lt pa)
  unfold State.writeDram
  dsimp only
  rw [off]
  split
  · rename_i nothing
    rw [nothing]
    simp [bitAt]
  · rw [if_pos (by rfl), syndrome_putLine exist, MemLine.syndromes_withSyndromes, BitVec.toNat_ofNat, Nat.mod_eq_of_lt (by omega)]
    rfl

theorem resident_writeDram {s : State} {pa : Nat} (none : s.InjectsNone) (out : s.resident pa = false) (chunks : BitVec 4) :
    (s.writeDram pa chunks).resident pa = false := by
  have off : bitAt (s.csrGet (csrDramErrorInject + 0x1000 * s.mcuOf pa)) 31 = false := none _ (s.mcuOf_lt pa)
  unfold State.writeDram
  dsimp only
  rw [off]
  split
  · exact out
  · exact resident_putLine out

/-! #### A line that leaves the cache -/

section
variable {s : State} {pa : Nat}

theorem resident_evict (none : s.InjectsNone) : (s.evict pa).resident pa = false := by
  unfold State.evict
  dsimp only
  split
  · exact resident_putLine rfl
  · split
    · exact resident_putLine rfl
    · exact resident_writeDram (s := s.putLine pa _) none (resident_putLine rfl) _

/-- A marked chunk of a line that has been written in the cache has signalling ECC in DRAM after that. -/
theorem syndrome_evict_dirty {q : Nat} (none : s.InjectsNone) (exist : s.dramExists pa = true) (dirty : (s.line pa).dirty = true) (hq : q < 4)
    (marked : bitAt (chunksOf (s.line pa).marks) q = true) : (s.evict pa).syndrome pa q = poisonSyndrome := by
  have number : (BitVec.ofNat 2 q).toNat = q := by rw [BitVec.toNat_ofNat]; omega
  have kept : bitAt (~~~chunksOf (s.line pa).marks) q = false := by
    simp only [bitAt] at marked ⊢
    simp [marked]
  unfold State.evict
  dsimp only
  rw [exist, dirty, if_neg (by decide), if_neg (by decide), syndrome_writeDram (s := s.putLine _ _) none exist hq, kept, if_neg (by decide),
    syndrome_putLine exist, MemLine.syndromes_withSyndromes, number, if_pos marked]

/-- Of another line DRAM keeps its check bits. -/
theorem syndrome_evict_clean (keeps : (s.line pa).Keeps) (exist : s.dramExists pa = true) (clean : (s.line pa).dirty = false) (q : Nat) :
    (s.evict pa).syndrome pa q = s.syndrome pa q := by
  have under : s.putUnder (s.line pa).dram = s := if_pos keeps.1
  unfold State.evict
  dsimp only
  rw [exist, clean, if_neg (by decide), if_pos (by decide), under, syndrome_putLine exist]
  rfl

end
end State

namespace State

/-! #### Before the read -/

/-- The chunk of an address is marked in the cache, and bad also where the line has left it: of memory that does not exist, written
back with signalling ECC, or bad in DRAM before. -/
def HoldsMark (s : State) (pa : Nat) : Prop :=
  (s.line pa).resident = true ∧ (s.line pa).marks &&& sublines (pa / 16 * 16) 16 ≠ 0 ∧
    (s.dramExists pa = false ∨ ((s.line pa).dirty = true ∧ s.failover pa = false) ∨
      ((s.line pa).dirty = false ∧ s.uncorrected pa &&& sublines (pa / 16 * 16) 16 ≠ 0))

section
variable {s : State} {pa : Nat}

theorem aged_of_absent (out : s.resident pa = false) : s.aged pa = s := by simp [State.aged, out]

theorem aged_cases (s : State) (pa : Nat) :
    s.aged pa = s ∨ s.aged pa = s.evict pa ∨ s.aged pa = s.drawn.evict pa ∨ s.aged pa = s.drawn := by
  unfold State.aged
  split
  · exact .inl rfl
  · split
    · exact .inr (.inl rfl)
    · split <;> simp

/-- What a chunk that is bad in DRAM makes of the read of it. -/
theorem badMemory_of_uncorrected (bad : s.uncorrected pa &&& sublines (pa / 16 * 16) 16 ≠ 0) :
    s.badMemory pa &&& sublines (pa / 16 * 16) 16 ≠ 0 := by
  unfold State.badMemory
  split
  · rw [BitVec.allOnes_and]
    exact sublines_chunk_ne_zero pa
  · exact bad

theorem badMemory_of_nonexistent (absent : s.dramExists pa = false) : s.badMemory pa = BitVec.allOnes 16 := by
  simp [State.badMemory, absent]

/-- A marked chunk that has left the cache is bad in memory. -/
theorem badMemory_evict (none : s.InjectsNone) (keeps : (s.line pa).Keeps) (mark : s.HoldsMark pa) :
    (s.evict pa).badMemory pa &&& sublines (pa / 16 * 16) 16 ≠ 0 := by
  have reads : ReadsLine false pa s (s.evict pa) := (ReadsLine.refl s).evict keeps none
  obtain ⟨-, marked, kind⟩ := mark
  cases exist : s.dramExists pa with
  | false =>
    rw [badMemory_of_nonexistent ((reads.dramExists_eq pa).trans exist), BitVec.allOnes_and]
    exact sublines_chunk_ne_zero pa
  | true =>
    refine badMemory_of_uncorrected ?_
    rcases kind with absent | ⟨dirty, detects⟩ | ⟨clean, bad⟩
    · exact absurd (absent.symm.trans exist) (by decide)
    · obtain ⟨k, inside, mk, here⟩ := and_ne_zero_iff.1 marked
      refine and_ne_zero_iff.2 ⟨k, inside, ?_, here⟩
      rw [bitAt_uncorrected _ _ inside, reads.failover_eq, detects,
        syndrome_evict_dirty none exist dirty (by omega) (bitAt_chunksOf inside mk), qecNibble_poison]
      rfl
    · obtain ⟨k, inside, mk, here⟩ := and_ne_zero_iff.1 bad
      refine and_ne_zero_iff.2 ⟨k, inside, ?_, here⟩
      rwa [bitAt_uncorrected _ _ inside, reads.failover_eq, syndrome_evict_clean keeps exist clean, ← bitAt_uncorrected _ _ inside]

/-! #### What it finds -/

variable {note : State → State}

/-- What a load finds in a line that is in the cache. -/
theorem found_in_cache (held : (s.aged pa).resident pa = true) (marked : (s.aged pa).marks pa &&& sublines (pa / 16 * 16) 16 ≠ 0) :
    (s.findBytes pa 16 note).1.found = .marked := by
  unfold State.findBytes
  dsimp only
  rw [if_pos held]
  exact if_pos (bne_iff_ne.2 marked)

/-- What it finds in bad memory. -/
theorem found_bad (out : (s.aged pa).resident pa = false) (bad : (s.aged pa).badMemory pa &&& sublines (pa / 16 * 16) 16 ≠ 0) :
    (s.findBytes pa 16 note).1.found = .bad := by
  unfold State.findBytes
  dsimp only
  rw [if_neg (by simp [out])]
  exact if_pos (bne_iff_ne.2 bad)

theorem found_of_mark (none : s.InjectsNone) (keeps : (s.line pa).Keeps) (mark : s.HoldsMark pa) :
    (s.findBytes pa 16 note).1.found = .bad ∨ (s.findBytes pa 16 note).1.found = .marked := by
  rcases s.aged_cases pa with same | left | left | stays
  · exact .inr (found_in_cache (same.symm ▸ mark.1) (same.symm ▸ mark.2.1))
  · exact .inl (found_bad (left ▸ resident_evict none) (left ▸ badMemory_evict none keeps mark))
  · exact .inl (found_bad (left ▸ resident_evict (s := s.drawn) none) (left ▸ badMemory_evict (s := s.drawn) none keeps mark))
  · exact .inr (found_in_cache (stays.symm ▸ mark.1) (stays.symm ▸ mark.2.1))

/-- Of a line that is not in the cache the read brings one there, as memory has it. -/
theorem findBytes_fills (none : s.InjectsNone) (keeps : (s.line pa).Keeps) (out : s.resident pa = false)
    (notes : ∀ u, ReadsLine false pa s u → ReadsLine false pa s (note u)) :
    ∃ u spoilt, ReadsLine false pa s u ∧ (s.findBytes pa 16 note).2 = u.fillLine pa (s.badMemory pa) spoilt := by
  have logged := (ReadsLine.refl (logs := false) (pa := pa) s).logMemory keeps none
  have both {p : Prop} [Decidable p] {u : State} (hu : ReadsLine false pa s u) :
      ReadsLine false pa s (if p then u.logDram pa true false false else u) := (hu.logDram _ _ _ _).ite _ hu
  unfold State.findBytes
  dsimp only
  rw [aged_of_absent out, if_neg (by simp [out])]
  exact ⟨_, _, ((both (logged.logDram _ _ _ _)).ite _ ((notes _ (logged.logDram _ _ _ _)).ite _ logged)).fillReport _ _, rfl⟩

end

/-! #### Whether the bytes of bad data are those that memory holds (spec/62_errors_core.md R1666) -/

section
variable {s : State} {pa : Nat}

theorem unknown_putLine {l : MemLine} (known : l.unknown = false) : ((s.putLine pa l).line pa).unknown = false := by
  rw [State.line_putLine]
  split
  · unfold MemLine.tidy
    split <;> [rfl; exact known]
  · split <;> rfl

theorem unknown_writeDram (known : (s.line pa).unknown = false) (chunks : BitVec 4) :
    ((s.writeDram pa chunks).line pa).unknown = false := by
  have put (mask : BitVec 16) : ((s.putLine pa ((s.line pa).withSyndromes chunks mask)).line pa).unknown = false := unknown_putLine known
  unfold State.writeDram
  dsimp only
  split
  · exact known
  · split
    · exact put _
    · split <;> exact put _

theorem unknown_evict (known : (s.line pa).unknown = false) : ((s.evict pa).line pa).unknown = false := by
  unfold State.evict
  dsimp only
  split
  · exact unknown_putLine known
  · split
    · exact unknown_putLine (by rw [known, Bool.false_and])
    · refine unknown_writeDram ?_ _
      exact unknown_putLine known

theorem linkLine_writeDram (s : State) (pa : Nat) (chunks : BitVec 4) : (s.writeDram pa chunks).linkLine = s.linkLine := by
  rw [s.drainsTo_writeDram pa chunks]

theorem linkLine_evict (s : State) (pa : Nat) : (s.evict pa).linkLine = s.linkLine := by
  unfold State.evict State.putUnder
  dsimp only
  split
  · rfl
  · split
    · split <;> rfl
    · exact linkLine_writeDram _ _ _

/-- The bytes of a line of memory whose data is known, and not spoilt on its way, are those that memory holds. -/
theorem findBytes_known {note : State → State} (none : s.InjectsNone) (keeps : (s.line pa).Keeps) (exist : s.dramExists pa = true)
    (known : (s.line pa).unknown = false) (unspoilt : s.linked pa ≠ some true) : (s.findBytes pa 16 note).1.known = true := by
  have aged : (s.aged pa).dramExists pa = true ∧ ((s.aged pa).line pa).unknown = false ∧ (s.aged pa).linked pa ≠ some true := by
    have evicted (u : State) (none : u.InjectsNone) (keeps : (u.line pa).Keeps) (exist : u.dramExists pa = true)
        (known : (u.line pa).unknown = false) (unspoilt : u.linked pa ≠ some true) :
        (u.evict pa).dramExists pa = true ∧ ((u.evict pa).line pa).unknown = false ∧ (u.evict pa).linked pa ≠ some true := by
      refine ⟨(((ReadsLine.refl (logs := false) u).evict keeps none).dramExists_eq pa).trans exist, unknown_evict known, ?_⟩
      rwa [State.linked, linkLine_evict, ← State.linked]
    rcases s.aged_cases pa with e | e | e | e <;> rw [e]
    · exact ⟨exist, known, unspoilt⟩
    · exact evicted s none keeps exist known unspoilt
    · exact evicted s.drawn none keeps exist known unspoilt
    · exact ⟨exist, known, unspoilt⟩
  unfold State.findBytes
  dsimp only
  split <;> simp [aged]

end

end State

/-! #### Errors that memory corrects (spec/63_errors_l2_dram.md R1701, R1702, R1720) -/

/-- Every chunk of the line, which the cache does not hold, has the same error, which memory corrects. -/
structure State.Correctable (s : State) (pa : Nat) : Prop where
  exist : s.dramExists pa = true
  out : (s.line pa).resident = false
  unlinked : s.linked pa = none
  named : (qecNibble (s.syndrome pa 0)).isSome = true
  alike : ∀ q, q < 4 → s.syndrome pa q = s.syndrome pa 0

namespace State.Correctable

variable {s : State} {pa : Nat} (h : s.Correctable pa)
include h

theorem isSome {q : Nat} (hq : q < 4) : (qecNibble (s.syndrome pa q)).isSome = true := by rw [h.alike q hq, h.named]

theorem uncorrected_eq : s.uncorrected pa = 0 := by
  refine BitVec.eq_of_getLsbD_eq fun k hk => ?_
  have found := h.isSome (q := k / 4) (by omega)
  rw [← bitAt, bitAt_uncorrected _ _ hk, Option.isNone_eq_false_iff.2 found]
  simp

theorem badMemory_eq : s.badMemory pa = 0 := by simp [State.badMemory, h.exist, h.unlinked, h.uncorrected_eq]

theorem corrected_eq : s.corrected pa = BitVec.allOnes 16 := by
  refine BitVec.eq_of_getLsbD_eq fun k hk => ?_
  have found := h.isSome (q := k / 4) (by omega)
  have wrong : s.syndrome pa (k / 4) ≠ 0 := fun right => by rw [right, qecNibble_zero] at found; cases found
  rw [State.corrected, h.unlinked, if_neg (by decide), getLsbD_chunkSublines _ hk, bitAt, getLsbD_wrongChunks _ _ _ (by omega), found,
    bne_iff_ne.2 wrong, BitVec.getLsbD_allOnes]
  simp [hk]

/-- The memory controller logs the four errors, and nothing else. -/
theorem logMemory_eq : s.logMemory pa = [0, 1, 2, 3].foldl (fun acc q => acc.logCorrected pa q 61 none) s := by
  have none : (List.range 4).filter (fun q => bitAt (chunksOf (s.uncorrected pa)) q) = [] := by
    rw [h.uncorrected_eq]
    decide
  have all : (List.range 4).filter (fun q => (qecNibble (s.syndrome pa q)).isSome) = [0, 1, 2, 3] :=
    List.filter_eq_self.2 fun q hq => h.isSome (List.mem_range.1 hq)
  unfold State.logMemory State.logLinked
  dsimp only
  rw [h.exist, if_neg (by decide), none, all, h.unlinked]
  rfl

/-- What the load finds, and the state after it. -/
theorem findBytes_eq (note : State → State) : (s.findBytes pa 16 note).1.found = .corrected ∧
    (s.findBytes pa 16 note).2 =
      ((note ((s.logMemory pa).logDram pa true false false)).fillReport pa 0
        (BitVec.allOnes 16 &&& ~~~sublines (pa / 16 * 16) 16)).fillLine pa 0 false := by
  have here : (BitVec.allOnes 16 &&& sublines (pa / 16 * 16) 16 != 0) = true := by
    rw [BitVec.allOnes_and]
    exact bne_iff_ne.2 (sublines_chunk_ne_zero pa)
  have out : s.resident pa = false := h.out
  have unspoilt : (s.linked pa == some true) = false := by rw [h.unlinked]; rfl
  have no (x : BitVec 16) : 0 &&& x = 0 := BitVec.zero_and
  unfold State.findBytes
  simp only [aged_of_absent out, out, Bool.false_eq_true, if_false, h.badMemory_eq, h.corrected_eq, here, if_true, unspoilt,
    no, bne_self_eq_false]
  exact ⟨trivial, rfl⟩

end State.Correctable

/-! #### The error status of a memory controller -/

theorem noteMcu_err (s : State) (k : Nat) : (s.noteMcu k).err = s.err := by
  unfold State.noteMcu
  dsimp only
  split <;> rfl

theorem logMcu_err (s : State) (k bit : Nat) (y : BitVec 16) : (s.logMcu k bit false y none).err = s.err := by
  unfold State.logMcu
  simp only [Bool.false_eq_true, if_false]
  split <;> exact noteMcu_err _ _

theorem logLocation_err (s : State) (k n : Nat) : (s.logLocation k n).err = s.err := by
  unfold State.logLocation
  split <;> rfl

theorem writeDram_err (s : State) (pa : Nat) (chunks : BitVec 4) : (s.writeDram pa chunks).err = s.err := by
  unfold State.writeDram
  dsimp only
  split <;> [rfl; (split <;> [rfl; (split <;> rfl)])]

theorem putDram_err (s : State) (pa : Nat) : (s.putDram pa []).err = s.err := by
  unfold State.putDram State.putUnder
  dsimp only
  split <;> [rfl; (split <;> rfl)]

section
variable {s : State} {k : Nat} (hk : k < 4)
include hk

theorem noteMcu_status : (s.noteMcu k).csrGet (csrDramErrorStatus + 0x1000 * k) = s.csrGet (csrDramErrorStatus + 0x1000 * k) :=
  ((ReadsLine.refl (logs := true) (pa := 0) s).noteMcu hk).csrMcu (by decide) hk

/-- The error status after a corrected error (R1720, R1721). -/
theorem logMcu_status (y : BitVec 16) :
    (s.logMcu k 61 false y none).csrGet (csrDramErrorStatus + 0x1000 * k) =
      if anyOf (s.csrGet (csrDramErrorStatus + 0x1000 * k)) 0x3CC0000000000000 then
        s.csrGet (csrDramErrorStatus + 0x1000 * k) ||| 0x4000000000000000
      else (s.csrGet (csrDramErrorStatus + 0x1000 * k) &&& (0xFFFFFFFFFFFF0000 : Word)) ||| ((1 : Word) <<< 61) ||| y.setWidth 64 := by
  unfold State.logMcu
  simp only [Bool.false_eq_true, if_false]
  split <;> rw [noteMcu_status hk, State.csrGet_csrSet]

omit hk in
theorem csr_counter_ne (k : Nat) : csrDramErrorStatus + 0x1000 * k ≠ csrDramErrorCounter + 0x1000 * k := by
  simp [csrDramErrorStatus, csrDramErrorCounter]

theorem countCorrected_status :
    (s.countCorrected k).csrGet (csrDramErrorStatus + 0x1000 * k) = s.csrGet (csrDramErrorStatus + 0x1000 * k) := by
  have set (v : Word) : (s.csrSet (csrDramErrorCounter + 0x1000 * k) v).csrGet (csrDramErrorStatus + 0x1000 * k) =
      s.csrGet (csrDramErrorStatus + 0x1000 * k) := State.csrGet_csrSet_ne _ _ (csr_counter_ne k)
  unfold State.countCorrected
  dsimp only
  split
  · rfl
  · split
    · exact (((ReadsLine.refl (logs := true) (pa := 0) _).socErrors _).csrMcu (by decide) hk).trans (set _)
    · exact set _

end

/-- The error status of a memory controller that has corrected an error with syndrome `y`, in a read (R1720). -/
def LogsCorrected (y : BitVec 16) (status : Word) : Prop := bitAt status 61 = true ∧ status.setWidth 16 = y

/-- One more corrected error leaves the record of the first. -/
theorem LogsCorrected.again {y : BitVec 16} {status : Word} (h : LogsCorrected y status) :
    anyOf status 0x3CC0000000000000 = true ∧ LogsCorrected y (status ||| 0x4000000000000000) := by
  obtain ⟨one, low⟩ := h
  refine ⟨bne_iff_ne.2 fun none => ?_, ?_, ?_⟩
  · have bit := congrArg (fun v : Word => v.getLsbD 61) none
    rw [bitAt] at one
    simp only [BitVec.getLsbD_and, one] at bit
    exact absurd bit (by decide)
  · rw [bitAt] at one ⊢
    simp [one]
  · rw [BitVec.setWidth_or, low]
    exact BitVec.or_zero

theorem LogsCorrected.first (y : BitVec 16) : LogsCorrected y ((0 &&& (0xFFFFFFFFFFFF0000 : Word)) ||| ((1 : Word) <<< 61) ||| y.setWidth 64) := by
  constructor
  · simp [bitAt]
  · rw [BitVec.setWidth_or, BitVec.setWidth_or]
    simp

section
variable {s : State} {pa q n : Nat} {e : BitVec 4} (keeps : (s.line pa).Keeps) (none : s.InjectsNone)
include keeps none

/-- What a corrected error does after its log: the line gets the right check bits, the retry reads are logged, and the error is
counted. -/
theorem State.logCorrected_eq (found : qecNibble (s.syndrome pa q) = some (n, e)) :
    ∃ u, ReadsLine true pa ((s.logLocation (s.mcuOf pa) n).logMcu (s.mcuOf pa) 61 false (s.syndrome pa q) Option.none) u ∧
      u.err = s.err ∧ s.logCorrected pa q 61 Option.none = u.countCorrected (s.mcuOf pa) := by
  have hk := s.mcuOf_lt pa
  have reads := ((ReadsLine.refl (logs := false) (pa := pa) s).logLocation hk n).logMcu hk 61 false (s.syndrome pa q) Option.none
  unfold State.logCorrected
  dsimp only
  rw [found]
  dsimp only
  rw [keeps.miscorrected]
  have err := (logMcu_err (s.logLocation (s.mcuOf pa) n) (s.mcuOf pa) 61 (s.syndrome pa q)).trans (logLocation_err _ _ _)
  generalize (s.logLocation (s.mcuOf pa) n).logMcu (s.mcuOf pa) 61 false (s.syndrome pa q) Option.none = t at reads err
  have keeps' := reads.line keeps
  have none' := reads.injectsNone none
  refine ⟨_, (((ReadsLine.refl t).putDram keeps' rfl).writeDram keeps' none' _).logRetry hk _ _, ?_, rfl⟩
  exact ((writeDram_err _ _ _).trans (putDram_err _ _)).trans err

theorem State.logCorrected_status (q : Nat) : (s.logCorrected pa q 61 Option.none).csrGet (csrDramErrorStatus + 0x1000 * s.mcuOf pa) =
    if (qecNibble (s.syndrome pa q)).isNone then s.csrGet (csrDramErrorStatus + 0x1000 * s.mcuOf pa)
    else if anyOf (s.csrGet (csrDramErrorStatus + 0x1000 * s.mcuOf pa)) 0x3CC0000000000000 then
      s.csrGet (csrDramErrorStatus + 0x1000 * s.mcuOf pa) ||| 0x4000000000000000
    else (s.csrGet (csrDramErrorStatus + 0x1000 * s.mcuOf pa) &&& (0xFFFFFFFFFFFF0000 : Word)) ||| ((1 : Word) <<< 61) |||
      (s.syndrome pa q).setWidth 64 := by
  have hk := s.mcuOf_lt pa
  cases found : qecNibble (s.syndrome pa q) with
  | none => simp [State.logCorrected, found]
  | some c =>
    obtain ⟨n, e⟩ := c
    obtain ⟨u, reads, -, run⟩ := State.logCorrected_eq keeps none found
    have place : (s.logLocation (s.mcuOf pa) n).csrGet (csrDramErrorStatus + 0x1000 * s.mcuOf pa) =
        s.csrGet (csrDramErrorStatus + 0x1000 * s.mcuOf pa) :=
      ((ReadsLine.refl (logs := true) (pa := pa) s).logLocation hk n).csrMcu (by decide) hk
    rw [run, countCorrected_status hk, reads.csrMcu (by decide) hk, logMcu_status hk, place]
    rfl

/-- While the error count is 0, a corrected error is not counted, and records nothing but in the registers of the controller. -/
theorem State.logCorrected_err (q : Nat)
    (uncounted : (s.csrGet (csrDramErrorCounter + 0x1000 * s.mcuOf pa)).setWidth 16 = (0 : BitVec 16)) :
    (s.logCorrected pa q 61 Option.none).err = s.err ∧
      (s.logCorrected pa q 61 Option.none).csrGet (csrDramErrorCounter + 0x1000 * s.mcuOf pa) =
        s.csrGet (csrDramErrorCounter + 0x1000 * s.mcuOf pa) := by
  have hk := s.mcuOf_lt pa
  cases found : qecNibble (s.syndrome pa q) with
  | none => simp [State.logCorrected, found]
  | some c =>
    obtain ⟨n, e⟩ := c
    obtain ⟨u, reads, err, run⟩ := State.logCorrected_eq keeps none found
    have count : u.csrGet (csrDramErrorCounter + 0x1000 * s.mcuOf pa) = s.csrGet (csrDramErrorCounter + 0x1000 * s.mcuOf pa) := by
      have place := ((ReadsLine.refl (logs := true) (pa := pa) s).logLocation hk n).csrMcu (base := csrDramErrorCounter) (by decide) hk
      have note (t : State) := ((ReadsLine.refl (logs := true) (pa := pa) t).noteMcu hk).csrMcu (base := csrDramErrorCounter) (by decide) hk
      rw [reads.csrMcu (by decide) hk, State.logMcu]
      simp only [Bool.false_eq_true, if_false]
      split <;> rw [note, State.csrGet_csrSet_ne _ _ (csr_counter_ne _).symm, place]
    have stays : u.countCorrected (s.mcuOf pa) = u := by
      unfold State.countCorrected
      exact if_pos (by rw [count, uncounted])
    rw [run, stays]
    exact ⟨err, count⟩

end

theorem noteL2_err (s : State) (pa : Nat) : (s.noteL2 pa).err = s.err := by
  unfold State.noteL2 State.noteBank
  split <;> rfl

theorem logDram_err (s : State) (pa : Nat) (one write fill : Bool) : (s.logDram pa one write fill).err = s.err := by
  unfold State.logDram
  dsimp only
  rw [apply_ite State.err, noteL2_err, noteL2_err]
  exact ite_self _

theorem fillLine_err (s : State) (pa : Nat) (bad : BitVec 16) (spoilt : Bool) : (s.fillLine pa bad spoilt).err = s.err := by
  unfold State.fillLine
  dsimp only
  split <;> rfl

/-- DESR holds the corrected error of a load (spec/62_errors_core.md R1616, R1702). -/
def Desr.OfLoad (d : Desr) : Prop := d.f = true ∧ d.s = true ∧ d.errtype = 4

/-- It does, and an error that comes with that one does not replace it. -/
structure LoadInDesr (e : ErrRegs) : Prop where
  load : e.desr.OfLoad
  event : ∀ v, e.together = some v → ∃ n a, v.sre = some (n, 4, a)

/-- What a record of an enabled disrupting error leaves in DESR, and the event that the next one may belong to (R1616). -/
theorem State.recordDesr_event {s : State} {k : Nat} (sre : Bool) (errtype : BitVec 5) (addr : BitVec 11) (enabled : s.cerer k = true) :
    (s.recordDesr k sre errtype addr).err.desr = (s.errorEvent.add sre errtype addr).desr ∧
      (s.recordDesr k sre errtype addr).err.together = some (s.errorEvent.add sre errtype addr) := by
  have kept (t : State) (old : BitVec 16) :
      (t.updateClfesr old).err.desr = t.err.desr ∧ (t.updateClfesr old).err.together = t.err.together := by
    unfold State.updateClfesr
    split <;> [exact ⟨rfl, rfl⟩; (split <;> exact ⟨rfl, rfl⟩)]
  rw [State.recordDesr, if_pos enabled]
  exact kept _ _

/-- The record of a corrected error of a load in an empty DESR. -/
theorem LoadInDesr.record {s : State} (enabled : s.cerer 40 = true) (empty : s.err.desr.f = false) (alone : s.err.together = none) :
    LoadInDesr (s.recordDisrupting 40 true 4).err := by
  have base : s.drawn.errorEvent = ⟨s.err.desr, none, none⟩ := by
    rw [State.errorEvent, show s.drawn.err.together = none from alone]
    rfl
  rw [State.recordDisrupting, if_pos enabled]
  obtain ⟨desr, together⟩ :=
    State.recordDesr_event (s := s.drawn) true 4 ((s.drawWord .undefinedErrorInfo).setWidth 11) enabled
  have first : (s.drawn.errorEvent.add true 4 ((s.drawWord .undefinedErrorInfo).setWidth 11)).desr =
      { s.err.desr with f := true, s := true, errtype := 4, erraddr := (s.drawWord .undefinedErrorInfo).setWidth 11 } := by
    rw [base]
    simp [ErrorEvent.add, higherError, ErrorEvent.desr, empty]
  refine ⟨by rw [desr, first]; exact ⟨rfl, rfl, rfl⟩, fun v recorded => ?_⟩
  rw [together, base] at recorded
  cases recorded
  exact ⟨_, _, rfl⟩

/-- One more error, which hardware has corrected, leaves it. -/
theorem LoadInDesr.add {e : ErrRegs} (h : LoadInDesr e) {v : ErrorEvent} (event : e.together = some v ∨ v = ⟨e.desr, none, none⟩)
    (errtype : BitVec 5) (addr : BitVec 11) :
    (v.add false errtype addr).desr.OfLoad := by
  obtain ⟨⟨full, recoverable, four⟩, known⟩ := h
  rcases event with together | rfl
  · obtain ⟨n, a, load⟩ := known v together
    have some_hce : ∃ c, (v.add false errtype addr).hce = some c := by
      unfold ErrorEvent.add higherError
      cases v.hce with
      | none => exact ⟨_, rfl⟩
      | some c =>
        simp only [Bool.false_eq_true, if_false]
        split <;> exact ⟨_, rfl⟩
    obtain ⟨c, hce⟩ := some_hce
    have sre : (v.add false errtype addr).sre = some (n, 4, a) := load
    rw [ErrorEvent.desr, sre, hce]
    exact ⟨rfl, rfl, rfl⟩
  · simp [Desr.OfLoad, ErrorEvent.add, higherError, ErrorEvent.desr, full, recoverable, four]

/-- A report to errorsteer after it leaves what DESR says of the load. -/
theorem LoadInDesr.reportL2C {s : State} (h : LoadInDesr s.err) (pa : Nat) :
    (s.reportL2C pa).err.desr.OfLoad := by
  have event : s.err.together = some s.drawn.errorEvent ∨ s.drawn.errorEvent = ⟨s.err.desr, none, none⟩ := by
    unfold State.errorEvent
    cases together : s.err.together with
    | none => exact .inr (by rw [show s.drawn.err.together = none from together]; rfl)
    | some v =>
      rw [show s.drawn.err.together = some v from together]
      dsimp only
      split
      · exact .inl rfl
      · exact .inr rfl
  unfold State.reportL2C State.recordDisrupting
  split
  · split
    · rename_i enabled
      rw [(State.recordDesr_event (s := s.drawn) false 9 _ enabled).1]
      exact h.add event _ _
    · exact h.load
  · exact h.load

namespace State.Correctable

variable {s : State} {pa : Nat} (h : s.Correctable pa) (keeps : (s.line pa).Keeps) (none : s.InjectsNone)
include h keeps none

/-- The log of the four errors of the line (R1720, R1721). -/
theorem logMemory_status (empty : s.csrGet (csrDramErrorStatus + 0x1000 * s.mcuOf pa) = 0) :
    LogsCorrected (s.syndrome pa 0) ((s.logMemory pa).csrGet (csrDramErrorStatus + 0x1000 * s.mcuOf pa)) := by
  have hk := s.mcuOf_lt pa
  have reads := (ReadsLine.refl (logs := false) (pa := pa) s).logCorrected keeps none 0 61 Option.none
  have first : LogsCorrected (s.syndrome pa 0)
      ((s.logCorrected pa 0 61 Option.none).csrGet (csrDramErrorStatus + 0x1000 * s.mcuOf pa)) := by
    rw [State.logCorrected_status keeps none, Option.isNone_eq_false_iff.2 h.named, empty, if_neg (by decide), if_neg (by decide)]
    exact LogsCorrected.first _
  rw [h.logMemory_eq, List.foldl_cons]
  refine (List.foldlRecOn (motive := fun u => ReadsLine false pa s u ∧
    LogsCorrected (s.syndrome pa 0) (u.csrGet (csrDramErrorStatus + 0x1000 * s.mcuOf pa))) _ _ ⟨reads, first⟩ ?_).2
  rintro u ⟨before, logged⟩ q -
  refine ⟨before.logCorrected keeps none q 61 Option.none, ?_⟩
  rw [← before.mcuOf_eq, State.logCorrected_status (before.line keeps) (before.injectsNone none), before.mcuOf_eq]
  split
  · exact logged
  · rw [if_pos logged.again.1]
    exact logged.again.2

/-- While the error count is 0 they are not counted. -/
theorem logMemory_err (uncounted : (s.csrGet (csrDramErrorCounter + 0x1000 * s.mcuOf pa)).setWidth 16 = (0 : BitVec 16)) :
    (s.logMemory pa).err = s.err := by
  rw [h.logMemory_eq]
  refine (List.foldlRecOn (motive := fun u => ReadsLine false pa s u ∧ u.err = s.err ∧
    u.csrGet (csrDramErrorCounter + 0x1000 * s.mcuOf pa) = s.csrGet (csrDramErrorCounter + 0x1000 * s.mcuOf pa)) _ _
    ⟨.refl s, rfl, rfl⟩ ?_).2.1
  rintro u ⟨before, err, count⟩ q -
  have same := before.mcuOf_eq pa
  obtain ⟨err', count'⟩ := State.logCorrected_err (before.line keeps) (before.injectsNone none) q (by rw [same, count, uncounted])
  rw [same] at count'
  exact ⟨before.logCorrected keeps none q 61 Option.none, err'.trans err, count'.trans count⟩

/-- The log and the record after the whole load. -/
theorem findBytes_logs (empty : s.csrGet (csrDramErrorStatus + 0x1000 * s.mcuOf pa) = 0) :
    LogsCorrected (s.syndrome pa 0)
      ((s.findBytes pa 16 (fun t => t.reportCorrected pa 40 4)).2.csrGet (csrDramErrorStatus + 0x1000 * s.mcuOf pa)) := by
  have hk := s.mcuOf_lt pa
  have reads := (ReadsLine.refl (logs := false) (pa := pa) s).logMemory keeps none
  have after := ((((ReadsLine.refl (logs := true) (pa := pa) (s.logMemory pa)).logDram pa true false false).reportCorrected pa 40
    4).fillReport 0 (BitVec.allOnes 16 &&& ~~~sublines (pa / 16 * 16) 16)).fillLine (reads.line keeps) 0 false
  rw [(h.findBytes_eq _).2, after.csrMcu (by decide) hk]
  exact h.logMemory_status keeps none empty

theorem findBytes_records (report : s.ceen pa = true) (enabled : s.cerer 40 = true) (empty : s.err.desr.f = false)
    (alone : s.err.together = Option.none)
    (uncounted : (s.csrGet (csrDramErrorCounter + 0x1000 * s.mcuOf pa)).setWidth 16 = (0 : BitVec 16)) :
    (s.findBytes pa 16 (fun t => t.reportCorrected pa 40 4)).2.err.desr.OfLoad := by
  have reads := ((ReadsLine.refl (logs := false) (pa := pa) s).logMemory keeps none).logDram pa true false false
  have err : ((s.logMemory pa).logDram pa true false false).err = s.err :=
    (logDram_err _ _ _ _ _).trans (h.logMemory_err keeps none uncounted)
  rw [(h.findBytes_eq _).2, fillLine_err]
  generalize (s.logMemory pa).logDram pa true false false = t at reads err
  have record : LoadInDesr (t.reportCorrected pa 40 4).err := by
    rw [State.reportCorrected, if_pos ((reads.ceen_eq pa).trans report)]
    exact LoadInDesr.record ((reads.cerer_eq 40).trans enabled) (err ▸ empty) (err ▸ alone)
  unfold State.fillReport
  dsimp only
  rw [if_pos rfl]
  split
  · exact record.load
  · refine LoadInDesr.reportL2C ?_ pa
    rw [logDram_err]
    exact record

end State.Correctable

/-! ### Loads of bad memory -/

namespace State

section
variable {s : State} {pa : Nat}

/-- The state after the read of a bad line by a load, before what it reports or returns. -/
def readBad (s : State) (pa : Nat) : State :=
  let f := s.findBytes pa 16 (fun t => t.reportCorrected pa 40 4)
  (f.2.logFound pa f.1.found).fillL1d pa f.1.found

/-- What the load finds. -/
def findsBad (s : State) (pa : Nat) : Finding := (s.findBytes pa 16 (fun t => t.reportCorrected pa 40 4)).1

theorem readBad_reads (none : s.InjectsNone) (keeps : (s.line pa).Keeps) : ReadsLine false pa s (s.readBad pa) :=
  (((ReadsLine.refl s).findBytes keeps none fun _ hu => hu.reportCorrected _ _ _).logFound _).fillL1d _

/-- A load of a bad line traps where what it finds is reported, and completes elsewhere; the report is enabled by registers that the
read leaves alone. -/
theorem badLoad_eq (none : s.InjectsNone) (keeps : (s.line pa).Keeps) (n : Nat) : s.badLoad true pa n =
    if s.reported pa (s.findsBad pa).found 39 38 then
      .trap 0x032 (((s.readBad pa).setDsfsr (if (s.findsBad pa).found = .marked then 2 else 1)).setDsfarUndefined)
    else
      .ok ((s.readBad pa).storedOrFree ((s.findsBad pa).found.fine || (s.findsBad pa).known) pa n).1
        ((s.readBad pa).storedOrFree ((s.findsBad pa).found.fine || (s.findsBad pa).known) pa n).2 := by
  have reads : ReadsLine false pa s
      ((s.findBytes pa 16 (fun t => t.reportCorrected pa 40 4)).2.logFound pa (s.findsBad pa).found) :=
    ((ReadsLine.refl s).findBytes keeps none fun _ hu => hu.reportCorrected pa 40 4).logFound (s.findsBad pa).found
  have report : State.reported ((s.findBytes pa 16 (fun t => t.reportCorrected pa 40 4)).2.logFound pa (s.findsBad pa).found) pa (s.findsBad pa).found 39 38 = s.reported pa (s.findsBad pa).found 39 38 := by
    unfold State.reported
    rw [reads.nceen_eq, reads.cerer_eq, reads.cerer_eq, reads.pscce_eq]
  rw [← report]
  rfl

/-- Where the bank and the core report both kinds of bad data, a load that finds some does. -/
theorem reported_of_enabled {found : Found} (bank : s.nceen pa = true) (marked : s.cerer 38 = true) (bad : s.cerer 39 = true)
    (core : s.pscce = true) (finds : found = .bad ∨ found = .marked) : s.reported pa found 39 38 = true := by
  rcases finds with rfl | rfl <;> simp [State.reported, *]

theorem reported_of_masked (masked : s.nceen pa = false ∨ (s.cerer 38 = false ∧ s.cerer 39 = false) ∨ s.pscce = false)
    (found : Found) : s.reported pa found 39 38 = false := by
  cases found with
  | good | corrected => rfl
  | bad | marked => rcases masked with off | ⟨off, off'⟩ | off <;> simp [State.reported, *]

/-- The line of memory that does not exist is then in the cache, where that is enabled, with all its sublines marked (R1711). -/
theorem readBad_absent (none : s.InjectsNone) (keeps : (s.line pa).Keeps) (absent : s.dramExists pa = false)
    (out : s.resident pa = false) : (s.findsBad pa).found = .bad ∧
      (s.l2Off pa = false → (s.readBad pa).resident pa = true ∧ (s.readBad pa).marks pa = BitVec.allOnes 16) := by
  have all := badMemory_of_nonexistent absent
  have bad : (s.findsBad pa).found = .bad := found_bad (by rw [aged_of_absent out]; exact out) (by
    rw [aged_of_absent out, all, BitVec.allOnes_and]
    exact sublines_chunk_ne_zero pa)
  refine ⟨bad, fun on => ?_⟩
  obtain ⟨u, spoilt, reads, filled⟩ := findBytes_fills none keeps out fun u hu => hu.reportCorrected pa 40 4
  have same : (s.readBad pa).line pa = (u.fillLine pa (s.badMemory pa) spoilt).line pa := by
    have found : (s.findBytes pa 16 (fun t => t.reportCorrected pa 40 4)).1.found = .bad := bad
    unfold State.readBad
    dsimp only
    rw [found, filled]
    unfold State.fillL1d
    split <;> rfl
  rw [State.resident, State.marks, same, State.fillLine, if_neg (by rw [reads.l2Off_eq, on]; decide), State.line_putLine,
    reads.dramExists_eq, absent, all]
  exact ⟨rfl, rfl⟩

/-- A load that memory corrects finds good data. -/
theorem readBad_correctable (corrects : s.Correctable pa) : (s.findsBad pa).found = .corrected ∧
    s.readBad pa = (s.findBytes pa 16 (fun t => t.reportCorrected pa 40 4)).2 := by
  have found := (corrects.findBytes_eq (fun t => t.reportCorrected pa 40 4)).1
  refine ⟨found, ?_⟩
  unfold State.readBad
  dsimp only
  rw [found]
  unfold State.fillL1d
  exact if_pos (by simp [Found.fine])

/-- The fault registers of a load that finds bad data are all that its report changes. -/
theorem faultRegisters_frame (u : State) (errtype : BitVec 4) : ((u.setDsfsr errtype).setDsfarUndefined).regs = u.regs ∧
    ((u.setDsfsr errtype).setDsfarUndefined).mem = u.mem ∧ ((u.setDsfsr errtype).setDsfarUndefined).err.dsfsr = errtype ∧
      ((u.setDsfsr errtype).setDsfarUndefined).line = u.line := ⟨rfl, rfl, rfl, rfl⟩

/-- Data that is good, or is what memory holds, is returned as it is. -/
theorem storedOrFree_known (known : Bool) (n : Nat) (h : known = true) : s.storedOrFree known pa n = (s.readBytes pa n, s) := by
  rw [h]
  rfl

end
end State

/-! #### The instruction -/

/-- A load of memory that is not plain looks in the bad line. -/
theorem loadCached_bad {s : State} {l : Located} {n : Nat} (memory : isIo l.pa = false) (uniform : s.l2Uniform = true)
    (bad : s.plainLine l.pa = false) (settled : Settled s l.pa n) (va : Word) :
    (s.settled l n).loadCached va l n = (s.badLoad true l.pa n).bind fun bs u => .ok (wordOfBytes (orderBytes l.little bs)) u := by
  obtain ⟨newest, cache⟩ := settled
  have stays : s.settled l n = s := by simp [State.settled, State.settle, memory, newest]
  have look : s.lookL1d l.pa = (false, s) := by
    rcases cache with off | empty <;> simp [State.lookL1d, *]
  simp [State.loadCached, State.loadData, stays, memory, uniform, look, bad]

section
variable {s s1 : State} {rd rs1 : Reg} {o : RegImm} {l : Located}

theorem exec_ldx_bad (aligned : (s.ea rs1 o).toNat % 8 = 0) (passes : s.access ⟨.loadX, none, s.ea rs1 o, 8⟩ = .ok l s1)
    (memory : isIo l.pa = false) (uniform : s1.l2Uniform = true) (bad : s1.plainLine l.pa = false) (settled : Settled s1 l.pa 8) :
    exec (.ldx rd rs1 o) s =
      ((s1.badLoad true l.pa 8).bind fun bs u => u.finish rd (wordOfBytes (orderBytes l.little bs))).outcome := by
  have run : exec (.ldx rd rs1 o) s = (s.loadExt rd none (s.ea rs1 o)).outcome := rfl
  rw [run, State.loadExt, State.read64_of_memory (r := ⟨.loadX, none, s.ea rs1 o, 8⟩) nofun, s.align_eq _ (by decide), if_pos aligned, State.memRead, passes, Res.bind_ok,
    loadCached_bad memory uniform bad settled]
  cases s1.badLoad true l.pa 8 <;> rfl

/-- An instruction that reads a line and ends with a write of a register. -/
theorem completes_of_read {u : State} (walk : WalkFrame s s1) (kept : SameMemory s s1) (reads : ReadFrame s1 u) (v : Word) :
    WroteReg s (u.setReg rd v).advance rd v ∧ (u.setReg rd v).advance.pc = s.npc ∧ (u.setReg rd v).advance.npc = s.npc + 4 ∧
      SameMemory s (u.setReg rd v).advance := by
  have regs : u.regs = s.regs := by rw [reads, walk]
  have win : u.win = s.win := by rw [reads, walk]
  have gl : u.gl = s.gl := by rw [reads, walk]
  have npc : u.npc = s.npc := by rw [reads, walk]
  have mem : u.mem = s1.mem := by rw [reads]
  refine ⟨wroteReg_setReg s rd v ?_ win gl, npc, congrArg (· + 4) npc, fun a => ?_⟩
  · simp [State.setReg, State.advance, State.slot, regs, win, gl]
  · rw [← kept a, State.readByte, State.readByte, ← mem]
    rfl

end

/-- An LDX passes every check and reaches a line of memory that it may read without a change of data; no older byte may be seen, and
the data cache holds no bad data of the set. -/
structure LoadsLine (s s1 : State) (rs1 : Reg) (o : RegImm) (l : Located) : Prop where
  aligned : (s.ea rs1 o).toNat % 8 = 0
  passes : s.access ⟨.loadX, none, s.ea rs1 o, 8⟩ = .ok l s1
  kept : SameMemory s s1
  memory : isIo l.pa = false
  uniform : s1.l2Uniform = true
  injects : s1.InjectsNone
  keeps : (s1.line l.pa).Keeps
  settled : Settled s1 l.pa 8

namespace LoadsLine

variable {s s1 : State} {rd rs1 : Reg} {o : RegImm} {l : Located} (h : LoadsLine s s1 rs1 o l)
include h

theorem walk : WalkFrame s s1 := (State.access_walks h.passes).frame

theorem reads : ReadsLine false l.pa s1 (s1.readBad l.pa) := State.readBad_reads h.injects h.keeps

theorem value {u : State} (same : u.mem = s1.mem) : wordOfBytes (orderBytes l.little (u.readBytes l.pa 8)) = valueAt s l 8 := by
  rw [wordOfBytes_orderBytes]
  exact SameMemory.valueAt_eq (fun b => by rw [← h.kept b, State.readByte, State.readByte, same]) l 8

/-- A load whose bad data is reported. -/
theorem traps (bad : s1.plainLine l.pa = false) (report : s1.reported l.pa (s1.findsBad l.pa).found 39 38 = true) :
    ∃ b, Traps (.ldx rd rs1 o) s b 0x032 ∧ b.regs = s.regs ∧ SameMemory s b ∧
      b.err.dsfsr = (if (s1.findsBad l.pa).found = .marked then 2 else 1) ∧ b.line = (s1.readBad l.pa).line := by
  have run := exec_ldx_bad (rd := rd) h.aligned h.passes h.memory h.uniform bad h.settled
  rw [State.badLoad_eq h.injects h.keeps, if_pos report] at run
  obtain ⟨regs, mem, dsfsr, lines⟩ :=
    (s1.readBad l.pa).faultRegisters_frame (if (s1.findsBad l.pa).found = .marked then 2 else 1)
  refine ⟨_, run, ?_, fun b => ?_, dsfsr, lines⟩
  · rw [regs, h.reads.frame, h.walk]
  · rw [← h.kept b, State.readByte, State.readByte, mem, h.reads.mem_eq]

/-- A load that reports nothing: its value is that of memory where it has found good data, or data that is what memory holds. -/
theorem completes (bad : s1.plainLine l.pa = false) (silent : s1.reported l.pa (s1.findsBad l.pa).found 39 38 = false) :
    ∃ v t, exec (.ldx rd rs1 o) s = .next t ∧ WroteReg s t rd v ∧ t.pc = s.npc ∧ t.npc = s.npc + 4 ∧ SameMemory s t ∧
      (((s1.findsBad l.pa).found.fine || (s1.findsBad l.pa).known) = true →
        v = valueAt s l 8 ∧ t.csr = (s1.readBad l.pa).csr ∧ t.err = (s1.readBad l.pa).err) := by
  have run := exec_ldx_bad (rd := rd) h.aligned h.passes h.memory h.uniform bad h.settled
  rw [State.badLoad_eq h.injects h.keeps, if_neg (by rw [silent]; decide)] at run
  generalize ((s1.findsBad l.pa).found.fine || (s1.findsBad l.pa).known) = good at run
  obtain ⟨wrote, pc, npc, same⟩ := completes_of_read (rd := rd) h.walk h.kept (h.reads.storedOrFree good 8).frame
    (wordOfBytes (orderBytes l.little ((s1.readBad l.pa).storedOrFree good l.pa 8).1))
  refine ⟨_, _, run, wrote, pc, npc, same, fun whole => ?_⟩
  rw [State.storedOrFree_known _ _ whole]
  exact ⟨h.value h.reads.mem_eq, rfl, rfl⟩

end LoadsLine

/-- Nothing is known to be wrong with a plain line. -/
theorem State.plainLine_of_listed {s : State} {pa : Nat} (differs : s.line pa ≠ MemLine.none) : s.plainLine pa = false := by
  have found : (sparseFind s.notData (pa / 64)).isNone = false := by
    rw [Option.isNone_eq_false_iff, Option.isSome_iff_ne_none]
    exact fun unlisted => differs (by simp [State.line, sparseGet, unlisted])
  simp [State.plainLine, found]

theorem State.Correctable.notPlain {s : State} {pa : Nat} (h : s.Correctable pa) : s.plainLine pa = false := by
  refine State.plainLine_of_listed fun plain => ?_
  have right : s.syndrome pa 0 = 0 := (congrArg (fun m : MemLine => fileGet m.syndromes 0) plain).trans (fileGet_fileOf ..)
  have named := h.named
  rw [right, qecNibble_zero] at named
  cases named

end Sys2Proof.Machine

namespace Sys2Proof
open Machine

/-- Settles O39: the load is `badLoad` of its line (`LoadsLine.traps`, `LoadsLine.completes`). What it finds there is by the cases of
the line: it does not exist, or its chunk is marked, or each of its chunks has one error that memory corrects. -/
theorem loadsOfBadMemoryReportIt : Obligations.LoadsOfBadMemoryReportIt := by
  intro s s1 rd rs1 o l a ea i reports masked here line absent marked known corrected status counter aligned passes kept memory _
    uniform none keeps settled
  have place : ea = s.ea rs1 o := (maskAddr_eq_ofNat ..).symm
  rw [place] at aligned passes
  have load : LoadsLine s s1 rs1 o l := ⟨aligned, passes, kept, memory, uniform, none, keeps, settled⟩
  have notPlain (bad : absent ∨ marked) : s1.plainLine l.pa = false := by
    rcases bad with ⟨missing, -⟩ | ⟨held, -, -⟩
    · simp [State.plainLine, missing]
    · exact State.plainLine_of_listed fun plain => absurd (held.symm.trans (congrArg MemLine.resident plain)) (by decide)
  have gone_out (gone : absent) : s1.resident l.pa = false := congrArg MemLine.resident gone.2
  have finds (bad : absent ∨ marked) : (s1.findsBad l.pa).found = .bad ∨ ((s1.findsBad l.pa).found = .marked ∧ marked) :=
    bad.elim (fun gone => .inl (State.readBad_absent none keeps gone.1 (gone_out gone)).1) fun mark =>
      (State.found_of_mark none keeps mark).imp_right fun found => ⟨found, mark⟩
  refine ⟨fun bad enabled => ?_, fun bad off => ?_, fun corrects => ?_⟩
  · obtain ⟨bank, cerer38, cerer39, core⟩ := enabled
    have report := State.reported_of_enabled bank cerer38 cerer39 core ((finds bad).imp_right And.left)
    obtain ⟨b, trap, regs, same, dsfsr, lines⟩ := load.traps (rd := rd) (notPlain bad) report
    refine ⟨b, trap, regs, same, ?_, fun gone => ?_⟩
    · rw [dsfsr]
      exact (finds bad).imp (fun found => by rw [found]; rfl) fun ⟨found, mark⟩ => ⟨by rw [found]; rfl, mark⟩
    · obtain ⟨found, fills⟩ := State.readBad_absent none keeps gone.1 (gone_out gone)
      rw [dsfsr, found, State.resident, State.marks, lines]
      exact ⟨rfl, fills⟩
  · obtain ⟨v, t, run, wrote, pc, npc, same, value⟩ := load.completes (rd := rd) (notPlain bad) (State.reported_of_masked off _)
    refine ⟨v, t, run, wrote, pc, npc, same, fun ⟨exist, sure, unspoilt⟩ => (value ?_).1⟩
    rw [State.findsBad, State.findBytes_known none keeps exist sure unspoilt, Bool.or_true]
  · obtain ⟨exist, out, unlinked, named, alike⟩ := corrects
    have correctable : s1.Correctable l.pa := ⟨exist, out, unlinked, named, alike⟩
    obtain ⟨found, state⟩ := State.readBad_correctable correctable
    obtain ⟨v, t, run, wrote, pc, npc, same, value⟩ := load.completes (rd := rd) correctable.notPlain (by rw [found]; rfl)
    obtain ⟨rfl, csr, err⟩ := value (by rw [found]; rfl)
    rw [state] at csr err
    refine ⟨t, run, wrote, pc, npc, same, fun empty => ?_, fun report on empty alone uncounted => ?_⟩
    · rw [State.csrGet, csr]
      exact correctable.findBytes_logs keeps none empty
    · rw [err]
      exact correctable.findBytes_records keeps none report on empty alone uncounted

end Sys2Proof
